-- ==== Sys2Proof/Word.lean ====
section
/-! DEFINITION. The two word types of the device, the byte-list type its packets and images are made of, and the sparse
table type its state is held in. Registers are 32 bits wide (R10); bytes are the unit of DRAM, SRAM, flash and packets. -/

namespace Sys2Proof

/-- A register word (R10). -/
abbrev Word := BitVec 32

/-- One byte of memory, of a packet or of an image. -/
abbrev Byte := BitVec 8

/-- Bytes in the order in which they stand in memory or travel on a link. -/
abbrev Bytes := List Byte

/-- A sparse table: entries by number. An entry that is not listed has its table's default. -/
abbrev Tab (α : Type) := List (Nat × α)

end Sys2Proof
end

