-- ==== Sys2Proof/Syntax.lean ====
section
/-! DEFINITION. The commands of the block: one constructor for each row of spec/opcode_table.json, with the data that the
outside world brings with it (what a packet carries, what a measurement reads, what a source sends). -/

namespace Sys2Proof

/-- A Weft port: A = 0, B = 1, C = 2, D = 3 (R18). -/
abbrev Port := Fin 4

/-- A Weft packet: the header of R209, the body, the CRC (R215) and the tag (R220). -/
structure Packet where
  type : BitVec 8
  flags : BitVec 8
  dest : BitVec 16
  origin : BitVec 8
  rsv : BitVec 8
  length : BitVec 16
  seq : BitVec 16
  seqHi : BitVec 16
  epoch : BitVec 32
  session : BitVec 32
  body : Bytes
  crc : BitVec 32
  tag : BitVec 96
deriving DecidableEq, Repr

/-- A packet as it arrives at a port: what it carries and what the lanes saw of it. -/
structure Arrival where
  pkt : Packet
  /-- the end symbol is K29.7, not K30.7 (R204) -/
  endGood : Bool
  /-- the end symbol stands where R212 requires -/
  placed : Bool
  /-- code violations (false) and disparity errors (true) on a lane within the packet (R223) -/
  marks : List (Fin 4 × Bool)
  /-- the input direction left service within the packet, after this many of its bytes (R223) -/
  cut : Option Nat
  /-- the output toward which a Tile forwards it is sending a packet of the Tile's own (R226) -/
  outBusy : Bool
deriving DecidableEq, Repr

/-- What a training phase or a training attempt found on the four lanes of a port (R232, R233, R238). -/
structure LaneResult where
  /-- lanes that met the phase's condition -/
  mask : BitVec 4
  /-- the partner's receive good mask, from its TS2 sets -/
  partner : BitVec 4
  /-- signal energy is present on at least one lane -/
  energy : Bool
  /-- the figures of merit of each lane under the partner presets it tried, in order from 0 (R238), or under the stored preset alone in a fast retrain
  (R517); its CTLE setting and its DFE word -/
  fom : List (List (BitVec 8))
  ctle : List (BitVec 4)
  dfe : List Word
deriving DecidableEq, Repr

/-- Why a lane suffers a fault (R239): CDR lock or comma alignment lost; violations counted in one millisecond; a figure of merit that stays low; skew. -/
inductive LaneCause where
  | lock
  | errors
  | fom
  | skew
deriving DecidableEq, Repr

/-- What a lane that suffers a fault has counted outside packets: code violations and disparity errors. -/
structure LaneErrors where
  cv : BitVec 16
  disp : BitVec 16
deriving DecidableEq, Repr

/-- Ordered sets that arrive on every lane of a port: symbols 1 to 15 of each (R232). -/
structure SetArrival where
  port : Port
  set : Bytes
deriving DecidableEq, Repr

/-- What a master asks the DRAM for, by the table of R360. -/
inductive DramUse where
  /-- C0 of a Sender: push reads from the canvas store, push-queue traffic -/
  | pushRead
  | pushQueue
  /-- C0 of a Tile: the correction pipeline's reads of frame store and correction tables -/
  | correction
  /-- C1: Loom bale reads, canvas writes, hallmark reads; the copy engine of a Tile -/
  | baleRead
  | canvasWrite
  | hallmarkRead
  | copyEngine
  /-- C2: Bale codec writes; a Tile's push writes into the receive buffer -/
  | codecWrite
  | pushWrite
  /-- C3 -/
  | firmware
  | eventLog
  | fatalDump
  | memoryScan
  | patrol
  | writeBack
  | lampTable
deriving DecidableEq, Repr

/-- Who makes a DRAM request: its use of the DRAM, its source number (R43), and whether the request arrives in the same controller cycle as the one
before it (R363). -/
structure DramMaster where
  use : DramUse
  src : BitVec 12
  sameCycle : Bool
deriving DecidableEq, Repr

/-- A DRAM request: its master, the symbols of the stored line that come wrong when it is read, and how many requests the channel issues before the
next command (R361). -/
structure DramCall where
  master : DramMaster
  pattern : List (Nat × Byte)
  turns : Nat
deriving DecidableEq, Repr

/-- A write of DRAM: its bytes, and the request; the pattern is that of a partial write's read. -/
structure DramWriteCall where
  bytes : Bytes
  call : DramCall
deriving DecidableEq, Repr

/-- A line whose request is promoted, and how many requests the channel issues then. -/
structure PromotionCall where
  line : BitVec 27
  turns : Nat
deriving DecidableEq, Repr

/-- A patrol read: the symbols that come wrong, and how many requests the channel issues then. -/
structure PatrolCall where
  pattern : List (Nat × Byte)
  turns : Nat
deriving DecidableEq, Repr

/-- The masters of a shared SRAM port, but for the background test (R375). -/
inductive SharedMaster where
  | cores
  | logWriter
  | counterPort
  | driverFeed
deriving DecidableEq, Repr

/-- An access of a master to an SRAM bank (R378): the bytes written, or none for a read of `size` bytes. -/
structure SramAccess where
  offset : Nat
  size : Nat
  write : Option Bytes
deriving DecidableEq, Repr

/-- The accesses that reach a bank in one cycle: that of its owner port, and those that wait at its shared port (R375, R377). -/
structure SramCycle where
  owner : Option SramAccess
  shared : List (SharedMaster × SramAccess)
deriving DecidableEq, Repr

/-- A bank, and the accesses that reach it in one cycle. -/
structure BankCycle where
  bank : Fin 6
  cycle : SramCycle
deriving DecidableEq, Repr

/-- What the main stream attributes of a source say (R78, R87): format (0 RGB, 1 YCbCr 4:4:4, 2 YCbCr 4:2:2, 3 another), bits per
component, MISC1 bit 6, active size, total lines, and frame rate in thousandths of a hertz. -/
structure Msa where
  format : Fin 4
  bpc : Nat
  misc1b6 : Bool
  hActive : BitVec 13
  vActive : BitVec 13
  vTotal : Nat
  rate : Nat
deriving DecidableEq, Repr

/-- One source frame: rows of pixels of three components as the source codes them, channel 0 first (R85); in 4:2:2 the chroma of an
odd pixel is not there and is ignored (R86). -/
structure SourceFrame where
  rows : List (List (Nat × Nat × Nat))
  /-- lines by which the vertical blanking of this port starts before or after that of its pair partner (R83, R84) -/
  skew : Nat
deriving DecidableEq, Repr

/-- What a DisplayPort link training found (R81): rate and lane codes of DPI_PORT_STAT, figures of merit, the levels the source drives,
whether they are its highest, and whether the source ended the training. -/
structure DpTraining where
  rate : BitVec 2
  lanes : BitVec 2
  fom : List (BitVec 8)
  level : Fin 4
  highest : Bool
  done : Bool
deriving DecidableEq, Repr

/-- What a step of an Assay run measured (R345 to R347): the total of a step's samples (16,384 raw readings in A3 and A4, 1,024 thermal-sense
readings in 1/16 °C in A5), the total of 1,024 raw readings of each output at its present code and at each sweep point (A6), the
duty of each group in 1/1,024 (A7), and whether the flash write ended well (A9). -/
structure AsyMeasure where
  total : Int
  singles : List Nat
  sweeps : List (List Nat)
  duty : List (BitVec 10)
  flashOk : Bool
deriving DecidableEq, Repr

/-- What a step of a start meets (R66 to R76): the BOOT straps, a flash that does not answer, a flash that cannot be read in 8D mode, dead wires that
DRAM training finds (channel and wire), a channel that failed training twice, the Lane die's thermal-sense reading in 1/16 °C, sensor readings, a
self-refresh entry that is not confirmed, a bad retained-state record, a memory-scan that does not match, a step that takes longer than its maximum,
and the slices that fail their quick self-test (R143). -/
structure StartIn where
  boot : BitVec 2
  silent : Bool
  slow : Bool
  wires : List (Fin 8 × BitVec 8)
  untrained : Option (Fin 8)
  temp : BitVec 16
  sensors : List (Option (BitVec 16))
  unconfirmed : Bool
  recordBad : Bool
  scanBad : Bool
  overran : Bool
  testFail : List (Fin 16)
deriving DecidableEq, Repr

/-- A code violation or disparity error occurred on a lane within the packet (R223). -/
def Arrival.laneErr (a : Arrival) : Bool := !a.marks.isEmpty

/-- The commands of the block. -/
inductive Instr where
  /-- POWER_ON (R494): VIN rises through 2.5 V after the detector armed below 1.0 V; with RESET_N high this starts a cold start. -/
  | powerOn (withinLimits : Bool)
  /-- RESET_ASSERT (R74): RESET_N falls: the device is held in reset, any start stops, outputs float with pull-downs and registers return to reset
  values. -/
  | resetAssert
  /-- RESET_RELEASE (R73): A rising edge of RESET_N starts a cold start. -/
  | resetRelease (withinLimits : Bool)
  /-- COLD_START (R66): Runs steps C1 to C12 in order, from regulators up to first light. -/
  | coldStart (x : StartIn)
  /-- WARM_START (R67): Runs steps W1 to W10, keeping the retained state of R68, and turns cold on any condition of R69. -/
  | warmStart (x : StartIn)
  /-- COLD_RESTART (R65): A keyed write of SYS_RESTART with TYPE cold requests a cold start. -/
  | coldRestart (key : BitVec 16)
  /-- WARM_RESTART (R65): A keyed write of SYS_RESTART with TYPE warm requests a warm start. -/
  | warmRestart (key : BitVec 16)
  /-- REGISTER_WRITE (R11): A write to a register with no row of its own acts by the access kind of each field, or is refused with an access error. -/
  | registerWrite (a : BitVec 32) (size : BitVec 4) (v : Word)
  /-- ARM (R57): Writing 1 to a group's bit of SYS_COMMIT arms that commit group. -/
  | arm (g : BitVec 4)
  /-- COMMIT_POINT (R57): At a group's commit point the pending set is checked and copied to the active copies, or refused. -/
  | commitPoint (g : BitVec 4) (p : Fin 8)
  /-- SKEIN_FLIT_CRC_FAIL (R38): A Skein flit fails its CRC and is replayed; a third failure or loss of alignment is a Skein fault. -/
  | skeinFlitCrcFail (lane : Bool) (nth : Fin 3)
  /-- DP_LINK_TRAINING (R81): A source trains an intake link; the lanes adapt and the port requests more swing while the figure of merit is below
  FOM_MIN. -/
  | dpLinkTraining (p : Fin 8) (r : DpTraining)
  /-- EDID_READ (R79): A source reads the EDID that the covering EDID record gives the port. -/
  | edidRead (p : Fin 8) (blk : Fin 4)
  /-- DPCD_ACCESS (R80): A source reads or writes DPCD, served from the DPCD record with the forced values. -/
  | dpcdAccess (p : Fin 8) (a : BitVec 20) (write : Option Byte)
  /-- LINK_LOSS (R82): Loss of symbol lock or too many 8b/10b errors makes the port clear status and raise IRQ_HPD. -/
  | linkLoss (p : Fin 8)
  /-- VIDEO_START (R88): The first frame with a received MSA after training or a timing change makes the port ask for admission to the budget. -/
  | videoStart (p : Fin 8) (m : Msa)
  /-- VIDEO_STOP (R108): Video stops: the port leaves the budget, its patches become not live and refused ports ask again. -/
  | videoStop (p : Fin 8)
  /-- TIMING_CHANGE (R88): A source's timing changes: the port leaves the budget, resets its patches and asks again. -/
  | timingChange (p : Fin 8) (m : Msa)
  /-- SOURCE_FRAME_START (R103): At the first active line of a source frame the port takes a surface for WRITING or discards the frame. -/
  | sourceFrameStart (p : Fin 8) (f : SourceFrame)
  /-- BALE_WRITE (R99): The codec writes a bale, fingerprints it and sets its change bit against the reference surface. -/
  | baleWrite (p : Fin 8) (i : BitVec 18)
  /-- SOURCE_FRAME_END (R106): At the end of a frame's last active line each tell-tale patch judges the frame. -/
  | sourceFrameEnd (p : Fin 8)
  /-- SURFACE_PUBLISH (R100): A completed surface becomes the port's latest complete surface with its bale table and bitmap. -/
  | surfacePublish (p : Fin 8)
  /-- PATCH_DEADLINE (R107): DEADLINE passes after a patch's last qualifying frame and the patch becomes NOT LIVE. -/
  | patchDeadline (p : Fin 8) (t : Fin 4)
  /-- RELEASE (R104): BAL_SURF_CMD op release frees a surface at once or returns BUSY and stays pending while pinned. -/
  | release (n : BitVec 9)
  /-- RELEASE_DONE (R104): A pending release is performed when the surface's pin count reaches 0. -/
  | releaseDone (n : BitVec 9)
  /-- COMPOSITION_PASS (R131): At each frame boundary after the G0 and G1 commits a pass begins, pinning surfaces and deciding dirty blocks. -/
  | compositionPass
  /-- BLOCK_ENCODED (R116): A slice's encoder lane finishes a canvas block and sets CHANGED when its fingerprint differs. -/
  | blockEncoded (b : BitVec 22) (ue : List (BitVec 9 × BitVec 18))
  /-- CUTOFF (R137): 20 µs before the boundary each slice holds every dirty block it has not started. -/
  | cutoff (started : List (BitVec 22))
  /-- PASS_END (R142): At the end of a pass the Loom sets each layer's current bit. -/
  | passEnd
  /-- BIST_FRAGMENT (R143): A 50 µs self-test fragment runs in a slice's idle time; a failure fences the slice. -/
  | bistFragment (i : Fin 16) (failed : Bool)
  /-- SLICE_PARITY_ERROR (R144): A parity error in a slice's memories holds the block and fences the slice from the next boundary. -/
  | sliceParityError (i : Fin 16) (b : BitVec 22)
  /-- HALLMARK_COMPUTE (R182): After a pass the Sender's engines recompute the hallmark of each changed piece. -/
  | hallmarkCompute (bad : Bool)
  /-- COMMIT_SEND (R166): At T_c(g) the Sender sends COMMIT or PREPARE on each active port, followed by GUARD and REAFFIRM messages. -/
  | commitSend
  /-- PUSH_SEND (R162): At a packet boundary the dispatcher picks the next eligible entry and sends its PUSH. -/
  | pushSend (c : Port)
  /-- REPUSH (R154): A write of DMG_REPUSH naming a chain and position enters a full re-push of those Tiles. -/
  | repush (c : Port) (p : BitVec 6)
  /-- REPUSH_ALL (R154): A write of DMG_REPUSH with ALL set enters a full re-push of every enabled Tile. -/
  | repushAll
  /-- COMMIT_REPORT_RECEIVE (R171): A commit report confirms or re-enters the Tile's pushed set and updates skips, catch-up, alone and geometry. -/
  | commitReportReceive (p : Port) (a : Arrival)
  /-- REPORT_DEADLINE (R171): At S_g a missing commit report counts as MISS and re-enters the Tile's blocks. -/
  | reportDeadline
  /-- PUSH_RECEIVE (R165): A Tile decodes an accepted PUSH, checks its fingerprint and writes the block into the receive buffer or drops it. -/
  | pushReceive (p : Port) (a : Arrival)
  /-- COMMIT_RECEIVE (R168): A Tile acts on a COMMIT, binds the back buffer if complete and sends its commit report. -/
  | commitReceive (p : Port) (a : Arrival)
  /-- PREPARE_RECEIVE (R173): A Tile checks a PREPARE and binds the back buffer awaiting GO, or as COMMIT when ALONE. -/
  | prepareReceive (p : Port) (a : Arrival)
  /-- GO_RECEIVE (R173): GO for a complete PREPARE confirms the binding so the Tile shows g from SHOW. -/
  | goReceive (p : Port) (a : Arrival)
  /-- ABORT_RECEIVE (R173): ABORT cancels a PREPARE binding and the generation is not shown. -/
  | abortReceive (p : Port) (a : Arrival)
  /-- GO_TIMEOUT (R280): No GO by the commit deadline cancels the PREPARE binding. -/
  | goTimeout
  /-- CELL_COPY (R281): The copy engine copies a pending cell from the receive buffer and clears its pending bit. -/
  | cellCopy (b : Fin 3) (col row : BitVec 7)
  /-- FEED_START (R282): At S − L the Tile swaps back and front buffers if bound, fixes hatches, derate and knee, and the groups begin to feed. -/
  | feedStart (bad : List (BitVec 27))
  /-- REAFFIRM_RECEIVE (R191): A Tile accepts a REAFFIRM and holds it until it has decided which generation it shows. -/
  | reaffirmReceive (p : Port) (a : Arrival)
  /-- REAFFIRM_EVALUATE (R191): Each REAFFIRM entry is judged against the Tile's hallmark and renews or zeroes the piece's expiry. -/
  | reaffirmEvaluate
  /-- TILE_HALLMARK (R192): The Tile finishes hashing its pieces for a committed generation. -/
  | tileHallmark (bad : List (BitVec 27))
  /-- GUARD_RECEIVE (R188): A Tile applies a GUARD message, keeping expiry and floor of unchanged pieces. -/
  | guardReceive (p : Port) (a : Arrival)
  /-- STALE_ORDER (R196): Writing HMK_STALE with ORDER 1 raises a STALE order for a region or all regions. -/
  | staleOrder (all : Bool) (region : BitVec 8)
  /-- HMK_HOLD (R196): A write of HMK_HOLD sets or clears holds; each 0-to-1 bit raises a STALE order. -/
  | hmkHold (i : Fin 8) (v : Word)
  /-- STALE_SEND (R196): A STALE order enters each concerned port at its next packet boundary. -/
  | staleSend (p : Port)
  /-- STALE_RECEIVE (R197): A Tile sets expiry 0 and the generation floor for every named piece. -/
  | staleReceive (p : Port) (a : Arrival)
  /-- GUARD_REPORT_RECEIVE (R195): A guard report with a mismatch makes the Sender push every block of the piece. -/
  | guardReportReceive (p : Port) (a : Arrival)
  /-- GLASS_COMPARE (R200): At the end of read-back the sent and returned CRCs are compared and ports fail, clear, darken or relight. `ret`: by port, the
  bits sampled on RET, from the first edge of the frame's row transfers on. -/
  | glassCompare (n : Fin 8) (ret : List (List Bool))
  /-- PACKET_FORWARD (R223): A Tile forwards an arriving non-hop packet out of its other port, poisoning the end symbol on error. -/
  | packetForward (p : Port) (a : Arrival)
  /-- WHEEL_MARKER_SEND (R259): At each multiple of 131,072 ns every transmit direction sends a wheel marker. -/
  | wheelMarkerSend
  /-- WHEEL_MARKER_RECEIVE (R260): A device stamps an arriving marker and feeds its phase error to the discipline if on the time port. -/
  | wheelMarkerReceive (p : Port)
  /-- TIME_REQUEST_SEND (R261): Every TIME_MS ms a device disciplined by a chain port sends a TIME request. -/
  | timeRequestSend
  /-- TIME_REQUEST_RECEIVE (R261): A device stamps a TIME request and sends the response at T3. -/
  | timeRequestReceive (p : Port) (a : Arrival)
  /-- TIME_RESPONSE_RECEIVE (R261): The requester stamps T4 and computes delay and offset from the exchange. -/
  | timeResponseReceive (p : Port) (a : Arrival)
  /-- TIME_VERDICT (R262): The Frame die returns its check verdict on a TIME packet to the wheel-time unit. -/
  | timeVerdict
  /-- TS1_RECEIVE (R235): Valid TS1 from the partner makes the port leave service or wait and join the attempt at once. -/
  | ts1Receive (x : SetArrival)
  /-- BACKOFF_EXPIRY (R235): The back-off after failed attempts expires and a new training attempt starts. -/
  | backoffExpiry (p : Port)
  /-- ENERGY_DETECTED (R236): Energy appears at a Dormant port, which resets k and starts an attempt. -/
  | energyDetected (p : Port)
  /-- BEACON (R236): Every 10 ms an absent port drives a 2 µs K28.5 burst. -/
  | beacon (p : Port)
  /-- TRAINING_PHASE_END (R233): A training phase's condition is met and the attempt moves on or enters service. -/
  | trainingPhaseEnd (p : Port) (r : LaneResult)
  /-- TRAINING_TIMEOUT (R233): A training phase times out and the attempt fails with its reason if no lane qualifies. -/
  | trainingTimeout (p : Port) (r : LaneResult)
  /-- LANE_FAULT (R239): A lane in service suffers a fault and the receiver sends DEGRADE sets with its new mask. `n`: what was counted outside
  packets. -/
  | laneFault (p : Port) (l : Fin 4) (cause : LaneCause) (n : LaneErrors)
  /-- DEGRADE_RECEIVE (R239): DEGRADE sets make the partner finish its packet and transmit at the narrower width. `set`: symbols 1 to 15 of the sets (R232). -/
  | degradeReceive (p : Port) (set : Bytes)
  /-- DEGRADE_TIMEOUT (R239): No width change 10 µs after a lane fault makes the port leave service and retrain. -/
  | degradeTimeout (p : Port)
  /-- IDLE_HOLD_ENTRY (R241): An empty transmit queue for IDLE_AFTER µs puts the direction into Idle-hold. -/
  | idleHoldEntry (p : Port)
  /-- SLEEP_RECEIVE (R243): SLEEP sets set REMOTE_DORMANT so loss of energy is not a lane fault. -/
  | sleepReceive (x : SetArrival)
  /-- WAKE_TIMEOUT (R243): No ACK 150 µs after a wake makes the port leave service with reason 5. -/
  | wakeTimeout (p : Port)
  /-- FULL_RETRAIN (R246): WFT_PORT_CMD op 1 takes the port out of service and starts a full attempt. -/
  | fullRetrain (p : Port)
  /-- FAST_RETRAIN (R517): WFT_PORT_CMD op 2 runs a fast retrain from stored settings. -/
  | fastRetrain (p : Port)
  /-- TRANSMIT_DORMANT (R243): WFT_PORT_CMD op 3 sends SLEEP sets and puts the transmit direction into Dormant. -/
  | transmitDormant (p : Port)
  /-- TRANSMIT_WAKE (R243): WFT_PORT_CMD op 4 relocks the PLL and sends TS2 to wake the transmit direction. -/
  | transmitWake (p : Port)
  /-- PORT_DORMANT (R246): WFT_PORT_CMD op 5 puts the whole port into Dormant and out of service. -/
  | portDormant (p : Port)
  /-- SETTINGS_SAVE (R517): Every 10 s in service a port stores its equaliser settings. -/
  | settingsSave (p : Port)
  /-- EYE_SCAN_START (R240): Writing START to WFT_EYE_CTRL starts an eye scan on lane 0. -/
  | eyeScanStart (p : Port) (voff : BitVec 7) (phase : BitVec 6) (dwell : BitVec 4)
  /-- EYE_SCAN_DONE (R240): An eye scan's dwell ends and COUNT and DONE are set. -/
  | eyeScanDone (p : Port) (count : Word)
  /-- COUNT_COPY_REFRESH (R248): Every 1,024 ns the Lane die refreshes the Frame die copy of the count. -/
  | countCopyRefresh
  /-- WSYNC_EDGE (R266): A rising edge on WSYNC_IN is assigned to a boundary and moves the lock state machine. -/
  | wsyncEdge (long : Bool)
  /-- SYNC_LOSS (R266): Four frames with missing or outlying edges move the unit to HOLDOVER or a Tile to the chain. -/
  | syncLoss
  /-- HOLDOVER_EXPIRY (R266): HOLDOVER seconds in holdover move the unit to FREE. -/
  | holdoverExpiry
  /-- MARKER_TIMEOUT (R268): No marker on the time port for 1 ms moves a Tile to HOLDOVER. -/
  | markerTimeout
  /-- COUNT_STEP (R269): A Tile regaining a source beyond 1 ms steps its count at its next boundary and zeroes every expiry. -/
  | countStep
  /-- RATE_SWITCH (R250): At the switch second the new RATE starts to place the boundaries. -/
  | rateSwitch
  /-- WSYNC_OUT_EDGE (R258): WSYNC_OUT gives an edge at each boundary or whole second per OUT. -/
  | wsyncOutEdge
  /-- SENSOR_SCAN (R293): Every SCAN_MS ms the Tile reads its sensors and updates zone temperatures and validity. `readings`: by sensor, the two bytes
  that the read gave, the first in the upper half; none where it failed. -/
  | sensorScan (readings : List (Option (BitVec 16)))
  /-- DERATE_REPORT_SEND (R298): At each whole second a Tile sends its derate report. -/
  | derateReportSend
  /-- DERATE_REPORT_RECEIVE (R299): The Sender stores a Tile's derate report for the group minimum. -/
  | derateReportReceive (p : Port) (a : Arrival)
  /-- WALL_DERATE (R299): At 500 ms past each second the holder computes the group minimum and sends WALLMIN. -/
  | wallDerate
  /-- WALLMIN_RECEIVE (R300): A Tile holds the accepted WALLMIN and uses it from the next feed start. -/
  | wallminReceive (p : Port) (a : Arrival)
  /-- BANK_SWAP (R313): At S the group issues SWAP, or withholds it after an aborted feed. -/
  | bankSwap (n : Fin 8)
  /-- UNDERRUN (R316): A row transfer bit not delivered in time aborts the feed and withholds SWAP. -/
  | underrun (n : Fin 8) (row : Fin 64)
  /-- LATE_FEED (R317): A feed that cannot end by S − 2 µs is aborted at that edge. -/
  | lateFeed (n : Fin 8)
  /-- GAIN_TRANSFER (R314): After the flush and SWAP the group shifts the TEMPLATE with the gain code, or skips it. -/
  | gainTransfer (n : Fin 8)
  /-- REFRESH_CYCLE (R319): Each refresh cycle runs the row slots with blanking and GCLK pulses. -/
  | refreshCycle (n : Fin 8)
  /-- LAMP_READ (R325): In cycle RPF/2 the group reads one row's open and short flags and updates lamp states. -/
  | lampRead (n : Fin 8) (ret : List (List Bool))
  /-- LAMP_PROBE (R326): A probe gap lights row r for PROBE_NS at reduced gain and reads its flags. -/
  | lampProbe (n : Fin 8) (ret : List (List Bool))
  /-- CREF_SLEW (R333): Every 100 µs each CREF output code and raw trim code moves toward its target. -/
  | crefSlew
  /-- TRIM_UPDATE (R339): Every 100 ms the per-point trims are interpolated for the die temperature sampled. -/
  | trimUpdate (raw : BitVec 16)
  /-- ASY_RUN_START (R345): Writing START to ASY_RUN runs Assay steps A1 to A9 and writes a signed record. -/
  | asyRunStart (sweep : BitVec 8) (tsEn : Bool) (refTemp : BitVec 12)
  /-- ASY_RUN_ABORT (R348): Writing ABORT to ASY_RUN ends the run before A8 with REASON 6. -/
  | asyRunAbort
  /-- DRAM_READ (R367): A DRAM read is decoded, corrected and written back, or flagged uncorrectable, or a map fault. -/
  | dramRead (a : BitVec 33) (x : DramCall)
  /-- DRAM_WRITE (R364): A DRAM write, partial writes as read-modify-write of the line. -/
  | dramWrite (a : BitVec 33) (x : DramWriteCall)
  /-- REQUEST_PROMOTION (R361): A request reaching its class age limit is promoted. -/
  | requestPromotion (chan : Fin 8) (x : PromotionCall)
  /-- DRAM_REFRESH (R370): A due refresh of a bank is issued ahead of all requests. -/
  | dramRefresh (chan : Fin 8) (rank : Fin 2) (bank : Fin 16)
  /-- DRAM_POWER_DOWN (R371): A pseudo-rank idle for PD_TIMER clocks enters power-down. -/
  | dramPowerDown (chan : Fin 8) (rank : Fin 2)
  /-- PATROL_SCRUB (R368): Patrol scrub reads the next line in class C3. -/
  | patrolScrub (x : PatrolCall)
  /-- READ_RECENTRE (R374): Every 100 ms a channel re-centres its read timing. -/
  | readRecentre (chan : Fin 8)
  /-- SRB_PWR_MODE (R381): A write of SRB_PWR.MODE changes a bank's power mode or is refused. -/
  | srbPwrMode (b : Fin 6) (mode : BitVec 2)
  /-- BANK_WAKE_DONE (R380): A waking bank finishes its wake and zero-fill and held accesses complete. -/
  | bankWakeDone (b : Fin 6)
  /-- SRAM_PARITY_ERROR (R379): A parity error on an SRAM read returns an access error and is counted. -/
  | sramParityError (b : Fin 6) (row : BitVec 18) (cores : Bool)
  /-- TEST_WINDOW_START (R383): Every PERIOD µs the background test saves, March-tests and restores a 256-byte window. -/
  | testWindowStart
  /-- TEST_YIELD (R384): An access to the held window makes the test stop and restore before the access completes. -/
  | testYield (x : BankCycle)
  /-- TLY_U_DATA1 (R395): A write to DATA1 feeds one byte to a general Tally unit. -/
  | tlyUData1 (c : Fin 4) (u : Fin 8) (v : Byte)
  /-- TLY_U_DATA2 (R395): A write to DATA2 feeds two bytes to a general Tally unit. -/
  | tlyUData2 (c : Fin 4) (u : Fin 8) (v : BitVec 16)
  /-- TLY_U_DATA4 (R395): A write to DATA4 feeds four bytes to a general Tally unit. -/
  | tlyUData4 (c : Fin 4) (u : Fin 8) (v : Word)
  /-- TLY_U_INIT (R386): Writing INIT to TLY_U_CTRL reloads INIT and clears COUNT and RESTARTED. -/
  | tlyUInit (c : Fin 4) (u : Fin 8)
  /-- TLY_MS_START (R396): Writing START to TLY_MS_CFG latches the fields and starts a memory scan. -/
  | tlyMsStart (e : Fin 4) (profile : BitVec 2) (again abort : Bool)
  /-- TLY_MS_ABORT (R396): Writing ABORT to TLY_MS_CFG ends a running scan. -/
  | tlyMsAbort (e : Fin 4) (profile : BitVec 2) (again : Bool)
  /-- SCAN_PASS_END (R398): A scan pass ends, writes RESULT and flags a mismatch, and repeats if REPEAT. -/
  | scanPassEnd (e : Fin 4)
  /-- SCAN_STOP (R398): An uncorrectable line, map fault or refused parameter stops the scan. -/
  | scanStop (e : Fin 4) (line : BitVec 27) (ue : Bool)
  /-- HEART_SEND (R410): At each whole millisecond a Sender sends HEART on every transmit direction in service. -/
  | heartSend
  /-- HEART_RECEIVE (R406): A Tile accepting a HEART sets, renews or keeps its master. -/
  | heartReceive (p : Port) (a : Arrival)
  /-- PARTNER_HEART_RECEIVE (R423): A Sender accepting its partner's HEART checks rank clash, resets floors, gives up the Spindle or leaves
  split-ring service. -/
  | partnerHeartReceive (p : Port) (a : Arrival)
  /-- MASTER_LAPSE (R406): A Tile's master lapses LOSS_MS after its last renewing HEART. -/
  | masterLapse
  /-- HEARTBEAT_LOSS (R421): No partner HEART on a port for LOSS_MS makes the standby wake it and query its Tiles. -/
  | heartbeatLoss (p : Port)
  /-- QUERY_COMPLETE (R421): The SPN_TILE_SEEN query ends and leads to takeover or split-ring service. -/
  | queryComplete (p : Port)
  /-- YIELD_RECEIVE (R420): A standby accepting a YIELD takes the Spindle if no verdict stands. -/
  | yieldReceive (p : Port) (a : Arrival)
  /-- YIELD_TIMEOUT (R419): A yielder unanswered 100 ms after its YIELD resumes the Spindle. -/
  | yieldTimeout
  /-- VERDICT (R416): A self-diagnosis condition raises a verdict, which stands until the next start. -/
  | verdict (code : BitVec 4)
  /-- SHADOW_COMPARE (R413): The standby compares each holder REAFFIRM entry with its own hallmark. -/
  | shadowCompare (p : Port) (a : Arrival)
  /-- GEN_OFFSET_SYNC (R405): A non-holder sets OFFSET from each holder COMMIT or PREPARE it accepts. -/
  | genOffsetSync (p : Port) (a : Arrival)
  /-- SPN_DRILL_OUT (R427): Writing SPN_DRILL_OUT orders a swap drill, or refuses it. -/
  | spnDrillOut (out : Word)
  /-- DRILL_YIELD (R428): At T_c(OUT − 3) the holder sends YIELD with REASON 7. -/
  | drillYield
  /-- DRILL_RELEASE (R428): At T_c(OUT − 1) the holder stops ordering if it heard the partner on every port. -/
  | drillRelease
  /-- DRILL_TAKE (R428): At WHEN the partner takes the Spindle or returns to Dormant. -/
  | drillTake
  /-- WATCHDOG_KICK (R482): Writing SPN_WDOG with its key restarts the watchdog. -/
  | watchdogKick (key : BitVec 16)
  /-- WATCHDOG_EXPIRY (R482): The watchdog expires unkicked for WDOG_MS, a fatal error. -/
  | watchdogExpiry
  /-- TRNG_FAIL (R432): A failed TRNG health test sets TRNG_FAIL and refuses random-dependent operations. -/
  | trngFail
  /-- ENROL_OFFER (R444): The holder sends a stage 1 offer on a port with an unenrolled device. -/
  | enrolOffer (p : Port)
  /-- ENROL_OFFER_RECEIVE (R445): An enrolled device relays an offer; the first unenrolled device checks it and answers. -/
  | enrolOfferReceive (p : Port) (a : Arrival)
  /-- ENROL_ANSWER_RECEIVE (R518): The Sender checks a stage 2 answer and its claimed position, then sends the grant. -/
  | enrolAnswerReceive (p : Port) (a : Arrival)
  /-- ENROL_GRANT_RECEIVE (R447): The answerer unwraps the grant, installs the wall key and sends stage 4. -/
  | enrolGrantReceive (p : Port) (a : Arrival)
  /-- ENROL_DONE_RECEIVE (R447): The Sender checks CONF, resets floors and re-pushes the new device. -/
  | enrolDoneReceive (p : Port) (a : Arrival)
  /-- ENROL_TIMEOUT (R445): A half-done exchange is dropped 100 ms after its last packet. -/
  | enrolTimeout (p : Port)
  /-- ENVELOPE (R467): SPI opcode 0x02 fills the envelope buffer; it is checked when CTR_CS_N rises. -/
  | envelope (bs : Bytes)
  /-- READ (R466): SPI opcode 0x03 returns register words from ADDR. -/
  | read (a : BitVec 32) (n : Nat) (late : List Nat)
  /-- STATUS (R465): SPI opcode 0x05 returns CTR_STAT. -/
  | status
  /-- EVENT (R481): SPI opcode 0x0B returns whole log entries and advances the port's cursor. -/
  | event (remote : Bool) (n : Nat)
  /-- DUMP (R486): SPI opcode 0x0D returns DRAM or flash dump bytes from OFFSET. -/
  | dump (flash : Bool) (o : Word) (n : Nat)
  /-- REMOTE (R472): SPI opcode 0x13 sends a Tile a MGMT register read. -/
  | remote (addr : BitVec 16) (reg : Word) (count : BitVec 8)
  /-- REMOTE_RESPONSE (R472): A STATUS 0x04 response fills CTR_RMT_STAT and CTR_RMT_DATA. -/
  | remoteResponse (p : Port) (a : Arrival)
  /-- REMOTE_TIMEOUT (R472): No response 2 ms after a REMOTE request ends it with RESULT 2. -/
  | remoteTimeout
  /-- REGISTER_READ_REQUEST (R472): A Tile answers MGMT form 0x30 with a STATUS form 0x04 response. -/
  | registerReadRequest (p : Port) (a : Arrival)
  /-- SELECT (R470): Command 0x0001 selects a preset into G0 and G1 and arms both. -/
  | select (n : BitVec 8)
  /-- LAYOUT (R468): Command 0x0002 writes G0 and G1 pending fields and optionally arms them. -/
  | layout (arm : Bool) (es : List (Word × Word))
  /-- CONFIG (R469): Command 0x0003 writes entries after checking them all, then arms the named groups. -/
  | config (arm : Word) (es : List (Word × Word))
  /-- DRILL (R468): Command 0x0004 writes SPN_DRILL_BACK then SPN_DRILL_OUT. -/
  | drill (out back : Word)
  /-- ASSAY (R468): Command 0x0005 writes ASY_REF and ASY_RUN to start or abort an Assay run. -/
  | assay (refUv : Word) (refTemp : BitVec 16) (tsEn abort : Bool) (sweep : BitVec 8)
  /-- RESTART (R468): Command 0x0006 orders a cold or warm restart as SYS_RESTART does. -/
  | restart (type : BitVec 8)
  /-- BEGIN (R453): Command 0x0010 opens a Porter transfer. -/
  | begin (target trials confirmBy : BitVec 8) (length transfer trialS : Word) (digest newOwner : BitVec 256)
  /-- DATA (R454): Command 0x0011 delivers Porter blocks into the staging area. -/
  | data (blocks : Bytes)
  /-- ACTIVATE (R456): Command 0x0012 schedules activation of a READY transfer at AT. -/
  | activate (transfer : Word) (at_ : BitVec 64)
  /-- ABORT (R468): Command 0x0013 closes the open transfer with RESULT 7. -/
  | abort (transfer : Word)
  /-- CONFIRM (R459): Command 0x0014 confirms the image on trial. -/
  | confirm (transfer : Word)
  /-- RELAY (R471): Command 0x0020 sends an inner envelope to a Tile as MGMT 0x40 kind 1. -/
  | relay (addr : BitVec 16) (inner : Bytes)
  /-- RELAY_DATA (R468): Command 0x0021 sends blocks to a Tile as MGMT 0x40 kind 2. -/
  | relayData (addr : BitVec 16) (blocks : Bytes)
  /-- MGMT_ENVELOPE (R452): A Tile receives an envelope in MGMT form 0x40 kind 1 and checks and runs it. -/
  | mgmtEnvelope (p : Port) (a : Arrival)
  /-- MGMT_BLOCK (R454): A Tile receives a Porter block in MGMT form 0x40 kind 2. -/
  | mgmtBlock (p : Port) (a : Arrival)
  /-- CHT_CONFIRM (R459): A keyed write of CHT_CONFIRM confirms the image on trial. -/
  | chtConfirm (key : BitVec 16)
  /-- TRANSFER_COMPLETE (R455): With every block in, Porter checks the digest and the staged image or writes the Ledger bank. -/
  | transferComplete
  /-- ACTIVATION (R456): At AT Porter copies the running image to Rescue, writes the new image and cold-starts into trial. -/
  | activation
  /-- TRIAL_EXPIRY (R458): TRIAL_S seconds after first light without confirmation the trial fails. -/
  | trialExpiry
  /-- PRESET_SAMPLE (R474): At each whole millisecond the PRESET pins are sampled; a new stable value is a selection. -/
  | presetSample (v : BitVec 6)
  /-- LOG_WRITE (R479): The log writer appends a queued record to the B0 ring and the DRAM ring. -/
  | logWrite
  /-- EVENT_FORWARD (R480): At most every FWD_MS ms a Tile forwards records in STATUS form 0x05. -/
  | eventForward
  /-- EVENT_FORWARD_RECEIVE (R480): The Sender stores forwarded records in its remote ring. -/
  | eventForwardReceive (p : Port) (a : Arrival)
  /-- SYS_FATAL (R482): A keyed write of SYS_FATAL raises fatal error 5. -/
  | sysFatal (key reason : BitVec 16)
  /-- FATAL_ERROR (R483): A fatal error stops the cores, darkens groups, yields, writes the dumps and takes ACTION. -/
  | fatalError (cause : BitVec 3)
  /-- DUMP_HOLD_EXPIRY (R483): Under ACTION 2 the halt of HOLD_S seconds ends in a cold start. -/
  | dumpHoldExpiry
  /-- REGISTER_READ (R11): A firmware read of a register returns each field by its access kind, clears RC fields and latches the high word of
  latching pairs. -/
  | registerRead (a : BitVec 32) (size : BitVec 4)
  /-- POWER_ON_DETECTOR_ARM (R494): VIN falls below 1.0 V, the device loses all state and the power-on detector arms for the next rise. -/
  | powerOnDetectorArm
  /-- START_STEP_END (R66): A cold-start step C1–C12 or warm-start step W1–W10 ends, and the next step begins. -/
  | startStepEnd (x : StartIn)
  /-- ASSAY_STEP_END (R345): An Assay run step A1–A9 ends, with its measurements, trim computation, record write or abort on a trim outside its
  range. -/
  | assayStepEnd (m : AsyMeasure)
  /-- FATAL_DUMP_STEP_END (R485): A dump step F2–F4 finishes writing its part of the DRAM or flash dump, and the device moves on toward ACTION. -/
  | fatalDumpStepEnd
  /-- PORTER_STEP_END (R456): A Porter operation ends: the digest and staged check, an activation step A1–A5, a Ledger bank write, or a restore
  copy. -/
  | porterStepEnd (errors : List (Nat × Byte))
  /-- TEST_WINDOW_END (R383): The background test finishes its March sequence on the held window, restores the saved rows and releases the window. -/
  | testWindowEnd (failed : Bool)
  /-- ENVELOPE_CHECKED (R467): The trust core finishes checking an envelope and runs or refuses its command, and ENV_BUSY clears. -/
  | envelopeChecked
  /-- DRAM_TEMPERATURE_READ (R370): Every 1 ms the controller reads the DRAM die temperature and sets the refresh interval to 32, 16 or 8 ms. -/
  | dramTemperatureRead (temp : BitVec 8)
  /-- BOUNDARY_SCAN_INSTRUCTION (R508): An instruction is shifted into the IEEE 1149.1 port and acts as BYPASS, SAMPLE/PRELOAD, EXTEST or IDCODE,
  restricted while LOCK[0] is set. -/
  | boundaryScanInstruction (code : BitVec 8)
deriving DecidableEq, Repr

end Sys2Proof
end

