-- ==== Sys2Proof/Config.lean ====
section
/-! DEFINITION. What the spec leaves open and what it takes from outside itself: free values (opaque constants, no body) and
the standard cryptographic functions it names without defining them. Nothing in Lean can evaluate one of these, so a
statement holds whatever they are. -/

namespace Sys2Proof.Config

/-- A value that nothing constrains: the `n`-th one of `w` bits (log entry 4). TRNG draws (R430 to R433) are such values. -/
opaque freeValue (w n : Nat) : BitVec w

/-- SHA-256 (FIPS 180-4), which R54 and others name and do not define (log entry 5). -/
opaque sha256 (m : Bytes) : BitVec 256

/-- The 128-bit tag of AES-256-GCM (SP 800-38D): key, IV, additional authenticated data, ciphertext (log entry 5). -/
opaque gcmTag (key : BitVec 256) (iv aad ct : Bytes) : BitVec 128

/-- The first `n` bytes of the key stream that AES-256-GCM adds to a plaintext (log entry 5). -/
opaque gcmStream (key : BitVec 256) (iv : Bytes) (n : Nat) : Bytes

/-- AES-256-GMAC (SP 800-38D), leftmost 96 bits (R220): key, IV, additional authenticated data. -/
def gmac (key : BitVec 256) (iv aad : Bytes) : BitVec 96 := (gcmTag key iv aad []).extractLsb' 32 96

/-- The public key (X then Y) of an ECDH private key on P-256, and the x-coordinate of the shared secret (R446, log entry 5). -/
opaque ecdhPublic (priv : BitVec 256) : Bytes
opaque ecdhShared (priv : BitVec 256) (pub : Bytes) : BitVec 256

/-- HKDF with SHA-256 (RFC 5869): salt, input keying material, info, output bytes (R446, log entry 5). -/
opaque hkdf (salt ikm info : Bytes) (n : Nat) : Bytes

/-- The four vendor public keys in the boot ROM (R433, log entry 5). -/
opaque vendorKey (i : Nat) : Bytes

/-- ECDSA P-256 verification (FIPS 186-4): public key as 64 octets, message, R and S (log entry 5). -/
opaque ecdsaVerify (pub msg : Bytes) (r sg : BitVec 256) : Bool

/-- A public key that FIPS 186-4 key recovery gives from a message, a signature and the parity of the point (log entry 5). -/
opaque ecdsaRecover (msg : Bytes) (r sg : BitVec 256) (odd : Bool) : Option Bytes

/-- ECDSA P-256 signature by a private key, with its nonce: R then S (log entry 5). -/
opaque ecdsaSign (priv : BitVec 256) (msg : Bytes) (nonce : Nat) : BitVec 256 × BitVec 256

/-- What the RS(72,64) decoder of a channel with this dead wire answers for an error pattern beyond its power: none for "uncorrectable",
or the line that it takes to be right and how many symbols it changed (R366, log entry 6). -/
opaque rsBeyond (dead : Nat) (line : Bytes) (pattern : List (Nat × Byte)) : Option (Bytes × BitVec 4)

/-- Whether a DRAM channel lets a request to an open row pass older ones of its class, at the controller cycle given: R361 allows it and does not ask for
it (log entry 144). -/
opaque rowPasses (cycle : Nat) : Bool

/-- The bytes that a Tile's guard table takes in the 64 KiB after its buffers, for the GUARD message that gave it: the spec lays none out (R188, R276, log entry
140). -/
opaque guardByte (message : Bytes) (offset : Nat) : Byte

/-- The halfword of SRAM bank B5 in which the correction pipeline stages the grey word of a lamp, by group and lamp: the spec gives no place (R286, R312,
log entry 141). -/
opaque stagePlace (group lamp : Nat) : Nat

/-- The kind number in ARG [15:8] of event 0x5106, for the four events the spec lists in that order and does not number:
0 shadow mismatch, 1 offset change, 2 order dropped, 3 resumption after yield (log entry 9). -/
opaque spindleKind (which : Nat) : BitVec 8

end Sys2Proof.Config
end

