-- ==== Sys2Proof/Machine/RegMap.lean ====
section
/-! DEFINITION. The register map (R10 to R13, R34, R35 of spec/00_scope.md and spec/01_wall_and_roles.md):
bit fields of a register word, the access kinds, the table of every register of the device, and the fields by name. -/

namespace Sys2Proof.Machine

/-! ### Sparse tables -/

/-- The entry of a table under a number. -/
def Tab.find {α : Type} : Tab α → Nat → Option α
  | [], _ => none
  | (k, v) :: t, a => if k = a then some v else Tab.find t a

/-- Sets the entry of a table, numbers rising. -/
def Tab.put {α : Type} : Tab α → Nat → α → Tab α
  | [], a, v => [(a, v)]
  | (k, w) :: t, a, v => if a < k then (a, v) :: (k, w) :: t else if a = k then (a, v) :: t else (k, w) :: Tab.put t a v

/-- The entry of a table under a number, or the table's default. -/
def Tab.get {α : Type} [Inhabited α] (t : Tab α) (a : Nat) : α := (Tab.find t a).getD default

/-- Changes the entry of a table under a number. -/
def Tab.upd {α : Type} [Inhabited α] (t : Tab α) (a : Nat) (f : α → α) : Tab α := Tab.put t a (f (Tab.get t a))

/-- Removes the entry under a number. -/
def Tab.del {α : Type} (t : Tab α) (a : Nat) : Tab α := t.filter fun p => p.1 != a

/-! ### Bit fields -/

/-- The bits [lo+n-1:lo] of a word, in place (R6). -/
def fieldMask (lo n : Nat) : Word := BitVec.ofNat 32 ((2 ^ n - 1) * 2 ^ lo)

/-- The value of the field [lo+n-1:lo] of a word (R6). -/
def getBits (w : Word) (lo n : Nat) : Nat := (w.extractLsb' lo n).toNat

/-- The word with the field [lo+n-1:lo] replaced by the low `n` bits of `v` (R6). -/
def setBits (w : Word) (lo n v : Nat) : Word :=
  (w &&& ~~~(fieldMask lo n)) ||| BitVec.ofNat 32 (v % 2 ^ n * 2 ^ lo)

/-- One named field: its register's address, its lowest bit, its width, and its register's reset word. -/
structure Fld where
  addr : Nat
  lo : Nat
  width : Nat
  rst : Nat
deriving DecidableEq, Repr

/-- The access kinds of R11. -/
inductive Access where
  | rw | rs | ro | w1c | wo | rc
deriving DecidableEq, Repr

/-- The commit group of a staged field: a numbered group, the group of the field's driver group (G4 + n), or none. -/
inductive Staging where
  | none
  | fixed (g : Nat)
  | driver
deriving DecidableEq, Repr

/-- One field of a register's table. -/
structure FieldDesc where
  lo : Nat
  width : Nat
  access : Access
  group : Staging
deriving DecidableEq, Repr

/-- The reset word of a register: a constant, or one of the four tables whose entries reset to a formula. -/
inductive ResetWord where
  | const (w : Nat)
  | ilut
  | olut
  | dec
  | serves
deriving DecidableEq, Repr

/-- One row of the register map: name, address of the first instance, repeat counts with strides, reset, fields. -/
structure RegDesc where
  name : String
  base : Nat
  dims : List (Nat × Nat)
  reset : ResetWord
  fields : List FieldDesc
deriving DecidableEq, Repr

/-- A field that belongs to no commit group. -/
def fd (lo width : Nat) (access : Access) : FieldDesc := ⟨lo, width, access, .none⟩

/-- A staged field (RS) of a commit group. -/
def fs (lo width : Nat) (group : Staging) : FieldDesc := ⟨lo, width, .rs, group⟩

/-- The registers of spec/01_wall_and_roles.md: base address, repeat counts and strides, reset word, fields. -/
def RegTable.regs01 : List RegDesc := [
  ⟨"SYS_ROLE", 0x10FFF000, [], (.const 0x0),
    [fd 12 1 .ro, fd 8 4 .ro, fd 4 1 .ro, fd 0 2 .ro]⟩,
  ⟨"SYS_WALL", 0x10FFF004, [], (.const 0x0),
    [fd 31 1 .ro, fd 0 12 .ro]⟩,
  ⟨"SYS_SKEIN", 0x10FFF010, [(2, 0x10000000)], (.const 0x80000000),
    [fd 31 1 .ro, fd 30 1 .ro, fd 16 8 .rc, fd 0 16 .rc]⟩]

/-- The registers of spec/02_charter_image_and_start.md: base address, repeat counts and strides, reset word, fields. -/
def RegTable.regs02 : List RegDesc := [
  ⟨"CHT_STATUS", 0x10FFF100, [], (.const 0x0),
    [fd 16 16 .ro, fd 8 8 .ro, fd 7 1 .ro, fd 4 2 .ro, fd 0 4 .ro]⟩,
  ⟨"SYS_COMMIT", 0x10FFF020, [], (.const 0x0),
    [fd 0 16 .wo]⟩,
  ⟨"SYS_COMMIT_STAT", 0x10FFF024, [], (.const 0x0),
    [fd 16 16 .w1c, fd 0 16 .ro]⟩,
  ⟨"SYS_COMMIT_ERR", 0x10FFF028, [], (.const 0x0),
    [fd 16 16 .w1c, fd 0 16 .w1c]⟩,
  ⟨"SYS_START", 0x10FFF040, [], (.const 0x1),
    [fd 22 1 .ro, fd 21 1 .ro, fd 20 1 .ro, fd 16 2 .ro, fd 8 6 .ro, fd 4 3 .ro, fd 0 2 .ro]⟩,
  ⟨"SYS_RESTART", 0x10FFF044, [], (.const 0x0),
    [fd 16 16 .wo, fd 0 2 .wo]⟩]

/-- The registers of spec/03_source_intake_and_bales.md: base address, repeat counts and strides, reset word, fields. -/
def RegTable.regs03 : List RegDesc := [
  ⟨"DPI_PORT_CFG", 0x2103F000, [(8, 0x40000)], (.const 0x4000),
    [fs 8 8 (.fixed 14), fs 1 1 (.fixed 14), fs 0 1 (.fixed 14)]⟩,
  ⟨"DPI_PORT_STAT", 0x2103F004, [(8, 0x40000)], (.const 0x0),
    [fd 28 4 .ro, fd 16 4 .ro, fd 14 1 .ro, fd 13 1 .ro, fd 12 1 .ro, fd 10 2 .ro, fd 8 2 .ro, fd 6 2 .ro, fd 4 2 .ro, fd 0 4 .ro]⟩,
  ⟨"DPI_PORT_TIMING", 0x2103F008, [(8, 0x40000)], (.const 0x0),
    [fd 16 13 .ro, fd 0 13 .ro]⟩,
  ⟨"DPI_PORT_RATE", 0x2103F00C, [(8, 0x40000)], (.const 0x0),
    [fd 0 24 .ro]⟩,
  ⟨"DPI_PORT_FOM", 0x2103F010, [(8, 0x40000)], (.const 0x0),
    [fd 0 8 .ro, fd 8 8 .ro, fd 16 8 .ro, fd 24 8 .ro]⟩,
  ⟨"DPI_BUDGET", 0x21FFF000, [], (.const 0x0),
    [fd 0 24 .ro]⟩,
  ⟨"DPI_TT_POS", 0x21000000, [(8, 0x40000), (4, 0x1000)], (.const 0x0),
    [fs 16 13 (.fixed 14), fs 0 13 (.fixed 14)]⟩,
  ⟨"DPI_TT_CFG", 0x21000004, [(8, 0x40000), (4, 0x1000)], (.const 0x1911000),
    [fs 18 14 (.fixed 14), fs 15 3 (.fixed 14), fs 12 3 (.fixed 14), fs 8 4 (.fixed 14), fs 4 4 (.fixed 14), fs 2 2 (.fixed 14), fs 1 1 (.fixed 14), fs 0 1 (.fixed 14)]⟩,
  ⟨"DPI_TT_STAT", 0x21000008, [(8, 0x40000), (4, 0x1000)], (.const 0xFFFF0000),
    [fd 16 16 .ro, fd 8 8 .ro, fd 1 1 .ro, fd 0 1 .ro]⟩,
  ⟨"BAL_POOL", 0x11800000, [(8, 0x1000)], (.const 0x0),
    [fd 20 12 .rc, fd 16 4 .ro, fd 12 4 .ro, fd 8 4 .ro, fd 4 2 .ro, fd 2 2 .ro, fd 0 2 .ro]⟩,
  ⟨"BAL_PINS", 0x11800004, [(8, 0x1000)], (.const 0x0),
    [fd 16 7 .ro, fd 8 7 .ro, fd 0 7 .ro]⟩,
  ⟨"BAL_SURF_CMD", 0x1183F000, [], (.const 0x0),
    [fd 16 2 .wo, fd 0 9 .wo]⟩,
  ⟨"BAL_SURF_STAT", 0x1183F004, [], (.const 0x0),
    [fd 31 1 .ro, fd 16 2 .ro, fd 0 9 .ro]⟩]

/-- The registers of spec/04_loom_composition.md: base address, repeat counts and strides, reset word, fields. -/
def RegTable.regs04 : List RegDesc := [
  ⟨"LOOM_GEOM", 0x11FFF000, [], (.const 0x0),
    [fd 24 8 .ro, fd 12 12 .ro, fd 0 12 .ro]⟩,
  ⟨"LOOM_BG", 0x11FFF004, [], (.const 0x0),
    [fs 20 10 (.fixed 0), fs 10 10 (.fixed 0), fs 0 10 (.fixed 0)]⟩,
  ⟨"LOOM_STORE", 0x11FFF008, [], (.const 0x0),
    [fs 0 17 (.fixed 0)]⟩,
  ⟨"LOOM_SLOTS", 0x11FFF00C, [], (.const 0x0),
    [fs 0 22 (.fixed 0)]⟩,
  ⟨"LOOM_CFG", 0x11FFF010, [], (.const 0x12),
    [fs 16 16 (.fixed 0), fs 4 1 (.fixed 0), fs 0 4 (.fixed 0)]⟩,
  ⟨"LOOM_FENCE", 0x11FFF014, [], (.const 0x0),
    [fd 16 5 .ro, fd 0 16 .ro]⟩,
  ⟨"LOOM_PASS", 0x11FFF018, [], (.const 0x0),
    [fd 0 32 .ro]⟩,
  ⟨"LOOM_PASS_STAT", 0x11FFF01C, [], (.const 0x0),
    [fd 16 16 .ro, fd 0 16 .ro]⟩,
  ⟨"LOOM_REFUSE", 0x11FFF020, [], (.const 0x0),
    [fd 20 11 .ro, fd 16 4 .ro, fd 8 6 .ro, fd 0 4 .ro]⟩,
  ⟨"LOOM_CURRENT_LO", 0x11FFF024, [], (.const 0x0),
    [fd 0 32 .ro]⟩,
  ⟨"LOOM_CURRENT_HI", 0x11FFF028, [], (.const 0x0),
    [fd 0 32 .ro]⟩,
  ⟨"LOOM_L_CTRL", 0x11000000, [(64, 0x1000)], (.const 0x0),
    [fs 16 9 (.fixed 0), fs 8 4 (.fixed 0), fs 4 1 (.fixed 0), fs 2 2 (.fixed 0), fs 1 1 (.fixed 0), fs 0 1 (.fixed 0)]⟩,
  ⟨"LOOM_L_SRC_POS", 0x11000004, [(64, 0x1000)], (.const 0x0),
    [fs 16 16 (.fixed 0), fs 0 16 (.fixed 0)]⟩,
  ⟨"LOOM_L_SRC_SIZE", 0x11000008, [(64, 0x1000)], (.const 0x0),
    [fs 16 16 (.fixed 0), fs 0 16 (.fixed 0)]⟩,
  ⟨"LOOM_L_DST_X", 0x1100000C, [(64, 0x1000)], (.const 0x0),
    [fs 0 20 (.fixed 0)]⟩,
  ⟨"LOOM_L_DST_Y", 0x11000010, [(64, 0x1000)], (.const 0x0),
    [fs 0 20 (.fixed 0)]⟩,
  ⟨"LOOM_L_DST_SIZE", 0x11000014, [(64, 0x1000)], (.const 0x0),
    [fs 16 15 (.fixed 0), fs 0 16 (.fixed 0)]⟩,
  ⟨"LOOM_L_STEP_X", 0x11000018, [(64, 0x1000)], (.const 0x10000),
    [fs 0 32 (.fixed 0)]⟩,
  ⟨"LOOM_L_STEP_Y", 0x1100001C, [(64, 0x1000)], (.const 0x10000),
    [fs 0 32 (.fixed 0)]⟩,
  ⟨"LOOM_L_PHASE", 0x11000020, [(64, 0x1000)], (.const 0x0),
    [fs 16 16 (.fixed 0), fs 0 16 (.fixed 0)]⟩,
  ⟨"LOOM_L_ALPHA", 0x11000024, [(64, 0x1000)], (.const 0x1000),
    [fs 24 2 (.fixed 0), fs 16 8 (.fixed 0), fs 0 13 (.fixed 0)]⟩,
  ⟨"LOOM_L_KEY0", 0x11000028, [(64, 0x1000)], (.const 0x0),
    [fs 16 12 (.fixed 0), fs 0 12 (.fixed 0)]⟩,
  ⟨"LOOM_L_KEY1", 0x1100002C, [(64, 0x1000)], (.const 0x0),
    [fs 0 12 (.fixed 0)]⟩,
  ⟨"LOOM_L_M0", 0x11000030, [(64, 0x1000)], (.const 0x1000),
    [fs 16 16 (.fixed 0), fs 0 16 (.fixed 0)]⟩,
  ⟨"LOOM_L_M1", 0x11000034, [(64, 0x1000)], (.const 0x0),
    [fs 16 16 (.fixed 0), fs 0 16 (.fixed 0)]⟩,
  ⟨"LOOM_L_M2", 0x11000038, [(64, 0x1000)], (.const 0x10000000),
    [fs 16 16 (.fixed 0), fs 0 16 (.fixed 0)]⟩,
  ⟨"LOOM_L_M3", 0x1100003C, [(64, 0x1000)], (.const 0x0),
    [fs 16 16 (.fixed 0), fs 0 16 (.fixed 0)]⟩,
  ⟨"LOOM_L_M4", 0x11000040, [(64, 0x1000)], (.const 0x0),
    [fs 16 16 (.fixed 0), fs 0 16 (.fixed 0)]⟩,
  ⟨"LOOM_L_M5", 0x11000044, [(64, 0x1000)], (.const 0x1000),
    [fs 16 16 (.fixed 0), fs 0 16 (.fixed 0)]⟩,
  ⟨"LOOM_L_FRESH", 0x11000048, [(64, 0x1000)], (.const 0x0),
    [fs 0 14 (.fixed 0)]⟩,
  ⟨"LOOM_L_STAT", 0x1100004C, [(64, 0x1000)], (.const 0x0),
    [fd 16 16 .ro, fd 12 4 .ro, fd 2 1 .ro, fd 1 1 .ro, fd 0 1 .ro]⟩,
  ⟨"LOOM_ILUT", 0x11500000, [(48, 0x1000), (1024, 0x4)], .ilut,
    [fs 0 20 (.fixed 0)]⟩,
  ⟨"LOOM_OLUT", 0x11540000, [(12, 0x1000), (1024, 0x4)], .olut,
    [fs 0 12 (.fixed 0)]⟩,
  ⟨"LOOM_SLICE_STAT", 0x1107F000, [(16, 0x40000)], .serves,
    [fd 16 16 .ro, fd 3 1 .ro, fd 2 1 .ro, fd 1 1 .ro, fd 0 1 .ro]⟩,
  ⟨"LOOM_SLICE_LOAD", 0x1107F004, [(16, 0x40000)], (.const 0x0),
    [fd 16 13 .ro, fd 0 16 .ro]⟩]

/-- The registers of spec/05_damage_push_and_commit.md: base address, repeat counts and strides, reset word, fields. -/
def RegTable.regs05 : List RegDesc := [
  ⟨"DMG_CFG", 0x14FFF000, [], (.const 0x301F40),
    [fs 20 4 (.fixed 1), fs 16 1 (.fixed 1), fs 0 16 (.fixed 1)]⟩,
  ⟨"DMG_QUEUE", 0x14FFF004, [], (.const 0x0),
    [fs 0 17 (.fixed 1)]⟩,
  ⟨"DMG_GEN", 0x14FFF008, [], (.const 0x0),
    [fd 0 32 .ro]⟩,
  ⟨"DMG_REFUSE", 0x14FFF00C, [], (.const 0x0),
    [fd 16 8 .ro, fd 14 2 .ro, fd 8 6 .ro, fd 0 4 .ro]⟩,
  ⟨"DMG_REPUSH", 0x14FFF010, [], (.const 0x0),
    [fd 31 1 .wo, fd 6 2 .wo, fd 0 6 .wo]⟩,
  ⟨"DMG_TILE_POS", 0x14000000, [(4, 0x40000), (63, 0x1000)], (.const 0x0),
    [fs 16 16 (.fixed 1), fs 0 16 (.fixed 1)]⟩,
  ⟨"DMG_TILE_SIZE", 0x14000004, [(4, 0x40000), (63, 0x1000)], (.const 0x0),
    [fs 31 1 (.fixed 1), fs 16 10 (.fixed 1), fs 0 11 (.fixed 1)]⟩,
  ⟨"DMG_TILE_STAT", 0x14000008, [(4, 0x40000), (63, 0x1000)], (.const 0xF),
    [fd 31 1 .ro, fd 30 1 .ro, fd 29 1 .ro, fd 16 8 .ro, fd 0 4 .ro]⟩,
  ⟨"DMG_TILE_SHOWN", 0x1400000C, [(4, 0x40000), (63, 0x1000)], (.const 0x0),
    [fd 0 32 .ro]⟩,
  ⟨"DMG_CHAIN_CFG", 0x1403F000, [(4, 0x40000)], (.const 0x408),
    [fs 8 6 (.fixed 1), fs 0 6 (.fixed 1)]⟩,
  ⟨"DMG_CHAIN_LOAD", 0x1403F004, [(4, 0x40000)], (.const 0x0),
    [fd 14 18 .ro, fd 0 11 .ro]⟩,
  ⟨"DMG_CHAIN_ERR", 0x1403F008, [(4, 0x40000)], (.const 0x0),
    [fd 16 16 .rc, fd 0 16 .rc]⟩]

/-- The registers of spec/06_hallmarks_and_freshness.md: base address, repeat counts and strides, reset word, fields. -/
def RegTable.regs06 : List RegDesc := [
  ⟨"HMK_CFG", 0x14FFF100, [], (.const 0x3C23),
    [fs 8 8 (.fixed 1), fs 4 4 (.fixed 1), fs 1 1 (.fixed 1), fs 0 1 (.fixed 1)]⟩,
  ⟨"HMK_HATCH_A", 0x14FFF104, [], (.const 0xFFFFF),
    [fs 20 10 (.fixed 1), fs 10 10 (.fixed 1), fs 0 10 (.fixed 1)]⟩,
  ⟨"HMK_HATCH_B", 0x14FFF108, [], (.const 0x0),
    [fs 20 10 (.fixed 1), fs 10 10 (.fixed 1), fs 0 10 (.fixed 1)]⟩,
  ⟨"HMK_TABLE", 0x14FFF10C, [], (.const 0x0),
    [fd 16 1 .ro, fd 0 16 .ro]⟩,
  ⟨"HMK_REFUSE", 0x14FFF110, [], (.const 0x0),
    [fd 30 2 .ro, fd 24 6 .ro, fd 8 8 .ro, fd 0 4 .ro]⟩,
  ⟨"HMK_STALE", 0x14FFF114, [], (.const 0x0),
    [fd 31 1 .rw, fd 16 1 .rw, fd 0 8 .rw]⟩,
  ⟨"HMK_HOLD", 0x14FFF120, [(8, 0x4)], (.const 0x0),
    [fd 0 32 .rw]⟩,
  ⟨"HMK_AFFIRM", 0x14FFF140, [(8, 0x4)], (.const 0x0),
    [fd 0 32 .ro]⟩,
  ⟨"HMK_COUNT", 0x14FFF160, [], (.const 0x0),
    [fd 16 16 .rc, fd 0 16 .rc]⟩,
  ⟨"HMK_REG_X", 0x14200000, [(4, 0x40000), (64, 0x1000)], (.const 0x0),
    [fs 0 20 (.fixed 1)]⟩,
  ⟨"HMK_REG_Y", 0x14200004, [(4, 0x40000), (64, 0x1000)], (.const 0x0),
    [fs 0 20 (.fixed 1)]⟩,
  ⟨"HMK_REG_SIZE", 0x14200008, [(4, 0x40000), (64, 0x1000)], (.const 0x0),
    [fs 16 11 (.fixed 1), fs 0 11 (.fixed 1)]⟩,
  ⟨"HMK_REG_CFG", 0x1420000C, [(4, 0x40000), (64, 0x1000)], (.const 0x3E8),
    [fs 31 1 (.fixed 1), fs 20 1 (.fixed 1), fs 16 2 (.fixed 1), fs 0 14 (.fixed 1)]⟩,
  ⟨"HMK_REG_STAT", 0x14200010, [(4, 0x40000), (64, 0x1000)], (.const 0x0),
    [fd 16 12 .ro, fd 2 1 .ro, fd 1 1 .ro, fd 0 1 .ro]⟩,
  ⟨"HMK_PC_RECT", 0x14300000, [(64, 0x1000)], (.const 0x0),
    [fd 16 16 .ro, fd 0 16 .ro]⟩,
  ⟨"HMK_PC_SIZE", 0x14300004, [(64, 0x1000)], (.const 0x0),
    [fd 16 16 .ro, fd 0 16 .ro]⟩,
  ⟨"HMK_PC_CFG", 0x14300008, [(64, 0x1000)], (.const 0x0),
    [fd 24 8 .ro, fd 20 2 .ro, fd 0 14 .ro]⟩,
  ⟨"HMK_PC_STAT", 0x1430000C, [(64, 0x1000)], (.const 0x0),
    [fd 31 1 .ro, fd 1 4 .ro, fd 0 1 .ro]⟩,
  ⟨"HMK_PC_EXPIRY_LO", 0x14300010, [(64, 0x1000)], (.const 0x0),
    [fd 0 32 .ro]⟩,
  ⟨"HMK_PC_EXPIRY_HI", 0x14300014, [(64, 0x1000)], (.const 0x0),
    [fd 0 32 .ro]⟩,
  ⟨"HMK_PC_FLOOR", 0x14300018, [(64, 0x1000)], (.const 0x0),
    [fd 0 32 .ro]⟩,
  ⟨"HMK_GLASS_STAT", 0x14340000, [(8, 0x1000)], (.const 0x0),
    [fd 16 16 .ro, fd 0 16 .ro]⟩,
  ⟨"HMK_GLASS_GRP", 0x14340004, [(8, 0x1000)], (.const 0x0),
    [fd 31 1 .ro, fd 16 8 .ro, fd 0 16 .ro]⟩]

/-- The registers of spec/07_weft_chain_link.md: base address, repeat counts and strides, reset word, fields. -/
def RegTable.regs07 : List RegDesc := [
  ⟨"WFT_PORT_CFG", 0x2203F000, [(4, 0x40000)], (.const 0x40203800),
    [fs 24 8 (.fixed 12), fs 16 8 (.fixed 12), fs 14 1 (.fixed 12), fs 12 2 (.fixed 12), fs 10 2 (.fixed 12), fs 0 1 (.fixed 12)]⟩,
  ⟨"WFT_PORT_STAT", 0x2203F004, [(4, 0x40000)], (.const 0x0),
    [fd 28 4 .ro, fd 24 4 .ro, fd 20 4 .ro, fd 16 4 .ro, fd 14 2 .ro, fd 12 2 .ro, fd 10 2 .ro, fd 9 1 .ro, fd 8 1 .ro, fd 4 2 .ro, fd 0 4 .ro]⟩,
  ⟨"WFT_PORT_CMD", 0x2203F008, [(4, 0x40000)], (.const 0x0),
    [fd 0 3 .wo]⟩,
  ⟨"WFT_PORT_ERR_A", 0x2203F00C, [(4, 0x40000)], (.const 0x0),
    [fd 16 16 .rc, fd 0 16 .rc]⟩,
  ⟨"WFT_PORT_ERR_B", 0x2203F010, [(4, 0x40000)], (.const 0x0),
    [fd 16 16 .rc, fd 0 16 .rc]⟩,
  ⟨"WFT_PORT_ERR_C", 0x2203F014, [(4, 0x40000)], (.const 0x0),
    [fd 24 8 .rc, fd 16 8 .rc, fd 0 16 .rc]⟩,
  ⟨"WFT_PORT_ERR_D", 0x2203F018, [(4, 0x40000)], (.const 0x0),
    [fd 16 16 .rc, fd 0 16 .ro]⟩,
  ⟨"WFT_LANE_STAT", 0x22000000, [(4, 0x40000), (4, 0x1000)], (.const 0x0),
    [fd 24 8 .ro, fd 20 4 .ro, fd 16 3 .ro, fd 4 1 .ro, fd 3 1 .ro, fd 2 1 .ro, fd 1 1 .ro]⟩,
  ⟨"WFT_LANE_ERR", 0x22000004, [(4, 0x40000), (4, 0x1000)], (.const 0x0),
    [fd 16 16 .rc, fd 0 16 .rc]⟩,
  ⟨"WFT_LANE_DFE", 0x22000008, [(4, 0x40000), (4, 0x1000)], (.const 0x0),
    [fd 0 6 .ro, fd 6 6 .ro, fd 12 6 .ro, fd 18 6 .ro, fd 24 6 .ro]⟩,
  ⟨"WFT_EYE_CTRL", 0x2200000C, [(4, 0x40000)], (.const 0x0),
    [fd 31 1 .rw, fd 30 1 .ro, fd 16 7 .rw, fd 8 6 .rw, fd 0 4 .rw]⟩,
  ⟨"WFT_EYE_ERR", 0x22000010, [(4, 0x40000)], (.const 0x0),
    [fd 0 32 .ro]⟩]

/-- The registers of spec/08_wheel_time_and_frame_lock.md: base address, repeat counts and strides, reset word, fields. -/
def RegTable.regs08 : List RegDesc := [
  ⟨"WHL_CFG", 0x25FFF000, [], (.const 0x3C03C01),
    [fs 20 12 (.fixed 13), fs 8 8 (.fixed 13), fs 4 2 (.fixed 13), fs 0 2 (.fixed 13)]⟩,
  ⟨"WHL_SWITCH", 0x25FFF004, [], (.const 0x0),
    [fs 0 32 (.fixed 13)]⟩,
  ⟨"WHL_TIMING", 0x25FFF008, [], (.const 0x10A),
    [fs 8 8 (.fixed 13), fs 0 8 (.fixed 13)]⟩,
  ⟨"WHL_STAT", 0x25FFF010, [], (.const 0x1),
    [fd 28 4 .ro, fd 16 12 .ro, fd 9 1 .ro, fd 8 1 .ro, fd 6 2 .ro, fd 4 2 .ro, fd 0 3 .ro]⟩,
  ⟨"WHL_NOW_LO", 0x25FFF014, [], (.const 0x0),
    [fd 0 32 .ro]⟩,
  ⟨"WHL_NOW_HI", 0x25FFF018, [], (.const 0x0),
    [fd 0 32 .ro]⟩,
  ⟨"WHL_ERR", 0x25FFF01C, [], (.const 0x0),
    [fd 16 16 .ro, fd 0 16 .ro]⟩,
  ⟨"WHL_CNT", 0x25FFF020, [], (.const 0x0),
    [fd 24 8 .rc, fd 16 8 .rc, fd 8 8 .rc, fd 0 8 .rc]⟩,
  ⟨"WHL_LOCAL", 0x25FFF024, [], (.const 0x0),
    [fd 0 32 .ro]⟩,
  ⟨"WHL_HOP", 0x2503F000, [(4, 0x40000)], (.const 0x0),
    [fd 31 1 .ro, fd 20 8 .ro, fd 0 20 .ro]⟩]

/-- The registers of spec/09_tile_store_and_lamp_correction.md: base address, repeat counts and strides, reset word, fields. -/
def RegTable.regs09 : List RegDesc := [
  ⟨"DMG_DERATE", 0x14FFF014, [], (.const 0x8000),
    [fd 24 8 .ro, fd 16 8 .ro, fd 0 16 .ro]⟩,
  ⟨"DMG_DERATE_EXT", 0x14FFF018, [], (.const 0x8000),
    [fs 31 1 (.fixed 1), fs 0 16 (.fixed 1)]⟩,
  ⟨"TFS_GEOM", 0x15FFF000, [], (.const 0x1FF03FF),
    [fs 16 10 (.fixed 2), fs 0 11 (.fixed 2)]⟩,
  ⟨"TFS_STORE", 0x15FFF004, [], (.const 0x0),
    [fs 0 17 (.fixed 2)]⟩,
  ⟨"TFS_FEED", 0x15FFF008, [], (.const 0xFA0),
    [fs 0 16 (.fixed 2)]⟩,
  ⟨"TFS_STAT", 0x15FFF00C, [], (.const 0x24),
    [fd 19 13 .ro, fd 16 3 .ro, fd 12 1 .ro, fd 10 2 .ro, fd 4 2 .ro, fd 2 2 .ro, fd 0 2 .ro]⟩,
  ⟨"TFS_SHOW", 0x15FFF010, [], (.const 0x0),
    [fd 0 32 .ro]⟩,
  ⟨"TFS_BACK", 0x15FFF014, [], (.const 0x0),
    [fd 0 32 .ro]⟩,
  ⟨"TFS_CNT", 0x15FFF018, [], (.const 0x0),
    [fd 16 16 .rc, fd 0 16 .rc]⟩,
  ⟨"LMP_CFG", 0x15FFF100, [], (.const 0x2064001C),
    [fs 24 8 (.fixed 3), fs 16 8 (.fixed 3), fs 4 3 (.fixed 3), fs 2 2 (.fixed 3), fs 0 1 (.fixed 3)]⟩,
  ⟨"LMP_TABLE", 0x15FFF104, [], (.const 0x0),
    [fs 0 17 (.fixed 3)]⟩,
  ⟨"LMP_SET01", 0x15FFF108, [], (.const 0x2800190),
    [fs 16 16 (.fixed 3), fs 0 16 (.fixed 3)]⟩,
  ⟨"LMP_SET23", 0x15FFF10C, [], (.const 0x4600370),
    [fs 16 16 (.fixed 3), fs 0 16 (.fixed 3)]⟩,
  ⟨"LMP_DERATE", 0x15FFF110, [], (.const 0x80008000),
    [fd 16 16 .ro, fd 0 16 .ro]⟩,
  ⟨"LMP_WALLMIN", 0x15FFF114, [], (.const 0xFFFF8000),
    [fd 16 16 .ro, fd 0 16 .ro]⟩,
  ⟨"LMP_STAT", 0x15FFF118, [], (.const 0x0),
    [fd 16 16 .ro, fd 4 1 .ro, fd 0 4 .ro]⟩,
  ⟨"LMP_DEC", 0x15000000, [(12, 0x1000), (1024, 0x4)], .dec,
    [fs 0 16 (.fixed 3)]⟩,
  ⟨"LMP_SNS_CFG", 0x15040000, [(16, 0x1000)], (.const 0x48),
    [fs 31 1 (.fixed 3), fs 8 8 (.fixed 3), fs 0 7 (.fixed 3)]⟩,
  ⟨"LMP_SNS_STAT", 0x15040004, [(16, 0x1000)], (.const 0x0),
    [fd 18 2 .ro, fd 16 1 .ro, fd 0 16 .ro]⟩,
  ⟨"LMP_ZONE_MASK", 0x15080000, [(16, 0x1000)], (.const 0x0),
    [fs 0 16 (.fixed 3)]⟩,
  ⟨"LMP_ZONE_STAT", 0x15080004, [(16, 0x1000)], (.const 0x0),
    [fd 30 2 .ro, fd 16 12 .ro, fd 0 12 .ro]⟩,
  ⟨"LMP_ZONE_TEMP", 0x15080008, [(16, 0x1000)], (.const 0x0),
    [fd 0 16 .ro]⟩]

/-- The registers of spec/10_led_driver_ports.md: base address, repeat counts and strides, reset word, fields. -/
def RegTable.regs10 : List RegDesc := [
  ⟨"DRV_GRP_CFG", 0x2303F000, [(8, 0x40000)], (.const 0x31F18),
    [fs 31 1 .driver, fs 29 2 .driver, fs 28 1 .driver, fs 27 1 .driver, fs 26 1 .driver, fs 25 1 .driver, fs 24 1 .driver, fs 22 2 .driver, fs 21 1 .driver, fs 16 3 .driver, fs 8 6 .driver, fs 0 6 .driver]⟩,
  ⟨"DRV_GRP_ORIGIN", 0x2303F004, [(8, 0x40000)], (.const 0x0),
    [fs 16 10 .driver, fs 0 11 .driver]⟩,
  ⟨"DRV_GRP_CLK", 0x2303F008, [(8, 0x40000)], (.const 0x90014),
    [fs 16 11 .driver, fs 0 8 .driver]⟩,
  ⟨"DRV_GRP_REFRESH", 0x2303F00C, [(8, 0x40000)], (.const 0xC81006),
    [fs 16 16 .driver, fs 8 8 .driver, fs 0 3 .driver]⟩,
  ⟨"DRV_GRP_KNEE", 0x2303F010, [(8, 0x40000)], (.const 0x3C200040),
    [fs 24 8 .driver, fs 16 8 .driver, fs 0 9 .driver]⟩,
  ⟨"DRV_GRP_ZONE", 0x2303F014, [(8, 0x40000)], (.const 0xFFFFFF),
    [fs 16 10 .driver, fs 0 16 .driver]⟩,
  ⟨"DRV_GRP_CREF", 0x2303F018, [(8, 0x40000)], (.const 0x1FFF),
    [fs 0 14 .driver]⟩,
  ⟨"DRV_GRP_LAMP", 0x2303F01C, [(8, 0x40000)], (.const 0x10000000),
    [fs 18 14 .driver, fs 0 17 .driver]⟩,
  ⟨"DRV_GRP_STAT", 0x2303F020, [(8, 0x40000)], (.const 0x0),
    [fd 28 4 .ro, fd 27 1 .ro, fd 26 1 .ro, fd 25 1 .ro, fd 24 1 .ro, fd 23 1 .ro, fd 16 4 .ro, fd 0 14 .ro]⟩,
  ⟨"DRV_GRP_FACTOR", 0x2303F024, [(8, 0x40000)], (.const 0x8000),
    [fd 16 10 .ro, fd 0 16 .ro]⟩,
  ⟨"DRV_GRP_TEMP", 0x2303F028, [(8, 0x40000)], (.const 0x80000000),
    [fd 16 16 .ro, fd 0 16 .ro]⟩,
  ⟨"DRV_GRP_CNT", 0x2303F02C, [(8, 0x40000)], (.const 0x0),
    [fd 16 16 .rc, fd 8 8 .rc, fd 0 8 .rc]⟩,
  ⟨"DRV_GRP_LAMPS", 0x2303F030, [(8, 0x40000)], (.const 0x0),
    [fd 16 16 .ro, fd 0 16 .ro]⟩,
  ⟨"DRV_GRP_UNVER", 0x2303F034, [(8, 0x40000)], (.const 0x0),
    [fd 0 20 .ro]⟩,
  ⟨"DRV_PROF_STAT", 0x23FFF000, [], (.const 0x0),
    [fd 4 4 .ro, fd 0 4 .ro]⟩,
  ⟨"DRV_PROF", 0x23FFF100, [(4, 0x40), (12, 0x4)], (.const 0x0),
    [fd 0 32 .ro]⟩]

/-- The registers of spec/11_assay_and_self_trim.md: base address, repeat counts and strides, reset word, fields. -/
def RegTable.regs11 : List RegDesc := [
  ⟨"ASY_RUN", 0x24FFF000, [], (.const 0x0),
    [fd 31 1 .rw, fd 30 1 .rw, fd 16 8 .rw, fd 15 1 .rw, fd 0 12 .rw]⟩,
  ⟨"ASY_REF", 0x24FFF004, [], (.const 0x1312D0),
    [fd 0 21 .rw]⟩,
  ⟨"ASY_STAT", 0x24FFF008, [], (.const 0x0),
    [fd 28 4 .ro, fd 24 4 .ro, fd 20 4 .ro, fd 19 1 .ro, fd 18 1 .ro, fd 17 1 .ro, fd 16 1 .ro, fd 15 1 .ro, fd 0 15 .ro]⟩,
  ⟨"ASY_TEMP", 0x24FFF00C, [], (.const 0x0),
    [fd 16 16 .ro, fd 0 16 .ro]⟩,
  ⟨"ASY_ADC", 0x24FFF010, [], (.const 0x0),
    [fd 16 16 .ro, fd 0 16 .ro]⟩,
  ⟨"ASY_CREF", 0x24000000, [(8, 0x40000)], (.const 0x0),
    [fd 16 16 .ro, fd 0 16 .ro]⟩,
  ⟨"ASY_CREF_RAW", 0x24000004, [(8, 0x40000)], (.const 0x0),
    [fd 0 14 .ro]⟩,
  ⟨"ASY_DUTY", 0x24000008, [(8, 0x40000)], (.const 0x0),
    [fd 8 10 .ro, fd 0 8 .ro]⟩]

/-- The registers of spec/12_memory_system.md: base address, repeat counts and strides, reset word, fields. -/
def RegTable.regs12 : List RegDesc := [
  ⟨"DMC_CFG", 0x12FFF000, [], (.const 0x180100),
    [fs 16 8 (.fixed 1), fs 0 16 (.fixed 1)]⟩,
  ⟨"DMC_AGE_A", 0x12FFF004, [], (.const 0xC80064),
    [fs 16 16 (.fixed 1), fs 0 16 (.fixed 1)]⟩,
  ⟨"DMC_AGE_B", 0x12FFF008, [], (.const 0x7D00190),
    [fs 16 16 (.fixed 1), fs 0 16 (.fixed 1)]⟩,
  ⟨"DMC_STAT", 0x12FFF00C, [], (.const 0x0),
    [fd 28 4 .ro, fd 24 4 .ro, fd 16 8 .ro, fd 0 3 .ro]⟩,
  ⟨"DMC_TRAIN", 0x12FFF010, [], (.const 0x0),
    [fd 0 16 .ro]⟩,
  ⟨"DMC_ECC_CNT", 0x12FFF014, [], (.const 0x0),
    [fd 16 16 .rc, fd 0 16 .rc]⟩,
  ⟨"DMC_ECC_LAST", 0x12FFF018, [], (.const 0x0),
    [fd 31 1 .ro, fd 27 4 .ro, fd 0 27 .ro]⟩,
  ⟨"DMC_SCRUB", 0x12FFF01C, [], (.const 0x0),
    [fd 0 27 .ro]⟩,
  ⟨"DMC_MAPERR", 0x12FFF020, [], (.const 0x0),
    [fd 0 16 .rc]⟩,
  ⟨"DMC_WIN_BASE", 0x12200000, [(8, 0x1000)], (.const 0x0),
    [fd 0 17 .ro]⟩,
  ⟨"DMC_WIN_SIZE", 0x12200004, [(8, 0x1000)], (.const 0x0),
    [fd 0 18 .ro]⟩,
  ⟨"DMC_WIN_CFG", 0x12200008, [(8, 0x1000)], (.const 0x0),
    [fd 31 1 .ro, fd 8 2 .ro, fd 0 4 .ro]⟩,
  ⟨"DMC_CH_STAT", 0x1203F000, [(8, 0x40000)], (.const 0xFF000000),
    [fd 24 8 .ro, fd 8 8 .ro, fd 2 2 .ro, fd 0 2 .ro]⟩,
  ⟨"DMC_CH_CLASS", 0x1203F004, [(8, 0x40000)], (.const 0x0),
    [fd 16 16 .rc, fd 0 16 .rc]⟩,
  ⟨"SRB_PWR", 0x10400000, [(6, 0x1000)], (.const 0x0),
    [fd 8 1 .ro, fd 4 2 .ro, fd 0 2 .rw]⟩,
  ⟨"SRB_STAT", 0x10400004, [(6, 0x1000)], (.const 0x0),
    [fd 18 14 .rc, fd 0 18 .ro]⟩,
  ⟨"SRB_TEST_CTRL", 0x1043F000, [], (.const 0x80003D0A),
    [fd 31 1 .rw, fd 8 6 .rw, fd 0 8 .rw]⟩,
  ⟨"SRB_TEST_POS", 0x1043F004, [], (.const 0x0),
    [fd 31 1 .ro, fd 16 3 .ro, fd 0 13 .ro]⟩,
  ⟨"SRB_TEST_STAT", 0x1043F008, [], (.const 0x0),
    [fd 16 16 .rc, fd 8 8 .rc, fd 0 8 .rc]⟩,
  ⟨"SRB_TEST_FAIL", 0x1043F00C, [], (.const 0x0),
    [fd 31 1 .ro, fd 16 3 .ro, fd 0 13 .ro]⟩]

/-- The registers of spec/13_tally_check_units.md: base address, repeat counts and strides, reset word, fields. -/
def RegTable.regs13 : List RegDesc := [
  ⟨"TLY_CL_CFG", 0x1603F000, [(4, 0x40000)], (.const 0x0),
    [fs 2 1 (.fixed 1), fs 0 2 (.fixed 1)]⟩,
  ⟨"TLY_CL_STAT", 0x1603F004, [(4, 0x40000)], (.const 0x0),
    [fd 4 4 .ro, fd 0 3 .ro]⟩,
  ⟨"TLY_U_CFG", 0x16000000, [(4, 0x40000), (8, 0x1000)], (.const 0x1A0),
    [fs 8 1 (.fixed 1), fs 7 1 (.fixed 1), fs 0 7 (.fixed 1)]⟩,
  ⟨"TLY_U_POLY_LO", 0x16000004, [(4, 0x40000), (8, 0x1000)], (.const 0x1EDC6F41),
    [fs 0 32 (.fixed 1)]⟩,
  ⟨"TLY_U_POLY_HI", 0x16000008, [(4, 0x40000), (8, 0x1000)], (.const 0x0),
    [fs 0 32 (.fixed 1)]⟩,
  ⟨"TLY_U_INIT_LO", 0x1600000C, [(4, 0x40000), (8, 0x1000)], (.const 0xFFFFFFFF),
    [fs 0 32 (.fixed 1)]⟩,
  ⟨"TLY_U_INIT_HI", 0x16000010, [(4, 0x40000), (8, 0x1000)], (.const 0x0),
    [fs 0 32 (.fixed 1)]⟩,
  ⟨"TLY_U_XOR_LO", 0x16000014, [(4, 0x40000), (8, 0x1000)], (.const 0xFFFFFFFF),
    [fs 0 32 (.fixed 1)]⟩,
  ⟨"TLY_U_XOR_HI", 0x16000018, [(4, 0x40000), (8, 0x1000)], (.const 0x0),
    [fs 0 32 (.fixed 1)]⟩,
  ⟨"TLY_U_DATA1", 0x16000020, [(4, 0x40000), (8, 0x1000)], (.const 0x0),
    [fd 0 8 .wo]⟩,
  ⟨"TLY_U_DATA2", 0x16000024, [(4, 0x40000), (8, 0x1000)], (.const 0x0),
    [fd 0 16 .wo]⟩,
  ⟨"TLY_U_DATA4", 0x16000028, [(4, 0x40000), (8, 0x1000)], (.const 0x0),
    [fd 0 32 .wo]⟩,
  ⟨"TLY_U_CTRL", 0x1600002C, [(4, 0x40000), (8, 0x1000)], (.const 0x0),
    [fd 0 1 .wo]⟩,
  ⟨"TLY_U_RES_LO", 0x16000030, [(4, 0x40000), (8, 0x1000)], (.const 0x0),
    [fd 0 32 .ro]⟩,
  ⟨"TLY_U_RES_HI", 0x16000034, [(4, 0x40000), (8, 0x1000)], (.const 0x0),
    [fd 0 32 .ro]⟩,
  ⟨"TLY_U_STAT", 0x16000038, [(4, 0x40000), (8, 0x1000)], (.const 0x0),
    [fd 31 1 .ro, fd 0 31 .ro]⟩,
  ⟨"TLY_MS_ADDR_LO", 0x16100000, [(4, 0x1000)], (.const 0x0),
    [fd 0 32 .rw]⟩,
  ⟨"TLY_MS_ADDR_HI", 0x16100004, [(4, 0x1000)], (.const 0x0),
    [fd 0 1 .rw]⟩,
  ⟨"TLY_MS_LEN", 0x16100008, [(4, 0x1000)], (.const 0x0),
    [fd 0 32 .rw]⟩,
  ⟨"TLY_MS_CFG", 0x1610000C, [(4, 0x1000)], (.const 0x0),
    [fd 31 1 .rw, fd 30 1 .rw, fd 16 2 .rw, fd 8 1 .rw]⟩,
  ⟨"TLY_MS_EXP_LO", 0x16100010, [(4, 0x1000)], (.const 0x0),
    [fd 0 32 .rw]⟩,
  ⟨"TLY_MS_EXP_HI", 0x16100014, [(4, 0x1000)], (.const 0x0),
    [fd 0 32 .rw]⟩,
  ⟨"TLY_MS_RES_LO", 0x16100018, [(4, 0x1000)], (.const 0x0),
    [fd 0 32 .ro]⟩,
  ⟨"TLY_MS_RES_HI", 0x1610001C, [(4, 0x1000)], (.const 0x0),
    [fd 0 32 .ro]⟩,
  ⟨"TLY_MS_STAT", 0x16100020, [(4, 0x1000)], (.const 0x0),
    [fd 31 1 .ro, fd 30 1 .ro, fd 29 1 .ro, fd 28 1 .ro, fd 0 16 .ro]⟩,
  ⟨"TLY_MS_POS", 0x16100024, [(4, 0x1000)], (.const 0x0),
    [fd 0 27 .ro]⟩,
  ⟨"TLY_IRQ", 0x16FFF000, [], (.const 0x0),
    [fd 8 4 .w1c, fd 4 4 .w1c, fd 0 4 .w1c]⟩,
  ⟨"TLY_IRQ_EN", 0x16FFF004, [], (.const 0x0),
    [fd 0 12 .rw]⟩]

/-- The registers of spec/14_spindle_failover.md: base address, repeat counts and strides, reset word, fields. -/
def RegTable.regs14 : List RegDesc := [
  ⟨"SPN_CFG", 0x14FFF200, [], (.const 0x69040308),
    [fs 24 8 (.fixed 1), fs 16 8 (.fixed 1), fs 8 8 (.fixed 1), fs 0 7 (.fixed 1)]⟩,
  ⟨"SPN_CFG2", 0x14FFF204, [], (.const 0x40640064),
    [fs 30 2 (.fixed 1), fs 16 14 (.fixed 1), fs 0 14 (.fixed 1)]⟩,
  ⟨"SPN_STAT", 0x14FFF208, [], (.const 0x0),
    [fd 28 4 .ro, fd 24 4 .ro, fd 20 4 .ro, fd 16 4 .ro, fd 7 1 .ro, fd 6 1 .ro, fd 5 1 .ro, fd 4 1 .ro, fd 0 2 .ro]⟩,
  ⟨"SPN_EPOCH", 0x14FFF20C, [], (.const 0x0),
    [fd 0 32 .ro]⟩,
  ⟨"SPN_GEN_OFS", 0x14FFF210, [], (.const 0x0),
    [fd 0 32 .ro]⟩,
  ⟨"SPN_DRILL_OUT", 0x14FFF214, [], (.const 0x0),
    [fd 0 32 .wo]⟩,
  ⟨"SPN_DRILL_BACK", 0x14FFF218, [], (.const 0x0),
    [fd 0 32 .wo]⟩,
  ⟨"SPN_DRILL_STAT", 0x14FFF21C, [], (.const 0x0),
    [fd 28 4 .ro, fd 16 4 .ro]⟩,
  ⟨"SPN_WDOG", 0x14FFF220, [], (.const 0x0),
    [fd 16 16 .wo]⟩,
  ⟨"SPN_CNT", 0x14FFF224, [], (.const 0x0),
    [fd 24 8 .rc, fd 16 8 .rc, fd 8 8 .rc, fd 0 8 .rc]⟩,
  ⟨"SPN_TILE_MASTER", 0x14FFF230, [], (.const 0x0),
    [fd 31 1 .ro, fd 8 2 .ro, fd 0 1 .ro]⟩,
  ⟨"SPN_TILE_EPOCH", 0x14FFF234, [], (.const 0x0),
    [fd 0 32 .ro]⟩,
  ⟨"SPN_TILE_SEEN", 0x14FFF238, [], (.const 0xFFFFFFFF),
    [fd 16 16 .ro, fd 0 16 .ro]⟩,
  ⟨"SPN_TILE_LOSER", 0x14FFF23C, [], (.const 0x0),
    [fd 0 16 .rc]⟩]

/-- The registers of spec/15_trust_keys_and_update.md: base address, repeat counts and strides, reset word, fields. -/
def RegTable.regs15 : List RegDesc := [
  ⟨"TRS_STAT", 0x13FFF000, [], (.const 0x0),
    [fd 31 1 .ro, fd 30 1 .ro, fd 29 1 .ro, fd 24 3 .ro, fd 20 4 .ro, fd 16 4 .ro, fd 0 9 .ro]⟩,
  ⟨"TRS_NONCE_LO", 0x13FFF004, [], (.const 0x0),
    [fd 0 32 .ro]⟩,
  ⟨"TRS_NONCE_HI", 0x13FFF008, [], (.const 0x0),
    [fd 0 32 .ro]⟩,
  ⟨"TRS_SEQ_LO", 0x13FFF00C, [], (.const 0x0),
    [fd 0 32 .ro]⟩,
  ⟨"TRS_SEQ_HI", 0x13FFF010, [], (.const 0x0),
    [fd 0 32 .ro]⟩,
  ⟨"TRS_ENV_STAT", 0x13FFF014, [], (.const 0x0),
    [fd 28 4 .ro, fd 0 16 .ro]⟩,
  ⟨"TRS_SERIAL", 0x13FFF018, [], (.const 0x0),
    [fd 0 32 .ro]⟩,
  ⟨"TRS_WALL_ID", 0x13FFF01C, [], (.const 0x0),
    [fd 0 32 .ro]⟩,
  ⟨"TRS_ENROL", 0x13FFF020, [], (.const 0x0),
    [fd 31 1 .ro, fd 16 8 .rc, fd 12 4 .ro, fd 0 7 .ro]⟩,
  ⟨"TRS_ID_PUB", 0x13FFF040, [(16, 0x4)], (.const 0x0),
    [fd 0 32 .ro]⟩,
  ⟨"TRS_OWNER", 0x13FFF080, [(8, 0x4)], (.const 0x0),
    [fd 0 32 .ro]⟩,
  ⟨"TRS_OPKEY", 0x13FFF100, [(4, 0x20), (8, 0x4)], (.const 0x0),
    [fs 0 32 (.fixed 1)]⟩,
  ⟨"CHT_PORTER", 0x10FFF110, [], (.const 0x0),
    [fd 28 4 .ro, fd 24 4 .ro, fd 16 8 .ro, fd 14 2 .ro]⟩,
  ⟨"CHT_XFER", 0x10FFF114, [], (.const 0x0),
    [fd 0 32 .ro]⟩,
  ⟨"CHT_BLOCKS", 0x10FFF118, [], (.const 0x0),
    [fd 16 16 .ro, fd 0 16 .ro]⟩,
  ⟨"CHT_BLOCK_ERR", 0x10FFF11C, [], (.const 0x0),
    [fd 16 16 .rc, fd 0 16 .rc]⟩,
  ⟨"CHT_TRIAL", 0x10FFF120, [], (.const 0x0),
    [fd 16 16 .ro, fd 10 2 .ro, fd 8 2 .ro, fd 0 1 .ro]⟩,
  ⟨"CHT_CONFIRM", 0x10FFF124, [], (.const 0x0),
    [fd 16 16 .wo]⟩]

/-- The registers of spec/16_counter_port_events_and_dump.md: base address, repeat counts and strides, reset word, fields. -/
def RegTable.regs16 : List RegDesc := [
  ⟨"SYS_ALERT", 0x10FFF050, [], (.const 0x0),
    [fd 0 20 .w1c]⟩,
  ⟨"SYS_ALERT_MASK", 0x10FFF054, [], (.const 0xFFFFF),
    [fd 0 20 .rw]⟩,
  ⟨"SYS_PRESET", 0x10FFF058, [], (.const 0x0),
    [fs 31 1 (.fixed 1), fs 16 6 (.fixed 1), fd 8 6 .ro, fd 7 1 .ro, fd 0 6 .ro]⟩,
  ⟨"SYS_FATAL", 0x10FFF060, [], (.const 0x0),
    [fd 16 16 .wo, fd 0 16 .wo]⟩,
  ⟨"SYS_DUMP_CFG", 0x10FFF064, [], (.const 0x3C0004),
    [fs 16 16 (.fixed 1), fs 2 1 (.fixed 1), fs 0 2 (.fixed 1)]⟩,
  ⟨"SYS_DUMP_STAT", 0x10FFF068, [], (.const 0x0),
    [fd 31 1 .ro, fd 16 8 .ro]⟩,
  ⟨"CTR_CFG", 0x10FFF200, [], (.const 0x4),
    [fd 0 4 .rw]⟩,
  ⟨"CTR_STAT", 0x10FFF204, [], (.const 0x0),
    [fd 30 2 .ro, fd 2 1 .ro, fd 1 1 .ro, fd 0 1 .ro]⟩,
  ⟨"CTR_CMD", 0x10FFF208, [], (.const 0x0),
    [fd 28 4 .ro, fd 0 16 .ro]⟩,
  ⟨"CTR_EVT_CUR", 0x10FFF20C, [], (.const 0x0),
    [fd 0 32 .ro]⟩,
  ⟨"CTR_EVT_LOST", 0x10FFF210, [], (.const 0x0),
    [fd 16 16 .ro, fd 0 16 .ro]⟩,
  ⟨"CTR_RMT_STAT", 0x10FFF214, [], (.const 0x0),
    [fd 31 1 .ro, fd 29 2 .ro, fd 24 5 .ro, fd 0 12 .ro]⟩,
  ⟨"CTR_EVT_RCUR", 0x10FFF218, [], (.const 0x0),
    [fd 0 32 .ro]⟩,
  ⟨"CTR_RMT_DATA", 0x10FFF240, [(16, 0x4)], (.const 0x0),
    [fd 0 32 .ro]⟩,
  ⟨"EVT_CFG", 0x10FFF300, [], (.const 0xA02),
    [fs 8 8 (.fixed 1), fs 0 2 (.fixed 1)]⟩,
  ⟨"EVT_LI", 0x10FFF304, [], (.const 0x0),
    [fd 0 32 .ro]⟩,
  ⟨"EVT_RLI", 0x10FFF308, [], (.const 0x0),
    [fd 0 32 .ro]⟩,
  ⟨"EVT_RD_FW", 0x10FFF30C, [], (.const 0x0),
    [fd 0 32 .rw]⟩,
  ⟨"EVT_LOST_FW", 0x10FFF310, [], (.const 0x0),
    [fd 0 16 .rc]⟩]

/-- The registers of spec/17_balls_electrical_thermal.md: base address, repeat counts and strides, reset word, fields. -/
def RegTable.regs17 : List RegDesc := [
  ⟨"SYS_PD_STATE", 0x20FFF100, [(11, 0x4)], (.const 0x0),
    [fd 0 2 .ro, fd 2 2 .ro, fd 4 2 .ro, fd 6 2 .ro, fd 8 2 .ro, fd 10 2 .ro, fd 12 2 .ro, fd 14 2 .ro, fd 16 2 .ro, fd 18 2 .ro, fd 20 2 .ro, fd 22 2 .ro, fd 24 2 .ro, fd 26 2 .ro, fd 28 2 .ro, fd 30 2 .ro]⟩]

/-- Every register of the device, chapter by chapter. -/
def RegTable.all : List RegDesc :=
  RegTable.regs01 ++ RegTable.regs02 ++ RegTable.regs03 ++ RegTable.regs04 ++ RegTable.regs05 ++ RegTable.regs06 ++ RegTable.regs07 ++ RegTable.regs08 ++ RegTable.regs09 ++ RegTable.regs10 ++ RegTable.regs11 ++ RegTable.regs12 ++ RegTable.regs13 ++ RegTable.regs14 ++ RegTable.regs15 ++ RegTable.regs16 ++ RegTable.regs17

/-- The instance numbers that the offset `off` from a register's base names, if it names an instance: at most two
levels of repetition, the outer one first. -/
def instanceOf : List (Nat × Nat) → Nat → Option (List Nat)
  | [], off => if off = 0 then some [] else none
  | (count, stride) :: rest, off =>
    if off / stride < count then (instanceOf rest (off % stride)).map (off / stride :: ·) else none

/-- The instance of `d` at address `a`. -/
def RegDesc.inst (d : RegDesc) (a : Nat) : Option (List Nat) :=
  if d.base ≤ a then instanceOf d.dims (a - d.base) else none

/-- The register at address `a`, with its instance numbers; none where no register stands (R12, R35). -/
def findReg (a : Nat) : Option (RegDesc × List Nat) :=
  RegTable.all.findSome? fun d => (d.inst a).map fun ix => (d, ix)

/-- The reset word of an instance of a register (R13). -/
def ResetWord.word (r : ResetWord) (ix : List Nat) : Word :=
  match r with
  | .const w => BitVec.ofNat 32 w
  | .ilut => BitVec.ofNat 32 (ix.getD 1 0 * 1025)
  | .olut => BitVec.ofNat 32 (ix.getD 0 0 % 4 * 1024 + ix.getD 1 0)
  | .dec =>
    let e := ix.getD 0 0 % 4 * 1024 + ix.getD 1 0
    BitVec.ofNat 32 (e * 16 + e / 256)
  | .serves => BitVec.ofNat 32 (2 ^ (16 + ix.getD 0 0))

/-- The reset word of the register at an address; an unoccupied address reads 0 (R12). -/
def resetWordAt (a : Nat) : Word :=
  match findReg a with
  | some (d, ix) => d.reset.word ix
  | none => 0

/-- The commit group of a field of the instance `ix` (R58). -/
def FieldDesc.groupOf (f : FieldDesc) (ix : List Nat) : Option Nat :=
  match f.group with
  | .none => none
  | .fixed g => some g
  | .driver => some (4 + ix.getD 0 0)

/-- The bits of a register's fields that satisfy a test. -/
def maskWhere (d : RegDesc) (p : FieldDesc → Bool) : Word :=
  d.fields.foldl (fun m f => if p f then m ||| fieldMask f.lo f.width else m) 0

/-- What a write of `v` leaves in a word that held `old`: RW and RS bits take the new value, W1C bits that are written 1
clear, and RO, WO, RC and reserved bits keep what they hold (R11, R12). -/
def RegDesc.merge (d : RegDesc) (old v : Word) : Word :=
  let wr := maskWhere d fun f => f.access == .rw || f.access == .rs
  let w1 := maskWhere d fun f => f.access == .w1c
  (old &&& ~~~wr &&& ~~~(w1 &&& v)) ||| (v &&& wr)

/-- What a firmware read returns of a word that holds `v`: WO bits read 0 (R11). -/
def RegDesc.visible (d : RegDesc) (v : Word) : Word := v &&& ~~~(maskWhere d fun f => f.access == .wo)

/-- What a firmware read leaves behind: RC fields clear (R11). -/
def RegDesc.afterRead (d : RegDesc) (v : Word) : Word := v &&& ~~~(maskWhere d fun f => f.access == .rc)

/-- The commit groups of a register's staged fields. -/
def RegDesc.groups (d : RegDesc) (ix : List Nat) : List Nat := d.fields.filterMap (·.groupOf ix)

/-- The bits of a register that belong to commit group `g`. -/
def RegDesc.groupMask (d : RegDesc) (ix : List Nat) (g : Nat) : Word :=
  maskWhere d fun f => f.groupOf ix == some g

/-! The fields the meanings name, one accessor each: address, lowest bit, width, reset word of the register. -/

def RegAddr.SYS_ROLE : Nat := 0x10FFF000
def Reg.SYS_ROLE_PROTECTED : Fld := ⟨RegAddr.SYS_ROLE, 12, 1, 0x0⟩
def Reg.SYS_ROLE_GROUP : Fld := ⟨RegAddr.SYS_ROLE, 8, 4, 0x0⟩
def Reg.SYS_ROLE_RANK : Fld := ⟨RegAddr.SYS_ROLE, 4, 1, 0x0⟩
def Reg.SYS_ROLE_ROLE : Fld := ⟨RegAddr.SYS_ROLE, 0, 2, 0x0⟩
def RegAddr.SYS_WALL : Nat := 0x10FFF004
def Reg.SYS_WALL_VALID : Fld := ⟨RegAddr.SYS_WALL, 31, 1, 0x0⟩
def Reg.SYS_WALL_ADDR : Fld := ⟨RegAddr.SYS_WALL, 0, 12, 0x0⟩
def RegAddr.SYS_SKEIN (i : Nat) : Nat := 0x10FFF010 + i * 0x10000000
def Reg.SYS_SKEIN_UP (i : Nat) : Fld := ⟨(RegAddr.SYS_SKEIN i), 31, 1, 0x80000000⟩
def Reg.SYS_SKEIN_FAULT (i : Nat) : Fld := ⟨(RegAddr.SYS_SKEIN i), 30, 1, 0x80000000⟩
def Reg.SYS_SKEIN_DOUBLE_REPLAY (i : Nat) : Fld := ⟨(RegAddr.SYS_SKEIN i), 16, 8, 0x80000000⟩
def Reg.SYS_SKEIN_REPLAY (i : Nat) : Fld := ⟨(RegAddr.SYS_SKEIN i), 0, 16, 0x80000000⟩
def RegAddr.CHT_STATUS : Nat := 0x10FFF100
def Reg.CHT_STATUS_RECORD : Fld := ⟨RegAddr.CHT_STATUS, 16, 16, 0x0⟩
def Reg.CHT_STATUS_ERR : Fld := ⟨RegAddr.CHT_STATUS, 8, 8, 0x0⟩
def Reg.CHT_STATUS_SLOW : Fld := ⟨RegAddr.CHT_STATUS, 7, 1, 0x0⟩
def Reg.CHT_STATUS_SLOT : Fld := ⟨RegAddr.CHT_STATUS, 4, 2, 0x0⟩
def Reg.CHT_STATUS_STATE : Fld := ⟨RegAddr.CHT_STATUS, 0, 4, 0x0⟩
def RegAddr.SYS_COMMIT : Nat := 0x10FFF020
def RegAddr.SYS_COMMIT_STAT : Nat := 0x10FFF024
def Reg.SYS_COMMIT_STAT_DONE : Fld := ⟨RegAddr.SYS_COMMIT_STAT, 16, 16, 0x0⟩
def Reg.SYS_COMMIT_STAT_ARMED : Fld := ⟨RegAddr.SYS_COMMIT_STAT, 0, 16, 0x0⟩
def RegAddr.SYS_COMMIT_ERR : Nat := 0x10FFF028
def Reg.SYS_COMMIT_ERR_LATE : Fld := ⟨RegAddr.SYS_COMMIT_ERR, 16, 16, 0x0⟩
def Reg.SYS_COMMIT_ERR_REFUSED : Fld := ⟨RegAddr.SYS_COMMIT_ERR, 0, 16, 0x0⟩
def RegAddr.SYS_START : Nat := 0x10FFF040
def Reg.SYS_START_LEDGER_NONE : Fld := ⟨RegAddr.SYS_START, 22, 1, 0x1⟩
def Reg.SYS_START_LEDGER_PENDING : Fld := ⟨RegAddr.SYS_START, 21, 1, 0x1⟩
def Reg.SYS_START_LEDGER_BANK : Fld := ⟨RegAddr.SYS_START, 20, 1, 0x1⟩
def Reg.SYS_START_BOOT : Fld := ⟨RegAddr.SYS_START, 16, 2, 0x1⟩
def Reg.SYS_START_COLD_WHY : Fld := ⟨RegAddr.SYS_START, 8, 6, 0x1⟩
def Reg.SYS_START_CAUSE : Fld := ⟨RegAddr.SYS_START, 4, 3, 0x1⟩
def Reg.SYS_START_TYPE : Fld := ⟨RegAddr.SYS_START, 0, 2, 0x1⟩
def RegAddr.SYS_RESTART : Nat := 0x10FFF044
def RegAddr.DPI_PORT_CFG (i : Nat) : Nat := 0x2103F000 + i * 0x40000
def Reg.DPI_PORT_CFG_FOM_MIN (i : Nat) : Fld := ⟨(RegAddr.DPI_PORT_CFG i), 8, 8, 0x4000⟩
def Reg.DPI_PORT_CFG_PAIR (i : Nat) : Fld := ⟨(RegAddr.DPI_PORT_CFG i), 1, 1, 0x4000⟩
def Reg.DPI_PORT_CFG_ENABLE (i : Nat) : Fld := ⟨(RegAddr.DPI_PORT_CFG i), 0, 1, 0x4000⟩
def RegAddr.DPI_PORT_STAT (i : Nat) : Nat := 0x2103F004 + i * 0x40000
def Reg.DPI_PORT_STAT_REFUSE (i : Nat) : Fld := ⟨(RegAddr.DPI_PORT_STAT i), 28, 4, 0x0⟩
def Reg.DPI_PORT_STAT_REASON (i : Nat) : Fld := ⟨(RegAddr.DPI_PORT_STAT i), 16, 4, 0x0⟩
def Reg.DPI_PORT_STAT_PAIRED (i : Nat) : Fld := ⟨(RegAddr.DPI_PORT_STAT i), 14, 1, 0x0⟩
def Reg.DPI_PORT_STAT_LIVE (i : Nat) : Fld := ⟨(RegAddr.DPI_PORT_STAT i), 13, 1, 0x0⟩
def Reg.DPI_PORT_STAT_ADMITTED (i : Nat) : Fld := ⟨(RegAddr.DPI_PORT_STAT i), 12, 1, 0x0⟩
def Reg.DPI_PORT_STAT_BPC (i : Nat) : Fld := ⟨(RegAddr.DPI_PORT_STAT i), 10, 2, 0x0⟩
def Reg.DPI_PORT_STAT_FORMAT (i : Nat) : Fld := ⟨(RegAddr.DPI_PORT_STAT i), 8, 2, 0x0⟩
def Reg.DPI_PORT_STAT_RATE (i : Nat) : Fld := ⟨(RegAddr.DPI_PORT_STAT i), 6, 2, 0x0⟩
def Reg.DPI_PORT_STAT_LANES (i : Nat) : Fld := ⟨(RegAddr.DPI_PORT_STAT i), 4, 2, 0x0⟩
def Reg.DPI_PORT_STAT_LINK (i : Nat) : Fld := ⟨(RegAddr.DPI_PORT_STAT i), 0, 4, 0x0⟩
def RegAddr.DPI_PORT_TIMING (i : Nat) : Nat := 0x2103F008 + i * 0x40000
def Reg.DPI_PORT_TIMING_V_ACTIVE (i : Nat) : Fld := ⟨(RegAddr.DPI_PORT_TIMING i), 16, 13, 0x0⟩
def Reg.DPI_PORT_TIMING_H_ACTIVE (i : Nat) : Fld := ⟨(RegAddr.DPI_PORT_TIMING i), 0, 13, 0x0⟩
def RegAddr.DPI_PORT_RATE (i : Nat) : Nat := 0x2103F00C + i * 0x40000
def Reg.DPI_PORT_RATE_RATE (i : Nat) : Fld := ⟨(RegAddr.DPI_PORT_RATE i), 0, 24, 0x0⟩
def RegAddr.DPI_PORT_FOM (i : Nat) : Nat := 0x2103F010 + i * 0x40000
def Reg.DPI_PORT_FOM_FOM_0 (i : Nat) : Fld := ⟨(RegAddr.DPI_PORT_FOM i), 0, 8, 0x0⟩
def Reg.DPI_PORT_FOM_FOM_1 (i : Nat) : Fld := ⟨(RegAddr.DPI_PORT_FOM i), 8, 8, 0x0⟩
def Reg.DPI_PORT_FOM_FOM_2 (i : Nat) : Fld := ⟨(RegAddr.DPI_PORT_FOM i), 16, 8, 0x0⟩
def Reg.DPI_PORT_FOM_FOM_3 (i : Nat) : Fld := ⟨(RegAddr.DPI_PORT_FOM i), 24, 8, 0x0⟩
def RegAddr.DPI_BUDGET : Nat := 0x21FFF000
def Reg.DPI_BUDGET_USED : Fld := ⟨RegAddr.DPI_BUDGET, 0, 24, 0x0⟩
def RegAddr.DPI_TT_POS (i j : Nat) : Nat := 0x21000000 + i * 0x40000 + j * 0x1000
def Reg.DPI_TT_POS_Y (i j : Nat) : Fld := ⟨(RegAddr.DPI_TT_POS i j), 16, 13, 0x0⟩
def Reg.DPI_TT_POS_X (i j : Nat) : Fld := ⟨(RegAddr.DPI_TT_POS i j), 0, 13, 0x0⟩
def RegAddr.DPI_TT_CFG (i j : Nat) : Nat := 0x21000004 + i * 0x40000 + j * 0x1000
def Reg.DPI_TT_CFG_DEADLINE (i j : Nat) : Fld := ⟨(RegAddr.DPI_TT_CFG i j), 18, 14, 0x1911000⟩
def Reg.DPI_TT_CFG_REARM (i j : Nat) : Fld := ⟨(RegAddr.DPI_TT_CFG i j), 15, 3, 0x1911000⟩
def Reg.DPI_TT_CFG_MAXSTEP (i j : Nat) : Fld := ⟨(RegAddr.DPI_TT_CFG i j), 12, 3, 0x1911000⟩
def Reg.DPI_TT_CFG_HM1 (i j : Nat) : Fld := ⟨(RegAddr.DPI_TT_CFG i j), 8, 4, 0x1911000⟩
def Reg.DPI_TT_CFG_WM1 (i j : Nat) : Fld := ⟨(RegAddr.DPI_TT_CFG i j), 4, 4, 0x1911000⟩
def Reg.DPI_TT_CFG_CH (i j : Nat) : Fld := ⟨(RegAddr.DPI_TT_CFG i j), 2, 2, 0x1911000⟩
def Reg.DPI_TT_CFG_MODE (i j : Nat) : Fld := ⟨(RegAddr.DPI_TT_CFG i j), 1, 1, 0x1911000⟩
def Reg.DPI_TT_CFG_ENABLE (i j : Nat) : Fld := ⟨(RegAddr.DPI_TT_CFG i j), 0, 1, 0x1911000⟩
def RegAddr.DPI_TT_STAT (i j : Nat) : Nat := 0x21000008 + i * 0x40000 + j * 0x1000
def Reg.DPI_TT_STAT_COUNT (i j : Nat) : Fld := ⟨(RegAddr.DPI_TT_STAT i j), 8, 8, 0xFFFF0000⟩
def Reg.DPI_TT_STAT_SEEN (i j : Nat) : Fld := ⟨(RegAddr.DPI_TT_STAT i j), 1, 1, 0xFFFF0000⟩
def Reg.DPI_TT_STAT_LIVE (i j : Nat) : Fld := ⟨(RegAddr.DPI_TT_STAT i j), 0, 1, 0xFFFF0000⟩
def RegAddr.BAL_POOL (i : Nat) : Nat := 0x11800000 + i * 0x1000
def Reg.BAL_POOL_DROPPED (i : Nat) : Fld := ⟨(RegAddr.BAL_POOL i), 20, 12, 0x0⟩
def RegAddr.BAL_PINS (i : Nat) : Nat := 0x11800004 + i * 0x1000
def RegAddr.BAL_SURF_CMD : Nat := 0x1183F000
def RegAddr.BAL_SURF_STAT : Nat := 0x1183F004
def Reg.BAL_SURF_STAT_PENDING : Fld := ⟨RegAddr.BAL_SURF_STAT, 31, 1, 0x0⟩
def Reg.BAL_SURF_STAT_RESULT : Fld := ⟨RegAddr.BAL_SURF_STAT, 16, 2, 0x0⟩
def Reg.BAL_SURF_STAT_SURFACE : Fld := ⟨RegAddr.BAL_SURF_STAT, 0, 9, 0x0⟩
def RegAddr.LOOM_GEOM : Nat := 0x11FFF000
def Reg.LOOM_GEOM_SWB : Fld := ⟨RegAddr.LOOM_GEOM, 24, 8, 0x0⟩
def Reg.LOOM_GEOM_HBM1 : Fld := ⟨RegAddr.LOOM_GEOM, 12, 12, 0x0⟩
def Reg.LOOM_GEOM_WBM1 : Fld := ⟨RegAddr.LOOM_GEOM, 0, 12, 0x0⟩
def RegAddr.LOOM_BG : Nat := 0x11FFF004
def Reg.LOOM_BG_C2 : Fld := ⟨RegAddr.LOOM_BG, 20, 10, 0x0⟩
def Reg.LOOM_BG_C1 : Fld := ⟨RegAddr.LOOM_BG, 10, 10, 0x0⟩
def Reg.LOOM_BG_C0 : Fld := ⟨RegAddr.LOOM_BG, 0, 10, 0x0⟩
def RegAddr.LOOM_STORE : Nat := 0x11FFF008
def Reg.LOOM_STORE_BASE : Fld := ⟨RegAddr.LOOM_STORE, 0, 17, 0x0⟩
def RegAddr.LOOM_SLOTS : Nat := 0x11FFF00C
def Reg.LOOM_SLOTS_COUNT : Fld := ⟨RegAddr.LOOM_SLOTS, 0, 22, 0x0⟩
def RegAddr.LOOM_CFG : Nat := 0x11FFF010
def Reg.LOOM_CFG_FORCE : Fld := ⟨RegAddr.LOOM_CFG, 16, 16, 0x12⟩
def Reg.LOOM_CFG_BIST_EN : Fld := ⟨RegAddr.LOOM_CFG, 4, 1, 0x12⟩
def Reg.LOOM_CFG_BUDGET : Fld := ⟨RegAddr.LOOM_CFG, 0, 4, 0x12⟩
def RegAddr.LOOM_FENCE : Nat := 0x11FFF014
def Reg.LOOM_FENCE_COUNT : Fld := ⟨RegAddr.LOOM_FENCE, 16, 5, 0x0⟩
def Reg.LOOM_FENCE_FENCED : Fld := ⟨RegAddr.LOOM_FENCE, 0, 16, 0x0⟩
def RegAddr.LOOM_PASS : Nat := 0x11FFF018
def Reg.LOOM_PASS_GEN : Fld := ⟨RegAddr.LOOM_PASS, 0, 32, 0x0⟩
def RegAddr.LOOM_PASS_STAT : Nat := 0x11FFF01C
def Reg.LOOM_PASS_STAT_HELD : Fld := ⟨RegAddr.LOOM_PASS_STAT, 16, 16, 0x0⟩
def Reg.LOOM_PASS_STAT_TIME : Fld := ⟨RegAddr.LOOM_PASS_STAT, 0, 16, 0x0⟩
def RegAddr.LOOM_REFUSE : Nat := 0x11FFF020
def Reg.LOOM_REFUSE_BAND : Fld := ⟨RegAddr.LOOM_REFUSE, 20, 11, 0x0⟩
def Reg.LOOM_REFUSE_STRIPE : Fld := ⟨RegAddr.LOOM_REFUSE, 16, 4, 0x0⟩
def Reg.LOOM_REFUSE_LAYER : Fld := ⟨RegAddr.LOOM_REFUSE, 8, 6, 0x0⟩
def Reg.LOOM_REFUSE_REASON : Fld := ⟨RegAddr.LOOM_REFUSE, 0, 4, 0x0⟩
def RegAddr.LOOM_CURRENT_LO : Nat := 0x11FFF024
def Reg.LOOM_CURRENT_LO_CUR : Fld := ⟨RegAddr.LOOM_CURRENT_LO, 0, 32, 0x0⟩
def RegAddr.LOOM_CURRENT_HI : Nat := 0x11FFF028
def Reg.LOOM_CURRENT_HI_CUR : Fld := ⟨RegAddr.LOOM_CURRENT_HI, 0, 32, 0x0⟩
def RegAddr.LOOM_L_CTRL (i : Nat) : Nat := 0x11000000 + i * 0x1000
def Reg.LOOM_L_CTRL_SOURCE (i : Nat) : Fld := ⟨(RegAddr.LOOM_L_CTRL i), 16, 9, 0x0⟩
def Reg.LOOM_L_CTRL_ILUT (i : Nat) : Fld := ⟨(RegAddr.LOOM_L_CTRL i), 8, 4, 0x0⟩
def Reg.LOOM_L_CTRL_ILUT_BYPASS (i : Nat) : Fld := ⟨(RegAddr.LOOM_L_CTRL i), 4, 1, 0x0⟩
def Reg.LOOM_L_CTRL_ALPHA_MODE (i : Nat) : Fld := ⟨(RegAddr.LOOM_L_CTRL i), 2, 2, 0x0⟩
def Reg.LOOM_L_CTRL_MATRIX_FIRST (i : Nat) : Fld := ⟨(RegAddr.LOOM_L_CTRL i), 1, 1, 0x0⟩
def Reg.LOOM_L_CTRL_ENABLE (i : Nat) : Fld := ⟨(RegAddr.LOOM_L_CTRL i), 0, 1, 0x0⟩
def RegAddr.LOOM_L_SRC_POS (i : Nat) : Nat := 0x11000004 + i * 0x1000
def Reg.LOOM_L_SRC_POS_Y (i : Nat) : Fld := ⟨(RegAddr.LOOM_L_SRC_POS i), 16, 16, 0x0⟩
def Reg.LOOM_L_SRC_POS_X (i : Nat) : Fld := ⟨(RegAddr.LOOM_L_SRC_POS i), 0, 16, 0x0⟩
def RegAddr.LOOM_L_SRC_SIZE (i : Nat) : Nat := 0x11000008 + i * 0x1000
def Reg.LOOM_L_SRC_SIZE_HM1 (i : Nat) : Fld := ⟨(RegAddr.LOOM_L_SRC_SIZE i), 16, 16, 0x0⟩
def Reg.LOOM_L_SRC_SIZE_WM1 (i : Nat) : Fld := ⟨(RegAddr.LOOM_L_SRC_SIZE i), 0, 16, 0x0⟩
def RegAddr.LOOM_L_DST_X (i : Nat) : Nat := 0x1100000C + i * 0x1000
def Reg.LOOM_L_DST_X_X (i : Nat) : Fld := ⟨(RegAddr.LOOM_L_DST_X i), 0, 20, 0x0⟩
def RegAddr.LOOM_L_DST_Y (i : Nat) : Nat := 0x11000010 + i * 0x1000
def Reg.LOOM_L_DST_Y_Y (i : Nat) : Fld := ⟨(RegAddr.LOOM_L_DST_Y i), 0, 20, 0x0⟩
def RegAddr.LOOM_L_DST_SIZE (i : Nat) : Nat := 0x11000014 + i * 0x1000
def Reg.LOOM_L_DST_SIZE_HM1 (i : Nat) : Fld := ⟨(RegAddr.LOOM_L_DST_SIZE i), 16, 15, 0x0⟩
def Reg.LOOM_L_DST_SIZE_WM1 (i : Nat) : Fld := ⟨(RegAddr.LOOM_L_DST_SIZE i), 0, 16, 0x0⟩
def RegAddr.LOOM_L_STEP_X (i : Nat) : Nat := 0x11000018 + i * 0x1000
def Reg.LOOM_L_STEP_X_STEP (i : Nat) : Fld := ⟨(RegAddr.LOOM_L_STEP_X i), 0, 32, 0x10000⟩
def RegAddr.LOOM_L_STEP_Y (i : Nat) : Nat := 0x1100001C + i * 0x1000
def Reg.LOOM_L_STEP_Y_STEP (i : Nat) : Fld := ⟨(RegAddr.LOOM_L_STEP_Y i), 0, 32, 0x10000⟩
def RegAddr.LOOM_L_PHASE (i : Nat) : Nat := 0x11000020 + i * 0x1000
def Reg.LOOM_L_PHASE_PY (i : Nat) : Fld := ⟨(RegAddr.LOOM_L_PHASE i), 16, 16, 0x0⟩
def Reg.LOOM_L_PHASE_PX (i : Nat) : Fld := ⟨(RegAddr.LOOM_L_PHASE i), 0, 16, 0x0⟩
def RegAddr.LOOM_L_ALPHA (i : Nat) : Nat := 0x11000024 + i * 0x1000
def Reg.LOOM_L_ALPHA_MATTE_CH (i : Nat) : Fld := ⟨(RegAddr.LOOM_L_ALPHA i), 24, 2, 0x1000⟩
def Reg.LOOM_L_ALPHA_MATTE (i : Nat) : Fld := ⟨(RegAddr.LOOM_L_ALPHA i), 16, 8, 0x1000⟩
def Reg.LOOM_L_ALPHA_CONST (i : Nat) : Fld := ⟨(RegAddr.LOOM_L_ALPHA i), 0, 13, 0x1000⟩
def RegAddr.LOOM_L_KEY0 (i : Nat) : Nat := 0x11000028 + i * 0x1000
def Reg.LOOM_L_KEY0_K1 (i : Nat) : Fld := ⟨(RegAddr.LOOM_L_KEY0 i), 16, 12, 0x0⟩
def Reg.LOOM_L_KEY0_K0 (i : Nat) : Fld := ⟨(RegAddr.LOOM_L_KEY0 i), 0, 12, 0x0⟩
def RegAddr.LOOM_L_KEY1 (i : Nat) : Nat := 0x1100002C + i * 0x1000
def Reg.LOOM_L_KEY1_K2 (i : Nat) : Fld := ⟨(RegAddr.LOOM_L_KEY1 i), 0, 12, 0x0⟩
def RegAddr.LOOM_L_M0 (i : Nat) : Nat := 0x11000030 + i * 0x1000
def Reg.LOOM_L_M0_C01 (i : Nat) : Fld := ⟨(RegAddr.LOOM_L_M0 i), 16, 16, 0x1000⟩
def Reg.LOOM_L_M0_C00 (i : Nat) : Fld := ⟨(RegAddr.LOOM_L_M0 i), 0, 16, 0x1000⟩
def RegAddr.LOOM_L_M1 (i : Nat) : Nat := 0x11000034 + i * 0x1000
def Reg.LOOM_L_M1_OFF0 (i : Nat) : Fld := ⟨(RegAddr.LOOM_L_M1 i), 16, 16, 0x0⟩
def Reg.LOOM_L_M1_C02 (i : Nat) : Fld := ⟨(RegAddr.LOOM_L_M1 i), 0, 16, 0x0⟩
def RegAddr.LOOM_L_M2 (i : Nat) : Nat := 0x11000038 + i * 0x1000
def Reg.LOOM_L_M2_C11 (i : Nat) : Fld := ⟨(RegAddr.LOOM_L_M2 i), 16, 16, 0x10000000⟩
def Reg.LOOM_L_M2_C10 (i : Nat) : Fld := ⟨(RegAddr.LOOM_L_M2 i), 0, 16, 0x10000000⟩
def RegAddr.LOOM_L_M3 (i : Nat) : Nat := 0x1100003C + i * 0x1000
def Reg.LOOM_L_M3_OFF1 (i : Nat) : Fld := ⟨(RegAddr.LOOM_L_M3 i), 16, 16, 0x0⟩
def Reg.LOOM_L_M3_C12 (i : Nat) : Fld := ⟨(RegAddr.LOOM_L_M3 i), 0, 16, 0x0⟩
def RegAddr.LOOM_L_M4 (i : Nat) : Nat := 0x11000040 + i * 0x1000
def Reg.LOOM_L_M4_C21 (i : Nat) : Fld := ⟨(RegAddr.LOOM_L_M4 i), 16, 16, 0x0⟩
def Reg.LOOM_L_M4_C20 (i : Nat) : Fld := ⟨(RegAddr.LOOM_L_M4 i), 0, 16, 0x0⟩
def RegAddr.LOOM_L_M5 (i : Nat) : Nat := 0x11000044 + i * 0x1000
def Reg.LOOM_L_M5_OFF2 (i : Nat) : Fld := ⟨(RegAddr.LOOM_L_M5 i), 16, 16, 0x1000⟩
def Reg.LOOM_L_M5_C22 (i : Nat) : Fld := ⟨(RegAddr.LOOM_L_M5 i), 0, 16, 0x1000⟩
def RegAddr.LOOM_L_FRESH (i : Nat) : Nat := 0x11000048 + i * 0x1000
def Reg.LOOM_L_FRESH_LIMIT (i : Nat) : Fld := ⟨(RegAddr.LOOM_L_FRESH i), 0, 14, 0x0⟩
def RegAddr.LOOM_L_STAT (i : Nat) : Nat := 0x1100004C + i * 0x1000
def Reg.LOOM_L_STAT_AGE (i : Nat) : Fld := ⟨(RegAddr.LOOM_L_STAT i), 16, 16, 0x0⟩
def Reg.LOOM_L_STAT_NR (i : Nat) : Fld := ⟨(RegAddr.LOOM_L_STAT i), 12, 4, 0x0⟩
def Reg.LOOM_L_STAT_UNCLEAN (i : Nat) : Fld := ⟨(RegAddr.LOOM_L_STAT i), 2, 1, 0x0⟩
def Reg.LOOM_L_STAT_HATCH (i : Nat) : Fld := ⟨(RegAddr.LOOM_L_STAT i), 1, 1, 0x0⟩
def Reg.LOOM_L_STAT_CURRENT (i : Nat) : Fld := ⟨(RegAddr.LOOM_L_STAT i), 0, 1, 0x0⟩
def RegAddr.LOOM_ILUT (i j : Nat) : Nat := 0x11500000 + i * 0x1000 + j * 0x4
def Reg.LOOM_ILUT_ENTRY (i j : Nat) : Fld := ⟨(RegAddr.LOOM_ILUT i j), 0, 20, (j * 1025)⟩
def RegAddr.LOOM_OLUT (i j : Nat) : Nat := 0x11540000 + i * 0x1000 + j * 0x4
def Reg.LOOM_OLUT_ENTRY (i j : Nat) : Fld := ⟨(RegAddr.LOOM_OLUT i j), 0, 12, (i % 4 * 1024 + j)⟩
def RegAddr.LOOM_SLICE_STAT (i : Nat) : Nat := 0x1107F000 + i * 0x40000
def Reg.LOOM_SLICE_STAT_SERVES (i : Nat) : Fld := ⟨(RegAddr.LOOM_SLICE_STAT i), 16, 16, (2 ^ (16 + i))⟩
def Reg.LOOM_SLICE_STAT_FORCED (i : Nat) : Fld := ⟨(RegAddr.LOOM_SLICE_STAT i), 3, 1, (2 ^ (16 + i))⟩
def Reg.LOOM_SLICE_STAT_PARITY (i : Nat) : Fld := ⟨(RegAddr.LOOM_SLICE_STAT i), 2, 1, (2 ^ (16 + i))⟩
def Reg.LOOM_SLICE_STAT_TEST_FAIL (i : Nat) : Fld := ⟨(RegAddr.LOOM_SLICE_STAT i), 1, 1, (2 ^ (16 + i))⟩
def Reg.LOOM_SLICE_STAT_FENCED (i : Nat) : Fld := ⟨(RegAddr.LOOM_SLICE_STAT i), 0, 1, (2 ^ (16 + i))⟩
def RegAddr.LOOM_SLICE_LOAD (i : Nat) : Nat := 0x1107F004 + i * 0x40000
def Reg.LOOM_SLICE_LOAD_FRAGMENTS (i : Nat) : Fld := ⟨(RegAddr.LOOM_SLICE_LOAD i), 16, 13, 0x0⟩
def Reg.LOOM_SLICE_LOAD_BUSY (i : Nat) : Fld := ⟨(RegAddr.LOOM_SLICE_LOAD i), 0, 16, 0x0⟩
def RegAddr.DMG_CFG : Nat := 0x14FFF000
def Reg.DMG_CFG_DROPOUT : Fld := ⟨RegAddr.DMG_CFG, 20, 4, 0x301F40⟩
def Reg.DMG_CFG_WALL_ATOMIC : Fld := ⟨RegAddr.DMG_CFG, 16, 1, 0x301F40⟩
def Reg.DMG_CFG_COMMIT_AT : Fld := ⟨RegAddr.DMG_CFG, 0, 16, 0x301F40⟩
def RegAddr.DMG_QUEUE : Nat := 0x14FFF004
def Reg.DMG_QUEUE_BASE : Fld := ⟨RegAddr.DMG_QUEUE, 0, 17, 0x0⟩
def RegAddr.DMG_GEN : Nat := 0x14FFF008
def Reg.DMG_GEN_GEN : Fld := ⟨RegAddr.DMG_GEN, 0, 32, 0x0⟩
def RegAddr.DMG_REFUSE : Nat := 0x14FFF00C
def Reg.DMG_REFUSE_OTHER : Fld := ⟨RegAddr.DMG_REFUSE, 16, 8, 0x0⟩
def Reg.DMG_REFUSE_CHAIN : Fld := ⟨RegAddr.DMG_REFUSE, 14, 2, 0x0⟩
def Reg.DMG_REFUSE_POS : Fld := ⟨RegAddr.DMG_REFUSE, 8, 6, 0x0⟩
def Reg.DMG_REFUSE_REASON : Fld := ⟨RegAddr.DMG_REFUSE, 0, 4, 0x0⟩
def RegAddr.DMG_REPUSH : Nat := 0x14FFF010
def RegAddr.DMG_DERATE : Nat := 0x14FFF014
def Reg.DMG_DERATE_STALE : Fld := ⟨RegAddr.DMG_DERATE, 24, 8, 0x8000⟩
def Reg.DMG_DERATE_TILES : Fld := ⟨RegAddr.DMG_DERATE, 16, 8, 0x8000⟩
def Reg.DMG_DERATE_GROUP_MIN : Fld := ⟨RegAddr.DMG_DERATE, 0, 16, 0x8000⟩
def RegAddr.DMG_DERATE_EXT : Nat := 0x14FFF018
def Reg.DMG_DERATE_EXT_ENABLE : Fld := ⟨RegAddr.DMG_DERATE_EXT, 31, 1, 0x8000⟩
def Reg.DMG_DERATE_EXT_MIN : Fld := ⟨RegAddr.DMG_DERATE_EXT, 0, 16, 0x8000⟩
def RegAddr.DMG_TILE_POS (i j : Nat) : Nat := 0x14000000 + i * 0x40000 + j * 0x1000
def Reg.DMG_TILE_POS_Y (i j : Nat) : Fld := ⟨(RegAddr.DMG_TILE_POS i j), 16, 16, 0x0⟩
def Reg.DMG_TILE_POS_X (i j : Nat) : Fld := ⟨(RegAddr.DMG_TILE_POS i j), 0, 16, 0x0⟩
def RegAddr.DMG_TILE_SIZE (i j : Nat) : Nat := 0x14000004 + i * 0x40000 + j * 0x1000
def Reg.DMG_TILE_SIZE_ENABLE (i j : Nat) : Fld := ⟨(RegAddr.DMG_TILE_SIZE i j), 31, 1, 0x0⟩
def Reg.DMG_TILE_SIZE_HM1 (i j : Nat) : Fld := ⟨(RegAddr.DMG_TILE_SIZE i j), 16, 10, 0x0⟩
def Reg.DMG_TILE_SIZE_WM1 (i j : Nat) : Fld := ⟨(RegAddr.DMG_TILE_SIZE i j), 0, 11, 0x0⟩
def RegAddr.DMG_TILE_STAT (i j : Nat) : Nat := 0x14000008 + i * 0x40000 + j * 0x1000
def Reg.DMG_TILE_STAT_GEOM (i j : Nat) : Fld := ⟨(RegAddr.DMG_TILE_STAT i j), 31, 1, 0xF⟩
def Reg.DMG_TILE_STAT_ALONE (i j : Nat) : Fld := ⟨(RegAddr.DMG_TILE_STAT i j), 30, 1, 0xF⟩
def Reg.DMG_TILE_STAT_CATCHUP (i j : Nat) : Fld := ⟨(RegAddr.DMG_TILE_STAT i j), 29, 1, 0xF⟩
def Reg.DMG_TILE_STAT_SKIPS (i j : Nat) : Fld := ⟨(RegAddr.DMG_TILE_STAT i j), 16, 8, 0xF⟩
def Reg.DMG_TILE_STAT_RESULT (i j : Nat) : Fld := ⟨(RegAddr.DMG_TILE_STAT i j), 0, 4, 0xF⟩
def RegAddr.DMG_TILE_SHOWN (i j : Nat) : Nat := 0x1400000C + i * 0x40000 + j * 0x1000
def Reg.DMG_TILE_SHOWN_GEN (i j : Nat) : Fld := ⟨(RegAddr.DMG_TILE_SHOWN i j), 0, 32, 0x0⟩
def RegAddr.DMG_CHAIN_CFG (i : Nat) : Nat := 0x1403F000 + i * 0x40000
def Reg.DMG_CHAIN_CFG_CATCHUP (i : Nat) : Fld := ⟨(RegAddr.DMG_CHAIN_CFG i), 8, 6, 0x408⟩
def Reg.DMG_CHAIN_CFG_RESERVE_A (i : Nat) : Fld := ⟨(RegAddr.DMG_CHAIN_CFG i), 0, 6, 0x408⟩
def RegAddr.DMG_CHAIN_LOAD (i : Nat) : Nat := 0x1403F004 + i * 0x40000
def Reg.DMG_CHAIN_LOAD_QUEUED (i : Nat) : Fld := ⟨(RegAddr.DMG_CHAIN_LOAD i), 14, 18, 0x0⟩
def Reg.DMG_CHAIN_LOAD_LOAD (i : Nat) : Fld := ⟨(RegAddr.DMG_CHAIN_LOAD i), 0, 11, 0x0⟩
def RegAddr.DMG_CHAIN_ERR (i : Nat) : Nat := 0x1403F008 + i * 0x40000
def Reg.DMG_CHAIN_ERR_WITHDRAWN (i : Nat) : Fld := ⟨(RegAddr.DMG_CHAIN_ERR i), 16, 16, 0x0⟩
def Reg.DMG_CHAIN_ERR_OVER (i : Nat) : Fld := ⟨(RegAddr.DMG_CHAIN_ERR i), 0, 16, 0x0⟩
def RegAddr.HMK_CFG : Nat := 0x14FFF100
def Reg.HMK_CFG_RELIGHT : Fld := ⟨RegAddr.HMK_CFG, 8, 8, 0x3C23⟩
def Reg.HMK_CFG_GLASS_LIMIT : Fld := ⟨RegAddr.HMK_CFG, 4, 4, 0x3C23⟩
def Reg.HMK_CFG_DARK : Fld := ⟨RegAddr.HMK_CFG, 1, 1, 0x3C23⟩
def Reg.HMK_CFG_SELFCHECK : Fld := ⟨RegAddr.HMK_CFG, 0, 1, 0x3C23⟩
def RegAddr.HMK_HATCH_A : Nat := 0x14FFF104
def Reg.HMK_HATCH_A_C2 : Fld := ⟨RegAddr.HMK_HATCH_A, 20, 10, 0xFFFFF⟩
def Reg.HMK_HATCH_A_C1 : Fld := ⟨RegAddr.HMK_HATCH_A, 10, 10, 0xFFFFF⟩
def Reg.HMK_HATCH_A_C0 : Fld := ⟨RegAddr.HMK_HATCH_A, 0, 10, 0xFFFFF⟩
def RegAddr.HMK_HATCH_B : Nat := 0x14FFF108
def Reg.HMK_HATCH_B_C2 : Fld := ⟨RegAddr.HMK_HATCH_B, 20, 10, 0x0⟩
def Reg.HMK_HATCH_B_C1 : Fld := ⟨RegAddr.HMK_HATCH_B, 10, 10, 0x0⟩
def Reg.HMK_HATCH_B_C0 : Fld := ⟨RegAddr.HMK_HATCH_B, 0, 10, 0x0⟩
def RegAddr.HMK_TABLE : Nat := 0x14FFF10C
def Reg.HMK_TABLE_VALID : Fld := ⟨RegAddr.HMK_TABLE, 16, 1, 0x0⟩
def Reg.HMK_TABLE_VERSION : Fld := ⟨RegAddr.HMK_TABLE, 0, 16, 0x0⟩
def RegAddr.HMK_REFUSE : Nat := 0x14FFF110
def Reg.HMK_REFUSE_CHAIN : Fld := ⟨RegAddr.HMK_REFUSE, 30, 2, 0x0⟩
def Reg.HMK_REFUSE_POS : Fld := ⟨RegAddr.HMK_REFUSE, 24, 6, 0x0⟩
def Reg.HMK_REFUSE_REGION : Fld := ⟨RegAddr.HMK_REFUSE, 8, 8, 0x0⟩
def Reg.HMK_REFUSE_REASON : Fld := ⟨RegAddr.HMK_REFUSE, 0, 4, 0x0⟩
def RegAddr.HMK_STALE : Nat := 0x14FFF114
def Reg.HMK_STALE_ALL : Fld := ⟨RegAddr.HMK_STALE, 31, 1, 0x0⟩
def Reg.HMK_STALE_ORDER : Fld := ⟨RegAddr.HMK_STALE, 16, 1, 0x0⟩
def Reg.HMK_STALE_REGION : Fld := ⟨RegAddr.HMK_STALE, 0, 8, 0x0⟩
def RegAddr.HMK_HOLD (i : Nat) : Nat := 0x14FFF120 + i * 0x4
def Reg.HMK_HOLD_HOLD (i : Nat) : Fld := ⟨(RegAddr.HMK_HOLD i), 0, 32, 0x0⟩
def RegAddr.HMK_AFFIRM (i : Nat) : Nat := 0x14FFF140 + i * 0x4
def Reg.HMK_AFFIRM_AFF (i : Nat) : Fld := ⟨(RegAddr.HMK_AFFIRM i), 0, 32, 0x0⟩
def RegAddr.HMK_COUNT : Nat := 0x14FFF160
def Reg.HMK_COUNT_NOT_READY : Fld := ⟨RegAddr.HMK_COUNT, 16, 16, 0x0⟩
def Reg.HMK_COUNT_MISMATCH : Fld := ⟨RegAddr.HMK_COUNT, 0, 16, 0x0⟩
def RegAddr.HMK_REG_X (i j : Nat) : Nat := 0x14200000 + i * 0x40000 + j * 0x1000
def Reg.HMK_REG_X_X (i j : Nat) : Fld := ⟨(RegAddr.HMK_REG_X i j), 0, 20, 0x0⟩
def RegAddr.HMK_REG_Y (i j : Nat) : Nat := 0x14200004 + i * 0x40000 + j * 0x1000
def Reg.HMK_REG_Y_Y (i j : Nat) : Fld := ⟨(RegAddr.HMK_REG_Y i j), 0, 20, 0x0⟩
def RegAddr.HMK_REG_SIZE (i j : Nat) : Nat := 0x14200008 + i * 0x40000 + j * 0x1000
def Reg.HMK_REG_SIZE_HBM1 (i j : Nat) : Fld := ⟨(RegAddr.HMK_REG_SIZE i j), 16, 11, 0x0⟩
def Reg.HMK_REG_SIZE_WBM1 (i j : Nat) : Fld := ⟨(RegAddr.HMK_REG_SIZE i j), 0, 11, 0x0⟩
def RegAddr.HMK_REG_CFG (i j : Nat) : Nat := 0x1420000C + i * 0x40000 + j * 0x1000
def Reg.HMK_REG_CFG_ENABLE (i j : Nat) : Fld := ⟨(RegAddr.HMK_REG_CFG i j), 31, 1, 0x3E8⟩
def Reg.HMK_REG_CFG_EARLY (i j : Nat) : Fld := ⟨(RegAddr.HMK_REG_CFG i j), 20, 1, 0x3E8⟩
def Reg.HMK_REG_CFG_CLASS (i j : Nat) : Fld := ⟨(RegAddr.HMK_REG_CFG i j), 16, 2, 0x3E8⟩
def Reg.HMK_REG_CFG_DEADLINE (i j : Nat) : Fld := ⟨(RegAddr.HMK_REG_CFG i j), 0, 14, 0x3E8⟩
def RegAddr.HMK_REG_STAT (i j : Nat) : Nat := 0x14200010 + i * 0x40000 + j * 0x1000
def Reg.HMK_REG_STAT_PIECES (i j : Nat) : Fld := ⟨(RegAddr.HMK_REG_STAT i j), 16, 12, 0x0⟩
def Reg.HMK_REG_STAT_NOT_READY (i j : Nat) : Fld := ⟨(RegAddr.HMK_REG_STAT i j), 2, 1, 0x0⟩
def Reg.HMK_REG_STAT_TILE_HATCH (i j : Nat) : Fld := ⟨(RegAddr.HMK_REG_STAT i j), 1, 1, 0x0⟩
def Reg.HMK_REG_STAT_AFFIRMED (i j : Nat) : Fld := ⟨(RegAddr.HMK_REG_STAT i j), 0, 1, 0x0⟩
def RegAddr.HMK_PC_RECT (i : Nat) : Nat := 0x14300000 + i * 0x1000
def RegAddr.HMK_PC_SIZE (i : Nat) : Nat := 0x14300004 + i * 0x1000
def RegAddr.HMK_PC_CFG (i : Nat) : Nat := 0x14300008 + i * 0x1000
def RegAddr.HMK_PC_STAT (i : Nat) : Nat := 0x1430000C + i * 0x1000
def RegAddr.HMK_PC_EXPIRY_LO (i : Nat) : Nat := 0x14300010 + i * 0x1000
def RegAddr.HMK_PC_EXPIRY_HI (i : Nat) : Nat := 0x14300014 + i * 0x1000
def RegAddr.HMK_PC_FLOOR (i : Nat) : Nat := 0x14300018 + i * 0x1000
def RegAddr.HMK_GLASS_STAT (i : Nat) : Nat := 0x14340000 + i * 0x1000
def Reg.HMK_GLASS_STAT_FAILED (i : Nat) : Fld := ⟨(RegAddr.HMK_GLASS_STAT i), 16, 16, 0x0⟩
def Reg.HMK_GLASS_STAT_LAST_MISS (i : Nat) : Fld := ⟨(RegAddr.HMK_GLASS_STAT i), 0, 16, 0x0⟩
def RegAddr.HMK_GLASS_GRP (i : Nat) : Nat := 0x14340004 + i * 0x1000
def Reg.HMK_GLASS_GRP_DARK (i : Nat) : Fld := ⟨(RegAddr.HMK_GLASS_GRP i), 31, 1, 0x0⟩
def Reg.HMK_GLASS_GRP_GOOD_RUN (i : Nat) : Fld := ⟨(RegAddr.HMK_GLASS_GRP i), 16, 8, 0x0⟩
def Reg.HMK_GLASS_GRP_GUARDED (i : Nat) : Fld := ⟨(RegAddr.HMK_GLASS_GRP i), 0, 16, 0x0⟩
def RegAddr.WFT_PORT_CFG (i : Nat) : Nat := 0x2203F000 + i * 0x40000
def Reg.WFT_PORT_CFG_FOM_MIN (i : Nat) : Fld := ⟨(RegAddr.WFT_PORT_CFG i), 24, 8, 0x40203800⟩
def Reg.WFT_PORT_CFG_IDLE_AFTER (i : Nat) : Fld := ⟨(RegAddr.WFT_PORT_CFG i), 16, 8, 0x40203800⟩
def Reg.WFT_PORT_CFG_IDLE_HOLD (i : Nat) : Fld := ⟨(RegAddr.WFT_PORT_CFG i), 14, 1, 0x40203800⟩
def Reg.WFT_PORT_CFG_MAX_WIDTH (i : Nat) : Fld := ⟨(RegAddr.WFT_PORT_CFG i), 12, 2, 0x40203800⟩
def Reg.WFT_PORT_CFG_RATE (i : Nat) : Fld := ⟨(RegAddr.WFT_PORT_CFG i), 10, 2, 0x40203800⟩
def Reg.WFT_PORT_CFG_ENABLE (i : Nat) : Fld := ⟨(RegAddr.WFT_PORT_CFG i), 0, 1, 0x40203800⟩
def RegAddr.WFT_PORT_STAT (i : Nat) : Nat := 0x2203F004 + i * 0x40000
def Reg.WFT_PORT_STAT_FAIL (i : Nat) : Fld := ⟨(RegAddr.WFT_PORT_STAT i), 28, 4, 0x0⟩
def Reg.WFT_PORT_STAT_BACKOFF (i : Nat) : Fld := ⟨(RegAddr.WFT_PORT_STAT i), 24, 4, 0x0⟩
def Reg.WFT_PORT_STAT_RX_GOOD (i : Nat) : Fld := ⟨(RegAddr.WFT_PORT_STAT i), 20, 4, 0x0⟩
def Reg.WFT_PORT_STAT_TX_GOOD (i : Nat) : Fld := ⟨(RegAddr.WFT_PORT_STAT i), 16, 4, 0x0⟩
def Reg.WFT_PORT_STAT_RX_WIDTH (i : Nat) : Fld := ⟨(RegAddr.WFT_PORT_STAT i), 14, 2, 0x0⟩
def Reg.WFT_PORT_STAT_TX_WIDTH (i : Nat) : Fld := ⟨(RegAddr.WFT_PORT_STAT i), 12, 2, 0x0⟩
def Reg.WFT_PORT_STAT_REFUSE (i : Nat) : Fld := ⟨(RegAddr.WFT_PORT_STAT i), 10, 2, 0x0⟩
def Reg.WFT_PORT_STAT_ABSENT (i : Nat) : Fld := ⟨(RegAddr.WFT_PORT_STAT i), 9, 1, 0x0⟩
def Reg.WFT_PORT_STAT_REMOTE_DORMANT (i : Nat) : Fld := ⟨(RegAddr.WFT_PORT_STAT i), 8, 1, 0x0⟩
def Reg.WFT_PORT_STAT_TX_POWER (i : Nat) : Fld := ⟨(RegAddr.WFT_PORT_STAT i), 4, 2, 0x0⟩
def Reg.WFT_PORT_STAT_STATE (i : Nat) : Fld := ⟨(RegAddr.WFT_PORT_STAT i), 0, 4, 0x0⟩
def RegAddr.WFT_PORT_CMD (i : Nat) : Nat := 0x2203F008 + i * 0x40000
def RegAddr.WFT_PORT_ERR_A (i : Nat) : Nat := 0x2203F00C + i * 0x40000
def Reg.WFT_PORT_ERR_A_POISON_RX (i : Nat) : Fld := ⟨(RegAddr.WFT_PORT_ERR_A i), 16, 16, 0x0⟩
def Reg.WFT_PORT_ERR_A_CRC (i : Nat) : Fld := ⟨(RegAddr.WFT_PORT_ERR_A i), 0, 16, 0x0⟩
def RegAddr.WFT_PORT_ERR_B (i : Nat) : Nat := 0x2203F010 + i * 0x40000
def Reg.WFT_PORT_ERR_B_SEQ (i : Nat) : Fld := ⟨(RegAddr.WFT_PORT_ERR_B i), 16, 16, 0x0⟩
def Reg.WFT_PORT_ERR_B_TAG (i : Nat) : Fld := ⟨(RegAddr.WFT_PORT_ERR_B i), 0, 16, 0x0⟩
def RegAddr.WFT_PORT_ERR_C (i : Nat) : Nat := 0x2203F014 + i * 0x40000
def Reg.WFT_PORT_ERR_C_DEGRADE (i : Nat) : Fld := ⟨(RegAddr.WFT_PORT_ERR_C i), 24, 8, 0x0⟩
def Reg.WFT_PORT_ERR_C_FWD_OVF (i : Nat) : Fld := ⟨(RegAddr.WFT_PORT_ERR_C i), 16, 8, 0x0⟩
def Reg.WFT_PORT_ERR_C_POISON_TX (i : Nat) : Fld := ⟨(RegAddr.WFT_PORT_ERR_C i), 0, 16, 0x0⟩
def RegAddr.WFT_PORT_ERR_D (i : Nat) : Nat := 0x2203F018 + i * 0x40000
def Reg.WFT_PORT_ERR_D_MALFORMED (i : Nat) : Fld := ⟨(RegAddr.WFT_PORT_ERR_D i), 16, 16, 0x0⟩
def Reg.WFT_PORT_ERR_D_ATTEMPTS (i : Nat) : Fld := ⟨(RegAddr.WFT_PORT_ERR_D i), 0, 16, 0x0⟩
def RegAddr.WFT_LANE_STAT (i j : Nat) : Nat := 0x22000000 + i * 0x40000 + j * 0x1000
def Reg.WFT_LANE_STAT_FOM (i j : Nat) : Fld := ⟨(RegAddr.WFT_LANE_STAT i j), 24, 8, 0x0⟩
def Reg.WFT_LANE_STAT_CTLE (i j : Nat) : Fld := ⟨(RegAddr.WFT_LANE_STAT i j), 20, 4, 0x0⟩
def Reg.WFT_LANE_STAT_PRESET (i j : Nat) : Fld := ⟨(RegAddr.WFT_LANE_STAT i j), 16, 3, 0x0⟩
def Reg.WFT_LANE_STAT_LOGICAL (i j : Nat) : Fld := ⟨(RegAddr.WFT_LANE_STAT i j), 4, 1, 0x0⟩
def Reg.WFT_LANE_STAT_GOOD (i j : Nat) : Fld := ⟨(RegAddr.WFT_LANE_STAT i j), 3, 1, 0x0⟩
def Reg.WFT_LANE_STAT_LOCK (i j : Nat) : Fld := ⟨(RegAddr.WFT_LANE_STAT i j), 2, 1, 0x0⟩
def Reg.WFT_LANE_STAT_ENERGY (i j : Nat) : Fld := ⟨(RegAddr.WFT_LANE_STAT i j), 1, 1, 0x0⟩
def RegAddr.WFT_LANE_ERR (i j : Nat) : Nat := 0x22000004 + i * 0x40000 + j * 0x1000
def Reg.WFT_LANE_ERR_DISP (i j : Nat) : Fld := ⟨(RegAddr.WFT_LANE_ERR i j), 16, 16, 0x0⟩
def Reg.WFT_LANE_ERR_CV (i j : Nat) : Fld := ⟨(RegAddr.WFT_LANE_ERR i j), 0, 16, 0x0⟩
def RegAddr.WFT_LANE_DFE (i j : Nat) : Nat := 0x22000008 + i * 0x40000 + j * 0x1000
def Reg.WFT_LANE_DFE_TAP_0 (i j : Nat) : Fld := ⟨(RegAddr.WFT_LANE_DFE i j), 0, 6, 0x0⟩
def RegAddr.WFT_EYE_CTRL (i : Nat) : Nat := 0x2200000C + i * 0x40000
def Reg.WFT_EYE_CTRL_START (i : Nat) : Fld := ⟨(RegAddr.WFT_EYE_CTRL i), 31, 1, 0x0⟩
def Reg.WFT_EYE_CTRL_DONE (i : Nat) : Fld := ⟨(RegAddr.WFT_EYE_CTRL i), 30, 1, 0x0⟩
def Reg.WFT_EYE_CTRL_VOFF (i : Nat) : Fld := ⟨(RegAddr.WFT_EYE_CTRL i), 16, 7, 0x0⟩
def Reg.WFT_EYE_CTRL_PHASE (i : Nat) : Fld := ⟨(RegAddr.WFT_EYE_CTRL i), 8, 6, 0x0⟩
def Reg.WFT_EYE_CTRL_DWELL (i : Nat) : Fld := ⟨(RegAddr.WFT_EYE_CTRL i), 0, 4, 0x0⟩
def RegAddr.WFT_EYE_ERR (i : Nat) : Nat := 0x22000010 + i * 0x40000
def Reg.WFT_EYE_ERR_COUNT (i : Nat) : Fld := ⟨(RegAddr.WFT_EYE_ERR i), 0, 32, 0x0⟩
def RegAddr.WHL_CFG : Nat := 0x25FFF000
def Reg.WHL_CFG_HOLDOVER : Fld := ⟨RegAddr.WHL_CFG, 20, 12, 0x3C03C01⟩
def Reg.WHL_CFG_RATE : Fld := ⟨RegAddr.WHL_CFG, 8, 8, 0x3C03C01⟩
def Reg.WHL_CFG_OUT : Fld := ⟨RegAddr.WHL_CFG, 4, 2, 0x3C03C01⟩
def Reg.WHL_CFG_SYNC : Fld := ⟨RegAddr.WHL_CFG, 0, 2, 0x3C03C01⟩
def RegAddr.WHL_SWITCH : Nat := 0x25FFF004
def Reg.WHL_SWITCH_SEC : Fld := ⟨RegAddr.WHL_SWITCH, 0, 32, 0x0⟩
def RegAddr.WHL_TIMING : Nat := 0x25FFF008
def Reg.WHL_TIMING_LOCAL_TOL : Fld := ⟨RegAddr.WHL_TIMING, 8, 8, 0x10A⟩
def Reg.WHL_TIMING_TIME_MS : Fld := ⟨RegAddr.WHL_TIMING, 0, 8, 0x10A⟩
def RegAddr.WHL_STAT : Nat := 0x25FFF010
def Reg.WHL_STAT_REFUSE : Fld := ⟨RegAddr.WHL_STAT, 28, 4, 0x1⟩
def Reg.WHL_STAT_RATE_PENDING : Fld := ⟨RegAddr.WHL_STAT, 9, 1, 0x1⟩
def Reg.WHL_STAT_SLEWING : Fld := ⟨RegAddr.WHL_STAT, 8, 1, 0x1⟩
def Reg.WHL_STAT_TPORT : Fld := ⟨RegAddr.WHL_STAT, 6, 2, 0x1⟩
def Reg.WHL_STAT_SOURCE : Fld := ⟨RegAddr.WHL_STAT, 4, 2, 0x1⟩
def Reg.WHL_STAT_STATE : Fld := ⟨RegAddr.WHL_STAT, 0, 3, 0x1⟩
def RegAddr.WHL_NOW_LO : Nat := 0x25FFF014
def RegAddr.WHL_NOW_HI : Nat := 0x25FFF018
def RegAddr.WHL_ERR : Nat := 0x25FFF01C
def Reg.WHL_ERR_FREQ : Fld := ⟨RegAddr.WHL_ERR, 16, 16, 0x0⟩
def Reg.WHL_ERR_PHASE : Fld := ⟨RegAddr.WHL_ERR, 0, 16, 0x0⟩
def RegAddr.WHL_CNT : Nat := 0x25FFF020
def Reg.WHL_CNT_STEPS : Fld := ⟨RegAddr.WHL_CNT, 24, 8, 0x0⟩
def Reg.WHL_CNT_SHOW_MISS : Fld := ⟨RegAddr.WHL_CNT, 16, 8, 0x0⟩
def Reg.WHL_CNT_OUTSIDE : Fld := ⟨RegAddr.WHL_CNT, 8, 8, 0x0⟩
def Reg.WHL_CNT_MISSED : Fld := ⟨RegAddr.WHL_CNT, 0, 8, 0x0⟩
def RegAddr.WHL_LOCAL : Nat := 0x25FFF024
def Reg.WHL_LOCAL_DIFF : Fld := ⟨RegAddr.WHL_LOCAL, 0, 32, 0x0⟩
def RegAddr.WHL_HOP (i : Nat) : Nat := 0x2503F000 + i * 0x40000
def Reg.WHL_HOP_TIME_PORT (i : Nat) : Fld := ⟨(RegAddr.WHL_HOP i), 31, 1, 0x0⟩
def Reg.WHL_HOP_VALID (i : Nat) : Fld := ⟨(RegAddr.WHL_HOP i), 20, 8, 0x0⟩
def Reg.WHL_HOP_DELAY (i : Nat) : Fld := ⟨(RegAddr.WHL_HOP i), 0, 20, 0x0⟩
def RegAddr.TFS_GEOM : Nat := 0x15FFF000
def Reg.TFS_GEOM_HM1 : Fld := ⟨RegAddr.TFS_GEOM, 16, 10, 0x1FF03FF⟩
def Reg.TFS_GEOM_WM1 : Fld := ⟨RegAddr.TFS_GEOM, 0, 11, 0x1FF03FF⟩
def RegAddr.TFS_STORE : Nat := 0x15FFF004
def Reg.TFS_STORE_BASE : Fld := ⟨RegAddr.TFS_STORE, 0, 17, 0x0⟩
def RegAddr.TFS_FEED : Nat := 0x15FFF008
def Reg.TFS_FEED_LEAD : Fld := ⟨RegAddr.TFS_FEED, 0, 16, 0xFA0⟩
def RegAddr.TFS_STAT : Nat := 0x15FFF00C
def Reg.TFS_STAT_REFUSE : Fld := ⟨RegAddr.TFS_STAT, 16, 3, 0x24⟩
def Reg.TFS_STAT_LATE : Fld := ⟨RegAddr.TFS_STAT, 12, 1, 0x24⟩
def Reg.TFS_STAT_BACK_STATE : Fld := ⟨RegAddr.TFS_STAT, 10, 2, 0x24⟩
def Reg.TFS_STAT_RECEIVE : Fld := ⟨RegAddr.TFS_STAT, 4, 2, 0x24⟩
def Reg.TFS_STAT_BACK : Fld := ⟨RegAddr.TFS_STAT, 2, 2, 0x24⟩
def Reg.TFS_STAT_FRONT : Fld := ⟨RegAddr.TFS_STAT, 0, 2, 0x24⟩
def RegAddr.TFS_SHOW : Nat := 0x15FFF010
def Reg.TFS_SHOW_GEN : Fld := ⟨RegAddr.TFS_SHOW, 0, 32, 0x0⟩
def RegAddr.TFS_BACK : Nat := 0x15FFF014
def Reg.TFS_BACK_GEN : Fld := ⟨RegAddr.TFS_BACK, 0, 32, 0x0⟩
def RegAddr.TFS_CNT : Nat := 0x15FFF018
def Reg.TFS_CNT_MISS : Fld := ⟨RegAddr.TFS_CNT, 16, 16, 0x0⟩
def Reg.TFS_CNT_LATE : Fld := ⟨RegAddr.TFS_CNT, 0, 16, 0x0⟩
def RegAddr.LMP_CFG : Nat := 0x15FFF100
def Reg.LMP_CFG_DRT_SLEW : Fld := ⟨RegAddr.LMP_CFG, 24, 8, 0x2064001C⟩
def Reg.LMP_CFG_SCAN_MS : Fld := ⟨RegAddr.LMP_CFG, 16, 8, 0x2064001C⟩
def Reg.LMP_CFG_SLEW : Fld := ⟨RegAddr.LMP_CFG, 4, 3, 0x2064001C⟩
def Reg.LMP_CFG_NSM1 : Fld := ⟨RegAddr.LMP_CFG, 2, 2, 0x2064001C⟩
def Reg.LMP_CFG_IDENTITY : Fld := ⟨RegAddr.LMP_CFG, 0, 1, 0x2064001C⟩
def RegAddr.LMP_TABLE : Nat := 0x15FFF104
def Reg.LMP_TABLE_BASE : Fld := ⟨RegAddr.LMP_TABLE, 0, 17, 0x0⟩
def RegAddr.LMP_SET01 : Nat := 0x15FFF108
def Reg.LMP_SET01_T1 : Fld := ⟨RegAddr.LMP_SET01, 16, 16, 0x2800190⟩
def Reg.LMP_SET01_T0 : Fld := ⟨RegAddr.LMP_SET01, 0, 16, 0x2800190⟩
def RegAddr.LMP_SET23 : Nat := 0x15FFF10C
def Reg.LMP_SET23_T3 : Fld := ⟨RegAddr.LMP_SET23, 16, 16, 0x4600370⟩
def Reg.LMP_SET23_T2 : Fld := ⟨RegAddr.LMP_SET23, 0, 16, 0x4600370⟩
def RegAddr.LMP_DERATE : Nat := 0x15FFF110
def Reg.LMP_DERATE_APPLIED : Fld := ⟨RegAddr.LMP_DERATE, 16, 16, 0x80008000⟩
def Reg.LMP_DERATE_LOCAL : Fld := ⟨RegAddr.LMP_DERATE, 0, 16, 0x80008000⟩
def RegAddr.LMP_WALLMIN : Nat := 0x15FFF114
def Reg.LMP_WALLMIN_WALLMIN : Fld := ⟨RegAddr.LMP_WALLMIN, 0, 16, 0xFFFF8000⟩
def RegAddr.LMP_STAT : Nat := 0x15FFF118
def Reg.LMP_STAT_VALID : Fld := ⟨RegAddr.LMP_STAT, 16, 16, 0x0⟩
def Reg.LMP_STAT_NOSENSE : Fld := ⟨RegAddr.LMP_STAT, 4, 1, 0x0⟩
def Reg.LMP_STAT_REFUSE : Fld := ⟨RegAddr.LMP_STAT, 0, 4, 0x0⟩
def RegAddr.LMP_DEC (i j : Nat) : Nat := 0x15000000 + i * 0x1000 + j * 0x4
def Reg.LMP_DEC_ENTRY (i j : Nat) : Fld := ⟨(RegAddr.LMP_DEC i j), 0, 16, ((i % 4 * 1024 + j) * 16 + (i % 4 * 1024 + j) / 256)⟩
def RegAddr.LMP_SNS_CFG (i : Nat) : Nat := 0x15040000 + i * 0x1000
def Reg.LMP_SNS_CFG_ENABLE (i : Nat) : Fld := ⟨(RegAddr.LMP_SNS_CFG i), 31, 1, 0x48⟩
def Reg.LMP_SNS_CFG_PTR (i : Nat) : Fld := ⟨(RegAddr.LMP_SNS_CFG i), 8, 8, 0x48⟩
def Reg.LMP_SNS_CFG_ADDR (i : Nat) : Fld := ⟨(RegAddr.LMP_SNS_CFG i), 0, 7, 0x48⟩
def RegAddr.LMP_SNS_STAT (i : Nat) : Nat := 0x15040004 + i * 0x1000
def Reg.LMP_SNS_STAT_FAILS (i : Nat) : Fld := ⟨(RegAddr.LMP_SNS_STAT i), 18, 2, 0x0⟩
def Reg.LMP_SNS_STAT_VALID (i : Nat) : Fld := ⟨(RegAddr.LMP_SNS_STAT i), 16, 1, 0x0⟩
def Reg.LMP_SNS_STAT_TEMP (i : Nat) : Fld := ⟨(RegAddr.LMP_SNS_STAT i), 0, 16, 0x0⟩
def RegAddr.LMP_ZONE_MASK (i : Nat) : Nat := 0x15080000 + i * 0x1000
def Reg.LMP_ZONE_MASK_MASK (i : Nat) : Fld := ⟨(RegAddr.LMP_ZONE_MASK i), 0, 16, 0x0⟩
def RegAddr.LMP_ZONE_STAT (i : Nat) : Nat := 0x15080004 + i * 0x1000
def Reg.LMP_ZONE_STAT_SRC (i : Nat) : Fld := ⟨(RegAddr.LMP_ZONE_STAT i), 30, 2, 0x0⟩
def Reg.LMP_ZONE_STAT_TARGET (i : Nat) : Fld := ⟨(RegAddr.LMP_ZONE_STAT i), 16, 12, 0x0⟩
def Reg.LMP_ZONE_STAT_POS (i : Nat) : Fld := ⟨(RegAddr.LMP_ZONE_STAT i), 0, 12, 0x0⟩
def RegAddr.LMP_ZONE_TEMP (i : Nat) : Nat := 0x15080008 + i * 0x1000
def Reg.LMP_ZONE_TEMP_TEMP (i : Nat) : Fld := ⟨(RegAddr.LMP_ZONE_TEMP i), 0, 16, 0x0⟩
def RegAddr.DRV_GRP_CFG (i : Nat) : Nat := 0x2303F000 + i * 0x40000
def Reg.DRV_GRP_CFG_ENABLE (i : Nat) : Fld := ⟨(RegAddr.DRV_GRP_CFG i), 31, 1, 0x31F18⟩
def Reg.DRV_GRP_CFG_PROFILE (i : Nat) : Fld := ⟨(RegAddr.DRV_GRP_CFG i), 29, 2, 0x31F18⟩
def Reg.DRV_GRP_CFG_PROBE_EN (i : Nat) : Fld := ⟨(RegAddr.DRV_GRP_CFG i), 28, 1, 0x31F18⟩
def Reg.DRV_GRP_CFG_SHORT_OFF (i : Nat) : Fld := ⟨(RegAddr.DRV_GRP_CFG i), 27, 1, 0x31F18⟩
def Reg.DRV_GRP_CFG_ROWEN_POL (i : Nat) : Fld := ⟨(RegAddr.DRV_GRP_CFG i), 26, 1, 0x31F18⟩
def Reg.DRV_GRP_CFG_ROW_REV (i : Nat) : Fld := ⟨(RegAddr.DRV_GRP_CFG i), 25, 1, 0x31F18⟩
def Reg.DRV_GRP_CFG_CH_REV (i : Nat) : Fld := ⟨(RegAddr.DRV_GRP_CFG i), 24, 1, 0x31F18⟩
def Reg.DRV_GRP_CFG_LAMP_ORDER (i : Nat) : Fld := ⟨(RegAddr.DRV_GRP_CFG i), 22, 2, 0x31F18⟩
def Reg.DRV_GRP_CFG_CHAIN_MODE (i : Nat) : Fld := ⟨(RegAddr.DRV_GRP_CFG i), 21, 1, 0x31F18⟩
def Reg.DRV_GRP_CFG_PCL (i : Nat) : Fld := ⟨(RegAddr.DRV_GRP_CFG i), 16, 3, 0x31F18⟩
def Reg.DRV_GRP_CFG_SCANM1 (i : Nat) : Fld := ⟨(RegAddr.DRV_GRP_CFG i), 8, 6, 0x31F18⟩
def Reg.DRV_GRP_CFG_CHAIN (i : Nat) : Fld := ⟨(RegAddr.DRV_GRP_CFG i), 0, 6, 0x31F18⟩
def RegAddr.DRV_GRP_ORIGIN (i : Nat) : Nat := 0x2303F004 + i * 0x40000
def Reg.DRV_GRP_ORIGIN_GY (i : Nat) : Fld := ⟨(RegAddr.DRV_GRP_ORIGIN i), 16, 10, 0x0⟩
def Reg.DRV_GRP_ORIGIN_GX (i : Nat) : Fld := ⟨(RegAddr.DRV_GRP_ORIGIN i), 0, 11, 0x0⟩
def RegAddr.DRV_GRP_CLK (i : Nat) : Nat := 0x2303F008 + i * 0x40000
def Reg.DRV_GRP_CLK_GDIV (i : Nat) : Fld := ⟨(RegAddr.DRV_GRP_CLK i), 16, 11, 0x90014⟩
def Reg.DRV_GRP_CLK_DDIV (i : Nat) : Fld := ⟨(RegAddr.DRV_GRP_CLK i), 0, 8, 0x90014⟩
def RegAddr.DRV_GRP_REFRESH (i : Nat) : Nat := 0x2303F00C + i * 0x40000
def Reg.DRV_GRP_REFRESH_PROBE_NS (i : Nat) : Fld := ⟨(RegAddr.DRV_GRP_REFRESH i), 16, 16, 0xC81006⟩
def Reg.DRV_GRP_REFRESH_BLANK (i : Nat) : Fld := ⟨(RegAddr.DRV_GRP_REFRESH i), 8, 8, 0xC81006⟩
def Reg.DRV_GRP_REFRESH_RPFL (i : Nat) : Fld := ⟨(RegAddr.DRV_GRP_REFRESH i), 0, 3, 0xC81006⟩
def RegAddr.DRV_GRP_KNEE (i : Nat) : Nat := 0x2303F010 + i * 0x40000
def Reg.DRV_GRP_KNEE_KNEE (i : Nat) : Fld := ⟨(RegAddr.DRV_GRP_KNEE i), 24, 8, 0x3C200040⟩
def Reg.DRV_GRP_KNEE_KSLEW (i : Nat) : Fld := ⟨(RegAddr.DRV_GRP_KNEE i), 16, 8, 0x3C200040⟩
def Reg.DRV_GRP_KNEE_SLOPE (i : Nat) : Fld := ⟨(RegAddr.DRV_GRP_KNEE i), 0, 9, 0x3C200040⟩
def RegAddr.DRV_GRP_ZONE (i : Nat) : Nat := 0x2303F014 + i * 0x40000
def Reg.DRV_GRP_ZONE_BASE_GAIN (i : Nat) : Fld := ⟨(RegAddr.DRV_GRP_ZONE i), 16, 10, 0xFFFFFF⟩
def Reg.DRV_GRP_ZONE_ZONES (i : Nat) : Fld := ⟨(RegAddr.DRV_GRP_ZONE i), 0, 16, 0xFFFFFF⟩
def RegAddr.DRV_GRP_CREF (i : Nat) : Nat := 0x2303F018 + i * 0x40000
def Reg.DRV_GRP_CREF_CODE (i : Nat) : Fld := ⟨(RegAddr.DRV_GRP_CREF i), 0, 14, 0x1FFF⟩
def RegAddr.DRV_GRP_LAMP (i : Nat) : Nat := 0x2303F01C + i * 0x40000
def Reg.DRV_GRP_LAMP_AGE_MAX (i : Nat) : Fld := ⟨(RegAddr.DRV_GRP_LAMP i), 18, 14, 0x10000000⟩
def Reg.DRV_GRP_LAMP_BASE (i : Nat) : Fld := ⟨(RegAddr.DRV_GRP_LAMP i), 0, 17, 0x10000000⟩
def RegAddr.DRV_GRP_STAT (i : Nat) : Nat := 0x2303F020 + i * 0x40000
def Reg.DRV_GRP_STAT_REFUSE (i : Nat) : Fld := ⟨(RegAddr.DRV_GRP_STAT i), 28, 4, 0x0⟩
def Reg.DRV_GRP_STAT_DARK_ABORT (i : Nat) : Fld := ⟨(RegAddr.DRV_GRP_STAT i), 27, 1, 0x0⟩
def Reg.DRV_GRP_STAT_DARK (i : Nat) : Fld := ⟨(RegAddr.DRV_GRP_STAT i), 26, 1, 0x0⟩
def Reg.DRV_GRP_STAT_FEED_FIT (i : Nat) : Fld := ⟨(RegAddr.DRV_GRP_STAT i), 25, 1, 0x0⟩
def Reg.DRV_GRP_STAT_REFRESH_FIT (i : Nat) : Fld := ⟨(RegAddr.DRV_GRP_STAT i), 24, 1, 0x0⟩
def Reg.DRV_GRP_STAT_PROBE_FIT (i : Nat) : Fld := ⟨(RegAddr.DRV_GRP_STAT i), 23, 1, 0x0⟩
def Reg.DRV_GRP_STAT_ABORTS (i : Nat) : Fld := ⟨(RegAddr.DRV_GRP_STAT i), 16, 4, 0x0⟩
def Reg.DRV_GRP_STAT_CREF_NOW (i : Nat) : Fld := ⟨(RegAddr.DRV_GRP_STAT i), 0, 14, 0x0⟩
def RegAddr.DRV_GRP_FACTOR (i : Nat) : Nat := 0x2303F024 + i * 0x40000
def Reg.DRV_GRP_FACTOR_GAIN (i : Nat) : Fld := ⟨(RegAddr.DRV_GRP_FACTOR i), 16, 10, 0x8000⟩
def Reg.DRV_GRP_FACTOR_K (i : Nat) : Fld := ⟨(RegAddr.DRV_GRP_FACTOR i), 0, 16, 0x8000⟩
def RegAddr.DRV_GRP_TEMP (i : Nat) : Nat := 0x2303F028 + i * 0x40000
def Reg.DRV_GRP_TEMP_TARGET (i : Nat) : Fld := ⟨(RegAddr.DRV_GRP_TEMP i), 16, 16, 0x80000000⟩
def Reg.DRV_GRP_TEMP_T (i : Nat) : Fld := ⟨(RegAddr.DRV_GRP_TEMP i), 0, 16, 0x80000000⟩
def RegAddr.DRV_GRP_CNT (i : Nat) : Nat := 0x2303F02C + i * 0x40000
def Reg.DRV_GRP_CNT_UNDERRUN (i : Nat) : Fld := ⟨(RegAddr.DRV_GRP_CNT i), 16, 16, 0x0⟩
def Reg.DRV_GRP_CNT_LATE (i : Nat) : Fld := ⟨(RegAddr.DRV_GRP_CNT i), 8, 8, 0x0⟩
def Reg.DRV_GRP_CNT_SKIPPED (i : Nat) : Fld := ⟨(RegAddr.DRV_GRP_CNT i), 0, 8, 0x0⟩
def RegAddr.DRV_GRP_LAMPS (i : Nat) : Nat := 0x2303F030 + i * 0x40000
def Reg.DRV_GRP_LAMPS_SHORT (i : Nat) : Fld := ⟨(RegAddr.DRV_GRP_LAMPS i), 16, 16, 0x0⟩
def Reg.DRV_GRP_LAMPS_OPEN (i : Nat) : Fld := ⟨(RegAddr.DRV_GRP_LAMPS i), 0, 16, 0x0⟩
def RegAddr.DRV_GRP_UNVER (i : Nat) : Nat := 0x2303F034 + i * 0x40000
def Reg.DRV_GRP_UNVER_COUNT (i : Nat) : Fld := ⟨(RegAddr.DRV_GRP_UNVER i), 0, 20, 0x0⟩
def RegAddr.DRV_PROF_STAT : Nat := 0x23FFF000
def Reg.DRV_PROF_STAT_VALID : Fld := ⟨RegAddr.DRV_PROF_STAT, 4, 4, 0x0⟩
def Reg.DRV_PROF_STAT_PRESENT : Fld := ⟨RegAddr.DRV_PROF_STAT, 0, 4, 0x0⟩
def RegAddr.DRV_PROF (i j : Nat) : Nat := 0x23FFF100 + i * 0x40 + j * 0x4
def Reg.DRV_PROF_BODY (i j : Nat) : Fld := ⟨(RegAddr.DRV_PROF i j), 0, 32, 0x0⟩
def RegAddr.ASY_RUN : Nat := 0x24FFF000
def Reg.ASY_RUN_START : Fld := ⟨RegAddr.ASY_RUN, 31, 1, 0x0⟩
def Reg.ASY_RUN_SWEEP : Fld := ⟨RegAddr.ASY_RUN, 16, 8, 0x0⟩
def Reg.ASY_RUN_TS_EN : Fld := ⟨RegAddr.ASY_RUN, 15, 1, 0x0⟩
def Reg.ASY_RUN_REF_TEMP : Fld := ⟨RegAddr.ASY_RUN, 0, 12, 0x0⟩
def RegAddr.ASY_REF : Nat := 0x24FFF004
def Reg.ASY_REF_REF_UV : Fld := ⟨RegAddr.ASY_REF, 0, 21, 0x1312D0⟩
def RegAddr.ASY_STAT : Nat := 0x24FFF008
def Reg.ASY_STAT_REASON : Fld := ⟨RegAddr.ASY_STAT, 28, 4, 0x0⟩
def Reg.ASY_STAT_STEP : Fld := ⟨RegAddr.ASY_STAT, 24, 4, 0x0⟩
def Reg.ASY_STAT_POINTS : Fld := ⟨RegAddr.ASY_STAT, 20, 4, 0x0⟩
def Reg.ASY_STAT_NO_RECORD : Fld := ⟨RegAddr.ASY_STAT, 19, 1, 0x0⟩
def Reg.ASY_STAT_CLIP : Fld := ⟨RegAddr.ASY_STAT, 18, 1, 0x0⟩
def Reg.ASY_STAT_SLEWING : Fld := ⟨RegAddr.ASY_STAT, 17, 1, 0x0⟩
def Reg.ASY_STAT_WRITE_FAIL : Fld := ⟨RegAddr.ASY_STAT, 16, 1, 0x0⟩
def Reg.ASY_STAT_SWEEP_CUT : Fld := ⟨RegAddr.ASY_STAT, 15, 1, 0x0⟩
def Reg.ASY_STAT_RUN : Fld := ⟨RegAddr.ASY_STAT, 0, 15, 0x0⟩
def RegAddr.ASY_TEMP : Nat := 0x24FFF00C
def Reg.ASY_TEMP_RAW : Fld := ⟨RegAddr.ASY_TEMP, 16, 16, 0x0⟩
def Reg.ASY_TEMP_TEMP : Fld := ⟨RegAddr.ASY_TEMP, 0, 16, 0x0⟩
def RegAddr.ASY_ADC : Nat := 0x24FFF010
def Reg.ASY_ADC_GADJ : Fld := ⟨RegAddr.ASY_ADC, 16, 16, 0x0⟩
def Reg.ASY_ADC_OFF : Fld := ⟨RegAddr.ASY_ADC, 0, 16, 0x0⟩
def RegAddr.ASY_CREF (i : Nat) : Nat := 0x24000000 + i * 0x40000
def Reg.ASY_CREF_GADJ (i : Nat) : Fld := ⟨(RegAddr.ASY_CREF i), 16, 16, 0x0⟩
def Reg.ASY_CREF_OFF (i : Nat) : Fld := ⟨(RegAddr.ASY_CREF i), 0, 16, 0x0⟩
def RegAddr.ASY_CREF_RAW (i : Nat) : Nat := 0x24000004 + i * 0x40000
def Reg.ASY_CREF_RAW_RAW (i : Nat) : Fld := ⟨(RegAddr.ASY_CREF_RAW i), 0, 14, 0x0⟩
def RegAddr.ASY_DUTY (i : Nat) : Nat := 0x24000008 + i * 0x40000
def Reg.ASY_DUTY_MEAS (i : Nat) : Fld := ⟨(RegAddr.ASY_DUTY i), 8, 10, 0x0⟩
def Reg.ASY_DUTY_DUTY (i : Nat) : Fld := ⟨(RegAddr.ASY_DUTY i), 0, 8, 0x0⟩
def RegAddr.DMC_CFG : Nat := 0x12FFF000
def Reg.DMC_CFG_SCRUB_H : Fld := ⟨RegAddr.DMC_CFG, 16, 8, 0x180100⟩
def Reg.DMC_CFG_PD_TIMER : Fld := ⟨RegAddr.DMC_CFG, 0, 16, 0x180100⟩
def RegAddr.DMC_AGE_A : Nat := 0x12FFF004
def Reg.DMC_AGE_A_C1 : Fld := ⟨RegAddr.DMC_AGE_A, 16, 16, 0xC80064⟩
def Reg.DMC_AGE_A_C0 : Fld := ⟨RegAddr.DMC_AGE_A, 0, 16, 0xC80064⟩
def RegAddr.DMC_AGE_B : Nat := 0x12FFF008
def Reg.DMC_AGE_B_C3 : Fld := ⟨RegAddr.DMC_AGE_B, 16, 16, 0x7D00190⟩
def Reg.DMC_AGE_B_C2 : Fld := ⟨RegAddr.DMC_AGE_B, 0, 16, 0x7D00190⟩
def RegAddr.DMC_STAT : Nat := 0x12FFF00C
def Reg.DMC_STAT_REFUSE : Fld := ⟨RegAddr.DMC_STAT, 28, 4, 0x0⟩
def Reg.DMC_STAT_AREA_GROUP : Fld := ⟨RegAddr.DMC_STAT, 24, 4, 0x0⟩
def Reg.DMC_STAT_DEAD : Fld := ⟨RegAddr.DMC_STAT, 16, 8, 0x0⟩
def Reg.DMC_STAT_STATE : Fld := ⟨RegAddr.DMC_STAT, 0, 3, 0x0⟩
def RegAddr.DMC_TRAIN : Nat := 0x12FFF010
def Reg.DMC_TRAIN_TEMP : Fld := ⟨RegAddr.DMC_TRAIN, 0, 16, 0x0⟩
def RegAddr.DMC_ECC_CNT : Nat := 0x12FFF014
def Reg.DMC_ECC_CNT_UE : Fld := ⟨RegAddr.DMC_ECC_CNT, 16, 16, 0x0⟩
def Reg.DMC_ECC_CNT_CE : Fld := ⟨RegAddr.DMC_ECC_CNT, 0, 16, 0x0⟩
def RegAddr.DMC_ECC_LAST : Nat := 0x12FFF018
def Reg.DMC_ECC_LAST_UE : Fld := ⟨RegAddr.DMC_ECC_LAST, 31, 1, 0x0⟩
def Reg.DMC_ECC_LAST_SYMBOLS : Fld := ⟨RegAddr.DMC_ECC_LAST, 27, 4, 0x0⟩
def Reg.DMC_ECC_LAST_LINE : Fld := ⟨RegAddr.DMC_ECC_LAST, 0, 27, 0x0⟩
def RegAddr.DMC_SCRUB : Nat := 0x12FFF01C
def Reg.DMC_SCRUB_POS : Fld := ⟨RegAddr.DMC_SCRUB, 0, 27, 0x0⟩
def RegAddr.DMC_MAPERR : Nat := 0x12FFF020
def Reg.DMC_MAPERR_COUNT : Fld := ⟨RegAddr.DMC_MAPERR, 0, 16, 0x0⟩
def RegAddr.DMC_WIN_BASE (i : Nat) : Nat := 0x12200000 + i * 0x1000
def Reg.DMC_WIN_BASE_BASE (i : Nat) : Fld := ⟨(RegAddr.DMC_WIN_BASE i), 0, 17, 0x0⟩
def RegAddr.DMC_WIN_SIZE (i : Nat) : Nat := 0x12200004 + i * 0x1000
def Reg.DMC_WIN_SIZE_SIZE (i : Nat) : Fld := ⟨(RegAddr.DMC_WIN_SIZE i), 0, 18, 0x0⟩
def RegAddr.DMC_WIN_CFG (i : Nat) : Nat := 0x12200008 + i * 0x1000
def Reg.DMC_WIN_CFG_ENABLE (i : Nat) : Fld := ⟨(RegAddr.DMC_WIN_CFG i), 31, 1, 0x0⟩
def Reg.DMC_WIN_CFG_KIND (i : Nat) : Fld := ⟨(RegAddr.DMC_WIN_CFG i), 8, 2, 0x0⟩
def Reg.DMC_WIN_CFG_GRAIN (i : Nat) : Fld := ⟨(RegAddr.DMC_WIN_CFG i), 0, 4, 0x0⟩
def RegAddr.DMC_CH_STAT (i : Nat) : Nat := 0x1203F000 + i * 0x40000
def Reg.DMC_CH_STAT_DEAD_WIRE (i : Nat) : Fld := ⟨(RegAddr.DMC_CH_STAT i), 24, 8, 0xFF000000⟩
def Reg.DMC_CH_STAT_DTEMP (i : Nat) : Fld := ⟨(RegAddr.DMC_CH_STAT i), 8, 8, 0xFF000000⟩
def Reg.DMC_CH_STAT_PR1 (i : Nat) : Fld := ⟨(RegAddr.DMC_CH_STAT i), 2, 2, 0xFF000000⟩
def Reg.DMC_CH_STAT_PR0 (i : Nat) : Fld := ⟨(RegAddr.DMC_CH_STAT i), 0, 2, 0xFF000000⟩
def RegAddr.DMC_CH_CLASS (i : Nat) : Nat := 0x1203F004 + i * 0x40000
def Reg.DMC_CH_CLASS_LATE (i : Nat) : Fld := ⟨(RegAddr.DMC_CH_CLASS i), 16, 16, 0x0⟩
def Reg.DMC_CH_CLASS_PROMOTED (i : Nat) : Fld := ⟨(RegAddr.DMC_CH_CLASS i), 0, 16, 0x0⟩
def RegAddr.SRB_PWR (i : Nat) : Nat := 0x10400000 + i * 0x1000
def Reg.SRB_PWR_REFUSED (i : Nat) : Fld := ⟨(RegAddr.SRB_PWR i), 8, 1, 0x0⟩
def Reg.SRB_PWR_STATE (i : Nat) : Fld := ⟨(RegAddr.SRB_PWR i), 4, 2, 0x0⟩
def Reg.SRB_PWR_MODE (i : Nat) : Fld := ⟨(RegAddr.SRB_PWR i), 0, 2, 0x0⟩
def RegAddr.SRB_STAT (i : Nat) : Nat := 0x10400004 + i * 0x1000
def Reg.SRB_STAT_PARITY (i : Nat) : Fld := ⟨(RegAddr.SRB_STAT i), 18, 14, 0x0⟩
def Reg.SRB_STAT_LAST_ROW (i : Nat) : Fld := ⟨(RegAddr.SRB_STAT i), 0, 18, 0x0⟩
def RegAddr.SRB_TEST_CTRL : Nat := 0x1043F000
def Reg.SRB_TEST_CTRL_ENABLE : Fld := ⟨RegAddr.SRB_TEST_CTRL, 31, 1, 0x80003D0A⟩
def Reg.SRB_TEST_CTRL_PERIOD : Fld := ⟨RegAddr.SRB_TEST_CTRL, 0, 8, 0x80003D0A⟩
def Reg.SRB_TEST_CTRL_BANKS : Fld := ⟨RegAddr.SRB_TEST_CTRL, 8, 6, 0x80003D0A⟩
def RegAddr.SRB_TEST_POS : Nat := 0x1043F004
def Reg.SRB_TEST_POS_HELD : Fld := ⟨RegAddr.SRB_TEST_POS, 31, 1, 0x0⟩
def Reg.SRB_TEST_POS_BANK : Fld := ⟨RegAddr.SRB_TEST_POS, 16, 3, 0x0⟩
def Reg.SRB_TEST_POS_WINDOW : Fld := ⟨RegAddr.SRB_TEST_POS, 0, 13, 0x0⟩
def RegAddr.SRB_TEST_STAT : Nat := 0x1043F008
def Reg.SRB_TEST_STAT_YIELDS : Fld := ⟨RegAddr.SRB_TEST_STAT, 16, 16, 0x0⟩
def Reg.SRB_TEST_STAT_FAILS : Fld := ⟨RegAddr.SRB_TEST_STAT, 8, 8, 0x0⟩
def Reg.SRB_TEST_STAT_PASSES : Fld := ⟨RegAddr.SRB_TEST_STAT, 0, 8, 0x0⟩
def RegAddr.SRB_TEST_FAIL : Nat := 0x1043F00C
def Reg.SRB_TEST_FAIL_VALID : Fld := ⟨RegAddr.SRB_TEST_FAIL, 31, 1, 0x0⟩
def Reg.SRB_TEST_FAIL_BANK : Fld := ⟨RegAddr.SRB_TEST_FAIL, 16, 3, 0x0⟩
def Reg.SRB_TEST_FAIL_WINDOW : Fld := ⟨RegAddr.SRB_TEST_FAIL, 0, 13, 0x0⟩
def RegAddr.TLY_CL_CFG (i : Nat) : Nat := 0x1603F000 + i * 0x40000
def Reg.TLY_CL_CFG_CUSTOM (i : Nat) : Fld := ⟨(RegAddr.TLY_CL_CFG i), 2, 1, 0x0⟩
def Reg.TLY_CL_CFG_PROFILE (i : Nat) : Fld := ⟨(RegAddr.TLY_CL_CFG i), 0, 2, 0x0⟩
def RegAddr.TLY_CL_STAT (i : Nat) : Nat := 0x1603F004 + i * 0x40000
def Reg.TLY_CL_STAT_REFUSE (i : Nat) : Fld := ⟨(RegAddr.TLY_CL_STAT i), 4, 4, 0x0⟩
def Reg.TLY_CL_STAT_UNIT (i : Nat) : Fld := ⟨(RegAddr.TLY_CL_STAT i), 0, 3, 0x0⟩
def RegAddr.TLY_U_CFG (i j : Nat) : Nat := 0x16000000 + i * 0x40000 + j * 0x1000
def Reg.TLY_U_CFG_REFOUT (i j : Nat) : Fld := ⟨(RegAddr.TLY_U_CFG i j), 8, 1, 0x1A0⟩
def Reg.TLY_U_CFG_REFIN (i j : Nat) : Fld := ⟨(RegAddr.TLY_U_CFG i j), 7, 1, 0x1A0⟩
def Reg.TLY_U_CFG_WIDTH (i j : Nat) : Fld := ⟨(RegAddr.TLY_U_CFG i j), 0, 7, 0x1A0⟩
def RegAddr.TLY_U_POLY_LO (i j : Nat) : Nat := 0x16000004 + i * 0x40000 + j * 0x1000
def Reg.TLY_U_POLY_LO_V (i j : Nat) : Fld := ⟨(RegAddr.TLY_U_POLY_LO i j), 0, 32, 0x1EDC6F41⟩
def RegAddr.TLY_U_POLY_HI (i j : Nat) : Nat := 0x16000008 + i * 0x40000 + j * 0x1000
def Reg.TLY_U_POLY_HI_V (i j : Nat) : Fld := ⟨(RegAddr.TLY_U_POLY_HI i j), 0, 32, 0x0⟩
def RegAddr.TLY_U_INIT_LO (i j : Nat) : Nat := 0x1600000C + i * 0x40000 + j * 0x1000
def Reg.TLY_U_INIT_LO_V (i j : Nat) : Fld := ⟨(RegAddr.TLY_U_INIT_LO i j), 0, 32, 0xFFFFFFFF⟩
def RegAddr.TLY_U_INIT_HI (i j : Nat) : Nat := 0x16000010 + i * 0x40000 + j * 0x1000
def Reg.TLY_U_INIT_HI_V (i j : Nat) : Fld := ⟨(RegAddr.TLY_U_INIT_HI i j), 0, 32, 0x0⟩
def RegAddr.TLY_U_XOR_LO (i j : Nat) : Nat := 0x16000014 + i * 0x40000 + j * 0x1000
def Reg.TLY_U_XOR_LO_V (i j : Nat) : Fld := ⟨(RegAddr.TLY_U_XOR_LO i j), 0, 32, 0xFFFFFFFF⟩
def RegAddr.TLY_U_XOR_HI (i j : Nat) : Nat := 0x16000018 + i * 0x40000 + j * 0x1000
def Reg.TLY_U_XOR_HI_V (i j : Nat) : Fld := ⟨(RegAddr.TLY_U_XOR_HI i j), 0, 32, 0x0⟩
def RegAddr.TLY_U_DATA1 (i j : Nat) : Nat := 0x16000020 + i * 0x40000 + j * 0x1000
def RegAddr.TLY_U_DATA2 (i j : Nat) : Nat := 0x16000024 + i * 0x40000 + j * 0x1000
def RegAddr.TLY_U_DATA4 (i j : Nat) : Nat := 0x16000028 + i * 0x40000 + j * 0x1000
def RegAddr.TLY_U_CTRL (i j : Nat) : Nat := 0x1600002C + i * 0x40000 + j * 0x1000
def RegAddr.TLY_U_RES_LO (i j : Nat) : Nat := 0x16000030 + i * 0x40000 + j * 0x1000
def RegAddr.TLY_U_RES_HI (i j : Nat) : Nat := 0x16000034 + i * 0x40000 + j * 0x1000
def RegAddr.TLY_U_STAT (i j : Nat) : Nat := 0x16000038 + i * 0x40000 + j * 0x1000
def Reg.TLY_U_STAT_RESTARTED (i j : Nat) : Fld := ⟨(RegAddr.TLY_U_STAT i j), 31, 1, 0x0⟩
def Reg.TLY_U_STAT_COUNT (i j : Nat) : Fld := ⟨(RegAddr.TLY_U_STAT i j), 0, 31, 0x0⟩
def RegAddr.TLY_MS_ADDR_LO (i : Nat) : Nat := 0x16100000 + i * 0x1000
def Reg.TLY_MS_ADDR_LO_ADDR (i : Nat) : Fld := ⟨(RegAddr.TLY_MS_ADDR_LO i), 0, 32, 0x0⟩
def RegAddr.TLY_MS_ADDR_HI (i : Nat) : Nat := 0x16100004 + i * 0x1000
def Reg.TLY_MS_ADDR_HI_ADDR (i : Nat) : Fld := ⟨(RegAddr.TLY_MS_ADDR_HI i), 0, 1, 0x0⟩
def RegAddr.TLY_MS_LEN (i : Nat) : Nat := 0x16100008 + i * 0x1000
def Reg.TLY_MS_LEN_LEN (i : Nat) : Fld := ⟨(RegAddr.TLY_MS_LEN i), 0, 32, 0x0⟩
def RegAddr.TLY_MS_CFG (i : Nat) : Nat := 0x1610000C + i * 0x1000
def Reg.TLY_MS_CFG_START (i : Nat) : Fld := ⟨(RegAddr.TLY_MS_CFG i), 31, 1, 0x0⟩
def Reg.TLY_MS_CFG_PROFILE (i : Nat) : Fld := ⟨(RegAddr.TLY_MS_CFG i), 16, 2, 0x0⟩
def Reg.TLY_MS_CFG_REPEAT (i : Nat) : Fld := ⟨(RegAddr.TLY_MS_CFG i), 8, 1, 0x0⟩
def RegAddr.TLY_MS_EXP_LO (i : Nat) : Nat := 0x16100010 + i * 0x1000
def Reg.TLY_MS_EXP_LO_EXPECT (i : Nat) : Fld := ⟨(RegAddr.TLY_MS_EXP_LO i), 0, 32, 0x0⟩
def RegAddr.TLY_MS_EXP_HI (i : Nat) : Nat := 0x16100014 + i * 0x1000
def Reg.TLY_MS_EXP_HI_EXPECT (i : Nat) : Fld := ⟨(RegAddr.TLY_MS_EXP_HI i), 0, 32, 0x0⟩
def RegAddr.TLY_MS_RES_LO (i : Nat) : Nat := 0x16100018 + i * 0x1000
def Reg.TLY_MS_RES_LO_RESULT (i : Nat) : Fld := ⟨(RegAddr.TLY_MS_RES_LO i), 0, 32, 0x0⟩
def RegAddr.TLY_MS_RES_HI (i : Nat) : Nat := 0x1610001C + i * 0x1000
def RegAddr.TLY_MS_STAT (i : Nat) : Nat := 0x16100020 + i * 0x1000
def Reg.TLY_MS_STAT_DONE (i : Nat) : Fld := ⟨(RegAddr.TLY_MS_STAT i), 31, 1, 0x0⟩
def Reg.TLY_MS_STAT_MISMATCH (i : Nat) : Fld := ⟨(RegAddr.TLY_MS_STAT i), 30, 1, 0x0⟩
def Reg.TLY_MS_STAT_UE (i : Nat) : Fld := ⟨(RegAddr.TLY_MS_STAT i), 29, 1, 0x0⟩
def Reg.TLY_MS_STAT_ERROR (i : Nat) : Fld := ⟨(RegAddr.TLY_MS_STAT i), 28, 1, 0x0⟩
def Reg.TLY_MS_STAT_PASSES (i : Nat) : Fld := ⟨(RegAddr.TLY_MS_STAT i), 0, 16, 0x0⟩
def RegAddr.TLY_MS_POS (i : Nat) : Nat := 0x16100024 + i * 0x1000
def Reg.TLY_MS_POS_LINE (i : Nat) : Fld := ⟨(RegAddr.TLY_MS_POS i), 0, 27, 0x0⟩
def RegAddr.TLY_IRQ : Nat := 0x16FFF000
def Reg.TLY_IRQ_ERROR : Fld := ⟨RegAddr.TLY_IRQ, 8, 4, 0x0⟩
def Reg.TLY_IRQ_UE : Fld := ⟨RegAddr.TLY_IRQ, 4, 4, 0x0⟩
def Reg.TLY_IRQ_MISMATCH : Fld := ⟨RegAddr.TLY_IRQ, 0, 4, 0x0⟩
def RegAddr.TLY_IRQ_EN : Nat := 0x16FFF004
def Reg.TLY_IRQ_EN_EN : Fld := ⟨RegAddr.TLY_IRQ_EN, 0, 12, 0x0⟩
def RegAddr.SPN_CFG : Nat := 0x14FFF200
def Reg.SPN_CFG_THERM_C : Fld := ⟨RegAddr.SPN_CFG, 24, 8, 0x69040308⟩
def Reg.SPN_CFG_UE_LIMIT : Fld := ⟨RegAddr.SPN_CFG, 16, 8, 0x69040308⟩
def Reg.SPN_CFG_SHADOW_LIMIT : Fld := ⟨RegAddr.SPN_CFG, 8, 8, 0x69040308⟩
def Reg.SPN_CFG_LOSS_MS : Fld := ⟨RegAddr.SPN_CFG, 0, 7, 0x69040308⟩
def RegAddr.SPN_CFG2 : Nat := 0x14FFF204
def Reg.SPN_CFG2_LPM1 : Fld := ⟨RegAddr.SPN_CFG2, 30, 2, 0x40640064⟩
def Reg.SPN_CFG2_WDOG_MS : Fld := ⟨RegAddr.SPN_CFG2, 16, 14, 0x40640064⟩
def Reg.SPN_CFG2_LANE_MS : Fld := ⟨RegAddr.SPN_CFG2, 0, 14, 0x40640064⟩
def RegAddr.SPN_STAT : Nat := 0x14FFF208
def Reg.SPN_STAT_REFUSE : Fld := ⟨RegAddr.SPN_STAT, 28, 4, 0x0⟩
def Reg.SPN_STAT_VERDICT : Fld := ⟨RegAddr.SPN_STAT, 24, 4, 0x0⟩
def Reg.SPN_STAT_SPLIT : Fld := ⟨RegAddr.SPN_STAT, 20, 4, 0x0⟩
def Reg.SPN_STAT_RANK_CLASH : Fld := ⟨RegAddr.SPN_STAT, 7, 1, 0x0⟩
def Reg.SPN_STAT_DRILL : Fld := ⟨RegAddr.SPN_STAT, 6, 1, 0x0⟩
def Reg.SPN_STAT_YIELDED : Fld := ⟨RegAddr.SPN_STAT, 5, 1, 0x0⟩
def Reg.SPN_STAT_GEN_SYNC : Fld := ⟨RegAddr.SPN_STAT, 4, 1, 0x0⟩
def Reg.SPN_STAT_STATE : Fld := ⟨RegAddr.SPN_STAT, 0, 2, 0x0⟩
def RegAddr.SPN_EPOCH : Nat := 0x14FFF20C
def Reg.SPN_EPOCH_EPOCH : Fld := ⟨RegAddr.SPN_EPOCH, 0, 32, 0x0⟩
def RegAddr.SPN_GEN_OFS : Nat := 0x14FFF210
def Reg.SPN_GEN_OFS_OFFSET : Fld := ⟨RegAddr.SPN_GEN_OFS, 0, 32, 0x0⟩
def RegAddr.SPN_DRILL_OUT : Nat := 0x14FFF214
def RegAddr.SPN_DRILL_BACK : Nat := 0x14FFF218
def RegAddr.SPN_DRILL_STAT : Nat := 0x14FFF21C
def Reg.SPN_DRILL_STAT_RESULT : Fld := ⟨RegAddr.SPN_DRILL_STAT, 28, 4, 0x0⟩
def Reg.SPN_DRILL_STAT_MISSING : Fld := ⟨RegAddr.SPN_DRILL_STAT, 16, 4, 0x0⟩
def RegAddr.SPN_WDOG : Nat := 0x14FFF220
def RegAddr.SPN_CNT : Nat := 0x14FFF224
def Reg.SPN_CNT_TAKEOVERS : Fld := ⟨RegAddr.SPN_CNT, 24, 8, 0x0⟩
def Reg.SPN_CNT_YIELDS : Fld := ⟨RegAddr.SPN_CNT, 16, 8, 0x0⟩
def Reg.SPN_CNT_SPLITS : Fld := ⟨RegAddr.SPN_CNT, 8, 8, 0x0⟩
def Reg.SPN_CNT_SHADOW_MISMATCH : Fld := ⟨RegAddr.SPN_CNT, 0, 8, 0x0⟩
def RegAddr.SPN_TILE_MASTER : Nat := 0x14FFF230
def Reg.SPN_TILE_MASTER_VALID : Fld := ⟨RegAddr.SPN_TILE_MASTER, 31, 1, 0x0⟩
def Reg.SPN_TILE_MASTER_PORT : Fld := ⟨RegAddr.SPN_TILE_MASTER, 8, 2, 0x0⟩
def Reg.SPN_TILE_MASTER_RANK : Fld := ⟨RegAddr.SPN_TILE_MASTER, 0, 1, 0x0⟩
def RegAddr.SPN_TILE_EPOCH : Nat := 0x14FFF234
def Reg.SPN_TILE_EPOCH_EPOCH : Fld := ⟨RegAddr.SPN_TILE_EPOCH, 0, 32, 0x0⟩
def RegAddr.SPN_TILE_SEEN : Nat := 0x14FFF238
def RegAddr.SPN_TILE_LOSER : Nat := 0x14FFF23C
def Reg.SPN_TILE_LOSER_DROPPED : Fld := ⟨RegAddr.SPN_TILE_LOSER, 0, 16, 0x0⟩
def RegAddr.TRS_STAT : Nat := 0x13FFF000
def Reg.TRS_STAT_TRNG_FAIL : Fld := ⟨RegAddr.TRS_STAT, 31, 1, 0x0⟩
def Reg.TRS_STAT_CLAIMED : Fld := ⟨RegAddr.TRS_STAT, 30, 1, 0x0⟩
def Reg.TRS_STAT_DEBUG_LOCK : Fld := ⟨RegAddr.TRS_STAT, 29, 1, 0x0⟩
def Reg.TRS_STAT_OWNER_SLOT : Fld := ⟨RegAddr.TRS_STAT, 24, 3, 0x0⟩
def Reg.TRS_STAT_OWNER_REVOKED : Fld := ⟨RegAddr.TRS_STAT, 20, 4, 0x0⟩
def Reg.TRS_STAT_VENDOR_REVOKE : Fld := ⟨RegAddr.TRS_STAT, 16, 4, 0x0⟩
def Reg.TRS_STAT_FLOOR : Fld := ⟨RegAddr.TRS_STAT, 0, 9, 0x0⟩
def RegAddr.TRS_NONCE_LO : Nat := 0x13FFF004
def Reg.TRS_NONCE_LO_NONCE : Fld := ⟨RegAddr.TRS_NONCE_LO, 0, 32, 0x0⟩
def RegAddr.TRS_NONCE_HI : Nat := 0x13FFF008
def Reg.TRS_NONCE_HI_NONCE : Fld := ⟨RegAddr.TRS_NONCE_HI, 0, 32, 0x0⟩
def RegAddr.TRS_SEQ_LO : Nat := 0x13FFF00C
def Reg.TRS_SEQ_LO_SEQ : Fld := ⟨RegAddr.TRS_SEQ_LO, 0, 32, 0x0⟩
def RegAddr.TRS_SEQ_HI : Nat := 0x13FFF010
def Reg.TRS_SEQ_HI_SEQ : Fld := ⟨RegAddr.TRS_SEQ_HI, 0, 32, 0x0⟩
def RegAddr.TRS_ENV_STAT : Nat := 0x13FFF014
def Reg.TRS_ENV_STAT_RESULT : Fld := ⟨RegAddr.TRS_ENV_STAT, 28, 4, 0x0⟩
def Reg.TRS_ENV_STAT_COMMAND : Fld := ⟨RegAddr.TRS_ENV_STAT, 0, 16, 0x0⟩
def RegAddr.TRS_SERIAL : Nat := 0x13FFF018
def Reg.TRS_SERIAL_SERIAL : Fld := ⟨RegAddr.TRS_SERIAL, 0, 32, 0x0⟩
def RegAddr.TRS_WALL_ID : Nat := 0x13FFF01C
def Reg.TRS_WALL_ID_WALL_ID : Fld := ⟨RegAddr.TRS_WALL_ID, 0, 32, 0x0⟩
def RegAddr.TRS_ENROL : Nat := 0x13FFF020
def Reg.TRS_ENROL_KEY_VALID : Fld := ⟨RegAddr.TRS_ENROL, 31, 1, 0x0⟩
def Reg.TRS_ENROL_FAIL : Fld := ⟨RegAddr.TRS_ENROL, 16, 8, 0x0⟩
def Reg.TRS_ENROL_LAST_REASON : Fld := ⟨RegAddr.TRS_ENROL, 12, 4, 0x0⟩
def Reg.TRS_ENROL_ENROLLED : Fld := ⟨RegAddr.TRS_ENROL, 0, 7, 0x0⟩
def RegAddr.TRS_ID_PUB (i : Nat) : Nat := 0x13FFF040 + i * 0x4
def Reg.TRS_ID_PUB_KEY (i : Nat) : Fld := ⟨(RegAddr.TRS_ID_PUB i), 0, 32, 0x0⟩
def RegAddr.TRS_OWNER (i : Nat) : Nat := 0x13FFF080 + i * 0x4
def Reg.TRS_OWNER_HASH (i : Nat) : Fld := ⟨(RegAddr.TRS_OWNER i), 0, 32, 0x0⟩
def RegAddr.TRS_OPKEY (i j : Nat) : Nat := 0x13FFF100 + i * 0x20 + j * 0x4
def Reg.TRS_OPKEY_HASH (i j : Nat) : Fld := ⟨(RegAddr.TRS_OPKEY i j), 0, 32, 0x0⟩
def RegAddr.CHT_PORTER : Nat := 0x10FFF110
def Reg.CHT_PORTER_RESULT : Fld := ⟨RegAddr.CHT_PORTER, 28, 4, 0x0⟩
def Reg.CHT_PORTER_STATE : Fld := ⟨RegAddr.CHT_PORTER, 24, 4, 0x0⟩
def Reg.CHT_PORTER_DETAIL : Fld := ⟨RegAddr.CHT_PORTER, 16, 8, 0x0⟩
def Reg.CHT_PORTER_TARGET : Fld := ⟨RegAddr.CHT_PORTER, 14, 2, 0x0⟩
def RegAddr.CHT_XFER : Nat := 0x10FFF114
def Reg.CHT_XFER_TRANSFER : Fld := ⟨RegAddr.CHT_XFER, 0, 32, 0x0⟩
def RegAddr.CHT_BLOCKS : Nat := 0x10FFF118
def Reg.CHT_BLOCKS_MISSING : Fld := ⟨RegAddr.CHT_BLOCKS, 16, 16, 0x0⟩
def Reg.CHT_BLOCKS_LOWEST : Fld := ⟨RegAddr.CHT_BLOCKS, 0, 16, 0x0⟩
def RegAddr.CHT_BLOCK_ERR : Nat := 0x10FFF11C
def Reg.CHT_BLOCK_ERR_CRC : Fld := ⟨RegAddr.CHT_BLOCK_ERR, 16, 16, 0x0⟩
def Reg.CHT_BLOCK_ERR_FOREIGN : Fld := ⟨RegAddr.CHT_BLOCK_ERR, 0, 16, 0x0⟩
def RegAddr.CHT_TRIAL : Nat := 0x10FFF120
def Reg.CHT_TRIAL_USED : Fld := ⟨RegAddr.CHT_TRIAL, 10, 2, 0x0⟩
def Reg.CHT_TRIAL_TRIALS : Fld := ⟨RegAddr.CHT_TRIAL, 8, 2, 0x0⟩
def Reg.CHT_TRIAL_ACTIVE : Fld := ⟨RegAddr.CHT_TRIAL, 0, 1, 0x0⟩
def RegAddr.CHT_CONFIRM : Nat := 0x10FFF124
def RegAddr.SYS_ALERT : Nat := 0x10FFF050
def Reg.SYS_ALERT_LATCH : Fld := ⟨RegAddr.SYS_ALERT, 0, 20, 0x0⟩
def RegAddr.SYS_ALERT_MASK : Nat := 0x10FFF054
def Reg.SYS_ALERT_MASK_MASK : Fld := ⟨RegAddr.SYS_ALERT_MASK, 0, 20, 0xFFFFF⟩
def RegAddr.SYS_PRESET : Nat := 0x10FFF058
def Reg.SYS_PRESET_PIN_EN : Fld := ⟨RegAddr.SYS_PRESET, 31, 1, 0x0⟩
def Reg.SYS_PRESET_INITIAL : Fld := ⟨RegAddr.SYS_PRESET, 16, 6, 0x0⟩
def Reg.SYS_PRESET_PINS : Fld := ⟨RegAddr.SYS_PRESET, 8, 6, 0x0⟩
def Reg.SYS_PRESET_SRC : Fld := ⟨RegAddr.SYS_PRESET, 7, 1, 0x0⟩
def Reg.SYS_PRESET_CURRENT : Fld := ⟨RegAddr.SYS_PRESET, 0, 6, 0x0⟩
def RegAddr.SYS_FATAL : Nat := 0x10FFF060
def RegAddr.SYS_DUMP_CFG : Nat := 0x10FFF064
def Reg.SYS_DUMP_CFG_HOLD_S : Fld := ⟨RegAddr.SYS_DUMP_CFG, 16, 16, 0x3C0004⟩
def Reg.SYS_DUMP_CFG_FLASH : Fld := ⟨RegAddr.SYS_DUMP_CFG, 2, 1, 0x3C0004⟩
def Reg.SYS_DUMP_CFG_ACTION : Fld := ⟨RegAddr.SYS_DUMP_CFG, 0, 2, 0x3C0004⟩
def RegAddr.SYS_DUMP_STAT : Nat := 0x10FFF068
def Reg.SYS_DUMP_STAT_FLASH_VALID : Fld := ⟨RegAddr.SYS_DUMP_STAT, 31, 1, 0x0⟩
def Reg.SYS_DUMP_STAT_CAUSE : Fld := ⟨RegAddr.SYS_DUMP_STAT, 16, 8, 0x0⟩
def RegAddr.CTR_CFG : Nat := 0x10FFF200
def Reg.CTR_CFG_DUMMY : Fld := ⟨RegAddr.CTR_CFG, 0, 4, 0x4⟩
def RegAddr.CTR_STAT : Nat := 0x10FFF204
def Reg.CTR_STAT_ENV_BUSY : Fld := ⟨RegAddr.CTR_STAT, 2, 1, 0x0⟩
def Reg.CTR_STAT_RD_ERR : Fld := ⟨RegAddr.CTR_STAT, 1, 1, 0x0⟩
def Reg.CTR_STAT_UNDERRUN : Fld := ⟨RegAddr.CTR_STAT, 0, 1, 0x0⟩
def RegAddr.CTR_CMD : Nat := 0x10FFF208
def Reg.CTR_CMD_RESULT : Fld := ⟨RegAddr.CTR_CMD, 28, 4, 0x0⟩
def Reg.CTR_CMD_COMMAND : Fld := ⟨RegAddr.CTR_CMD, 0, 16, 0x0⟩
def RegAddr.CTR_EVT_CUR : Nat := 0x10FFF20C
def Reg.CTR_EVT_CUR_CUR : Fld := ⟨RegAddr.CTR_EVT_CUR, 0, 32, 0x0⟩
def RegAddr.CTR_EVT_LOST : Nat := 0x10FFF210
def Reg.CTR_EVT_LOST_REMOTE : Fld := ⟨RegAddr.CTR_EVT_LOST, 16, 16, 0x0⟩
def Reg.CTR_EVT_LOST_LOCAL : Fld := ⟨RegAddr.CTR_EVT_LOST, 0, 16, 0x0⟩
def RegAddr.CTR_RMT_STAT : Nat := 0x10FFF214
def Reg.CTR_RMT_STAT_BUSY : Fld := ⟨RegAddr.CTR_RMT_STAT, 31, 1, 0x0⟩
def Reg.CTR_RMT_STAT_RESULT : Fld := ⟨RegAddr.CTR_RMT_STAT, 29, 2, 0x0⟩
def Reg.CTR_RMT_STAT_COUNT : Fld := ⟨RegAddr.CTR_RMT_STAT, 24, 5, 0x0⟩
def Reg.CTR_RMT_STAT_ADDR : Fld := ⟨RegAddr.CTR_RMT_STAT, 0, 12, 0x0⟩
def RegAddr.CTR_EVT_RCUR : Nat := 0x10FFF218
def Reg.CTR_EVT_RCUR_CUR : Fld := ⟨RegAddr.CTR_EVT_RCUR, 0, 32, 0x0⟩
def RegAddr.CTR_RMT_DATA (i : Nat) : Nat := 0x10FFF240 + i * 0x4
def Reg.CTR_RMT_DATA_VALUE (i : Nat) : Fld := ⟨(RegAddr.CTR_RMT_DATA i), 0, 32, 0x0⟩
def RegAddr.EVT_CFG : Nat := 0x10FFF300
def Reg.EVT_CFG_FWD_MS : Fld := ⟨RegAddr.EVT_CFG, 8, 8, 0xA02⟩
def Reg.EVT_CFG_FWD_MIN : Fld := ⟨RegAddr.EVT_CFG, 0, 2, 0xA02⟩
def RegAddr.EVT_LI : Nat := 0x10FFF304
def Reg.EVT_LI_LI : Fld := ⟨RegAddr.EVT_LI, 0, 32, 0x0⟩
def RegAddr.EVT_RLI : Nat := 0x10FFF308
def Reg.EVT_RLI_RLI : Fld := ⟨RegAddr.EVT_RLI, 0, 32, 0x0⟩
def RegAddr.EVT_RD_FW : Nat := 0x10FFF30C
def Reg.EVT_RD_FW_CUR : Fld := ⟨RegAddr.EVT_RD_FW, 0, 32, 0x0⟩
def RegAddr.EVT_LOST_FW : Nat := 0x10FFF310
def Reg.EVT_LOST_FW_LOST : Fld := ⟨RegAddr.EVT_LOST_FW, 0, 16, 0x0⟩
def RegAddr.SYS_PD_STATE (i : Nat) : Nat := 0x20FFF100 + i * 0x4

end Sys2Proof.Machine
end

