-- ==== Sys2Proof/Machine/State.lean ====
section
/-! DEFINITION. The state of the device: its registers (pending and active copies), its memories, every buffer, queue,
counter and mode that the spec gives it, and the queue of waiting commands. -/

namespace Sys2Proof.Machine

/-! ### Events and log (spec/16) -/

/-- An event record (R477). -/
structure EventRec where
  src : Nat
  seq : Nat
  time : Nat
  code : Nat
  arg : Nat
deriving DecidableEq, Repr, Inhabited

/-- An entry of the remote ring (R480). -/
structure RemoteRec where
  addr : Nat
  time : Nat
  record : Bytes
deriving DecidableEq, Repr, Inhabited

/-- The event log (R479 to R481). -/
structure LogSt where
  /-- next sequence number of each source (R44) -/
  seqs : Tab Nat
  /-- records raised and not yet logged, all sources, in order of arrival; at most 16 of one source (R479) -/
  queue : List EventRec
  /-- the ring of 256 records in B0, by record number -/
  b0 : Tab EventRec
  /-- the ring of 4,096 records in DRAM, by record number -/
  ring : Tab EventRec
  /-- the remote ring of 4,096 entries, by entry number -/
  remote : Tab RemoteRec
  /-- firmware's cursor into the remote ring (R481) -/
  fwRemote : Nat
  /-- next record number a Tile looks at for forwarding, and records overwritten unsent (R480) -/
  fwdNext : Nat
  fwdLost : Nat
  /-- wheel time of the last forwarding packet -/
  fwdTime : Option Nat
  /-- the logs are served; not between W1 and W7 (R481) -/
  served : Bool
  /-- DRAM has entered service and the B0 ring has been copied to it (R479) -/
  inDram : Bool
deriving DecidableEq, Repr

/-! ### Memory (spec/12) -/

/-- What the last DRAM access answered its master. -/
structure DramResult where
  data : Bytes
  check : Bytes
  bad : Bool
  /-- the address that was read -/
  addr : Nat
deriving DecidableEq, Repr

/-- What a DRAM request does: a demand read, a write, a patrol read, or the write-back of a corrected line (R364, R367, R368). -/
inductive DramOp where
  | read
  | write (bytes : Bytes)
  | scrub
  | writeBack (line : Bytes)
deriving DecidableEq, Repr

/-- A DRAM request that waits on its channel (R360, R361). -/
structure DramRequest where
  chan : Nat
  addr : Nat
  op : DramOp
  /-- service class, and source number of the master (R43) -/
  cls : Nat
  src : Nat
  /-- controller cycle and wheel time at which it arrived -/
  cycle : Nat
  arrived : Nat
  /-- wheel time at which it was promoted -/
  promoted : Option Nat
  /-- the symbols of the line that come wrong when it is read -/
  pattern : List (Nat × Byte)
deriving DecidableEq, Repr

/-- The DRAM controller beside its registers. -/
structure DmcSt where
  /-- the answer to the last demand read that was issued -/
  result : DramResult
  /-- requests that wait, oldest first -/
  waiting : List DramRequest
  /-- number of the controller cycle in which the last request arrived -/
  cycle : Nat
  /-- the open row of each bank plus 1, 0 for none, by channel × 32 + pseudo-rank × 16 + bank -/
  openRow : Tab Nat
  /-- how many times in a row a request to an open row has passed older ones, by channel × 4 + class -/
  passes : Tab Nat
  /-- wheel time of the last refresh (R370) of each bank, by channel × 32 + pseudo-rank × 16 + bank -/
  refreshed : Tab Nat
  /-- refresh interval in milliseconds (R370) -/
  refreshMs : Nat
  /-- wheel time of the last re-centring of each channel (R374) -/
  recentred : Tab Nat
  /-- wheel times of uncorrectable demand reads, newest first (R416) -/
  ueTimes : List Nat
deriving DecidableEq, Repr

/-- The SRAM banks beside their contents and registers. -/
structure SramSt where
  /-- answers of the last bank cycle at the owner port, and at the shared port in the order served: bytes read, and whether it was refused with an access
  error -/
  owner : Bytes × Bool
  shared : List (Bytes × Bool)
  /-- accesses issued during a wake, by bank, which complete after it (R380) -/
  held : List (Nat × SramCycle)
  /-- the master that a shared port serves next, by its place in the port's round (R375) -/
  turn : Tab Nat
  /-- the saved rows of the borrowed window (R383) -/
  save : Bytes
  /-- the bank and window the test takes next (R383) -/
  nextBank : Nat
  nextWindow : Nat
  /-- wheel time of the last window start (R383) -/
  windowAt : Option Nat
  /-- wheel times of background-test failures, newest first (R416) -/
  failTimes : List Nat
deriving DecidableEq, Repr

/-! ### Weft (spec/07) -/

/-- One sequence entry of a receiving port (R216). -/
structure RxEntry where
  last : Nat
  synced : Bool
  fails : Nat
deriving DecidableEq, Repr, Inhabited

/-- A packet that left on a port, with its end symbol (good = K29.7), and the number of bytes after which a forwarded copy was cut short (R223). -/
structure Sent where
  port : Nat
  pkt : Packet
  good : Bool
  cut : Option Nat
deriving DecidableEq, Repr

/-- Ordered sets that left on every lane of a port (R232): their kind (1 TS1, 2 TS2, 3 SLEEP, 4 DEGRADE; 5 stands for a wheel marker, one K28.3 on each
lane in use), how many (0: until the phase ends), RATE code, role (1 Sender, 2 Tile), receive good mask, ACK, and the transmit preset requested for each lane. -/
structure OrdSet where
  port : Nat
  id : Nat
  times : Nat
  rate : Nat
  role : Nat
  mask : Nat
  ack : Bool
  presets : List Nat
deriving DecidableEq, Repr

/-- The Weft port beside its registers. -/
structure WeftPort where
  /-- sequence entries: 0–62 Tile positions, 63 Sender of rank 0, 64 Sender of rank 1, 65 hop (R216) -/
  entries : Tab RxEntry
  /-- floors of the originators this port consumes from, by the same numbers; absent: none set (R219) -/
  floors : Tab Nat
  /-- by direction of origin, 0 toward higher positions and 1 toward lower ones: last sequence sent, and session; and whether SYNC is due on the next
  packet (R216, R218) -/
  tx : Tab (Nat × Nat)
  syncDue : Bool
  lastSyncMs : Option Nat
  /-- transit packets waiting in the forward buffer of this port as an output (R226) -/
  fwd : List Sent
  /-- consecutive failed attempts k (R235) -/
  k : Nat
  /-- the attempt in progress is a fast retrain (R517) -/
  fast : Bool
  /-- stored equaliser settings: lane status and DFE words of the four lanes (R517) -/
  stored : Option (List (Word × Word))
  /-- a lane fault awaits the partner's change of width (R239) -/
  degrading : Bool
  /-- Dormant by command: no beacon (R236) -/
  commanded : Bool
  /-- wheel time at which the port entered service, at which it last sent a packet, and from which each lane's figure of merit has been below FOM_MIN -/
  since : Nat
  lastTx : Nat
  lowFom : Tab Nat
deriving DecidableEq, Repr, Inhabited

/-- The Weft region beside its registers. -/
structure WeftSt where
  ports : Tab WeftPort
  /-- every packet sent or forwarded, oldest first (log entry 7) -/
  sent : List Sent
  /-- ordered sets sent, oldest first (log entry 7) -/
  sets : List OrdSet
  /-- wheel times at which ports left service, for the lane-loss verdict (R246, R416) -/
  losses : List (Nat × Nat)
  /-- beacons driven (R236) -/
  beacons : Nat
deriving DecidableEq, Repr

/-! ### Wheel time (spec/08) -/

/-- A TIME packet that awaits the Frame die's verdict (R262): port, packet, full sequence, and its stamp in 1/16 ns. -/
structure TimeWait where
  port : Nat
  pkt : Packet
  seq : Nat
  stamp : Nat
deriving DecidableEq, Repr

/-- The wheel-time unit beside its registers. -/
structure WhlSt where
  /-- 16 bits of fraction below the count (R247), and below it what the correction in units of 0.01 ppm leaves (log entry 1) -/
  frac : Nat
  rem : Nat
  /-- the Frame die's copy of the count (R248) -/
  copy : BitVec 64
  /-- the rate that places the boundaries, and a rate change that awaits its switch second: rate and second (R250) -/
  rate : Nat
  pendingRate : Option (Nat × Nat)
  /-- the correction of REFCLK's own rate, and the slew, in units of 0.01 ppm: WHL_ERR.FREQ is their sum (R247, R267) -/
  base : Int
  slew : Int
  /-- the last occurrence performed of each scheduled action, and the wheel time below which a forward step has skipped them all (R251) -/
  done : Tab Nat
  skip : Nat
  /-- the first HEART has set the count (R255) -/
  counted : Bool
  /-- the boundary number of the frame whose edge came, or was counted as missing, last (R266) -/
  lastEdge : Option Nat
  /-- the boundary at which a commit changed SYNC, and the value before it (R272) -/
  oldSync : Option (Nat × Nat)
  /-- an edge has been seen, and consecutive edges within ±1 µs, in ACQUIRE (R266) -/
  edgeSeen : Bool
  goodRun : Nat
  /-- consecutive edges or markers within the lock bound (R266, R268) -/
  lockRun : Nat
  /-- consecutive frames or markers missing or outside ±1 µs -/
  badRun : Nat
  /-- errors of the latest consecutive edges in HOLDOVER or FREE, newest first (R266), in 1/16 ns -/
  regain : List Int
  /-- latest good TIME offset in 1/16 ns since the source was lost (R268) -/
  offset : Option Int
  /-- latest exchanges of each port, newest first: rtt and delay in 1/16 ns, at most 16 (R261) -/
  exchanges : Tab (List (Nat × Nat))
  /-- the request under way: port, ID, T1; and the next ID -/
  request : Option (Nat × Nat × Nat)
  nextId : Nat
  /-- TIME packets that await the Frame die's verdict (R262) -/
  waiting : List TimeWait
  /-- wheel time at which TRACK or LOCKED was left (WHL_STAT.HOLD_S) -/
  lostAt : Nat
  /-- a step to take at the next boundary, in 1/16 ns (R268) -/
  stepPending : Option Int
  stepAt : Nat
  /-- the first offset of a warm start exceeded 1 ms (R271) -/
  warmFail : Bool
  /-- local sync (R273): consecutive edges beyond LOCAL_TOL, and whether the edges are lost -/
  localRun : Nat
  localLost : Bool
  /-- markers sent, rising edges given on WSYNC_OUT, and the wheel time of the last of them (R258) -/
  markers : Nat
  outEdges : Nat
  outAt : Option Nat
deriving DecidableEq, Repr

/-! ### Spindle (spec/14) -/

/-- What a HEART last heard on a port said (R230). -/
structure HeartSeen where
  time : Nat
  sent : Nat
  flags : Nat
  epoch : Nat
  rank : Nat
deriving DecidableEq, Repr, Inhabited

/-- The contents of a YIELD (R230). -/
structure YieldRec where
  reason : Nat
  lastGen : Nat
  when_ : Nat
  port : Nat
deriving DecidableEq, Repr, Inhabited

/-- The query of one chain's Tiles by a standby (R421): answers by position (heart age, affirm age). -/
structure QueryRec where
  /-- wheel time at which the last read was sent; the query has ended -/
  asked : Option Nat
  ended : Bool
  answers : Tab (Nat × Nat)
deriving DecidableEq, Repr, Inhabited

/-- A swap drill in progress (R427, R428). -/
structure DrillRec where
  out : Nat
  back : Nat
  /-- 1 ordered, 2 YIELD sent, 3 released, 4 released and a HEART sent after WHEN -/
  stage : Nat
  /-- WHEN of the YIELD sent -/
  at_ : Nat
  /-- the handover back to the original holder -/
  returning : Bool
deriving DecidableEq, Repr, Inhabited

/-- The Spindle block beside its registers: a Tile's share first, then a Sender's. -/
structure SpnSt where
  /-- wheel time of the last HEART that set or renewed the master, and of the last valid REAFFIRM entry -/
  heartAt : Option Nat
  affirmAt : Option Nat
  /-- last event record for dropped orders: epoch, rank, wheel time (R407) -/
  loserAt : List (Nat × Nat × Nat)
  /-- last partner HEART on each port (R411) -/
  heard : Tab HeartSeen
  /-- highest EPOCH received since the start began, and whether a HEART with STATE[0] was accepted (R404) -/
  maxEpoch : Nat
  holderHeard : Bool
  /-- next heartbeat number (R230) -/
  hearts : Nat
  /-- verdict code of the YIELD sent, and its wheel time (R417) -/
  yielded : Option (Nat × Nat)
  /-- verdicts that stand (R416) -/
  verdicts : List Nat
  /-- the verdict for which no further YIELD is sent (R419) -/
  yieldBar : Nat
  /-- the partner's YIELD that has been accepted and not yet acted on (R420) -/
  partnerYield : Option YieldRec
  /-- the swap drill under way (R427, R428) -/
  drill : Option DrillRec
  /-- BACK as last written (R427) -/
  drillBack : Nat
  /-- last COMMIT or PREPARE accepted from the holder: generation (R405, R428) -/
  holderGen : Option Nat
  /-- wheel time of the last watchdog kick (R482) -/
  wdogAt : Nat
  /-- the queries of the chains' Tiles, by port (R421) -/
  queries : Tab QueryRec
  /-- Tiles that split-ring service serves: port × 64 + position (R424) -/
  served : List Nat
  /-- consecutive unequal generations of each piece of the shadow (R414), by port × 4096 + tile × 64 + region -/
  unequal : Tab Nat
  /-- an OFFSET has been set since the start (R405), and a holder that returned from a warm start has yet to set it (R403) -/
  offsetSet : Bool
  resume : Bool
  /-- the transmit directions go Dormant after the next HEART (R423) -/
  sleepAfter : Bool
  /-- last committed wire generation and the number of its boundary (R405) -/
  lastGen : Nat
  lastBoundary : Nat
  /-- since when the temperature is above THERM_C, and since when LPM1 + 1 ports with Tiles are out of service (R416) -/
  hotSince : Option Nat
  downSince : Option Nat
deriving DecidableEq, Repr

/-! ### Trust (spec/15) -/

/-- An ENROL exchange at the Sender that offers it (R443 to R447): stage sent last (1 offer, 3 grant), wheel time of the last packet, form of the
offer, stage 1 BODY, ephemeral private key, stage 2 BODY, and the position the grant is for (63 the partner). -/
structure OfferRec where
  stage : Nat
  at_ : Nat
  form : Nat
  hello : Bytes
  eph : BitVec 256
  key : Bytes
  target : Nat
deriving DecidableEq, Repr, Inhabited

/-- An ENROL exchange at the device that answers it: wheel time of the last packet, form and HOPS of the offer, group and chain (group × 256 +
chain × 64), the BODYs of stages 1 and 2, its ephemeral private key, whether its stage 2 has been sent, and whether it woke the direction. -/
structure AnswerRec where
  at_ : Nat
  form : Nat
  hops : Nat
  place : Nat
  hello : Bytes
  key : Bytes
  eph : BitVec 256
  answered : Bool
  woke : Bool
deriving DecidableEq, Repr, Inhabited

/-- The trust core beside its registers. -/
structure TrsSt where
  /-- the wall key (R441) -/
  wallKey : Option (BitVec 256)
  /-- Tiles enrolled with this Sender, by chain × 64 + position; and whether its partner is (R444) -/
  enrolled : List Nat
  partner : Bool
  /-- exchanges by port: those offered, wheel time of the last offer, and those answered -/
  offers : Tab OfferRec
  offeredAt : Tab Nat
  answers : Tab AnswerRec
  /-- the 336 bytes of the OTP (R433) -/
  otp : Bytes
  /-- recovered public keys by their hash, at most eight (R435) -/
  keys : List (BitVec 256 × Bytes)
deriving DecidableEq, Repr

/-! ### Porter (spec/15) -/

/-- The latest good entry of Porter's journal (R457 to R460), which stands in flash: state (0 idle, 4 copying, 5 writing, 6 trial, 7 restoring), result,
transfer number, trials permitted and begun, trial window in s, CONFIRM_BY and NEW_OWNER. -/
structure Journal where
  state : Nat
  result : Nat
  transfer : Nat
  trials : Nat
  used : Nat
  trialS : Nat
  confirmBy : Nat
  newOwner : BitVec 256
deriving DecidableEq, Repr, Inhabited

/-- An open transfer (R453): what its begin named, the blocks received, and the wheel time of an accepted activation. -/
structure Transfer where
  target : Nat
  trials : Nat
  confirmBy : Nat
  length : Nat
  transfer : Nat
  trialS : Nat
  digest : BitVec 256
  newOwner : BitVec 256
  got : List Nat
  due : Option Nat
deriving DecidableEq, Repr, Inhabited

/-- The operation that Porter is at: none; the check of R455; steps A1 to A5 of R456 (A2 has been tried before or not); the copy of the Rescue area
back after A4 failed; a Ledger bank write (R461); a restore that ends with a result and in a cold start or not (R458, R460); and the copy
of the Charter area to the Rescue area that a start resumes (R460). -/
inductive PorterOp where
  | idle
  | check
  | a1
  | a2 (again : Bool)
  | a3
  | a4
  | a5
  | undo
  | ledger
  | restore (result : Nat) (cold : Bool)
  | recopy
deriving DecidableEq, Repr

/-- Porter beside its registers. -/
structure PtrSt where
  journal : Journal
  transfer : Option Transfer
  op : PorterOp
  /-- the image on trial runs, and its window runs from first light (R458) -/
  onTrial : Bool
deriving DecidableEq, Repr

/-! ### Flash interface (spec/02) -/

/-- What the device does on its flash bus, `octal` in 8D-8D-8D and otherwise in 1S-1S-1S mode (R47, R48, R50): a pulse of 10 µs on NVM_RESET_N with the wait
after it; a read of `n` bytes with a command, its dummy cycles and a clock in MHz; write enable; an ENTRY element of the directory as it is given; a page
program; a block erase. -/
inductive FlashOp where
  | reset
  | read (octal : Bool) (cmd dummy mhz off n : Nat)
  | writeEnable (octal : Bool)
  | entry (cmd : Nat) (addr data : Bytes)
  | program (octal : Bool) (off n : Nat)
  | erase (octal : Bool) (off : Nat)
deriving DecidableEq, Repr

/-- The flash interface: its mode (8D-8D-8D, or 1S-1S-1S), the READ_CMD, DUMMY and FREQ it reads with in 8D (R49), and what it has done, oldest
first: the reads of a start, and every program and erase. -/
structure NvmSt where
  octal : Bool
  cmd : Nat
  dummy : Nat
  mhz : Nat
  ops : List FlashOp
deriving DecidableEq, Repr

/-! ### Charter image (spec/02) -/

/-- A SURFACE record (R52). -/
structure StillImage where
  id : Nat
  width : Nat
  height : Nat
  pixels : Bytes
deriving DecidableEq, Repr, Inhabited

/-- What the device keeps of the accepted Charter image (R14, R51 to R55). -/
structure CharterSt where
  originX : Nat
  originY : Nat
  width : Nat
  height : Nat
  /-- DEFAULTS records: commit group (0xFF live) and entries -/
  defaults : List (Nat × List (Nat × Word))
  /-- PRESET records: number and entries -/
  presets : List (Nat × List (Nat × Word))
  /-- EDID and DPCD records: port mask and bytes -/
  edids : List (Nat × Bytes)
  dpcds : List (Nat × Bytes)
  /-- DRVPROF records: index and body -/
  profiles : List (Nat × Bytes)
  surfaces : List StillImage
  version : Nat
  sequence : Nat
  /-- SHA-256 of the accepted image -/
  digest : BitVec 256
deriving DecidableEq, Repr

/-! ### Intake and surfaces (spec/03) -/

/-- A tell-tale patch beside its registers (R105 to R108). -/
structure Patch where
  /-- previous frame's CRC, or last valid reading -/
  base : Option Nat
  /-- stamp of the last qualifying frame, and consecutive qualifying frames -/
  lastQual : Option Nat
  run : Nat
deriving DecidableEq, Repr, Inhabited

/-- An intake port beside its registers. -/
structure IntakePort where
  msa : Option Msa
  /-- refused for want of budget: it asks again when a port leaves (R88) -/
  asking : Bool
  /-- the frame being received, as intake pixels; none between frames -/
  frame : Option (List (List Nat))
  /-- the pool surface being written, and the LATEST surface when the writing began (R99) -/
  writing : Option Nat
  reference : Option Nat
  /-- frame count, low 16 bits used (R96) -/
  frames : Nat
  /-- every change bit is set on the next surface published (R99) -/
  allChanged : Bool
  /-- wheel time from which the port has been live without a break (R184) -/
  liveSince : Nat
  /-- lines of skew of the pair (R84) -/
  skewed : Bool
  /-- DPCD 0x00100–0x002FF (R80), and IRQ_HPD pulses given -/
  dpcd : Tab Byte
  irqHpd : Nat
  /-- DP<n>_HPD is high (R79) -/
  hpd : Bool
deriving DecidableEq, Repr, Inhabited

/-- A surface (R96, R101): pool state, size, where its bales and its bale table stand, frame count and publish time. -/
structure Surface where
  state : Nat
  width : Nat
  height : Nat
  data : Nat
  table : Nat
  frame : Nat
  published : Nat
deriving DecidableEq, Repr, Inhabited

/-- The intake region and the surface store beside their registers. -/
structure IntakeSt where
  ports : Tab IntakePort
  /-- patches, by port × 4 + patch -/
  patches : Tab Patch
  /-- surfaces that exist: still surfaces 0–255, pool surfaces 256–279 once written -/
  surfaces : Tab Surface
  /-- surfaces with a release pending (R104) -/
  releases : List Nat
  /-- bytes that the last EDID or DPCD read answered -/
  answer : Bytes
deriving DecidableEq, Repr

/-! ### Loom (spec/04) -/

/-- A layer beside its descriptor (R132, R139 to R141). -/
structure LayerSt where
  /-- surface held by the hold pin, and the matte surface held -/
  held : Option Nat
  matte : Option Nat
  /-- frame count of the surface read in the previous pass -/
  heldFrame : Nat
  /-- boundaries at which the layer was enabled and at which its last clean pass began -/
  enabledAt : Nat
  lastClean : Option Nat
  /-- age at the last boundary, in ns -/
  age : Nat
  /-- every block under the layer is dirty in this pass (R134) -/
  whole : Bool
deriving DecidableEq, Repr, Inhabited

/-- The Loom beside its registers. -/
structure LoomSt where
  layers : Tab LayerSt
  /-- surfaces pinned by the pass under way (R102) -/
  passPins : List Nat
  inPass : Bool
  /-- wheel time of the boundary of the latest pass -/
  boundaryAt : Nat
  /-- dirty blocks that this pass has not finished, and blocks held for the next -/
  dirty : List Nat
  carried : List Nat
  /-- boundary at which each block that is dirty became so (R135) -/
  dirtySince : Tab Nat
  /-- blocks made dirty by commits and fences, and whether all are -/
  marked : List Nat
  markedAll : Bool
  /-- slot of each covered block (R115) -/
  slots : Tab Nat
  /-- layers under a held block of this pass, and blocks held so far in it -/
  unclean : List Nat
  heldCount : Nat
  /-- wheel time at which the last block was finished -/
  lastBlock : Nat
  /-- decode faults already recorded in this pass: layer, surface, bale (R138) -/
  faults : List (Nat × Nat × Nat)
  /-- slices that a fault fences at the next boundary, and whether by a parity error; slices that R144 has fenced -/
  toFence : List (Nat × Bool)
  faulted : List Nat
  /-- the band segment that each slice composes: stripe and band (R135) -/
  segments : Tab (Nat × Nat)
  /-- cycles each slice has spent in this pass (R136) -/
  busy : Tab Nat
deriving DecidableEq, Repr

/-! ### Damage and dispatch (spec/05) -/

/-- A push entry (R153, R156): position, block in raster order, damage time, and the low 16 bits of the generation that had last written
the block when the entry was entered (R160). -/
structure PushEntry where
  pos : Nat
  block : Nat
  time : Nat
  gen : Nat
deriving DecidableEq, Repr, Inhabited

/-- What the dispatcher keeps of one Tile beside its registers. -/
structure TileRec where
  /-- region loop: pushes sent under each generation and not yet confirmed (R171) -/
  sets : Tab (List PushEntry)
  /-- pushes tagged with the window's generation (R166) -/
  sent : Nat
  /-- generations whose report has been taken or counted as missing (R171) -/
  settled : List Nat
  /-- consecutive generations not reported COMPLETE, reported COMPLETE, and missing (R174, R425) -/
  failRun : Nat
  goodRun : Nat
  missRun : Nat
  /-- marked unreached (R425) -/
  unreached : Bool
  /-- generations for which it reported COMPLETE (R172), and those that SKIPS has already counted (R177) -/
  complete : List Nat
  skipped : List Nat
deriving DecidableEq, Repr, Inhabited

/-- Generation `gen` was sent to these Tiles (by chain × 64 + position), whose reports are due by `show_` (R171). -/
structure DueRec where
  gen : Nat
  show_ : Nat
  tiles : List Nat
deriving DecidableEq, Repr, Inhabited

/-- A PREPARE that awaits its GO or ABORT (R172): generation, SHOW, and whether an entry of the atomic set had SKIP. -/
structure PrepareRec where
  gen : Nat
  show_ : Nat
  members : List Nat
  skipped : Bool
deriving DecidableEq, Repr, Inhabited

/-- The dispatcher beside its registers. -/
structure DmgSt where
  /-- push queues by chain, in the order entered -/
  queues : Tab (List PushEntry)
  /-- the canvas damage map: blocks whose bit is set (R153) -/
  damage : List Nat
  /-- generation of the push window under way; 0 before the first pass -/
  window : Nat
  /-- charges of this window by chain: all pushes, and class A (R161, R162) -/
  charge : Tab Nat
  chargeA : Tab Nat
  /-- Tiles by chain × 64 + position -/
  tiles : Tab TileRec
  /-- entries withdrawn from this window (R160): chain × 64 + position, block -/
  withdrawn : List (Nat × Nat)
  /-- the first COMMIT after a takeover is followed by a GUARD to every Tile (R422) -/
  guardDue : Bool
  /-- chains in an over-budget run (R177) -/
  overRun : List Nat
  /-- generations whose reports are awaited, oldest first (R171) -/
  due : List DueRec
  /-- the PREPARE that awaits its GO or ABORT (R172) -/
  prepare : Option PrepareRec
  /-- boundary at which each generation's pass began (R148) -/
  bounds : Tab Nat
  /-- blocks that pass 1 has written, while its window lasts (R154) -/
  written : List Nat
  /-- derate reports by chain × 64 + position: LOCAL and wheel time of arrival (R299) -/
  derates : Tab (Nat × Nat)
  /-- wheel time from which a Tile's derate report is awaited, and Tiles whose omission has been recorded (R299) -/
  derateSince : Tab Nat
  derateOmitted : List Nat
deriving DecidableEq, Repr

/-! ### Hallmarks (spec/06) -/

/-- A piece at the Sender (R180): its Tile, its number there, its region, class and deadline, its rectangle in the Tile, and the canvas
position of its top-left pixel. -/
structure PieceRec where
  chain : Nat
  pos : Nat
  num : Nat
  region : Nat
  cls : Nat
  deadline : Nat
  x : Nat
  y : Nat
  w : Nat
  h : Nat
  cx : Nat
  cy : Nat
deriving DecidableEq, Repr, Inhabited

/-- A piece table (R180): the generation from which it holds, its version, its pieces, and the hallmarks of each piece by
(chain × 64 + position) × 64 + number: newest first, each with the first generation that it is the hallmark of; none where that
generation's was never computed (R182). -/
structure PieceTable where
  from_ : Nat
  version : Nat
  pieces : List PieceRec
  marks : Tab (List (Nat × Option Nat))
deriving DecidableEq, Repr, Inhabited

/-- What a pass left for R184: generation, boundary, and for each guarded region whether every layer over it was current, and the ports
those layers read. -/
structure PassSnap where
  gen : Nat
  start : Nat
  regions : List (Nat × Bool × List Nat)
deriving DecidableEq, Repr, Inhabited

/-- A STALE order that has yet to enter some ports (R196). -/
structure StaleRec where
  gen : Nat
  table : Nat
  all : Bool
  regions : List Nat
  ports : List Nat
deriving DecidableEq, Repr, Inhabited

/-- An entry of a GUARD message (R187). -/
structure GuardEntry where
  region : Nat
  cls : Nat
  deadline : Nat
  x : Nat
  y : Nat
  w : Nat
  h : Nat
deriving DecidableEq, Repr, Inhabited

/-- A piece at a Tile (R188, R190): its guard entry, expiry, floor (epoch and generation), the reasons that hold for a hatch now, and what
HMK_PC_STAT shows since the last feed start. -/
structure GuardPiece where
  entry : GuardEntry
  expiry : Nat
  floor : Option (Nat × Nat)
  why : Nat
  hatched : Bool
  reasons : Nat
deriving DecidableEq, Repr, Inhabited

/-- A REAFFIRM that a Tile has accepted and not yet judged (R191): its contents, and its epoch. -/
structure HeldAffirm where
  gen : Nat
  show_ : Nat
  table : Nat
  epoch : Nat
  entries : List (Nat × Nat)
deriving DecidableEq, Repr, Inhabited

/-- The hallmark block beside its registers: a Sender's share first, then a Tile's. -/
structure HmkSt where
  /-- piece tables, newest first -/
  tables : List PieceTable
  /-- blocks changed and not yet hashed, each with the generation that wrote it -/
  changed : List (Nat × Nat)
  /-- what the passes left for the freshness of their generations (R184) -/
  snaps : List PassSnap
  /-- generation floors that STALE orders carry, by region (R198), and regions ordered stale since they were last affirmed -/
  floors : Tab Nat
  staled : List Nat
  /-- STALE orders that have yet to leave on some ports (R196) -/
  orders : List StaleRec
  /-- self-check (R183): place in the rotation, disagreements in a row, generation last checked, and the piece omitted -/
  rotation : Nat
  checkRun : Nat
  checkedGen : Option Nat
  omitted : Option (Nat × Nat)
  /-- latest guard report of each Tile by chain × 64 + position: state of each region, glass masks, dark groups (R202) -/
  tileStates : Tab (List (Nat × Nat))
  tileGlass : Tab (List Nat)
  tileDark : Tab Nat
  /-- last GUARD accepted from the holder for each Tile (R413) -/
  holderGuard : Tab (List GuardEntry)
  /-- the Tile's guard table (R188); the epoch of its floors is in each piece -/
  guard : List GuardPiece
  /-- phase of the hatch, from the GUARD message (R187, R194) -/
  phase : Nat
  /-- hallmarks of its pieces in the picture of a generation: buffer, generation, values (R192) -/
  hashed : List (Nat × Nat × List Nat)
  /-- REAFFIRM messages not yet judged (R191) -/
  held : List HeldAffirm
  /-- last guard report sent: states of the pieces, glass masks, dark groups (R201) -/
  reported : List (Nat × Nat) × List Nat × Nat
deriving DecidableEq, Repr

/-! ### Tile frame store (spec/09) -/

/-- A generation bound while the back buffer is bound to the one before it (R173, log entry 16): its generation, show boundary, whether that is later than
its SHOW, whether it awaits GO, the receive buffer's bytes at the binding, and the cells pushed since. -/
structure NextBind where
  gen : Nat
  show_ : Nat
  late : Bool
  waits : Bool
  bytes : Bytes
  since : List Nat
deriving DecidableEq, Repr, Inhabited

/-- The frame store beside its registers and its pixels in DRAM. -/
structure TfsSt where
  /-- cell grid phase (R278) -/
  cx : Nat
  cy : Nat
  /-- behind and pending cells of the two physical buffers that are not in the receive role (R279, R280) -/
  behind : Tab (List Nat)
  pending : Tab (List Nat)
  /-- boundary from which the bound generation is shown, and whether that is a frame after its SHOW (R285) -/
  boundShow : Nat
  boundLate : Bool
  /-- pushes accepted and dropped, by generation, within one epoch (R168, R170) -/
  pushes : Tab (Nat × Nat)
  pushEpoch : Nat
  /-- epoch of the last COMMIT accepted, its generation, and the ports on which it was (R169, R201) -/
  commitEpoch : Option Nat
  commitGen : Nat
  commitPorts : List Nat
  /-- boundary of the frame being fed -/
  feedShow : Nat
  /-- the generation bound beside the one in the back buffer (R173) -/
  next : Option NextBind
deriving DecidableEq, Repr

/-! ### Driver groups (spec/10) -/

/-- A group's fields. -/
structure GroupCfg where
  chain : Nat
  scan : Nat
  pcl : Nat
  rpfl : Nat
  blank : Nat
  gdiv : Nat
  ddiv : Nat
deriving DecidableEq, Repr

/-- The commands that drivers read from LE (R305, R306): ROW_LATCH of a row, GAIN with the 256 bits that each driver loads, and the bare ones. -/
inductive LeKind where
  | rowLatch (row : Nat)
  | gain (word : BitVec 256)
  | swap
  | start
  | detect
  | status
  | probe
deriving DecidableEq, Repr

/-- LE held high for `width` rising edges of DCLK, from edge `edge` of the group's count on (R305, R322). -/
structure LeCmd where
  kind : LeKind
  edge : Nat
  width : Nat
deriving DecidableEq, Repr

/-- A driver group beside its registers. -/
structure DrvGroup where
  /-- knee factor (R331), and f, gain code and k_n before the last feed start -/
  f : Nat
  before : Nat × Nat × Nat
  /-- gain code in the drivers, and the configuration word that a GAIN loaded last (R314) -/
  driverGain : Nat
  conf : BitVec 256
  /-- the drivers' back and front banks: one grey word for each lamp, by the index of R323; and the back bank before the frame's feed -/
  back : List Nat
  front : List Nat
  prev : List Nat
  /-- a feed has begun since the last boundary; the feed of the current frame was aborted (R316, R317) -/
  feeding : Bool
  aborted : Bool
  /-- the pieces that the feed's frame guards (R199) -/
  pieces : List GuardEntry
  /-- rising edges of DCLK so far, the edge after the last command on LE, and the commands since the last feed start (R305, R322) -/
  edges : Nat
  leEnd : Nat
  le : List LeCmd
  /-- the refresh fields in force since the last boundary (R315) -/
  refresh : Option GroupCfg
  /-- refresh cycles of the frame that have begun, when the last one began, whether it is a probe gap, its row slots, and the row address it left (R319) -/
  cycle : Nat
  cycleAt : Nat
  gap : Bool
  lit : Nat
  rowa : Nat
  /-- compared frames in a row that were unequal and equal, by port (R200) -/
  runs : Tab (Nat × Nat)
deriving DecidableEq, Repr

/-- A group that has fed nothing: f is 1.0 (R331). -/
def DrvGroup.idle : DrvGroup :=
  { f := 32768, before := (32768, 0, 32768), driverGain := 0, conf := 0, back := [], front := [], prev := [], feeding := false, aborted := false
    pieces := [], edges := 0, leEnd := 0, le := [], refresh := none, cycle := 0, cycleAt := 0, gap := false, lit := 0, rowa := 0, runs := [] }

/-- The drive region and lamp correction beside their registers. -/
structure DrvSt where
  groups : Tab DrvGroup
  /-- wheel time at which WALLMIN was last accepted (R300) -/
  wallminAt : Option Nat
  /-- the order in which the correction pipeline fills the rows of the frame: group and row (R312) -/
  fill : List (Nat × Nat)
  /-- the reads of the last sensor scan on the sensor bus: address and pointer byte (R293) -/
  bus : List (Nat × Nat)
deriving DecidableEq, Repr

/-! ### Assay (spec/11) -/

/-- A filled temperature point (R349). -/
structure AsyPoint where
  temp : Int
  adcOff : Int
  adcGadj : Int
  crefOff : List Int
  crefGadj : List Int
  duty : List Int
  run : Nat
  when_ : Nat
deriving DecidableEq, Repr, Inhabited

/-- An Assay record (R349): points by number, L of each output, and the Ledger bank in whose Assay area it stands. -/
structure AsyRecord where
  points : Tab AsyPoint
  run : Nat
  when_ : Nat
  tsOff : Int
  lin : List (List Int)
  bank : Nat
deriving DecidableEq, Repr, Inhabited

/-- A run in progress (R344 to R348): what it was started with, and what it has found. -/
structure AsyRun where
  point : Nat
  /-- sum and number of the die temperatures sampled during the run -/
  temps : Int × Nat
  refUv : Nat
  tsEn : Bool
  refTemp : Int
  /-- outputs named in SWEEP, and from A6 on those that the run began to sweep; those still swept, and where each stands: linearity point, and wheel time at
  which it was reached -/
  began : Nat
  sweep : Nat
  at_ : Tab (Nat × Option Nat)
  off : Int
  gadj : Int
  tsOff : Option Int
  /-- outputs measured at one point: output and what is added to its OFF -/
  single : List (Nat × Int)
  /-- outputs swept to the end: output, OFF, GADJ, L -/
  swept : List (Nat × Int × Int × List Int)
  /-- duties measured: group, MEAS and steps moved -/
  duty : List (Nat × Nat × Int)
  /-- the record in force before A8 (R348) -/
  old : Option AsyRecord
deriving DecidableEq, Repr, Inhabited

/-- The Assay region beside its registers. -/
structure AsySt where
  record : Option AsyRecord
  run : Option AsyRun
deriving DecidableEq, Repr

/-! ### Tally (spec/13) -/

/-- A memory scan that runs: the fields latched at START (R396). -/
structure ScanRec where
  addr : Nat
  len : Nat
  profile : Nat
  again : Bool
  expect : Nat
deriving DecidableEq, Repr, Inhabited

/-- The Tally region beside its registers. -/
structure TlySt where
  /-- the registers of the general units, by cluster × 8 + unit -/
  units : Tab Nat
  /-- running scans, and results of the last complete passes, by engine -/
  scans : Tab ScanRec
  results : Tab Nat
deriving DecidableEq, Repr

/-! ### Outcomes -/

/-- Why a command is a fault. -/
inductive Fault where
  /-- Raised by POWER_ON and RESET_RELEASE when the command says that the supplies, clocks or the reset pulse were outside
  their limits: R4 says that the behaviour is then not defined. Safe: nothing is claimed of such a device. -/
  | outsideLimits
deriving DecidableEq, Repr

/-- Why a command is refused by the model. -/
inductive Refusal where
  /-- Raised for an arm that has no meaning yet, with the row's mnemonic. Safe. -/
  | notModelled (mnemonic : String)
  /-- Raised by BOUNDARY_SCAN_INSTRUCTION for an instruction code that R508 says is not described. Safe. -/
  | undocumentedScanCode
deriving DecidableEq, Repr

/-! ### Control (spec/02, spec/16) -/

/-- Power, reset and the pins of the control region. -/
structure SysSt where
  /-- VIN has risen, the power-on detector is armed, and a start has begun since VIN last rose (R74, R494) -/
  powered : Bool
  detector : Bool
  started : Bool
  /-- RESET_N is low (R74) -/
  inReset : Bool
  /-- the step of the start under way: warm or cold, and its number (R66, R67) -/
  step : Option (Bool × Nat)
  /-- the last start accepted a flash directory (R483) -/
  directory : Bool
  /-- the SESSION draw of this cold start failed: it accepts no image (R432) -/
  noSession : Bool
  /-- digest of the Charter that the last cold start accepted, in the retained-state record (R69) -/
  digest : Option (BitVec 256)
  /-- FAULT_N is driven low (R476) -/
  faultLow : Bool
  /-- first light has been reached since the start (R66), and its wheel time -/
  firstLight : Bool
  litAt : Nat
  /-- commit groups that have passed a commit point since the start began (R515) -/
  committed : List Nat
  /-- wheel time at which each armed group was armed (R57); groups that a commit point has passed by (R59) -/
  armAt : Tab Nat
  missed : List Nat
  /-- cause of the fatal error that has stopped the device, until its restart (R483), and its wheel time -/
  fatal : Option Nat
  fatalAt : Nat
  /-- wheel time at which F5 halted the device (R483) -/
  haltAt : Nat
  /-- REASON of the fatal error (R483) -/
  fatalReason : Nat
  /-- dump step under way: 2 to 4, or 5 once ACTION holds the device; and a second fatal error ended the dump (R485) -/
  dump : Nat
  nested : Bool
  /-- ports that have yet to take an armed G12 or G14 commit -/
  portsLeft : Tab (List Nat)
  /-- the instruction register of the IEEE 1149.1 port (R508) -/
  scan : BitVec 8
deriving DecidableEq, Repr

/-- A REMOTE read in progress (R472): its number, wall address, first register and count, and the wheel time at which its request was sent. -/
structure RemoteRead where
  id : Nat
  addr : Nat
  reg : Nat
  count : Nat
  sentAt : Nat
deriving DecidableEq, Repr, Inhabited

/-- The Counter port beside its registers (spec/16). -/
structure CtrSt where
  /-- the envelope that awaits its verdict (R467) -/
  envelope : Option Bytes
  /-- bytes that the last transaction returned on CTR_SDO, those of its dummy bytes included -/
  sdo : Bytes
  /-- the REMOTE read under way, and the number of the next one (R472) -/
  remote : Option RemoteRead
  nextId : Nat
  /-- a selection held until G0 and G1 have committed: preset, and whether the pins made it (R470) -/
  held : Option (Nat × Bool)
  /-- last sample of the PRESET pins and how many in a row read it, and the stable value once there is one (R474) -/
  sample : Nat × Nat
  stable : Option Nat
  /-- high words latched for firmware and for the Counter port, by the address of the high register (R466) -/
  latchFw : Tab Nat
  latchPort : Tab Nat
deriving DecidableEq, Repr

/-- What the last register access of firmware answered: a word, and whether it was refused with an access error. -/
structure BusResult where
  data : Word
  err : Bool
deriving DecidableEq, Repr


/-- The whole device. -/
structure State where
  /-- commands that are waiting, first in, first out -/
  pending : List Instr
  /-- the model's own counter of free values used (log entry 4) -/
  fresh : Nat
  /-- the wheel-time count in ns (R247) -/
  count : BitVec 64
  /-- live and pending values of the registers, by address; an unlisted register holds its reset word -/
  regs : Tab Word
  /-- active copies of staged registers, by address; an unlisted one holds its reset word (R515) -/
  act : Tab Word
  dram : List Host.Cell
  sram : List Host.Cell
  flash : List Host.Cell
  nvm : NvmSt
  bus : BusResult
  sys : SysSt
  log : LogSt
  dmc : DmcSt
  srb : SramSt
  weft : WeftSt
  charter : CharterSt
  intake : IntakeSt
  loom : LoomSt
  dmg : DmgSt
  hmk : HmkSt
  tfs : TfsSt
  drv : DrvSt
  asy : AsySt
  tly : TlySt
  whl : WhlSt
  spn : SpnSt
  trs : TrsSt
  ptr : PtrSt
  ctr : CtrSt
deriving DecidableEq, Repr

/-! ### Reset -/

/-- The device right after power-on (R66, R494): step C1 of a cold start runs, CAUSE is power-on, every register holds its reset value (SRB_PWR of B0 and
B1 that of a device without a role: On, R382), nothing is in any memory or queue, and FAULT_N is high. The OTP, which the spec fills at manufacture, is zeros here (log entry 28), and the boundary-scan
instruction is IDCODE, as IEEE 1149.1 has it (log entry 73). -/
def State.reset : State :=
  { pending := []
    fresh := 0
    count := 0
    regs := [(0x10400000, 0x22), (0x10401000, 0x22)]
    act := []
    dram := []
    sram := []
    flash := []
    nvm := { octal := false, cmd := 0, dummy := 0, mhz := 0, ops := [] }
    bus := ⟨0, false⟩
    sys :=
      { powered := true, detector := false, started := true, inReset := false, step := some (false, 1), directory := false, noSession := false, digest := none
        faultLow := false, firstLight := false, litAt := 0, committed := [], armAt := [], missed := [], fatal := none, fatalAt := 0, haltAt := 0
        fatalReason := 0, dump := 0, nested := false, portsLeft := [], scan := 0x01 }
    log :=
      { seqs := [], queue := [], b0 := [], ring := [], remote := [], fwRemote := 0, fwdNext := 0, fwdLost := 0, fwdTime := none
        served := true, inDram := false }
    dmc := { result := ⟨[], [], false, 0⟩, waiting := [], cycle := 0, openRow := [], passes := [], refreshed := [], refreshMs := 32, recentred := [], ueTimes := [] }
    srb := { owner := ([], false), shared := [], held := [], turn := [], save := [], nextBank := 0, nextWindow := 0, windowAt := none, failTimes := [] }
    weft := { ports := [], sent := [], sets := [], losses := [], beacons := 0 }
    charter :=
      { originX := 0, originY := 0, width := 0, height := 0, defaults := [], presets := [], edids := [], dpcds := [], profiles := []
        surfaces := [], version := 0, sequence := 0, digest := 0 }
    intake := { ports := [], patches := [], surfaces := [], releases := [], answer := [] }
    loom :=
      { layers := [], passPins := [], inPass := false, boundaryAt := 0, dirty := [], carried := [], dirtySince := [], marked := []
        markedAll := false, slots := [], unclean := [], heldCount := 0, lastBlock := 0, faults := [], toFence := [], faulted := [], segments := [], busy := [] }
    dmg :=
      { queues := [], damage := [], window := 0, charge := [], chargeA := [], tiles := [], withdrawn := [], guardDue := false, overRun := []
        due := [], prepare := none, bounds := [], written := [], derates := [], derateSince := [], derateOmitted := [] }
    hmk :=
      { tables := [], changed := [], snaps := [], floors := [], staled := [], orders := [], rotation := 0, checkRun := 0, checkedGen := none
        omitted := none, tileStates := [], tileGlass := [], tileDark := [], holderGuard := [], guard := [], phase := 0, hashed := [], held := []
        reported := ([], List.replicate 8 0, 0) }
    tfs :=
      { cx := 0, cy := 0, behind := [], pending := [], boundShow := 0, boundLate := false, pushes := [], pushEpoch := 0, commitEpoch := none
        commitGen := 0, commitPorts := [], feedShow := 0, next := none }
    drv := { groups := [], wallminAt := none, fill := [], bus := [] }
    asy := { record := none, run := none }
    tly := { units := [], scans := [], results := [] }
    whl :=
      { frac := 0, rem := 0, copy := 0, rate := 60, pendingRate := none, base := 0, slew := 0, done := [], skip := 0, counted := false
        lastEdge := none, oldSync := none, edgeSeen := false, goodRun := 0, lockRun := 0, badRun := 0, regain := []
        offset := none, exchanges := [], request := none, nextId := 0, waiting := [], lostAt := 0, stepPending := none, stepAt := 0
        warmFail := false, localRun := 0, localLost := false, markers := 0, outEdges := 0, outAt := none }
    spn :=
      { heartAt := none, affirmAt := none, loserAt := [], heard := [], maxEpoch := 0, holderHeard := false, hearts := 0, yielded := none
        verdicts := [], yieldBar := 0, partnerYield := none, drill := none, drillBack := 0, holderGen := none, wdogAt := 0, queries := []
        served := [], unequal := [], offsetSet := false, resume := false, sleepAfter := false, lastGen := 0, lastBoundary := 0, hotSince := none, downSince := none }
    trs :=
      { wallKey := none, enrolled := [], partner := false, offers := [], offeredAt := [], answers := [], otp := List.replicate 336 0
        keys := [] }
    ptr := { journal := ⟨0, 0, 0, 0, 0, 0, 0, 0⟩, transfer := none, op := .idle, onTrial := false }
    ctr := { envelope := none, sdo := [], remote := none, nextId := 0, held := none, sample := (0, 0), stable := none, latchFw := [], latchPort := [] } }

end Sys2Proof.Machine
end

