-- ==== Sys2Proof/Machine/Ops.lean ====
section
/-! DEFINITION. The named operations every meaning is written with: sparse tables, register fields (pending and active
copies), memory cells in canonical form, little-endian bytes, and free values. -/

namespace Sys2Proof.Machine

/-! ### Fields of registers -/

/-- The word a register holds for reads: the live or pending value (R56). -/
def State.word (s : State) (f : Fld) : Word := (Tab.find s.regs f.addr).getD (BitVec.ofNat 32 f.rst)

/-- The word of active copies of a register (R56); until the first commit it is the reset word (R515). -/
def State.actWord (s : State) (f : Fld) : Word := (Tab.find s.act f.addr).getD (BitVec.ofNat 32 f.rst)

/-- A live field, or the pending copy of a staged one. -/
def State.rd (s : State) (f : Fld) : Nat := getBits (s.word f) f.lo f.width

/-- The active copy of a staged field: what the block acts on (R56). -/
def State.ac (s : State) (f : Fld) : Nat := getBits (s.actWord f) f.lo f.width

/-- Sets a live field, or the pending copy of a staged one. -/
def State.wr (s : State) (f : Fld) (v : Nat) : State :=
  { s with regs := Tab.put s.regs f.addr (setBits (s.word f) f.lo f.width v) }

/-- A one-bit field as a truth value. -/
def State.flag (s : State) (f : Fld) : Bool := s.rd f == 1

/-- The active copy of a one-bit field as a truth value. -/
def State.acFlag (s : State) (f : Fld) : Bool := s.ac f == 1

/-- Bit `n` of a field that holds one bit for each of several things. -/
def State.bit (s : State) (f : Fld) (n : Nat) : Bool := (s.rd f).testBit n

/-- The number `m` with bit `n` set to `b`. -/
def natSetBit (m n : Nat) (b : Bool) : Nat :=
  if b then m ||| 2 ^ n else m - (if m.testBit n then 2 ^ n else 0)

/-- Sets bit `n` of a field. -/
def State.wrBit (s : State) (f : Fld) (n : Nat) (b : Bool) : State := s.wr f (natSetBit (s.rd f) n b)

/-- Sets a one-bit field. -/
def State.wrFlag (s : State) (f : Fld) (b : Bool) : State := s.wr f b.toNat

/-- Adds `k` to a counter that saturates at the largest value of its field. -/
def State.bumpBy (s : State) (f : Fld) (k : Nat) : State := s.wr f (min (s.rd f + k) (2 ^ f.width - 1))

/-- Counts one in a saturating counter. -/
def State.bump (s : State) (f : Fld) : State := s.bumpBy f 1

/-- Counts one in a counter that wraps. -/
def State.bumpWrap (s : State) (f : Fld) : State := s.wr f (s.rd f + 1)

/-- A number read as two's complement of `n` bits. -/
def signedOf (n v : Nat) : Int := if 2 ^ n ≤ 2 * (v % 2 ^ n) then (v % 2 ^ n : Nat) - (2 ^ n : Nat) else (v % 2 ^ n : Nat)

/-- The low `n` bits of an integer, two's complement. -/
def unsignedOf (n : Nat) (z : Int) : Nat := (z % (2 ^ n : Nat)).toNat

/-- A signed live field. -/
def State.rdInt (s : State) (f : Fld) : Int := signedOf f.width (s.rd f)

/-- The active copy of a signed field. -/
def State.acInt (s : State) (f : Fld) : Int := signedOf f.width (s.ac f)

/-- An integer limited to a range. -/
def clampInt (lo hi z : Int) : Int := max lo (min hi z)

/-- Applies `f` where the condition holds, and changes nothing otherwise. -/
def State.onlyIf (s : State) (c : Bool) (f : State → State) : State := if c then f s else s

/-- Applies `f` for each element of a list, in order. -/
def State.forAll {α : Type} (s : State) (l : List α) (f : State → α → State) : State := l.foldl f s

/-! ### Register words by address -/

/-- The word at an address, whether or not a register stands there. -/
def State.wordAt (s : State) (a : Nat) : Word := (Tab.find s.regs a).getD (resetWordAt a)

/-- The word of active copies at an address. -/
def State.actWordAt (s : State) (a : Nat) : Word := (Tab.find s.act a).getD (resetWordAt a)

/-- Copies every pending field of group `g` that satisfies `sel` to its active copy (R57). -/
def State.copyGroup (s : State) (g : Nat) (sel : Nat → Bool) : State :=
  ((s.regs.map (·.1) ++ s.act.map (·.1)).filter sel).foldl
    (fun t a =>
      match findReg a with
      | none => t
      | some (d, ix) =>
        let m := d.groupMask ix g
        if m = 0 then t
        else { t with act := Tab.put t.act a ((t.actWordAt a &&& ~~~m) ||| (t.wordAt a &&& m)) }) s

/-! ### Role -/

/-- The role the device holds (R14, R15): 0 none, 1 Sender, 2 Tile. -/
def State.role (s : State) : Nat := s.rd Reg.SYS_ROLE_ROLE

def State.isSender (s : State) : Bool := s.role == 1
def State.isTile (s : State) : Bool := s.role == 2

/-- The device has power and is not held in reset. -/
def State.alive (s : State) : Bool := s.sys.powered && !s.sys.inReset

/-- What happens only in a device that has power and is not held in reset (R74, R494). -/
def State.whenAlive (s : State) (f : State → State) : State := if s.alive then f s else s

/-! ### Configuration in force -/

/-- A staged field as the device acts on it: while a start is under way the pending copy, until the group's first commit point of that start; the active
copy otherwise (R56, R515). -/
def State.cfg (s : State) (g : Nat) (f : Fld) : Nat := if s.sys.committed.contains g || s.sys.step.isNone then s.ac f else s.rd f

/-! ### Time and free values -/

/-- The wheel-time count, in nanoseconds. -/
def State.now (s : State) : Nat := s.count.toNat

/-- First light (R66): the wheel time of the first of this start, or of the trial that a warm start goes on with (R458). -/
def State.light (s : State) : State :=
  if s.sys.firstLight then s
  else { s with sys := { s.sys with firstLight := true, litAt := if s.ptr.onTrial && s.sys.litAt != 0 then s.sys.litAt else s.now } }

/-- A free value: the one at the state's own counter (the counter then advances, see `State.spend`). -/
def State.free (s : State) (w : Nat) : BitVec w := Config.freeValue w s.fresh

/-- Passes over the free value just used. -/
def State.spend (s : State) : State := { s with fresh := s.fresh + 1 }

/-! ### Generations -/

/-- A 16-bit serial number is later than another (R148). -/
def later16 (a b : Nat) : Bool := let d := (a % 65536 + 65536 - b % 65536) % 65536; decide (1 ≤ d) && decide (d ≤ 32767)
/-- A generation is later than another (R148). -/
def later32 (a b : Nat) : Bool :=
  let d := (a % 2 ^ 32 + 2 ^ 32 - b % 2 ^ 32) % 2 ^ 32
  decide (1 ≤ d) && decide (d ≤ 2147483647)

/-! ### Bytes -/

/-- The low `n` bytes of a number, least significant first (R7). -/
def leBytes : Nat → Nat → Bytes
  | 0, _ => []
  | n + 1, v => BitVec.ofNat 8 (v % 256) :: leBytes n (v / 256)

/-- The number that bytes spell, least significant first (R7). -/
def leNat : Bytes → Nat
  | [] => 0
  | b :: t => b.toNat + 256 * leNat t

/-- The number in `n` bytes of `l` from offset `o` (R7); bytes past the end count as 0. -/
def leAt (l : Bytes) (o n : Nat) : Nat := leNat ((l.drop o).take n)

/-- The number that bytes spell, most significant first: octet strings of R54. -/
def beNat (l : Bytes) : Nat := leNat l.reverse

/-- The bytes from offset `o`, `n` of them. -/
def slice (l : Bytes) (o n : Nat) : Bytes := (l.drop o).take n

/-- `n` bytes of zero. -/
def zeros (n : Nat) : Bytes := List.replicate n 0

/-! ### Memory cells -/

/-- The byte at an address of a cell list; an unlisted address reads `d`. -/
def Cells.get (d : Byte) (l : List Host.Cell) (a : Nat) : Byte := (Tab.find l a).getD d

/-- Removes an address from a sorted cell list. -/
def Cells.drop : List Host.Cell → Nat → List Host.Cell
  | [], _ => []
  | (k, w) :: t, a => if a = k then t else if a < k then (k, w) :: t else (k, w) :: Cells.drop t a

/-- Stores a byte, keeping the canonical form: an entry equal to `d` is not listed. -/
def Cells.put (d : Byte) (l : List Host.Cell) (a : Nat) (b : Byte) : List Host.Cell :=
  if b = d then Cells.drop l a else Tab.put l a b

/-- The addresses of a list rise strictly. -/
def Cells.sorted : List Host.Cell → Bool
  | [] => true
  | [_] => true
  | (a, _) :: (b, w) :: t => decide (a < b) && Cells.sorted ((b, w) :: t)

/-- The canonical form: addresses strictly rising, no entry equal to what an unlisted address reads as. -/
def Cells.wf (d : Byte) (l : List Host.Cell) : Bool := Cells.sorted l && l.all fun c => c.2 != d

/-- `n` bytes from address `a`. -/
def Cells.read (d : Byte) (l : List Host.Cell) (a : Nat) : Nat → Bytes
  | 0 => []
  | n + 1 => Cells.get d l a :: Cells.read d l (a + 1) n

/-- Stores bytes from address `a` up. -/
def Cells.write (d : Byte) (l : List Host.Cell) (a : Nat) : Bytes → List Host.Cell
  | [] => l
  | b :: t => Cells.write d (Cells.put d l a b) (a + 1) t

/-- The bytes below `lo` or from `hi` up. -/
def Cells.erase (l : List Host.Cell) (lo hi : Nat) : List Host.Cell := l.filter fun c => c.1 < lo || hi ≤ c.1

/-- DRAM: a byte nothing has written reads 0 (log entry 2). -/
def State.dramByte (s : State) (a : Nat) : Byte := Cells.get 0 s.dram a
def State.dramRead (s : State) (a n : Nat) : Bytes := Cells.read 0 s.dram a n
def State.dramWrite (s : State) (a : Nat) (bs : Bytes) : State := { s with dram := Cells.write 0 s.dram a bs }

/-- Flash: an erased byte reads 0xFF (log entry 3). -/
def State.flashByte (s : State) (a : Nat) : Byte := Cells.get 0xFF s.flash a
def State.flashRead (s : State) (a n : Nat) : Bytes := Cells.read 0xFF s.flash a n

/-- The device does something on its flash bus. -/
def State.nvmDo (s : State) (ops : List FlashOp) : State := { s with nvm := { s.nvm with ops := s.nvm.ops ++ ops } }

/-- Reads `n` bytes of flash: with the directory's READ_CMD, DUMMY and FREQ in 8D-8D-8D, with command 0x13 at 25 MHz in 1S-1S-1S (R47, R50). -/
def State.nvmRead (s : State) (off n : Nat) : State :=
  s.nvmDo [if s.nvm.octal then .read true s.nvm.cmd s.nvm.dummy s.nvm.mhz off n else .read false 0x13 0 25 off n]

/-- The 256-byte pages that `n` bytes from `a` fall into: offset and size of each part (R47). -/
def pageParts (a n : Nat) : List (Nat × Nat) :=
  if n = 0 then []
  else (List.range ((a + n - 1) / 256 + 1 - a / 256)).map fun i =>
    let lo := max a ((a / 256 + i) * 256)
    (lo, min (a + n) ((a / 256 + i + 1) * 256) - lo)

/-- Programs bytes page by page, each page after a write enable (R47). -/
def State.flashWrite (s : State) (a : Nat) (bs : Bytes) : State :=
  ({ s with flash := Cells.write 0xFF s.flash a bs } : State).nvmDo
    ((pageParts a bs.length).flatMap fun x => [.writeEnable s.nvm.octal, .program s.nvm.octal x.1 x.2])

/-- Erases `n` bytes in blocks of 64 KiB, each after a write enable (R47). -/
def State.flashErase (s : State) (a n : Nat) : State :=
  ({ s with flash := Cells.erase s.flash a (a + n) } : State).nvmDo
    ((List.range ((n + 65535) / 65536)).flatMap fun i => [.writeEnable s.nvm.octal, .erase s.nvm.octal (a + 65536 * i)])

/-- The key of a byte of an SRAM bank: the bank number above a 24-bit offset. -/
def sramKey (bank off : Nat) : Nat := bank * 0x1000000 + off

/-- SRAM: a bank is zero-filled before it serves (R380, R382), so an unlisted byte reads 0. -/
def State.sramByte (s : State) (bank off : Nat) : Byte := Cells.get 0 s.sram (sramKey bank off)
def State.sramRead (s : State) (bank off n : Nat) : Bytes := Cells.read 0 s.sram (sramKey bank off) n
def State.sramWrite (s : State) (bank off : Nat) (bs : Bytes) : State :=
  { s with sram := Cells.write 0 s.sram (sramKey bank off) bs }
def State.sramClear (s : State) (bank : Nat) : State :=
  { s with sram := Cells.erase s.sram (sramKey bank 0) (sramKey (bank + 1) 0) }

end Sys2Proof.Machine
end

