-- ==== Sys2Proof/Machine/Operands.lean ====
section
/-! DEFINITION. The operand forms of the block: check values (R8, R215), pixels, and Weft packets: their layout, pseudo-header,
CRC, tag, and how a packet is originated (spec/07_weft_chain_link.md). -/

namespace Sys2Proof.Machine

/-! ### Check values -/

/-- One bit of CRC-32C, reflected (R215). -/
def crc32cBit (c : Nat) : Nat := if c % 2 = 1 then (c / 2) ^^^ 0x82F63B78 else c / 2

/-- One byte of CRC-32C, reflected. -/
def crc32cByte (c : Nat) (b : Byte) : Nat :=
  crc32cBit (crc32cBit (crc32cBit (crc32cBit (crc32cBit (crc32cBit (crc32cBit (crc32cBit (c ^^^ b.toNat))))))))

/-- CRC-32C (R215): initial value and final XOR 0xFFFF_FFFF. -/
def crc32c (bs : Bytes) : Nat := (bs.foldl crc32cByte 0xFFFFFFFF) ^^^ 0xFFFFFFFF

/-- One bit of the hallmark CRC-64, not reflected (R8). -/
def crc64Bit (c : Nat) (bit : Bool) : Nat :=
  if c.testBit 63 != bit then (c * 2 % 2 ^ 64) ^^^ 0x42F0E1EBA9EA3693 else c * 2 % 2 ^ 64

/-- One byte of the hallmark CRC-64, most significant bit first (R8). -/
def crc64Byte (c : Nat) (b : Byte) : Nat :=
  [7, 6, 5, 4, 3, 2, 1, 0].foldl (fun c i => crc64Bit c (b.toNat.testBit i)) c

/-- The hallmark CRC-64 (R8): initial value and final XOR all ones. -/
def crc64 (bs : Bytes) : Nat := (bs.foldl crc64Byte (2 ^ 64 - 1)) ^^^ (2 ^ 64 - 1)

/-! ### Pixels -/

/-- A 36-bit pixel: R in [11:0], G in [23:12], B in [35:24] (R8). -/
abbrev Pixel := Nat

def pixelOf (r g b : Nat) : Pixel := r % 4096 + 4096 * (g % 4096) + 4096 * 4096 * (b % 4096)
def pixelR (p : Pixel) : Nat := p % 4096
def pixelG (p : Pixel) : Nat := p / 4096 % 4096
def pixelB (p : Pixel) : Nat := p / 4096 / 4096 % 4096

/-- The pixel from the three components of a list. -/
def pixelOfList (l : List Nat) : Pixel := pixelOf (l.getD 0 0) (l.getD 1 0) (l.getD 2 0)

/-- Five bytes of a pixel, as it is hashed (R8). -/
def pixelBytes (p : Pixel) : Bytes := leBytes 5 (p % 2 ^ 36)

/-- The CRC-64 over pixels in a given order (R8). -/
def crc64Pixels (ps : List Pixel) : Nat := crc64 (ps.flatMap pixelBytes)

/-! ### Weft packets -/

/-- The packet types of R211. -/
inductive PType where
  | push | commit | reaffirm | stale | mgmt | status | time | heart | yield | enrol
deriving DecidableEq, Repr

/-- The TYPE byte (R211). -/
def PType.code : PType → Nat
  | .push => 0x01 | .commit => 0x02 | .reaffirm => 0x03 | .stale => 0x04 | .mgmt => 0x05
  | .status => 0x06 | .time => 0x10 | .heart => 0x11 | .yield => 0x12 | .enrol => 0x13

/-- The type of a TYPE byte (R211). -/
def PType.ofCode : Nat → Option PType
  | 0x01 => some .push | 0x02 => some .commit | 0x03 => some .reaffirm | 0x04 => some .stale | 0x05 => some .mgmt
  | 0x06 => some .status | 0x10 => some .time | 0x11 => some .heart | 0x12 => some .yield | 0x13 => some .enrol
  | _ => none

/-- Whether a DEST is allowed for a type (R211): the kind, and for the Tile kind whether a broadcast is meant. -/
def PType.destOk (t : PType) (dest : Nat) : Bool :=
  let kind := dest / 0x4000
  match t with
  | .push | .reaffirm | .commit | .stale | .mgmt => kind == 0
  | .status => kind == 1
  | .time | .enrol => kind == 2
  | .heart | .yield => kind == 3

/-- Whether a type carries a tag (R211). -/
def PType.tagged : PType → Bool
  | .enrol => false
  | _ => true

/-- The direction of traffic on a port as R214 has it: what a Sender of rank r sends is r, a Tile sends 0 out of port B and 1
out of port A; what is received is the opposite of what is sent. -/
def State.portDir (s : State) (port : Nat) (sending : Bool) : Nat :=
  let d := if s.isTile then (if port = 1 then 0 else 1) else s.rd Reg.SYS_ROLE_RANK
  if sending then d else 1 - d

/-- The group and chain of a port: a Sender's own group and port letter, a Tile's address, or where a Tile has no valid
address the packet's DEST (R214). -/
def State.portPlace (s : State) (port dest : Nat) : Nat × Nat :=
  if s.isTile then
    let a := if s.flag Reg.SYS_WALL_VALID then s.rd Reg.SYS_WALL_ADDR else dest
    (a / 256 % 16, a / 64 % 4)
  else (s.rd Reg.SYS_ROLE_GROUP, port)

/-- The PORT field of the pseudo-header (R213, R214). -/
def State.portField (s : State) (port dest : Nat) (sending : Bool) : Nat :=
  let (g, c) := s.portPlace port dest
  g + 16 * c + 64 * s.portDir port sending

/-- The pseudo-header (R213). -/
def pseudoHeader (dest portField sq : Nat) : Bytes := leBytes 2 dest ++ leBytes 2 portField ++ leBytes 4 sq

end Sys2Proof.Machine

namespace Sys2Proof
open Sys2Proof.Machine

/-- The kinds of DEST [15:14] (R210). -/
def Packet.kind (p : Packet) : Nat := p.dest.toNat / 0x4000
def Packet.addr (p : Packet) : Nat := p.dest.toNat % 0x1000
def Packet.hop (p : Packet) : Bool := p.kind == 2
def Packet.tagged (p : Packet) : Bool := p.flags.toNat.testBit 0
def Packet.sync (p : Packet) : Bool := p.flags.toNat.testBit 1
def Packet.rank (p : Packet) : Nat := (p.flags.toNat / 4) % 2

/-- A well-formed packet (R212): a listed type, the type's TAG, a legal LENGTH, an allowed DEST, no reserved header bit. -/
def Packet.wellFormed (p : Packet) : Bool :=
  match PType.ofCode p.type.toNat with
  | none => false
  | some t =>
    (p.tagged == t.tagged) && (p.length.toNat % 4 == 0) && decide (p.length.toNat ≤ 2336) && (p.body.length == p.length.toNat)
      && t.destOk p.dest.toNat && (p.flags.toNat / 8 == 0) && (p.dest.toNat / 0x1000 % 4 == 0)
      && (p.origin.toNat / 64 == 0) && (p.rsv.toNat == 0)

/-- The 20 header bytes (R209). -/
def Packet.header (p : Packet) : Bytes :=
  leBytes 1 p.type.toNat ++ leBytes 1 p.flags.toNat ++ leBytes 2 p.dest.toNat ++ leBytes 1 p.origin.toNat
    ++ leBytes 1 p.rsv.toNat ++ leBytes 2 p.length.toNat ++ leBytes 2 p.seq.toNat ++ leBytes 2 p.seqHi.toNat
    ++ leBytes 4 p.epoch.toNat ++ leBytes 4 p.session.toNat

/-- The bytes a packet carries on the wire (R212). -/
def Packet.size (p : Packet) : Nat := 20 + p.length.toNat + 4 + (if p.tagged then 12 else 0)

/-- The number of a packet's originator among the sequence entries of a receiving port (R216): 0–62 a Tile, 63 and 64 the
Senders of rank 0 and 1, 65 the hop entry. -/
def Packet.originator (p : Packet) : Nat :=
  if p.hop then 65 else if p.origin.toNat % 64 = 63 then 63 + p.rank else p.origin.toNat % 64

/-- What the CRC and the tag cover: pseudo-header, header and body (R213, R220). -/
def Packet.covered (p : Packet) (portField sq : Nat) : Bytes :=
  pseudoHeader p.dest.toNat portField sq ++ p.header ++ p.body

/-- The CRC a packet must carry (R213, R215). -/
def Packet.goodCrc (p : Packet) (portField sq : Nat) : Nat := crc32c (p.covered portField sq)

/-- The tag's IV (R220). -/
def Packet.iv (p : Packet) (portField sq : Nat) : Bytes :=
  leBytes 2 portField ++ leBytes 1 p.origin.toNat ++ leBytes 1 (p.rank + if p.hop then 2 else 0)
    ++ leBytes 4 p.session.toNat ++ leBytes 4 sq

/-- The tag a packet must carry under a wall key (R220). -/
def Packet.goodTag (p : Packet) (key : BitVec 256) (portField sq : Nat) : BitVec 96 :=
  Config.gmac key (p.iv portField sq) (p.covered portField sq)

end Sys2Proof
end

