-- ==== Sys2Proof/Machine/Flags.lean ====
section
/-! DEFINITION. Event records, alerts and the two status pins (R43 to R46, R475 to R479 of spec/16). -/

namespace Sys2Proof.Machine

/-- A source number (R43): die code, region, cluster. -/
def srcOf (die region cluster : Nat) : Nat := die * 1024 + region * 64 + cluster

/-- Sources of the regions (R43): a region-level source uses cluster 63. -/
def srcControl : Nat := srcOf 1 0 63
def srcLoom : Nat := srcOf 1 1 63
def srcMemory : Nat := srcOf 1 2 63
def srcTrust : Nat := srcOf 1 3 63
def srcDispatch : Nat := srcOf 1 4 63
def srcLamp : Nat := srcOf 1 5 63
def srcTally : Nat := srcOf 1 6 63
def srcSram : Nat := srcOf 1 0 16
def srcBale : Nat := srcOf 1 1 32
def srcIntake (port : Nat) : Nat := srcOf 2 1 port
def srcWeft (port : Nat) : Nat := srcOf 2 2 port
def srcDrive (group : Nat) : Nat := srcOf 2 3 group
def srcAssay : Nat := srcOf 2 4 63
def srcWheel : Nat := srcOf 2 5 63

/-- Severity and block of an event code (R477). -/
def codeSeverity (code : Nat) : Nat := code / 0x4000 % 4
def codeBlock (code : Nat) : Nat := code / 0x100 % 64

/-- The bytes of an event record (R477). -/
def EventRec.bytes (r : EventRec) : Bytes :=
  leBytes 4 (r.src + 4096 * r.seq) ++ leBytes 6 r.time ++ leBytes 2 r.code ++ leBytes 4 r.arg

/-- The next sequence number of a source (R44). -/
def State.nextSeq (s : State) (src : Nat) : Nat := Tab.get s.log.seqs src

/-- The wheel time a source stamps its records with: the count on the Lane die, its copy on the Frame die (R45, R248). -/
def State.stampOf (s : State) (src : Nat) : Nat := if src / 1024 = 2 then s.now else s.whl.copy.toNat

/-- The record that a source raises now (R44, R45, R477). -/
def State.eventRec (s : State) (src code arg : Nat) : EventRec :=
  ⟨src, s.nextSeq src, s.stampOf src % 2 ^ 48, code, arg % 2 ^ 32⟩

/-- Queues a record with its source and uses its sequence number; a record whose source already has 16 waiting is discarded,
and its number is used all the same (R44, R479). -/
def State.queueEvent (s : State) (src code arg : Nat) : State :=
  let room := decide ((s.log.queue.filter fun r => r.src == src).length < 16)
  { s with log := { s.log with
      seqs := Tab.put s.log.seqs src ((s.nextSeq src + 1) % 2 ^ 20)
      queue := if room then s.log.queue ++ [s.eventRec src code arg] else s.log.queue } }

/-- FAULT_N goes low and stays low until the next start (R476). -/
def State.faultPin (s : State) : State := { s with sys := { s.sys with faultLow := true } }

/-- Raises an event record (R475 to R479): it is queued, its SYS_ALERT bit sets when its severity is alert or fault, and a
fault drives FAULT_N low. -/
def State.raise (s : State) (src code arg : Nat) : State :=
  let s1 := s.queueEvent src code arg
  let s2 := if 2 ≤ codeSeverity code then s1.wrBit Reg.SYS_ALERT_LATCH (codeBlock code) true else s1
  if codeSeverity code = 3 then s2.faultPin else s2

/-- ALERT_N is driven low while an unmasked SYS_ALERT bit is set (R475). -/
def State.alertLow (s : State) : Bool := (s.rd Reg.SYS_ALERT_LATCH &&& s.rd Reg.SYS_ALERT_MASK_MASK) != 0

end Sys2Proof.Machine
end

