-- ==== Sys2Proof/Machine/Keys.lean ====
section
/-! DEFINITION. The trust core's keys (R430 to R441 of spec/15_trust_keys_and_update.md): the OTP, random draws, signature checks, and the draw of the wall
key. -/

namespace Sys2Proof.Machine

/-! ### OTP -/

/-- Bytes of the OTP (R433). -/
def State.otpBytes (s : State) (o n : Nat) : Bytes := slice s.trs.otp o n

/-- A byte of the OTP as a number. -/
def State.otpByte (s : State) (o : Nat) : Nat := leAt s.trs.otp o 1

def State.idPriv (s : State) : BitVec 256 := BitVec.ofNat 256 (beNat (s.otpBytes 0 32))
def State.idPub (s : State) : Bytes := s.otpBytes 32 64
def State.serial (s : State) : Nat := leAt s.trs.otp 96 4
def State.certKey (s : State) : Nat := s.otpByte 100
def State.debugLocked (s : State) : Bool := (s.otpByte 170).testBit 0

/-- The number of bits set in a byte. -/
def popByte (b : Byte) : Nat := ((List.range 8).filter fun i => b.toNat.testBit i).length

/-- The rollback floor F: the number of bits set in FLOOR (R433). -/
def State.rollbackFloor (s : State) : Nat := ((s.otpBytes 304 32).map popByte).sum

/-- Owner slot `i` is written, and is revoked (R433). -/
def State.slotWritten (s : State) (i : Nat) : Bool := (s.otpByte 169).testBit (2 * i)
def State.slotRevoked (s : State) (i : Nat) : Bool := (s.otpByte 169).testBit (2 * i + 1)

/-- The highest-numbered slot that is written and not revoked (R434). -/
def State.ownerSlot (s : State) : Option Nat := [3, 2, 1, 0].find? fun i => s.slotWritten i && !s.slotRevoked i

/-- The device has a written owner slot (R434). -/
def State.claimed (s : State) : Bool := [0, 1, 2, 3].any s.slotWritten

/-- A key hash in the OTP. -/
def State.slotHash (s : State) (i : Nat) : BitVec 256 := BitVec.ofNat 256 (beNat (s.otpBytes (176 + 32 * i) 32))

/-- The owner key in force, as its hash (R434). -/
def State.ownerHash (s : State) : Option (BitVec 256) := s.ownerSlot.map s.slotHash

/-- The byte string of `n` octets that spells a number, most significant first (R54). -/
def beBytes (n v : Nat) : Bytes := (leBytes n v).reverse

/-- Sets OTP bits: a bit once set stays set (R434). -/
def State.otpSet (s : State) (o : Nat) (bs : Bytes) : State :=
  let old := s.trs.otp
  { s with trs := { s.trs with otp := (List.range old.length).zipWith (fun i b => if o ≤ i ∧ i < o + bs.length then b ||| bs.getD (i - o) 0 else b) old } }

/-- The 32 bytes of FLOOR with the lowest `n` bits set (R433). -/
def floorBytes (n : Nat) : Bytes := leBytes 32 (2 ^ min n 256 - 1)

/-- Shows the OTP in the registers of the trust core. -/
def State.showOtp (s : State) : State :=
  let s1 := s.forAll (List.range 16) fun t i => t.wr (Reg.TRS_ID_PUB_KEY i) (leAt s.idPub (4 * i) 4)
  let own := match s.ownerSlot with
    | some i => s.otpBytes (176 + 32 * i) 32
    | none => zeros 32
  let s2 := s1.forAll (List.range 8) fun t i => t.wr (Reg.TRS_OWNER_HASH i) (leAt own (4 * i) 4)
  let s3 := ((s2.wr Reg.TRS_SERIAL_SERIAL s.serial).wrFlag Reg.TRS_STAT_CLAIMED s.claimed).wrFlag Reg.TRS_STAT_DEBUG_LOCK s.debugLocked
  let s4 := (s3.wr Reg.TRS_STAT_OWNER_SLOT (s.ownerSlot.getD 7)).wr Reg.TRS_STAT_VENDOR_REVOKE (s.otpByte 168)
  (s4.wr Reg.TRS_STAT_OWNER_REVOKED (([0, 1, 2, 3].filter s.slotRevoked).foldl (fun m i => m + 2 ^ i) 0)).wr Reg.TRS_STAT_FLOOR s.rollbackFloor

/-- F rises to a sequence number, capped at 256, and never falls (R439). -/
def State.raiseFloor (s : State) (n : Nat) : State := (s.otpSet 304 (floorBytes (max n s.rollbackFloor))).showOtp

/-- Writes an owner key hash into a slot (R438, R440). -/
def State.writeSlot (s : State) (i : Nat) (h : BitVec 256) : State :=
  ((s.otpSet (176 + 32 * i) (beBytes 32 h.toNat)).otpSet 169 [BitVec.ofNat 8 (2 ^ (2 * i))])

/-- Revokes an owner slot (R440). -/
def State.revokeSlot (s : State) (i : Nat) : State := s.otpSet 169 [BitVec.ofNat 8 (2 ^ (2 * i + 1))]

/-- The lowest owner slot that is not written. -/
def State.freeSlot (s : State) : Option Nat := [0, 1, 2, 3].find? fun i => !s.slotWritten i

/-! ### Random draws -/

/-- Fresh random data can be drawn (R432). -/
def State.canDraw (s : State) : Bool := !s.flag Reg.TRS_STAT_TRNG_FAIL

/-- Draws a wall key and a WALL_ID from the TRNG (R441); with TRNG_FAIL set there is no draw (R432). -/
def State.drawWallKey (s : State) : State :=
  if !s.canDraw then s
  else
    let s1 : State := { s with trs := { s.trs with wallKey := some (s.free 256), enrolled := [], partner := false } }
    let s2 := s1.spend
    ((s2.wr Reg.TRS_WALL_ID_WALL_ID (s2.free 32).toNat).wr Reg.TRS_ENROL_KEY_VALID 1).spend

/-- A Sender that comes to hold the Spindle without a wall key draws one at that instant (R441). -/
def State.needWallKey (s : State) : State := if s.trs.wallKey.isNone then s.drawWallKey else s

/-! ### Signatures -/

/-- Keeps a recovered public key, at most eight of them (R435). -/
def State.keepKey (s : State) (h : BitVec 256) (q : Bytes) : State :=
  if (s.trs.keys.any fun x => x.1 == h) || decide (8 ≤ s.trs.keys.length) then s
  else { s with trs := { s.trs with keys := s.trs.keys ++ [(h, q)] } }

/-- The key that R435 recovers from a signature under a hash: the first parity whose candidate has that hash. -/
def recoverKey (h : BitVec 256) (msg : Bytes) (r sg : BitVec 256) : Option Bytes :=
  [false, true].findSome? fun b => (Config.ecdsaRecover msg r sg b).filter fun q => Config.sha256 q == h

/-- Checks a signature that names its key by its hash (R435): directly under a key that is kept, otherwise under the recovered one, which is then
kept. -/
def State.checkNamed (s : State) (h : BitVec 256) (msg : Bytes) (r sg : BitVec 256) : State × Bool :=
  match s.trs.keys.find? fun x => x.1 == h with
  | some x => (s, Config.ecdsaVerify x.2 msg r sg)
  | none => match recoverKey h msg r sg with
    | some q => (s.keepKey h q, Config.ecdsaVerify q msg r sg)
    | none => (s, false)

/-- The 256-bit number that 32 octets at an offset spell (R54). -/
def be256 (l : Bytes) (o : Nat) : BitVec 256 := BitVec.ofNat 256 (beNat (slice l o 32))

/-- A vendor key that is one of the four and not revoked (R436, R445). -/
def State.vendorUsable (s : State) (i : Nat) : Bool := decide (i < 4) && !(s.otpByte 168).testBit i

/-- The device's own CERT is kept beside its identity key (R433). -/
def State.ownCert (s : State) : Bytes := s.otpBytes 104 64

/-- Signs with the identity key, with a fresh nonce from the TRNG (R431): R then S, 32 octets each. -/
def State.sign (s : State) (msg : Bytes) : State × Bytes :=
  let sg := Config.ecdsaSign s.idPriv msg (s.free 256).toNat
  (s.spend, beBytes 32 sg.1.toNat ++ beBytes 32 sg.2.toNat)

/-! ### Exchanges -/

/-- Drops the exchange that this device answers on a port. -/
def State.dropAnswer (s : State) (p : Nat) : State := { s with trs := { s.trs with answers := Tab.del s.trs.answers p } }

/-- Ends the exchange that this Sender offers on a port: the next offer follows at once (R444). -/
def State.dropOffer (s : State) (p : Nat) : State :=
  { s with trs := { s.trs with offers := Tab.del s.trs.offers p, offeredAt := Tab.del s.trs.offeredAt p } }

/-- An offer that no device has answered ends its wait: the next one follows at the next period (R445). -/
def State.unanswered (s : State) (p : Nat) : State := { s with trs := { s.trs with offers := Tab.del s.trs.offers p } }

/-- The body of an ENROL packet (R230). -/
def enrolBody (form hops addr : Nat) (body : Bytes) : Bytes := leBytes 1 form ++ leBytes 1 hops ++ leBytes 2 addr ++ zeros 4 ++ body

end Sys2Proof.Machine
end

