-- ==== Sys2Proof/Machine/Charter.lean ====
section
/-! DEFINITION. The flash directory and the Charter image (R47 to R55 of spec/02_charter_image_and_start.md, R435 to R439 of
spec/15_trust_keys_and_update.md): layout, the eight checks in their order, and what the device keeps of an accepted image. -/

namespace Sys2Proof.Machine

/-! ### The flash directory -/

/-- An element of the 8D entry sequence: command, address of 0 or 4 bytes, and data of at most 8 bytes (R49). -/
structure EntryCmd where
  cmd : Nat
  addr : Bytes
  data : Bytes
deriving DecidableEq, Repr

/-- What the directory says (R49): where the areas stand, how the flash is read in 8D-8D-8D, and the sequence that enters that mode. -/
structure Directory where
  charter : Nat
  rescue : Nat
  imageMax : Nat
  ledger0 : Nat
  ledger1 : Nat
  ledgerMax : Nat
  dump : Nat
  readCmd : Nat
  dummy : Nat
  freq : Nat
  entries : List EntryCmd
deriving DecidableEq, Repr

/-- ENTRY element `i` of the directory (R49). -/
def entryOf (d : Bytes) (i : Nat) : EntryCmd :=
  let e := slice d (48 + 16 * i) 16
  ⟨leAt e 0 1, slice e 2 (leAt e 1 1), slice e 7 (leAt e 6 1)⟩

/-- The fields of the directory in flash. -/
def State.directoryRead (s : State) : Directory :=
  let d := s.flashRead 0 120
  ⟨leAt d 12 4, leAt d 16 4, leAt d 20 4, leAt d 24 4, leAt d 28 4, leAt d 32 4, leAt d 36 4,
    leAt d 8 1, leAt d 9 1, leAt d 10 2, (List.range (min (leAt d 40 1) 4)).map (entryOf d)⟩

/-- The areas of a directory: offset and size; the directory itself stands first. -/
def Directory.areas (d : Directory) : List (Nat × Nat) :=
  [(0, 4096), (d.charter, d.imageMax), (d.rescue, d.imageMax), (d.ledger0, d.ledgerMax), (d.ledger1, d.ledgerMax)]
    ++ (if d.dump = 0 then [] else [(d.dump, 0x400000)])

/-- No two areas of a list overlap. -/
def apart : List (Nat × Nat) → Bool
  | [] => true
  | a :: t => (t.all fun b => decide (a.1 + a.2 ≤ b.1) || decide (b.1 + b.2 ≤ a.1)) && apart t

/-- The device accepts the directory (R49). -/
def State.directoryOk (s : State) : Bool :=
  let raw := s.flashRead 0 120
  let d := s.directoryRead
  (leAt raw 0 4 == 0x5244434F) && (crc32c (raw.take 112) == leAt raw 112 4) && (d.areas.all fun a => a.1 % 65536 == 0) && apart d.areas

/-- The Ledger bank `b` of the directory (0 or 1). -/
def Directory.ledger (d : Directory) (b : Nat) : Nat := if b = 0 then d.ledger0 else d.ledger1

/-! ### Records -/

/-- A record of an image (R51). -/
structure ImageRec where
  type : Nat
  flags : Nat
  crc : Nat
  payload : Bytes
deriving DecidableEq, Repr

/-- Reads `n` records; none unless they fill the bytes exactly. -/
def readRecords : Nat → Bytes → Option (List ImageRec)
  | 0, l => if l.isEmpty then some [] else none
  | n + 1, l =>
    let size := leAt l 4 4
    let padded := (size + 7) / 8 * 8
    if l.length < 16 + padded then none
    else (readRecords n (l.drop (16 + padded))).map (⟨leAt l 0 2, leAt l 2 2, leAt l 8 4, slice l 16 size⟩ :: ·)

/-- The record types of R52. -/
def knownTypes : List Nat := [1, 2, 3, 4, 5, 6, 7, 8, 0xFF]

/-- The first index of a list whose element satisfies a test that sees the elements before it. -/
def firstWhere {α : Type} (bad : List α → α → Bool) : List α → List α → Option Nat
  | _, [] => none
  | before, x :: t => if bad before x then some before.length else firstWhere bad (before ++ [x]) t

/-- The ADDR and VALUE entries of a record payload: COUNT at one offset, the entries at another (R52). -/
def entriesAt (payload : Bytes) (count entries : Nat) : List (Nat × Word) :=
  (List.range (leAt payload count 4)).map fun i => (leAt payload (entries + 8 * i) 4, BitVec.ofNat 32 (leAt payload (entries + 8 * i + 4) 4))

/-- An address names a field of a commit group (R53). -/
def addrInGroup (a g : Nat) : Bool := match findReg a with
  | some (d, ix) => d.groupMask ix g != 0
  | none => false

/-- An address names a live field (R53, R63). -/
def addrLive (a : Nat) : Bool := match findReg a with
  | some (d, _) => maskWhere d (fun f => f.access == .rw) != 0
  | none => false

/-- A ROLE record that R52 refuses. -/
def roleRefused (p : Bytes) : Bool :=
  let role := leAt p 0 1
  let w := leAt p 12 4
  let h := leAt p 16 4
  !(role == 1 || role == 2)
    || (role == 1 && (decide (1 < leAt p 1 1) || decide (15 < leAt p 2 1) || decide (1 < leAt p 3 1) || w == 0 || h == 0
      || decide (65536 < w) || decide (32768 < h)))

/-- Two masks of ports cover one port. -/
def masksMeet (a b : Nat) : Bool := a % 256 &&& b % 256 != 0

/-- A record that stands after others and repeats what only one may be (R52, R79). -/
def repeats (before : List ImageRec) (r : ImageRec) : Bool :=
  before.any fun b => b.type == r.type
    && (match r.type with
      | 1 | 2 | 0xFF => true
      | 4 | 7 => leAt b.payload 0 1 == leAt r.payload 0 1
      | 5 => masksMeet (leAt b.payload 0 1) (leAt r.payload 0 1)
      | _ => false)

/-- Step 4 of R55: the record that fails it, 0xFFFF where one is missing. DESIGN CHOICE (log entry 118): of two records that clash the later one fails, and
a SIGNATURE record that is not the last fails itself. -/
def structureFault (rs : List ImageRec) : Option Nat :=
  (firstWhere (fun before r => repeats before r || (r.type == 1 && roleRefused r.payload)
      || (r.type == 0xFF && decide (before.length + 1 < rs.length))) [] rs).orElse fun _ =>
    if (rs.any fun r => r.type == 1) && (rs.any fun r => r.type == 2) && (rs.any fun r => r.type == 0xFF) then none else some 0xFFFF

/-- Step 5 of R55: a DEFAULTS or PRESET record with an address outside its group (R53). -/
def addressFault (r : ImageRec) : Bool :=
  match r.type with
  | 3 =>
    let g := leAt r.payload 0 1
    (entriesAt r.payload 4 8).any fun e => !(if g = 0xFF then addrLive e.1 else decide (g < 16) && addrInGroup e.1 g)
  | 4 => (entriesAt r.payload 20 24).any fun e => !(addrInGroup e.1 0 || addrInGroup e.1 1)
  | _ => false

/-- The payload of the first record of a type. -/
def payloadOf (rs : List ImageRec) (type : Nat) : Bytes := ((rs.find? fun r => r.type == type).map (·.payload)).getD []

/-- The index of the first record of a type. -/
def indexOf (rs : List ImageRec) (type : Nat) : Nat := rs.findIdx fun r => r.type == type

/-! ### The checks of an image -/

/-- LENGTH of an image. -/
def imageLength (img : Bytes) : Nat := leAt img 8 4

/-- The records of an image whose header and LENGTH are sound (step 1 of R55). -/
def imageRecords (img : Bytes) (max_ : Nat) : Option (List ImageRec) :=
  if leAt img 0 4 = 0x4843434F ∧ leAt img 4 2 = 1 ∧ 32 ≤ imageLength img ∧ imageLength img ≤ max_ ∧ imageLength img ≤ img.length then
    readRecords (leAt img 12 4) ((img.take (imageLength img)).drop 32)
  else none

/-- The bytes that the owner signature covers (R54): all that precede the header of the SIGNATURE record, which is the last. -/
def signedBytes (img : Bytes) (rs : List ImageRec) : Bytes :=
  img.take (imageLength img - (16 + ((payloadOf rs 0xFF).length + 7) / 8 * 8))

/-- A key hash that may sign an image (R437): the owner key in force, the one a rotation names, any on an unclaimed device. -/
def State.ownerMay (s : State) (h : BitVec 256) (rotating : Option (BitVec 256)) : Bool :=
  !s.claimed || s.ownerHash == some h || rotating == some h

/-- The vendor trailer of a FIRMWARE record verifies (R436). -/
def State.vendorOk (s : State) (fw : Bytes) : Bool :=
  let n := 8 + leAt fw 4 4
  let k := leAt fw n 4
  s.vendorUsable k && Config.ecdsaVerify (Config.vendorKey k) (fw.take n) (be256 fw (n + 8)) (be256 fw (n + 40))

/-- Steps 1 to 5 of R55: the error code and the record, none where they pass. -/
def imageFault (img : Bytes) (max_ : Nat) : Option (Nat × Nat) :=
  match imageRecords img max_ with
  | none => some (0x03, 0xFFFF)
  | some rs =>
    match firstWhere (fun _ r => crc32c r.payload != r.crc) [] rs with
    | some i => some (0x04, i)
    | none => match firstWhere (fun _ (r : ImageRec) => !knownTypes.contains r.type && r.flags % 2 == 1) [] rs with
      | some i => some (0x05, i)
      | none => match structureFault rs with
        | some i => some (0x06, i)
        | none => (firstWhere (fun _ r => addressFault r) [] rs).map fun i => (0x0A, i)

/-- The checks of R55 in their order: the state, in which a recovered key may have been kept (R435), and the first failure. -/
def State.checkImage (s : State) (img : Bytes) (max_ : Nat) (rotating : Option (BitVec 256)) : State × Option (Nat × Nat) :=
  match imageFault img max_ with
  | some f => (s, some f)
  | none =>
    let rs := (imageRecords img max_).getD []
    let sg := payloadOf rs 0xFF
    let h := be256 sg 0
    match s.checkNamed h (signedBytes img rs) (be256 sg 32) (be256 sg 64) with
    | (s1, ok) =>
      if !(ok && s.ownerMay h rotating) then (s1, some (0x07, indexOf rs 0xFF))
      else if !s.vendorOk (payloadOf rs 2) then (s1, some (0x08, indexOf rs 2))
      else if leAt img 16 4 < s.rollbackFloor then (s1, some (0x09, 0xFFFF))
      else (s1, none)

/-! ### An accepted image -/

/-- A signed number in four bytes. -/
def leInt32 (l : Bytes) (o : Nat) : Int := signedOf 32 (leAt l o 4)

/-- What the device keeps of an image (R52). -/
def charterOf (img : Bytes) (rs : List ImageRec) : CharterSt :=
  let role := payloadOf rs 1
  let of (n : Nat) := rs.filter fun r => r.type == n
  { originX := leAt role 4 4
    originY := leAt role 8 4
    width := leAt role 12 4
    height := leAt role 16 4
    defaults := (of 3).map fun r => (leAt r.payload 0 1, entriesAt r.payload 4 8)
    presets := (of 4).map fun r => (leAt r.payload 0 1 % 64, entriesAt r.payload 20 24)
    edids := (of 5).map fun r => (leAt r.payload 0 1, slice r.payload 4 (128 * leAt r.payload 1 1))
    dpcds := (of 6).map fun r => (leAt r.payload 0 1, slice r.payload 4 (leAt r.payload 2 2))
    profiles := (of 7).map fun r => (leAt r.payload 0 1, r.payload.drop 4)
    surfaces := (of 8).map fun r => StillImage.mk (leAt r.payload 0 2) (leAt r.payload 4 2) (leAt r.payload 6 2) (r.payload.drop 8)
    version := leAt (payloadOf rs 2) 0 4
    sequence := leAt img 16 4
    digest := Config.sha256 (img.take (imageLength img)) }

/-- An image in flash, read from the start of an area of IMAGE_MAX bytes. -/
def State.areaImage (s : State) (off imageMax : Nat) : Bytes :=
  let n := imageLength (s.flashRead off 32)
  s.flashRead off (min n imageMax)

/-- The role fields of SYS_ROLE (R14) from the ROLE record: a Tile ignores RANK, GROUP and PROTECTED (R52). -/
def State.takeRole (s : State) (role : Bytes) : State :=
  let r := leAt role 0 1
  let s1 := s.wr Reg.SYS_ROLE_ROLE r
  if r = 1 then ((s1.wr Reg.SYS_ROLE_RANK (leAt role 1 1)).wr Reg.SYS_ROLE_GROUP (leAt role 2 1)).wr Reg.SYS_ROLE_PROTECTED (leAt role 3 1)
  else s1

end Sys2Proof.Machine
end

