-- ==== Sys2Proof/Machine/Cells.lean ====
section
/-! DEFINITION. The Tile frame store (R275 to R279 of spec/09_tile_store_and_lamp_correction.md): geometry, buffers, cells. -/

namespace Sys2Proof.Machine

/-! ### Geometry and placement -/

/-- W and H of the store (R275). -/
def State.storeW (s : State) : Nat := s.cfg 2 Reg.TFS_GEOM_WM1 + 1
def State.storeH (s : State) : Nat := s.cfg 2 Reg.TFS_GEOM_HM1 + 1

/-- The physical buffers in each role (R276). -/
def State.frontBuf (s : State) : Nat := s.rd Reg.TFS_STAT_FRONT
def State.backBuf (s : State) : Nat := s.rd Reg.TFS_STAT_BACK
def State.receiveBuf (s : State) : Nat := s.rd Reg.TFS_STAT_RECEIVE

/-- The address of a pixel of a physical buffer (R276). -/
def State.pixelAddr (s : State) (b x y : Nat) : Nat :=
  s.cfg 2 Reg.TFS_STORE_BASE * 65536 + b * 3145728 + 6 * (y * s.storeW + x)

/-- The wall codes of a stored pixel, and their writing (R276). -/
def State.storedPixel (s : State) (b x y : Nat) : Pixel := leNat (s.dramRead (s.pixelAddr b x y) 6) % 2 ^ 36
def State.writePixel (s : State) (b x y : Nat) (p : Pixel) : State := s.dramWrite (s.pixelAddr b x y) (leBytes 6 (p % 2 ^ 36))

/-! ### Cells -/

/-- The number of the cell of a pixel (R278): column and row in base 128. -/
def State.cellOf (s : State) (x y : Nat) : Nat := (y + 16 - s.tfs.cy) / 16 * 128 + (x + 32 - s.tfs.cx) / 32

/-- The cells of the store, at most 65 by 65 (R278). -/
def State.allCells (s : State) : List Nat :=
  let c0 := s.cellOf 0 0
  let c1 := s.cellOf (s.storeW - 1) (s.storeH - 1)
  (List.range (c1 / 128 + 1 - c0 / 128)).flatMap fun j => (List.range (c1 % 128 + 1 - c0 % 128)).map fun i => c0 + 128 * j + i

/-- The pixels of a cell inside the store. -/
def State.cellPixels (s : State) (c : Nat) : List (Nat × Nat) :=
  ((List.range 16).flatMap fun j => (List.range 32).map fun i => (c % 128 * 32 + s.tfs.cx + i, c / 128 * 16 + s.tfs.cy + j)).filterMap fun p =>
    if 32 ≤ p.1 ∧ 16 ≤ p.2 ∧ p.1 - 32 < s.storeW ∧ p.2 - 16 < s.storeH then some (p.1 - 32, p.2 - 16) else none

/-- The two buffers that are not in the receive role (R279). -/
def State.otherBufs (s : State) : List Nat := [0, 1, 2].filter fun b => b != s.receiveBuf

def State.behindOf (s : State) (b : Nat) : List Nat := (Tab.find s.tfs.behind b).getD []
def State.pendingOf (s : State) (b : Nat) : List Nat := (Tab.find s.tfs.pending b).getD []

/-- Marks every cell behind in both non-receive buffers (R278, R283, R409). -/
def State.markBehind (s : State) : State :=
  { s with tfs := { s.tfs with behind := s.otherBufs.map fun b => (b, s.allCells) } }

end Sys2Proof.Machine
end

