-- ==== Sys2Proof/Machine/Bale.lean ====
section
/-! DEFINITION. The Bale codec (R89 to R95, R97 of spec/03_source_intake_and_bales.md): a block of 32 × 16 pixels as bytes and back. -/

namespace Sys2Proof.Machine

/-- Channel c (0 to 2) of a pixel. -/
def channelOf (c : Nat) (p : Pixel) : Nat := p / 4096 ^ c % 4096

/-- The prediction of the value at position i = 32y + x of a channel from the values to the left, above and above-left (R92). -/
def predict (base : Nat) (v : Nat → Nat) (i : Nat) : Nat :=
  let x := i % 32
  let y := i / 32
  let a := v (i - 1)
  let b := v (i - 32)
  let c := v (i - 33)
  if x = 0 ∧ y = 0 then base
  else if y = 0 then a
  else if x = 0 then b
  else if max a b ≤ c then min a b
  else if c ≤ min a b then max a b
  else a + b - c

/-- The folded difference of a value and its prediction (R92). -/
def foldDiff (v p : Nat) : Nat :=
  let d := (v + 4096 - p % 4096) % 4096
  if 2048 ≤ d then 2 * (4096 - d) - 1 else 2 * d

/-- The value that a folded difference and a prediction give, modulo 4,096 (R92). DESIGN CHOICE (log entry 121): so too where a code spells a folded
difference above 4,095, of which R93 says nothing. -/
def unfoldDiff (u p : Nat) : Nat :=
  if u % 2 = 0 then (p + u / 2) % 4096 else (p + (4096 - (u + 1) / 2 % 4096)) % 4096

/-- The 512 folded differences of a channel (R92). -/
def residuals (base : Nat) (vs : List Nat) : List Nat :=
  (List.range 512).map fun i => foldDiff (vs.getD i 0) (predict base (fun j => vs.getD j 0) i)

/-- The length in bits of one value under a parameter (R93). -/
def codeLength (k u : Nat) : Nat := if k = 15 then 12 else if u / 2 ^ k < 16 then u / 2 ^ k + 1 + k else 28

def groupLength (k : Nat) (us : List Nat) : Nat := (us.map (codeLength k)).sum

/-- The parameter of a group: the fewest bits, the smaller on a tie, 15 only when strictly shorter (R94). -/
def bestK (us : List Nat) : Nat :=
  let k := (List.range 13).foldl (fun b k => if groupLength k us < groupLength b us then k else b) 0
  if groupLength 15 us < groupLength k us then 15 else k

/-- `n` bits of a number, least significant first. -/
def lowBits (n v : Nat) : List Bool := (List.range n).map fun i => v.testBit i

/-- The bits of one value under a parameter (R93). -/
def codeBits (k u : Nat) : List Bool :=
  if k = 15 then lowBits 12 u
  else if u / 2 ^ k < 16 then List.replicate (u / 2 ^ k) true ++ [false] ++ lowBits k u
  else List.replicate 16 true ++ lowBits 12 u

/-- Groups of 16 (R92). -/
def groupsOf16 : Nat → List Nat → List (List Nat)
  | 0, _ => []
  | n + 1, l => l.take 16 :: groupsOf16 n (l.drop 16)

/-- The number that bits spell, least significant first. -/
def bitsNat : List Bool → Nat
  | [] => 0
  | b :: t => b.toNat + 2 * bitsNat t

/-- Bytes from bits, filling each byte from bit 0 (R93), `n` bytes. -/
def bitsToBytes : Nat → List Bool → Bytes
  | 0, _ => []
  | n + 1, l => BitVec.ofNat 8 (bitsNat (l.take 8)) :: bitsToBytes n (l.drop 8)

/-- A bale as it is stored: header fields, K parameters and payload. -/
structure Bale where
  mode : Nat
  sectors : Nat
  payloadBytes : Nat
  base : Pixel
  ks : List Nat
  payload : Bytes
deriving DecidableEq, Repr

/-- Zero padding to a whole number of 64-byte sectors. -/
def padSectors (bs : Bytes) : Bytes := bs ++ zeros ((64 - bs.length % 64) % 64)

/-- The K bytes of the header: nibble n in byte n / 2, low nibble first (R90). -/
def kBytes (ks : List Nat) : Bytes :=
  (List.range 48).map fun i => BitVec.ofNat 8 (ks.getD (2 * i) 0 % 16 + 16 * (ks.getD (2 * i + 1) 0 % 16))

/-- The stored bytes of a bale: header sector and data sectors (R90). -/
def Bale.bytes (b : Bale) : Bytes :=
  leBytes 1 b.mode ++ leBytes 1 b.sectors ++ leBytes 2 b.payloadBytes ++ pixelBytes b.base ++ zeros 7
    ++ kBytes b.ks ++ padSectors b.payload

/-- The bytes of a RAW bale's data: pixel i at bits [36i + 35 : 36i] (R91). -/
def rawData (ps : List Pixel) : Bytes :=
  bitsToBytes 2304 (ps.flatMap fun p => lowBits 36 p)

/-- The PREDICT coding of 512 pixels: parameters and bits (R92 to R94). -/
def predictCode (ps : List Pixel) : List Nat × List Bool :=
  let groups := [0, 1, 2].flatMap fun c =>
    groupsOf16 32 (residuals (channelOf c (ps.headD 0)) (ps.map (channelOf c)))
  let ks := groups.map bestK
  (ks, (List.zipWith (fun k us => us.flatMap (codeBits k)) ks groups).flatten)

/-- The encoder (R90): CONST when all pixels are equal, else PREDICT within 36 sectors, else RAW. -/
def encodeBale (ps : List Pixel) : Bale :=
  let base := ps.headD 0
  if ps.all fun p => p == base then ⟨1, 1, 0, base, [], []⟩
  else
    let (ks, bits) := predictCode ps
    let n := (bits.length + 7) / 8
    let sectors := 1 + (n + 63) / 64
    if sectors ≤ 36 then ⟨2, sectors, n, base, ks, bitsToBytes n bits⟩
    else ⟨3, 37, 2304, base, [], rawData ps⟩

/-- The bits of bytes, bit 0 of each first. -/
def bytesBits (bs : Bytes) : List Bool := bs.flatMap fun b => lowBits 8 b.toNat

/-- Counts leading one bits, at most `n`. -/
def leadingOnes : Nat → List Bool → Nat
  | n + 1, true :: t => leadingOnes n t + 1
  | _, _ => 0

/-- Reads one value under a parameter (R93); none where the bits run out. -/
def readCode (k : Nat) (l : List Bool) : Option (Nat × List Bool) :=
  if k = 15 then (if l.length < 12 then none else some (bitsNat (l.take 12), l.drop 12))
  else
    let q := leadingOnes 16 l
    if q = 16 then (if l.length < 28 then none else some (bitsNat ((l.drop 16).take 12), l.drop 28))
    else if l.length < q + 1 + k then none
    else some (q * 2 ^ k + bitsNat ((l.drop (q + 1)).take k), l.drop (q + 1 + k))

/-- Reads `n` values under a parameter. -/
def readGroup (k : Nat) : Nat → List Bool → Option (List Nat × List Bool)
  | 0, l => some ([], l)
  | n + 1, l =>
    match readCode k l with
    | none => none
    | some (u, r) =>
      match readGroup k n r with
      | none => none
      | some (us, r') => some (u :: us, r')

/-- Reads groups of 16 under their parameters, in order. -/
def readGroups : List Nat → List Bool → Option (List Nat)
  | [], _ => some []
  | k :: ks, l =>
    match readGroup k 16 l with
    | none => none
    | some (us, r) => (readGroups ks r).map (us ++ ·)

/-- Undoes the prediction, value by value; `acc` holds the values so far, latest first. -/
def rebuild (base : Nat) : List Nat → List Nat → Nat → List Nat
  | [], acc, _ => acc.reverse
  | u :: us, acc, i => rebuild base us (unfoldDiff u (predict base (fun j => acc.getD (i - 1 - j) 0) i) :: acc) (i + 1)

/-- Pixels of `n` positions from 36 bits each. -/
def rawPixels : Nat → List Bool → List Pixel
  | 0, _ => []
  | n + 1, l => bitsNat (l.take 36) :: rawPixels n (l.drop 36)

/-- The K parameters of a stored header. -/
def storedKs (bs : Bytes) : List Nat :=
  (slice bs 16 48).flatMap fun b => [b.toNat % 16, b.toNat / 16]

/-- The decoder (R95): the 512 pixels, or none for a decode fault. -/
def decodeBale (bs : Bytes) : Option (List Pixel) :=
  let mode := leAt bs 0 1
  let sectors := leAt bs 1 1
  let n := leAt bs 2 2
  let base := leAt bs 4 5 % 2 ^ 36
  if mode = 1 then (if sectors = 1 ∧ n = 0 then some (List.replicate 512 base) else none)
  else if mode = 3 then
    (if sectors = 37 ∧ n = 2304 then some (rawPixels 512 (bytesBits (slice bs 64 2304))) else none)
  else if mode = 2 then
    let ks := storedKs bs
    if sectors ≠ 1 + (n + 63) / 64 ∨ sectors < 2 ∨ 36 < sectors then none
    else if ks.any fun k => k = 13 ∨ k = 14 then none
    else
      match readGroups ks (bytesBits (slice bs 64 n)) with
      | none => none
      | some us =>
        let ch (c : Nat) := rebuild (channelOf c base) ((us.drop (512 * c)).take 512) [] 0
        some (List.zipWith (fun rg b => rg + 4096 * 4096 * b) (List.zipWith (fun r g => r + 4096 * g) (ch 0) (ch 1)) (ch 2))
  else none

/-- The pixels of bale (bx, by) of an image given by rows, raster order within the bale; positions beyond an edge copy the nearest edge
pixel (R89). -/
def balePixels (rows : List (List Pixel)) (w h bx by_ : Nat) : List Pixel :=
  (List.range 512).map fun i =>
    ((rows.getD (min (16 * by_ + i / 32) (h - 1)) []).getD (min (32 * bx + i % 32) (w - 1)) 0)

/-- Bales across a width and down a height (R89). -/
def balesAcross (w : Nat) : Nat := (w + 31) / 32
def balesDown (h : Nat) : Nat := (h + 15) / 16

/-- A bale table entry (R96). -/
def tableEntry (fingerprint sector size changed frame : Nat) : Bytes :=
  leBytes 8 fingerprint ++ leBytes 4 sector ++ leBytes 1 size ++ leBytes 1 changed ++ leBytes 2 frame

end Sys2Proof.Machine
end

