-- ==== Sys2Proof/Machine/Symbols.lean ====
section
/-! DEFINITION. Weft symbols (R203 to R205, R212, R232 of spec/07_weft_chain_link.md): the special symbols, 8b/10b coding with running disparity, striping over
the lanes, and ordered sets. -/

namespace Sys2Proof.Machine

/-! ### Symbols -/

/-- What one symbol time of a lane carries (R204): a data byte, or one of the six special symbols. -/
inductive Sym where
  | data (b : Byte)
  | comma
  | start
  | endGood
  | endBad
  | skip
  | marker
deriving DecidableEq, Repr

/-- The special symbols: K28.5, K27.7, K29.7, K30.7, K28.1 and K28.3 (R204). -/
def specialSyms : List Sym := [.comma, .start, .endGood, .endBad, .skip, .marker]

/-- Twice the time of a symbol in ns at a RATE code: 0.5, 1.0 and 2.0 ns at 20, 10 and 5 Gb/s (R203). -/
def halfSymbolNs (rate : Nat) : Nat := 4 / 2 ^ rate

/-! ### 8b/10b -/

/-- The 5b/6b codes at negative running disparity, by D.x (PRESUMED: R203 names the code and does not print it; log entry 131). -/
def code5b6b : List Nat :=
  [0b100111, 0b011101, 0b101101, 0b110001, 0b110101, 0b101001, 0b011001, 0b111000, 0b111001, 0b100101, 0b010101, 0b110100, 0b001101, 0b101100,
   0b011100, 0b010111, 0b011011, 0b100011, 0b010011, 0b110010, 0b001011, 0b101010, 0b011010, 0b111010, 0b110011, 0b100110, 0b010110, 0b110110,
   0b001110, 0b101110, 0b011110, 0b101011]

/-- The 3b/4b codes at negative running disparity, by D.x.y. -/
def code3b4b : List Nat := [0b1011, 0b1001, 0b0101, 0b1100, 0b1101, 0b1010, 0b0110, 0b1110]

/-- The ones among the low `n` bits. -/
def onesIn (n v : Nat) : Nat := ((List.range n).filter v.testBit).length

/-- A code of `n` bits at a running disparity: one that is not balanced, or that `both` marks, is inverted at positive disparity. -/
def atDisparity (n c : Nat) (both pos : Bool) : Nat := if pos && (2 * onesIn n c != n || both) then 2 ^ n - 1 - c else c

/-- The running disparity after a code of `n` bits. -/
def disparityAfter (n c : Nat) (pos : Bool) : Bool := if 2 * onesIn n c = n then pos else decide (n < 2 * onesIn n c)

/-- The ten bits of a data byte at a running disparity. D.x.7 has its second form after a 6-bit code that would make a run of five. -/
def encodeData (b : Nat) (pos : Bool) : Nat :=
  let x := b % 32
  let y := b / 32 % 8
  let six := atDisparity 6 (code5b6b.getD x 0) (x == 7) pos
  let p := disparityAfter 6 six pos
  let second := y == 7 && (if p then [11, 13, 14] else [17, 18, 20]).contains x
  let four := if second then atDisparity 4 0b0111 false p else atDisparity 4 (code3b4b.getD y 0) (y == 3) p
  six * 16 + four

/-- The ten bits of a special symbol at negative running disparity. -/
def codeSpecial : Sym → Nat
  | .data b => encodeData b.toNat false
  | .comma => 0b0011111010
  | .start => 0b1101101000
  | .endGood => 0b1011101000
  | .endBad => 0b0111101000
  | .skip => 0b0011111001
  | .marker => 0b0011110011

/-- The ten bits of a symbol at a running disparity, and the disparity after it (R203). -/
def Sym.encode (x : Sym) (pos : Bool) : Nat × Bool :=
  let c := match x with
    | .data b => encodeData b.toNat pos
    | y => if pos then 1023 - codeSpecial y else codeSpecial y
  (c, disparityAfter 10 c pos)

/-- Every symbol a lane can carry. -/
def allSyms : List Sym := specialSyms ++ (List.range 256).map fun b => .data (BitVec.ofNat 8 b)

/-- The symbol of ten bits at a running disparity: none for another K symbol or for bits that spell nothing (R204). -/
def decodeSym (c : Nat) (pos : Bool) : Option Sym := allSyms.find? fun x => (x.encode pos).1 == c

/-- What a receiving lane makes of a run of codes (R203, R204): bits that spell nothing at either disparity are a code violation (false), those that spell
a symbol at the other disparity only a disparity error (true). -/
def laneMarks (pos : Bool) : List Nat → List Bool
  | [] => []
  | c :: t =>
    let rest := laneMarks (disparityAfter 10 c pos) t
    if (decodeSym c pos).isSome then rest else (decodeSym c !pos).isSome :: rest

/-! ### Packets on the lanes -/

/-- The bytes of a packet between its start and its end symbols (R209, R212, R215, R220): header, body, CRC, and the tag as an octet string. -/
def packetBytes (p : Packet) : Bytes :=
  p.header ++ p.body ++ leBytes 4 p.crc.toNat ++ (if p.tagged then (leBytes 12 p.tag.toNat).reverse else [])

/-- Logical lane l of W carries bytes l, l + W, l + 2W … (R205). -/
def striped (w : Nat) (bs : Bytes) (l : Nat) : Bytes := (List.range ((bs.length + w - 1 - l) / w)).filterMap fun i => bs[i * w + l]?

/-- What each logical lane carries for bytes sent on W lanes: start symbol, its stripe, end symbol (R204, R205). -/
def laneSymbols (w : Nat) (bs : Bytes) (good : Bool) : List (List Sym) :=
  (List.range w).map fun l => [.start] ++ (striped w bs l).map .data ++ [if good then .endGood else .endBad]

/-- A packet that left, as its lanes carried it: a copy that was cut ends early (R223). -/
def Sent.lanes (x : Sent) (w : Nat) : List (List Sym) :=
  laneSymbols w (match x.cut with
    | some n => (packetBytes x.pkt).take n
    | none => packetBytes x.pkt) x.good

/-! ### Ordered sets -/

/-- The ID symbol of a training set (R232): D10.2 TS1, D5.2 TS2, D29.2 SLEEP, D28.1 DEGRADE. -/
def setId (id : Nat) : Nat := [0, 0x4A, 0x45, 0x5D, 0x3C].getD id 0

/-- Symbols 1 to 14 of an ordered set on a lane (R232). -/
def OrdSet.body (o : OrdSet) (lane : Nat) : List Nat :=
  [setId o.id, lane + 4 * o.rate + 16 * o.role, o.mask + 16 * o.ack.toNat, o.presets.getD lane 0] ++ List.replicate 10 0x4A

/-- The XOR of symbols. -/
def xorAll (l : List Nat) : Nat := l.foldl (· ^^^ ·) 0

/-- Symbols 1 to 15: symbol 0 is the comma (R232). -/
def OrdSet.symbols (o : OrdSet) (lane : Nat) : List Nat := o.body lane ++ [xorAll (o.body lane)]

/-- A received set counts (R232): fifteen symbols after the comma, the last the XOR of the others, and the ID asked for. Any other is ignored. -/
def setIs (id : Nat) (l : Bytes) : Bool :=
  let v := l.map (·.toNat)
  l.length == 15 && v.getD 14 0 == xorAll (v.take 14) && v.headD 0 == setId id

/-- The receive good mask that a set carries. -/
def setMask (l : Bytes) : Nat := (l.getD 2 0).toNat % 16

end Sys2Proof.Machine
end

