-- ==== Sys2Proof/Machine/Weft.lean ====
section
/-! DEFINITION. The Weft link as packets see it (R203 to R231 of spec/07_weft_chain_link.md): originating a packet, the checks
of an arriving one, and forwarding. -/

namespace Sys2Proof.Machine

def State.port (s : State) (p : Nat) : WeftPort := Tab.get s.weft.ports p
def State.setPort (s : State) (p : Nat) (f : WeftPort → WeftPort) : State :=
  { s with weft := { s.weft with ports := Tab.upd s.weft.ports p f } }

/-- A port is in service (WFT_PORT_STAT.STATE 7). -/
def State.inService (s : State) (p : Nat) : Bool := s.rd (Reg.WFT_PORT_STAT_STATE p) == 7

/-- The transmit direction of a port carries traffic: in service, and neither Dormant nor waking (R241). -/
def State.canSend (s : State) (p : Nat) : Bool := s.inService p && decide (s.rd (Reg.WFT_PORT_STAT_TX_POWER p) < 2)

/-- The ports a role uses (R17, R18). -/
def State.weftPorts (s : State) : List Nat := if s.isTile then [0, 1] else if s.isSender then [0, 1, 2, 3] else []

/-- The ports on which the device can transmit. -/
def State.sendPorts (s : State) : List Nat := s.weftPorts.filter s.canSend

/-! ### Originating -/

/-- The epoch under which the device acts (R209, R400, R406). -/
def State.ownEpoch (s : State) : Nat := if s.isTile then s.rd Reg.SPN_TILE_EPOCH_EPOCH else s.rd Reg.SPN_EPOCH_EPOCH

/-- The ORIGIN field of the device: its position, or 63 for a Sender (R209). -/
def State.ownOrigin (s : State) : Nat := if s.isTile then s.rd Reg.SYS_WALL_ADDR % 64 else 63

/-- The FLAGS.RANK of the device: 0 for a Tile (R209). -/
def State.ownRank (s : State) : Nat := if s.isTile then 0 else s.rd Reg.SYS_ROLE_RANK

/-- SYNC is due on the next packet of a port: the first in service, or the first in a millisecond of wheel time (R216). -/
def State.syncDue (s : State) (p : Nat) : Bool :=
  (s.port p).syncDue || (s.port p).lastSyncMs != some (s.now / 1000000)

/-- The next sequence and session of a port, of the two that it keeps the one of the direction in which it sends (R214): the session rises by 1 when the
sequence wraps to 0 (R216, R218). -/
def State.nextCount (s : State) (p : Nat) : Nat × Nat :=
  let x := Tab.get (s.port p).tx (s.portDir p true)
  let q := (x.1 + 1) % 2 ^ 32
  (q, if q = 0 then (x.2 + 1) % 2 ^ 32 else x.2)

/-- The packet a device would send next on a port, with its CRC and its tag (R209, R213, R215, R216, R220); without a wall key the tag is a free value (log
entry 132). -/
def State.formPacket (s : State) (p : Nat) (t : PType) (dest : Nat) (body : Bytes) : Packet :=
  let (q, ses) := s.nextCount p
  let sync := s.syncDue p
  let raw : Packet :=
    { type := BitVec.ofNat 8 t.code
      flags := BitVec.ofNat 8 (t.tagged.toNat + 2 * sync.toNat + 4 * s.ownRank)
      dest := BitVec.ofNat 16 dest
      origin := BitVec.ofNat 8 s.ownOrigin
      rsv := 0
      length := BitVec.ofNat 16 body.length
      seq := BitVec.ofNat 16 q
      seqHi := if sync then BitVec.ofNat 16 (q / 65536) else 0
      epoch := BitVec.ofNat 32 s.ownEpoch
      session := BitVec.ofNat 32 ses
      body := body
      crc := 0
      tag := 0 }
  let pf := s.portField p dest true
  { raw with
    crc := BitVec.ofNat 32 (raw.goodCrc pf q)
    tag := match s.trs.wallKey with
      | some k => if t.tagged then raw.goodTag k pf q else 0
      | none => if t.tagged then s.free 96 else 0 }

/-- A device that holds no wall key sends only the type that carries no tag, and TIME, whose exchanges it takes part in (R211, R222, R261, R262, log
entry 132). -/
def State.mayTag (s : State) (t : PType) : Bool := s.trs.wallKey.isSome || !t.tagged || t == .time

/-- A port's lane rate in Gb/s, and the lanes it sends on (R161). -/
def State.portRate (s : State) (p : Nat) : Nat := 5 * 2 ^ s.ac (Reg.WFT_PORT_CFG_RATE p)
def State.portLanes (s : State) (p : Nat) : Nat := [0, 1, 2, 4].getD (s.rd (Reg.WFT_PORT_STAT_TX_WIDTH p)) 0

/-- The time in ns that a packet of `n` bytes takes on a port (R212): its bytes spread over the lanes, a start and an end symbol on each, ten bits a
symbol. -/
def State.airNs (s : State) (p n : Nat) : Nat :=
  let lanes := s.portLanes p
  (((n + lanes - 1) / lanes + 2) * 10 + s.portRate p - 1) / s.portRate p

/-- A packet of `n` bytes that began now would still be in transmission when the next wheel marker is due (R259). -/
def State.acrossMarker (s : State) (p n : Nat) : Bool := decide ((s.now / 131072 + 1) * 131072 < s.now + s.airNs p n)

/-! ### The forward buffer -/

/-- Bytes waiting in the forward buffer of an output (R226). -/
def State.fwdBytes (s : State) (out : Nat) : Nat := ((s.port out).fwd.map fun f => f.pkt.size).sum

/-- Packets leave on a port, the last of them now. -/
def State.putOut (s : State) (p : Nat) (l : List Sent) : State :=
  let s1 := s.setPort p fun w => { w with lastTx := s.now }
  { s1 with weft := { s1.weft with sent := s1.weft.sent ++ l } }

/-- The packets of a forward buffer that leave next: those before the first that a wheel marker would cut into (R226, R259). -/
def State.leaving (s : State) (out : Nat) : List Sent := (s.port out).fwd.takeWhile fun f => !s.acrossMarker out f.pkt.size

/-- Transit packets that waited leave before the next one (R226), once the output carries traffic; those that a wheel marker would cut into stay behind it
(R259). -/
def State.drainFwd (s : State) (out : Nat) : State :=
  let w := s.leaving out
  if w.isEmpty || !s.canSend out then s
  else ((s.setPort out fun x => { x with fwd := x.fwd.drop w.length }).putOut out w).wr (Reg.WFT_PORT_STAT_TX_POWER out) 0

/-- What waits in the forward buffers leaves at the next packet boundary (R226). -/
def State.drainAll (s : State) : State := s.forAll s.weftPorts State.drainFwd

/-- Originates a packet on a port, at the next packet boundary: behind the transit packets that wait there, but a TIME packet ahead of them (R226). A
direction in Idle-hold returns to Active for it (R242). Nothing is sent on a port that cannot carry it. -/
def State.send (s : State) (p : Nat) (t : PType) (dest : Nat) (body : Bytes) : State :=
  if s.canSend p && s.mayTag t then
    let pkt := s.formPacket p t dest body
    let sync := s.syncDue p
    let s1 := (s.onlyIf (t != .time) fun u => u.drainFwd p).setPort p fun w => { w with
      tx := Tab.put w.tx (s.portDir p true) (s.nextCount p), syncDue := false
      lastSyncMs := if sync then some (s.now / 1000000) else w.lastSyncMs }
    ((s1.putOut p [⟨p, pkt, true, none⟩]).wr (Reg.WFT_PORT_STAT_TX_POWER p) 0).onlyIf (t.tagged && s.trs.wallKey.isNone) State.spend
  else s

/-- The ordered set of a port, to leave `times` times (0: until its phase ends) on its lanes, with a good mask and ACK (R232). -/
def State.ordSet (s : State) (p id times mask : Nat) (ack : Bool) : OrdSet :=
  ⟨p, id, times, s.ac (Reg.WFT_PORT_CFG_RATE p), if s.isTile then 2 else 1, mask, ack,
    [0, 1, 2, 3].map fun l => s.rd (Reg.WFT_LANE_STAT_PRESET p l)⟩

/-- An ordered set leaves on the lanes of a port (R232). -/
def State.sendSet (s : State) (p id times mask : Nat) (ack : Bool) : State :=
  { s with weft := { s.weft with sets := s.weft.sets ++ [s.ordSet p id times mask ack] } }

/-- DEST of the four kinds (R210). -/
def destTile (addr : Nat) : Nat := addr % 4096
def State.destChain (s : State) (kind p : Nat) : Nat :=
  let (g, c) := s.portPlace p 0
  kind * 0x4000 + g * 256 + c * 64 + 63

/-- The wall address of a position on a Sender's own chain. -/
def State.tileAddr (s : State) (p pos : Nat) : Nat := s.rd Reg.SYS_ROLE_GROUP * 256 + p * 64 + pos

/-! ### Arrival -/

/-- The entry of an originator on a receiving port (R216). -/
def State.rxEntry (s : State) (p o : Nat) : RxEntry := Tab.get (s.port p).entries o

/-- The full sequence of an arriving packet as the checking device reconstructs it; none where there is no check (R216). -/
def RxEntry.reconstruct (e : RxEntry) (pkt : Packet) : Option Nat :=
  if e.synced then
    let d := (pkt.seq.toNat + 65536 - e.last % 65536) % 65536
    some ((e.last + (if d = 0 then 65536 else d)) % 2 ^ 32)
  else if pkt.sync then some (pkt.seqHi.toNat * 65536 + pkt.seq.toNat)
  else none

/-- The sequence entry after a packet that passed its CRC (R216). -/
def RxEntry.pass (sq : Nat) : RxEntry := ⟨sq, true, 0⟩

/-- The sequence entry after a CRC failure: the fourth in a row leaves it unsynced (R217). -/
def RxEntry.fail (e : RxEntry) : RxEntry := if e.fails + 1 < 4 then { e with fails := e.fails + 1 } else { e with synced := false, fails := 0 }

/-- What the link check of an arriving packet says. -/
inductive LinkVerdict where
  | good (sq : Nat)
  | crcBad
  | unchecked
  | poisoned
  | misplaced
deriving DecidableEq, Repr

/-- The CRC of an arriving packet under its reconstructed sequence (R213, R216): none where there is no check. -/
def State.crcVerdict (s : State) (p : Nat) (pkt : Packet) : LinkVerdict :=
  match (s.rxEntry p pkt.originator).reconstruct pkt with
  | none => .unchecked
  | some q => if pkt.crc.toNat = pkt.goodCrc (s.portField p pkt.dest.toNat false) q then .good q else .crcBad

/-- The end symbol and the CRC of an arriving packet (checks 1 and 2 of R221). -/
def State.linkVerdict (s : State) (p : Nat) (a : Arrival) : LinkVerdict :=
  if !a.endGood then .poisoned
  else if !a.placed || a.cut.isSome then .misplaced
  else s.crcVerdict p a.pkt

/-- The sequence entry of a packet whose CRC passes, whatever its end symbol (R216). -/
def State.notePass (s : State) (p : Nat) (a : Arrival) : State :=
  match s.crcVerdict p a.pkt with
  | .good q => if a.placed && a.cut.isNone then s.setPort p fun w => { w with entries := Tab.put w.entries a.pkt.originator (RxEntry.pass q) } else s
  | _ => s

/-- The counters and the sequence entry after the link check (R216, R217, R244). A packet that came poisoned counts as such and as nothing else. -/
def State.linkCount (s : State) (p : Nat) (a : Arrival) : State :=
  let o := a.pkt.originator
  match s.linkVerdict p a with
  | .good _ => s.notePass p a
  | .crcBad => (s.setPort p fun w => { w with entries := Tab.upd w.entries o RxEntry.fail }).bump (Reg.WFT_PORT_ERR_A_CRC p)
  | .poisoned => (s.notePass p a).bump (Reg.WFT_PORT_ERR_A_POISON_RX p)
  | .unchecked | .misplaced => s

/-- A Tile's forwarded copy carries K30.7 (R217, R223): a poisoned or misplaced end symbol, a CRC failure of a synced entry, a lane
error, or an input that left service. -/
def State.poisons (s : State) (p : Nat) (a : Arrival) : Bool :=
  !a.endGood || !a.placed || a.cut.isSome || a.laneErr
    || ((s.rxEntry p a.pkt.originator).synced && s.linkVerdict p a == .crcBad)

/-- The ports of a Tile differ in rate or in the widths that matter, so packets are stored whole (R225). -/
def State.storesWhole (s : State) (p out : Nat) : Bool :=
  s.ac (Reg.WFT_PORT_CFG_RATE p) != s.ac (Reg.WFT_PORT_CFG_RATE out)
    || s.rd (Reg.WFT_PORT_STAT_RX_WIDTH p) != s.rd (Reg.WFT_PORT_STAT_TX_WIDTH out)

/-- Where a forwarded copy ends short of the packet that arrived (R223): at the place where its end symbol should stand, or where the input fell silent. -/
def cutAt (a : Arrival) : Option Nat :=
  match a.cut with
  | some n => some n
  | none => if a.pkt.size < (packetBytes a.pkt).length then some a.pkt.size else none

/-- The copy that a Tile forwards (R223): identical but for its end symbol and where it is cut. -/
def State.copyOf (s : State) (out p : Nat) (a : Arrival) : Sent := ⟨out, a.pkt, !s.poisons p a, cutAt a⟩

/-- Forwards an arriving packet (R223 to R227): out of the other port, its end symbol poisoned where R223 says; discarded where the
output is not in service; stored whole and dropped instead of poisoned where the ports differ; waiting in the forward buffer
while the output sends a packet of the Tile's own, or ahead of a wheel marker (R259), or while it is Dormant or waking (log entry 133), or dropped whole when it does not fit. -/
def State.forward (s : State) (p : Nat) (a : Arrival) : State :=
  if !s.isTile || a.pkt.hop || 1 < p then s
  else
    let out := 1 - p
    let bad := s.poisons p a
    let s0 := s.onlyIf (!a.outBusy) fun t => t.drainFwd out
    let s1 := s0.onlyIf (bad && a.endGood) fun t => t.bump (Reg.WFT_PORT_ERR_C_POISON_TX out)
    if !s.inService out then s
    else if bad && s.storesWhole p out then s1
    else if a.outBusy || !s.canSend out || s.acrossMarker out a.pkt.size || !(s0.port out).fwd.isEmpty then
      (if 8192 < s0.fwdBytes out + a.pkt.size then s0.bump (Reg.WFT_PORT_ERR_C_FWD_OVF out)
       else s1.setPort out fun x => { x with fwd := x.fwd ++ [s.copyOf out p a] })
    else (s1.putOut out [s.copyOf out p a]).wr (Reg.WFT_PORT_STAT_TX_POWER out) 0

/-- The lanes count the code violations and disparity errors within a packet (WFT_LANE_ERR). -/
def State.countMarks (s : State) (p : Nat) (l : List (Fin 4 × Bool)) : State :=
  s.forAll l fun t m => t.bump (if m.2 then Reg.WFT_LANE_ERR_DISP p m.1.val else Reg.WFT_LANE_ERR_CV p m.1.val)

/-- The tag of a packet is valid (check 5 of R221). A device without a wall key takes TIME and HEART unchecked (R222). -/
def State.tagOk (s : State) (p : Nat) (t : PType) (pkt : Packet) (sq : Nat) : Bool :=
  !t.tagged || (match s.trs.wallKey with
    | some k => pkt.tag == pkt.goodTag k (s.portField p pkt.dest.toNat false) sq
    | none => t == .time || t == .heart)

/-- The epoch of a packet that is CRC-valid, and tag-valid where it is tagged, is heard (R222, R404). -/
def State.hearEpoch (s : State) (p : Nat) (a : Arrival) : State :=
  match s.linkVerdict p a, PType.ofCode a.pkt.type.toNat with
  | .good q, some t =>
    s.onlyIf (s.tagOk p t a.pkt q) fun u => { u with spn := { u.spn with maxEpoch := max u.spn.maxEpoch a.pkt.epoch.toNat } }
  | _, _ => s

/-- Everything that happens to a packet on arrival whether or not it is consumed: its epoch is heard, it is forwarded, then counters and sequence entry. -/
def State.arrive (s : State) (p : Nat) (a : Arrival) : State := (((s.hearEpoch p a).forward p a).countMarks p a.marks).linkCount p a

/-- PACKET_FORWARD (R223): the arrival of a packet that this device does not consume. A packet whose DEST the device would accept
but whose header is malformed is counted at it (R212). -/
def State.addressed (s : State) (p : Nat) (pkt : Packet) : Bool :=
  let t := PType.ofCode pkt.type.toNat
  if s.isTile then
    if s.flag Reg.SYS_WALL_VALID then
      match pkt.kind with
      | 0 => pkt.addr == s.rd Reg.SYS_WALL_ADDR || pkt.addr == s.rd Reg.SYS_WALL_ADDR / 64 * 64 + 63 || pkt.addr == 0xFFF
      | 1 => false
      | _ => true
    else t == some .enrol || t == some .time || t == some .heart
  else if s.isSender then
    match pkt.kind with
    | 0 => t != some .push && pkt.origin.toNat == 63 && pkt.rank != s.ownRank && decide (p < 4)
    | _ => true
  else false

def doPacketForward (s : State) (p : Nat) (a : Arrival) : State :=
  let s1 := s.arrive p a
  match s.linkVerdict p a with
  | .good _ => if s.addressed p a.pkt && !a.pkt.wellFormed then s1.bump (Reg.WFT_PORT_ERR_D_MALFORMED p) else s1
  | _ => s1

def execPacketForward (p : Port) (a : Arrival) (s : State) : Host.Outcome State Fault Refusal :=
  .next (s.whenAlive fun u => doPacketForward u p a)

/-! ### Consumption -/

/-- The 64-bit count of a packet (R219). -/
def countOf (pkt : Packet) (sq : Nat) : Nat := pkt.session.toNat * 2 ^ 32 + sq

/-- An order of R401: a PUSH, COMMIT, REAFFIRM, STALE or MGMT packet other than a MGMT register read. -/
def isOrder (t : PType) (pkt : Packet) : Bool :=
  match t with
  | .push | .commit | .reaffirm | .stale => true
  | .mgmt => pkt.body.headD 0 != 0x30
  | _ => false

/-- A Tile admits an order only under its master's standing (check 6 of R221, R407). -/
def State.orderAdmitted (s : State) (t : PType) (pkt : Packet) : Bool :=
  !s.isTile || !isOrder t pkt
    || (s.flag Reg.SPN_TILE_MASTER_VALID && pkt.epoch.toNat == s.rd Reg.SPN_TILE_EPOCH_EPOCH
      && pkt.rank == s.rd Reg.SPN_TILE_MASTER_RANK)

/-- A dropped order is counted, and recorded at most once per second for each standing (R407). -/
def State.dropOrder (s : State) (pkt : Packet) : State :=
  let e := pkt.epoch.toNat
  let r := pkt.rank
  let s1 := s.bump Reg.SPN_TILE_LOSER_DROPPED
  if s.spn.loserAt.any fun x => x.1 == e && x.2.1 == r && decide (s.now < x.2.2 + 1000000000) then s1
  else
    let s2 := { s1 with spn := { s1.spn with
      loserAt := (e, r, s.now) :: s1.spn.loserAt.filter fun x => !(x.1 == e && x.2.1 == r) } }
    s2.raise srcDispatch 0x5106 ((Config.spindleKind 2).toNat * 256 + r)

/-- What the device keeps of every packet that passed its checks: the floor of its originator (R219), which `keeps` leaves as it is. -/
def State.acceptPacket (s : State) (p : Nat) (pkt : Packet) (sq : Nat) (keeps : Bool) : State :=
  s.onlyIf (!keeps) fun t => t.setPort p fun w => { w with floors := Tab.put w.floors pkt.originator (countOf pkt sq) }

/-- A HEART that resets the floor of its Sender (R412): SYNC set, tag valid under a wall key, a SESSION other than the floor's, and SENT
within 1 ms of the device's count. -/
def State.resetsFloor (s : State) (p : Nat) (t : PType) (pkt : Packet) (sq : Nat) : Bool :=
  let sent := leAt pkt.body 4 8
  (t == .heart) && pkt.sync && s.trs.wallKey.isSome && s.tagOk p t pkt sq
    && (match Tab.find (s.port p).floors pkt.originator with
      | some f => f / 2 ^ 32 != pkt.session.toNat
      | none => false)
    && decide (sent ≤ s.now + 1000000) && decide (s.now ≤ sent + 1000000)

/-- An ENROL packet of another SESSION than its floor's is not held back by the floor, and leaves it as it is: a device that has cold-started must be heard
again, and only the end of an enrolment resets a floor (R219, R447, R448, log entry 24). -/
def State.enrolsAnew (s : State) (p : Nat) (t : PType) (pkt : Packet) : Bool :=
  (t == .enrol) && (match Tab.find (s.port p).floors pkt.originator with
    | some f => f / 2 ^ 32 != pkt.session.toNat
    | none => false)

/-- The count of a packet is above its originator's floor (check 4 of R221, R219, R412, R448). -/
def State.aboveFloor (s : State) (p : Nat) (t : PType) (pkt : Packet) (sq : Nat) : Bool :=
  s.resetsFloor p t pkt sq || s.enrolsAnew p t pkt || (match Tab.find (s.port p).floors pkt.originator with
    | some f => decide (f < countOf pkt sq)
    | none => true)

/-- Checks 3 to 6 of R221, in their order, for a packet of type `t` with full sequence `q`: the state after them, and whether all of them
pass. The Frame die makes them (R228). -/
def State.frameChecks (s : State) (p : Nat) (t : PType) (pkt : Packet) (q : Nat) : State × Bool :=
  if !pkt.wellFormed then (s.bump (Reg.WFT_PORT_ERR_D_MALFORMED p), false)
  else if !s.aboveFloor p t pkt q then (s.bump (Reg.WFT_PORT_ERR_B_SEQ p), false)
  else if !s.tagOk p t pkt q then
    ((s.bump (Reg.WFT_PORT_ERR_B_TAG p)).raise (srcWeft p) 0x4801 (p * 64 + pkt.origin.toNat % 64 + pkt.type.toNat * 256), false)
  else if !s.orderAdmitted t pkt then (s.dropOrder pkt, false)
  else (s.acceptPacket p pkt q (s.enrolsAnew p t pkt), true)

/-- The checks of R221 in their order, for a packet of type `t` at a consumer: the state after them, and the full sequence of the packet
if all of them pass. -/
def State.consume (s : State) (p : Nat) (t : PType) (a : Arrival) : State × Option Nat :=
  let s1 := s.arrive p a
  match s.linkVerdict p a with
  | .good q =>
    if a.pkt.type.toNat ≠ t.code ∨ !s.addressed p a.pkt then (s1, none)
    else match s1.frameChecks p t a.pkt q with
      | (s2, true) => (s2, some q)
      | (s2, false) => (s2, none)
  | _ => (s1, none)

/-- A body whose FORM its type does not list is dropped as malformed (R229). -/
def State.badForm (s : State) (p : Nat) : State := s.bump (Reg.WFT_PORT_ERR_D_MALFORMED p)

/-- The forms that R229 lists for MGMT and for STATUS. -/
def mgmtForms : List Nat := [0x10, 0x20, 0x30, 0x40]
def statusForms : List Nat := [1, 2, 3, 4, 5]

/-- Runs an action on a body of the form it is for, and drops a body whose form the type does not list (R229). -/
def State.onForm (s : State) (p : Nat) (forms : List Nat) (body : Bytes) (form : Nat) (act : State → State) : State :=
  if leAt body 0 1 = form then act s else if forms.contains (leAt body 0 1) then s else s.badForm p

/-- Runs a consumer's action on a packet that passes R221, and nothing more than the checks on one that does not. -/
def State.onPacket (s : State) (p : Nat) (t : PType) (a : Arrival) (act : State → Nat → State) : State :=
  match s.consume p t a with
  | (s1, some q) => act s1 q
  | (s1, none) => s1

end Sys2Proof.Machine
end

