-- ==== Sys2Proof/Machine/Wheel.lean ====
section
/-! DEFINITION. Wheel time and frame lock (R247 to R274 of spec/08_wheel_time_and_frame_lock.md): boundaries, sources, house sync, markers,
TIME exchanges and lock states. -/

namespace Sys2Proof.Machine

/-! ### Boundaries -/

/-- Frame boundary n at rate F (R249). -/
def boundary (f n : Nat) : Nat := (2 * n * 1000000000 + f) / (2 * f)

/-- The number of the last boundary at or before a time (R249). -/
def boundaryIndex (f t : Nat) : Nat :=
  let n := t * f / 1000000000
  if boundary f (n + 1) ≤ t then n + 1 else if boundary f n ≤ t then n else n - 1

/-- The first boundary later than a time. -/
def nextBoundary (f t : Nat) : Nat := boundary f (boundaryIndex f t + 1)

/-- The first boundary at or after a time (R252). -/
def boundaryFrom (f t : Nat) : Nat := if boundary f (boundaryIndex f t) = t then t else nextBoundary f t

/-- A time is one of the boundaries. -/
def isBoundary (f t : Nat) : Bool := boundary f (boundaryIndex f t) == t

/-- The number of the boundary nearest a time in sixteenths of a nanosecond, by the exact instants n × 10^9 / F (R256). -/
def nearestIndex (f t16 : Nat) : Nat := (t16 * f + 8000000000) / 16000000000

/-- The exact instant of boundary n in sixteenths of a nanosecond, rounded down. -/
def instant16 (f n : Nat) : Nat := 16000000000 * n / f

/-- The count in sixteenths of a nanosecond (R261). -/
def State.count16 (s : State) : Nat := s.now * 16 + s.whl.frac / 4096

/-- Steps the count, in sixteenths of a nanosecond (R247, R251): the Frame die's copy follows within its 4 ns (R248), what a forward step passes over is
skipped, and runs of edges begin anew. -/
def State.setCount16 (s : State) (t : Nat) : State :=
  { s with
    count := BitVec.ofNat 64 (t / 16)
    whl := { s.whl with
      frac := t % 16 * 4096, rem := 0, copy := BitVec.ofNat 64 (t / 16), lastEdge := none
      skip := if s.now < t / 16 then t / 16 else s.whl.skip } }

/-! ### Scheduled actions -/

/-- Wheel time as the Frame die has it (R248): commit points of its regions, T_c and pass boundaries go by it. -/
def State.frameNow (s : State) : Nat := s.whl.copy.toNat

/-- The numbers of the scheduled actions of R251: the commit points of the groups have the groups' own. -/
def actPass : Nat := 16
def actFeed : Nat := 17
def actOut : Nat := 18
def actMarker : Nat := 19
def actHeart : Nat := 28
def actPins : Nat := 29
def actSwap (n : Nat) : Nat := 20 + n

/-- The occurrence `occ` of an action, which lies at wheel time `at_`, is due (R251): a count has reached it, no forward step has skipped it, and neither
it nor a later one has been performed. -/
def State.due (s : State) (act occ at_ now : Nat) : Bool :=
  decide (at_ ≤ now) && decide (s.whl.skip ≤ at_) && (Tab.find s.whl.done act).all fun x => decide (x < occ)

/-- Notes that an occurrence has been performed. -/
def State.perform (s : State) (act occ : Nat) : State := { s with whl := { s.whl with done := Tab.put s.whl.done act occ } }

/-- The last frame boundary at or before a time, at the rate in force. -/
def State.lastBoundaryAt (s : State) (t : Nat) : Nat := boundary s.whl.rate (boundaryIndex s.whl.rate t)

/-- The frame boundary whose turn it is for an action that comes at boundaries is due. -/
def State.boundaryDue (s : State) (act now : Nat) : Bool := s.due act (s.lastBoundaryAt now) (s.lastBoundaryAt now) now

/-- P, the frame period in ns, to the nearest: R176 works its budget with 16,666,667 at 60 Hz (log entry 127). -/
def State.period (s : State) : Nat := (2000000000 + s.whl.rate) / (2 * s.whl.rate)

/-! ### Source -/

/-- A Sender holds the Spindle, or serves in split-ring (R253). -/
def State.holdsSpindle (s : State) : Bool := s.isSender && s.rd Reg.SPN_STAT_STATE == 1
def State.splitService (s : State) : Bool := s.isSender && s.rd Reg.SPN_STAT_STATE == 2

/-- WHL_CFG.SYNC as the unit acts on it. -/
def State.syncCfg (s : State) : Nat := s.cfg 13 Reg.WHL_CFG_SYNC

/-- The source of discipline (R253): 0 REFCLK, 1 WSYNC_IN, 2 chain, 3 local pin. -/
def State.source (s : State) : Nat :=
  if s.isTile then (if s.syncCfg = 2 then (if s.whl.localLost then 2 else 3) else 2)
  else if s.holdsSpindle || s.splitService || !(s.weftPorts.any s.inService) then (if s.syncCfg = 0 then 0 else 1)
  else if s.syncCfg = 0 then 2 else 1

/-- The time port (R254, R255): a Tile's is where it last accepted a HEART of the holder, at first port A; a Sender's is its
lowest-lettered port in service. -/
def State.timePort (s : State) : Nat :=
  if s.isTile then s.rd Reg.WHL_STAT_TPORT else (s.weftPorts.filter s.inService).headD 0

/-! ### Lock states -/

/-- Sets the frequency correction in force: the correction of REFCLK's rate and the slew (R247, R267). -/
def State.setFreq (s : State) (base slew : Int) : State :=
  { s.wr Reg.WHL_ERR_FREQ (unsignedOf 16 (base + slew)) with whl := { s.whl with base := base, slew := slew } }

/-- Ends a slew. -/
def State.endSlew (s : State) : State := (s.setFreq s.whl.base 0).wr Reg.WHL_STAT_SLEWING 0

/-- Slews the count so that an error, own count minus source, goes away (R267): at a rate that the spec bounds, 20 ppm for a Sender and 100 ppm for a
Tile, and does not give (log entry 10). -/
def State.slewToward (s : State) (e : Int) : State :=
  let v := clampInt 1 (if s.isSender then 2000 else 10000) (s.free 14).toNat
  ((s.setFreq s.whl.base (if 0 < e then -v else if e < 0 then v else 0)).wr Reg.WHL_STAT_SLEWING 1).spend

/-- A source, or a time port, that has changed is slewed to (R254). -/
def State.slewOnChange (s : State) (changed : Bool) : State :=
  s.onlyIf (changed && s.source != 0 && (s.rd Reg.WHL_STAT_STATE == 2 || s.rd Reg.WHL_STAT_STATE == 3)) fun t => t.wr Reg.WHL_STAT_SLEWING 1

/-- Moves the unit to a lock state, with the event record of a change (R265, R478). FREE is an alert, except for a Sender with SYNC 0. -/
def State.setLock (s : State) (st : Nat) : State :=
  let old := s.rd Reg.WHL_STAT_STATE
  if st = old then s
  else
    let code := if st = 0 ∧ !(s.isSender && s.syncCfg == 0) then 0x8901 else 0x4901
    let s1 := (s.wr Reg.WHL_STAT_STATE st).raise srcWheel code st
    let lost := if (old = 2 ∨ old = 3) ∧ st ≠ 2 ∧ st ≠ 3 then s.now else s1.whl.lostAt
    let s2 := s1.onlyIf (st == 4 || st == 0) State.endSlew
    { s2 with whl := { s2.whl with lockRun := 0, badRun := 0, regain := [], lostAt := lost
                                   offset := if st = 4 ∨ st = 0 then none else s2.whl.offset } }

/-- Shows the source and the time port (R253, R254); the count slews to a source that has changed. A Sender with SYNC 0 that has no source any more is FREE (R265, R266). -/
def State.showSource (s : State) : State :=
  let tp := s.timePort
  let s1 := ((s.wr Reg.WHL_STAT_SOURCE s.source).wr Reg.WHL_STAT_TPORT tp).forAll [0, 1, 2, 3]
    fun t p => t.wrFlag (Reg.WHL_HOP_TIME_PORT p) (p == tp && s.source == 2)
  (s1.onlyIf (s.isSender && s.source == 0 && (s.rd Reg.WHL_STAT_STATE == 2 || s.rd Reg.WHL_STAT_STATE == 3)) fun t => t.setLock 0).slewOnChange
    (s.rd Reg.WHL_STAT_SOURCE != s.source || s.rd Reg.WHL_STAT_TPORT != tp)

/-- A Tile's time port becomes a port (R254). -/
def State.moveTimePort (s : State) (p : Nat) : State :=
  ((s.wr Reg.WHL_STAT_TPORT p).slewOnChange (s.rd Reg.WHL_STAT_TPORT != p)).showSource

/-- Enters TRACK (R266, R268), slewing off the given error or not. -/
def State.enterTrack (s : State) (e : Option Int) : State :=
  match e with
  | some e => (s.setLock 2).slewToward e
  | none => (s.setLock 2).endSlew

/-- A signed value limited to 16 bits, as WHL_ERR.PHASE holds it. -/
def phase16 (e : Int) : Nat := unsignedOf 16 (clampInt (-32768) 32767 e)

/-- PHASE shows a phase error. -/
def State.showPhase (s : State) (e : Int) : State := s.wr Reg.WHL_ERR_PHASE (phase16 e)

/-- A phase error in 1/16 ns lies within a bound in ns. -/
def within (e : Int) (ns : Nat) : Bool := decide (-(16 * ns : Int) ≤ e) && decide (e ≤ (16 * ns : Int))

/-- A phase error feeds the discipline (R247, R267, log entry 10): the correction of REFCLK's rate becomes a value that the spec does not give, within the
±100 ppm of R505, and a slew in progress goes on until the error is within the lock bound. -/
def State.discipline (s : State) (e : Int) (bound : Nat) : State :=
  let s1 := (s.setFreq (clampInt (-10000) 10000 (s.free 16).toInt) s.whl.slew).spend
  if s.flag Reg.WHL_STAT_SLEWING then (if within e bound then s1.endSlew else s1.slewToward e) else s1

/-- One edge or marker in TRACK or LOCKED (R266, R268): inside ±1 µs it feeds the discipline, and `need` in a row within `bound` ns give
LOCKED; outside, it counts, TRACK goes on slewing off `aim`, and `lose` in a row (where the state allows) give HOLDOVER. -/
def State.trackStep (s : State) (e aim : Int) (bound need lose : Nat) (mayLose : Bool) : State :=
  if within e 1000 then
    let run := if within e bound then s.whl.lockRun + 1 else 0
    let s1 := (s.showPhase e).discipline e bound
    let s2 := { s1 with whl := { s1.whl with lockRun := run, badRun := 0 } }
    if need ≤ run ∧ s.rd Reg.WHL_STAT_STATE = 2 then (s2.setLock 3).endSlew else s2
  else
    let s1 := (s.showPhase e).bump Reg.WHL_CNT_OUTSIDE
    let s2 := { s1 with whl := { s1.whl with badRun := s1.whl.badRun + 1, lockRun := 0 } }
    if mayLose ∧ lose ≤ s2.whl.badRun then s2.setLock 4
    else s2.onlyIf (s.rd Reg.WHL_STAT_STATE == 2 && !within aim 1000) fun t => t.slewToward aim

/-- The smallest and the largest of a list of errors lie within 100 ns of one another (R266). -/
def closeErrors (l : List Int) : Bool :=
  l.all fun a => l.all fun b => decide (a - b ≤ 1600)

/-- The error of an edge that arrives now against its nearest boundary, in 1/16 ns (R256). -/
def State.edgeError (s : State) : Int :=
  (s.count16 : Int) - (instant16 s.whl.rate (nearestIndex s.whl.rate s.count16) : Int)

/-- A warm start is under way: the count keeps running and never steps (R271). -/
def State.warmStart (s : State) : Bool := s.sys.step.any fun x => x.1

/-- Frames without an edge since the last one (R266) count in MISSED and break every run of consecutive edges; the fourth in a row of frames without a usable
edge loses the source. -/
def State.noteMissing (s : State) : State :=
  let n := nearestIndex s.whl.rate s.count16
  let k := match s.whl.lastEdge with
    | some m => n - m - 1
    | none => 0
  let s0 := { s with whl := { s.whl with lastEdge := some n } }
  if k = 0 then s0
  else
    let s1 := s0.bumpBy Reg.WHL_CNT_MISSED k
    let s2 := { s1 with whl := { s1.whl with goodRun := 0, lockRun := 0, localRun := 0, regain := [], badRun := s1.whl.badRun + k } }
    if s.source = 1 ∧ 4 ≤ s2.whl.badRun ∧ (s.rd Reg.WHL_STAT_STATE = 2 ∨ s.rd Reg.WHL_STAT_STATE = 3) then s2.setLock 4 else s2

/-- An edge in HOLDOVER or FREE (R266): eight in a row that lie within 100 ns of one another regain the source. -/
def State.regainEdge (s : State) (e : Int) : State :=
  let l := (e :: s.whl.regain).take 8
  let s1 := { s with whl := { s.whl with regain := l } }
  if l.length = 8 ∧ closeErrors l then s1.enterTrack (some e) else s1

/-- An edge at a Sender disciplined to WSYNC_IN (R266). The first one of ACQUIRE steps the count and begins no run (DEDUCED, log entry 135). -/
def State.houseEdge (s : State) : State :=
  let f := s.whl.rate
  let e := s.edgeError
  match s.rd Reg.WHL_STAT_STATE with
  | 1 =>
    if s.warmStart then s
    else if !s.whl.edgeSeen then
      let t := if s.holdsSpindle || !(s.weftPorts.any s.inService) then nextBoundary f s.now * 16 else instant16 f (nearestIndex f s.count16)
      let s1 := s.setCount16 t
      { s1 with whl := { s1.whl with edgeSeen := true, goodRun := 0 } }
    else if within e 1000 then
      let s1 := s.showPhase e
      let s2 := { s1 with whl := { s1.whl with goodRun := s1.whl.goodRun + 1 } }
      if 3 ≤ s2.whl.goodRun then s2.enterTrack none else s2
    else
      let s1 := (s.showPhase e).bump Reg.WHL_CNT_OUTSIDE
      { s1 with whl := { s1.whl with goodRun := 0 } }
  | 2 => s.trackStep e e 2 16 4 true
  | 3 => s.trackStep e e 2 16 4 true
  | _ => s.regainEdge e

/-- The chain count minus the own count, in ns, from the latest exchange (R273). -/
def State.chainDiff (s : State) : Int := (s.whl.offset.getD 0) / 16

/-- WHL_LOCAL.DIFF: the chain difference, saturated to 32 bits. -/
def State.diffWord (s : State) : Nat := unsignedOf 32 (clampInt (-2147483648) 2147483647 s.chainDiff)

/-- The error of an edge at a Tile with local sync, against the boundary nearest the chain count (R273), in 1/16 ns. -/
def State.localError (s : State) : Int :=
  let chain := ((s.count16 : Int) - s.whl.offset.getD 0).toNat
  (s.count16 : Int) - (instant16 s.whl.rate (nearestIndex s.whl.rate chain) : Int)

/-- An edge at a Tile with local sync (R272, R273, log entry 136): the phase follows it by R266, however far it lies; DIFF shows the local count minus the
chain count; eight edges in a row beyond LOCAL_TOL raise an event record; edges that return are the source again. In ACQUIRE it awaits the count. -/
def State.localEdge (s : State) : State :=
  let e := s.localError
  let s0 := { s with whl := { s.whl with badRun := 0, localLost := false } }
  let s1 := (s0.showSource).wr Reg.WHL_LOCAL_DIFF s.diffWord
  let far := decide ((s.cfg 13 Reg.WHL_TIMING_LOCAL_TOL * 1000 : Nat) < s.chainDiff.natAbs)
  let run := if far then s.whl.localRun + 1 else 0
  let s2 := { s1 with whl := { s1.whl with localRun := run } }
  let s3 := s2.onlyIf (run == 8) fun t => t.raise srcWheel 0x8903 s.diffWord
  match s.rd Reg.WHL_STAT_STATE with
  | 1 => s3
  | 2 => s3.trackStep e e 2 16 4 false
  | 3 => s3.trackStep e e 2 16 4 false
  | _ => s3.regainEdge e

/-- An edge that falls on the boundary at which a commit changed SYNC is judged under the set before it (R272): where that followed edges it feeds the
discipline or counts as outside, and it begins no regaining. -/
def State.oldEdge (s : State) (sync : Nat) : State :=
  let e := s.edgeError
  if (s.isTile && sync == 2) || (s.isSender && sync == 1) then
    (if within e 1000 then (s.showPhase e).discipline e 2 else (s.showPhase e).bump Reg.WHL_CNT_OUTSIDE)
  else s

/-- WSYNC_EDGE (R256, R266, R272, R273): a pulse that stayed high for less than 100 ns is ignored. -/
def doWsyncEdge (s : State) (long : Bool) : State :=
  let b := boundary s.whl.rate (nearestIndex s.whl.rate s.count16)
  if !long then s
  else match s.whl.oldSync.filter fun x => x.1 == b with
    | some x => s.oldEdge x.2
    | none =>
      if s.isTile then (if s.syncCfg = 2 then s.noteMissing.localEdge else s)
      else if s.isSender ∧ s.source = 1 then s.noteMissing.houseEdge
      else s

def execWsyncEdge (long : Bool) (s : State) : Host.Outcome State Fault Refusal :=
  .next (s.whenAlive fun u => doWsyncEdge u long)

/-- SYNC_LOSS (R266, R273): four frames in a row without a usable edge. Those that were missing count in WHL_CNT.MISSED. A Tile with local
sync takes the chain as its source. -/
def doSyncLoss (s : State) : State :=
  let s0 := s.bumpBy Reg.WHL_CNT_MISSED (4 - min s.whl.badRun 4)
  let s1 := { s0 with whl := { s0.whl with lastEdge := some (boundaryIndex s.whl.rate s.now) } }
  if s.isTile then
    if s.syncCfg = 2 ∧ !s.whl.localLost then
      let s2 := { s1 with whl := { s1.whl with localLost := true } }
      (s2.raise srcWheel 0x4904 (s.rd Reg.WHL_LOCAL_DIFF)).showSource
    else s
  else if s.source ≠ 1 then s
  else if s.rd Reg.WHL_STAT_STATE = 2 ∨ s.rd Reg.WHL_STAT_STATE = 3 then s1.setLock 4
  else { s1 with whl := { s1.whl with goodRun := 0, regain := [] } }

def execSyncLoss (s : State) : Host.Outcome State Fault Refusal :=
  .next (s.whenAlive fun u => doSyncLoss u)

/-- HOLDOVER_EXPIRY (R266, R268): the unit enters FREE. -/
def doHoldoverExpiry (s : State) : State := if s.rd Reg.WHL_STAT_STATE = 4 then s.setLock 0 else s

def execHoldoverExpiry (s : State) : Host.Outcome State Fault Refusal :=
  .next (s.whenAlive fun u => doHoldoverExpiry u)

/-- A Tile that the chain disciplines loses its time port's markers, or its time port leaves service (R268). -/
def State.chainLost (s : State) : State :=
  if s.isTile ∧ s.source = 2 ∧ (s.rd Reg.WHL_STAT_STATE = 2 ∨ s.rd Reg.WHL_STAT_STATE = 3) then s.setLock 4 else s

/-- MARKER_TIMEOUT (R268): no marker on the time port for 1 ms, which is seven whole marker periods. -/
def doMarkerTimeout (s : State) : State :=
  if s.isTile then (s.bumpBy Reg.WHL_CNT_MISSED 7).chainLost else s

def execMarkerTimeout (s : State) : Host.Outcome State Fault Refusal :=
  .next (s.whenAlive fun u => doMarkerTimeout u)

/-! ### Markers -/

/-- WHEEL_MARKER_SEND (R242, R251, R259): once the count has reached a multiple of 131,072 ns, and once for each, every transmit direction in service is
Active and sends one K28.3 on each lane in use. -/
def doWheelMarkerSend (s : State) : State :=
  let t := s.now / 131072 * 131072
  if !s.due actMarker t t s.now then s
  else
  let ps := s.sendPorts
  let s1 := (s.perform actMarker t).forAll ps fun t p => (t.wr (Reg.WFT_PORT_STAT_TX_POWER p) 0).sendSet p 5 1 0 false
  { s1 with whl := { s1.whl with markers := s1.whl.markers + ps.length } }

def execWheelMarkerSend (s : State) : Host.Outcome State Fault Refusal :=
  .next (s.whenAlive fun u => doWheelMarkerSend u)

/-- The hop delay of a port in 1/16 ns (R261); a Sender that sends no request takes 0 (R255). -/
def State.hopDelay (s : State) (p : Nat) : Nat := if s.isTile then s.rd (Reg.WHL_HOP_DELAY p) else 0

/-- The phase error of a marker that arrives now on a port, in 1/16 ns (R260). -/
def State.markerError (s : State) (p : Nat) : Int :=
  let st : Int := s.count16
  let d : Int := s.hopDelay p
  let due := (st - d + 1048576) / 2097152 * 2097152
  st - (due + d)

/-- A source regained (R268): after a valid exchange, an offset of at most 1 ms enters TRACK and slews; a larger one is stepped at the next
boundary. -/
def State.regainChain (s : State) : State :=
  match s.whl.offset with
  | none => s
  | some o =>
    if within o 1000000 then s.enterTrack (some o)
    else if s.whl.stepPending.isSome then s
    else { s with whl := { s.whl with stepPending := some o, stepAt := nextBoundary s.whl.rate s.now } }

/-- A marker brings the chain count of a Tile with local sync up to date (R273): the offset moves to the nearest one that the marker's error allows. -/
def State.noteChain (s : State) (e : Int) : State :=
  if s.isTile ∧ s.syncCfg = 2 then
    { s with whl := { s.whl with offset := s.whl.offset.map fun o => e + (o - e + 1048576) / 2097152 * 2097152 } }
  else s

/-- WHEEL_MARKER_RECEIVE (R260, R268, R273): only a marker on the time port of a device disciplined by the chain feeds the discipline. A Sender that
follows the chain and has lost it regains it with a marker, and slews (log entry 66). -/
def doWheelMarkerReceive (s : State) (p : Nat) : State :=
  let e := s.markerError p
  if p ≠ s.timePort then s
  else if s.source ≠ 2 then s.noteChain e
  else
    match s.rd Reg.WHL_STAT_STATE with
    | 1 => s
    | 2 => s.trackStep e (s.whl.offset.getD e) 4 64 16 false
    | 3 => s.trackStep e e 4 64 16 true
    | _ => if s.isTile then s.regainChain else s.enterTrack (some e)

def execWheelMarkerReceive (p : Port) (s : State) : Host.Outcome State Fault Refusal :=
  .next (s.whenAlive fun u => doWheelMarkerReceive u p)

/-! ### TIME exchanges -/

/-- The body of a TIME request or response (R230). -/
def timeRequestBody (id t1 : Nat) : Bytes := leBytes 1 1 ++ zeros 3 ++ leBytes 4 id ++ leBytes 8 t1
def timeResponseBody (id t1 t2 t3 : Nat) : Bytes :=
  leBytes 1 2 ++ zeros 3 ++ leBytes 4 id ++ leBytes 8 t1 ++ leBytes 8 t2 ++ leBytes 8 t3

/-- TIME_REQUEST_SEND (R255, R261): a Tile sends a request on its time port; a Sender that does not hold the Spindle sends none. -/
def doTimeRequestSend (s : State) : State :=
  let p := s.timePort
  if s.isTile ∧ s.canSend p then
    let id := s.whl.nextId
    let t1 := s.count16 % 2 ^ 64
    let s1 := s.send p .time (s.destChain 2 p) (timeRequestBody id t1)
    { s1 with whl := { s1.whl with request := some (p, id, t1), nextId := (id + 1) % 2 ^ 32 } }
  else s

def execTimeRequestSend (s : State) : Host.Outcome State Fault Refusal :=
  .next (s.whenAlive fun u => doTimeRequestSend u)

/-- TIME_REQUEST_RECEIVE (R261, R262): a request that passes checks 1 and 2 is stamped and answered without waiting for the verdict, at
the first symbol boundary at least 1.5 µs after its arrival (log entry 11); the packet then awaits the Frame die's verdict. -/
def doTimeRequestReceive (s : State) (p : Nat) (a : Arrival) : State :=
  let t2 := s.count16 % 2 ^ 64
  let s1 := s.arrive p a
  match s.linkVerdict p a with
  | .good q =>
    if a.pkt.type.toNat ≠ 0x10 ∨ (a.pkt.body.headD 0).toNat ≠ 1 then s1
    else
      let t3 := (t2 + 24000 + (s.free 5).toNat) % 2 ^ 64
      let s2 := (s1.send p .time (s.destChain 2 p)
        (timeResponseBody (leAt a.pkt.body 4 4) (leAt a.pkt.body 8 8) t2 t3)).spend
      { s2 with whl := { s2.whl with waiting := s2.whl.waiting ++ [⟨p, a.pkt, q, t2⟩] } }
  | _ => s1

def execTimeRequestReceive (p : Port) (a : Arrival) (s : State) : Host.Outcome State Fault Refusal :=
  .next (s.whenAlive fun u => doTimeRequestReceive u p a)

/-- TIME_RESPONSE_RECEIVE (R261, R262): the requester stamps T4; a response to another request, or one later than 100 µs after T1, is
discarded; the rest await the verdict. -/
def doTimeResponseReceive (s : State) (p : Nat) (a : Arrival) : State :=
  let t4 := s.count16 % 2 ^ 64
  let s1 := s.arrive p a
  match s.linkVerdict p a, s.whl.request with
  | .good q, some (rp, id, t1) =>
    if a.pkt.type.toNat ≠ 0x10 ∨ (a.pkt.body.headD 0).toNat ≠ 2 ∨ rp ≠ p ∨ leAt a.pkt.body 4 4 ≠ id ∨ t1 + 1600000 < t4 then s1
    else { s1 with whl := { s1.whl with waiting := s1.whl.waiting ++ [⟨p, a.pkt, q, t4⟩], request := none } }
  | _, _ => s1

def execTimeResponseReceive (p : Port) (a : Arrival) (s : State) : Host.Outcome State Fault Refusal :=
  .next (s.whenAlive fun u => doTimeResponseReceive u p a)

/-- rtt, delay and offset of an exchange, in 1/16 ns (R261). -/
def exchangeOf (t1 t2 t3 t4 : Nat) : Int × Int × Int :=
  let rtt := ((t4 : Int) - t1) - ((t3 : Int) - t2)
  (rtt, rtt / 2, (((t4 : Int) - t3) - ((t2 : Int) - t1)) / 2)

/-- The mean delay of the exchanges whose rtt is within 2 ns of the smallest (R261), and how many they are. -/
def meanDelay (l : List (Nat × Nat)) : Nat × Nat :=
  let m := (l.map (·.1)).foldl min (l.headD (0, 0)).1
  let u := l.filter fun x => x.1 ≤ m + 32
  ((u.map (·.2)).sum / max u.length 1, u.length)

/-- An exchange with a good verdict is used (R261, R268, R271): the hop delay; in ACQUIRE a Tile steps by the first offset and enters TRACK, at a warm
start it does not step, and a first offset beyond 1 ms fails W9; in TRACK it slews off an offset beyond 1 µs; otherwise the offset stands for the
discipline. -/
def State.useExchange (s : State) (p t1 t2 t3 t4 : Nat) : State :=
  let (rtt, delay, off) := exchangeOf t1 t2 t3 t4
  let l := ((rtt.toNat, delay.toNat) :: Tab.get s.whl.exchanges p).take 16
  let (mean, used) := meanDelay l
  let s1 := (s.wr (Reg.WHL_HOP_DELAY p) mean).wr (Reg.WHL_HOP_VALID p) used
  let s2 := { s1 with whl := { s1.whl with exchanges := Tab.put s1.whl.exchanges p l, offset := some off } }
  if s.isTile ∧ p = s.timePort ∧ s.rd Reg.WHL_STAT_STATE = 1 then
    if s.warmStart then
      (if s.whl.warmFail then s2
       else if within off 1000000 then s2.enterTrack (some off) else { s2 with whl := { s2.whl with warmFail := true } })
    else (s2.setCount16 ((s.count16 : Int) - off).toNat).enterTrack none
  else s2.onlyIf (s.isTile && p == s.timePort && s.source == 2 && s.rd Reg.WHL_STAT_STATE == 2 && !within off 1000) fun t => t.slewToward off

/-- TIME_VERDICT (R262): the Frame die makes checks 3 to 5 on the oldest TIME packet that awaits them; a response that passes is used. -/
def doTimeVerdict (s : State) : State :=
  match s.whl.waiting with
  | [] => s
  | w :: rest =>
    let s1 := { s with whl := { s.whl with waiting := rest } }
    match s1.frameChecks w.port .time w.pkt w.seq with
    | (s2, false) => s2
    | (s2, true) =>
      if (w.pkt.body.headD 0).toNat = 2 then
        s2.useExchange w.port (leAt w.pkt.body 8 8) (leAt w.pkt.body 16 8) (leAt w.pkt.body 24 8) w.stamp
      else s2

def execTimeVerdict (s : State) : Host.Outcome State Fault Refusal :=
  .next (s.whenAlive fun u => doTimeVerdict u)

/-- COUNT_COPY_REFRESH (R248): the Frame die's copy takes the Lane die's count. -/
def doCountCopyRefresh (s : State) : State := { s with whl := { s.whl with copy := s.count } }

def execCountCopyRefresh (s : State) : Host.Outcome State Fault Refusal :=
  .next (s.whenAlive fun u => doCountCopyRefresh u)

/-! ### Rate, WSYNC_OUT and the G13 commit -/

/-- RATE_SWITCH (R250): from the switch second on the new rate places the boundaries; before it nothing happens. -/
def doRateSwitch (s : State) : State :=
  match s.whl.pendingRate with
  | none => s
  | some (r, sec) => if s.now < sec * 1000000000 then s else ({ s with whl := { s.whl with rate := r, pendingRate := none } }).wr Reg.WHL_STAT_RATE_PENDING 0

/-- The last instant at or before the count at which WSYNC_OUT rises (R258): a boundary with OUT 1, a whole second with OUT 2. -/
def State.outInstant (s : State) : Option Nat :=
  match s.cfg 13 Reg.WHL_CFG_OUT with
  | 1 => some (s.lastBoundaryAt s.now)
  | 2 => some (s.now / 1000000000 * 1000000000)
  | _ => none

/-- WSYNC_OUT_EDGE (R251, R258): with OUT 1 or 2 the pin gives a rising edge, once for each boundary or whole second; with OUT 0 it is held low. -/
def doWsyncOutEdge (s : State) : State :=
  match s.outInstant with
  | none => s
  | some t =>
    if s.due actOut t t s.now then
      let s1 := s.perform actOut t
      { s1 with whl := { s1.whl with outEdges := s1.whl.outEdges + 1, outAt := some t } }
    else s

/-- The level of WSYNC_OUT (R258): each edge stays high for 1 µs. -/
def State.wsyncOut (s : State) : Bool :=
  s.cfg 13 Reg.WHL_CFG_OUT != 0 && s.whl.outAt.any fun t => decide (t ≤ s.now) && decide (s.now < t + 1000)

def execWsyncOutEdge (s : State) : Host.Outcome State Fault Refusal :=
  .next (s.whenAlive fun u => doWsyncOutEdge u)

/-- The first whole second at or after a commit point that WHL_SWITCH.SEC names (R250), in seconds of the count. -/
def switchSecond (now sec : Nat) : Nat :=
  let c := (now + 999999999) / 1000000000
  if sec = 0 then c else c + (sec + 2 ^ 32 - c % 2 ^ 32) % 2 ^ 32

/-- The G13 check (WHL_STAT.REFUSE): 1 RATE, 2 SYNC, 3 OUT or HOLDOVER, 4 SEC, 5 TIME_MS or LOCAL_TOL; 0 good. -/
def whlRefusal (s : State) : Nat :=
  let r := s.rd Reg.WHL_CFG_RATE
  let h := s.rd Reg.WHL_CFG_HOLDOVER
  let sec := s.rd Reg.WHL_SWITCH_SEC
  if r < 24 ∨ 240 < r then 1
  else if s.rd Reg.WHL_CFG_SYNC = 3 ∨ (s.isSender ∧ s.rd Reg.WHL_CFG_SYNC = 2) then 2
  else if s.rd Reg.WHL_CFG_OUT = 3 ∨ h = 0 ∨ 3600 < h then 3
  else if s.sys.firstLight ∧ r ≠ s.ac Reg.WHL_CFG_RATE ∧ sec ≠ 0 ∧ s.lastBoundaryAt s.now + 3600000000000 < switchSecond (s.lastBoundaryAt s.now) sec * 1000000000 then 4
  else if s.rd Reg.WHL_TIMING_TIME_MS = 0 ∨ s.rd Reg.WHL_TIMING_LOCAL_TOL = 0 then 5
  else 0

/-- What the unit does once its G13 fields are copied (R250, R272); `old` is the state before the copy. -/
def State.whlCommitted (s old : State) : State :=
  let r := s.ac Reg.WHL_CFG_RATE
  let s1 :=
    if !s.sys.firstLight then { s with whl := { s.whl with rate := r, pendingRate := none } }
    else if r ≠ old.ac Reg.WHL_CFG_RATE then
      ({ s with whl := { s.whl with pendingRate := some (r, switchSecond (s.lastBoundaryAt s.now) (s.ac Reg.WHL_SWITCH_SEC)) } }).wr Reg.WHL_STAT_RATE_PENDING 1
    else s
  let s2 := if s.syncCfg ≠ old.syncCfg then
      let t := s1.setLock 4
      { t with whl := { t.whl with oldSync := some (s.lastBoundaryAt s.now, old.syncCfg), localLost := false } }
    else s1
  s2.showSource

/-- What a Sender does with its count on accepting the first HEART of the holder in ACQUIRE (R255, log entry 12): the next edge is the first valid one. -/
def State.coarseCount (s : State) (sent : Nat) : State :=
  if s.isSender ∧ !s.holdsSpindle ∧ !s.splitService ∧ s.rd Reg.WHL_STAT_STATE = 1 ∧ !s.whl.counted ∧ !s.warmStart then
    let s0 := s.setCount16 ((sent + 1000) * 16)
    let s1 := { s0 with whl := { s0.whl with counted := true, edgeSeen := false, goodRun := 0 } }
    if s.syncCfg = 0 then s1.enterTrack (some 0) else s1
  else s

end Sys2Proof.Machine
end

