-- ==== Sys2Proof/Machine/Stale.lean ====
section
/-! DEFINITION. The right to order (R400, R401, R424), verdicts and YIELD (R416 to R418), and STALE orders (R196 to R198), which events of every region
raise. -/

namespace Sys2Proof.Machine

/-! ### The right to order -/

/-- A holder that resumes after a warm start numbers its passes on from its last commit (R405): the pass that begins now is its first. -/
def State.resumeOffset (s : State) : State :=
  if s.spn.resume then
    let n := boundaryIndex s.whl.rate s.now
    let s1 := s.wr Reg.SPN_GEN_OFS_OFFSET ((s.spn.lastGen + n + 2 ^ 32 * 4 - s.spn.lastBoundary % 2 ^ 32 - 1) % 2 ^ 32)
    { s1 with spn := { s1.spn with resume := false, offsetSet := true } }
  else s

/-- The wire generation of an internal generation (R405). -/
def State.wireGen (s : State) (g : Nat) : Nat := (g + s.rd Reg.SPN_GEN_OFS_OFFSET) % 2 ^ 32

/-- The internal generation of a wire generation (R405). -/
def State.ownGen (s : State) (w : Nat) : Nat := (w + 2 ^ 32 - s.rd Reg.SPN_GEN_OFS_OFFSET % 2 ^ 32) % 2 ^ 32

/-- A port is in split-ring service (R424). -/
def State.splitPort (s : State) (p : Nat) : Bool := s.splitService && s.bit Reg.SPN_STAT_SPLIT p

/-- The Sender may originate orders on a port (R401). -/
def State.ordersPort (s : State) (p : Nat) : Bool := s.holdsSpindle || s.splitPort p

/-- The Sender orders a Tile: the holder every one, split-ring service those it serves (R424). -/
def State.ordersTile (s : State) (c p : Nat) : Bool :=
  s.holdsSpindle || (s.splitPort c && s.spn.served.contains (c * 64 + p))

/-- Sends an order on a port; a Sender without the right sends nothing (R401), nor does one that a fatal error has stopped (R483). -/
def State.sendOrder (s : State) (p : Nat) (t : PType) (dest : Nat) (body : Bytes) : State :=
  s.onlyIf (s.ordersPort p && s.sys.fatal.isNone) fun t' => t'.send p t dest body

/-! ### Verdicts -/

/-- The body of a YIELD (R230). -/
def yieldBody (reason gen at_ : Nat) : Bytes := leBytes 4 reason ++ leBytes 4 gen ++ leBytes 8 at_

/-- Sends YIELD on every transmit direction in service (R417, R428). -/
def State.sendYield (s : State) (reason gen at_ : Nat) : State :=
  ((s.forAll s.sendPorts fun t p => t.send p .yield (s.destChain 3 p) (yieldBody reason gen at_)).bump Reg.SPN_CNT_YIELDS).raise
    srcDispatch 0x5103 reason

/-- A holder yields for a verdict (R417): it originates no order from then on. -/
def State.yieldFor (s : State) (code : Nat) : State :=
  let s1 := s.sendYield code (s.rd Reg.DMG_GEN_GEN) s.now
  let s2 := (s1.wr Reg.SPN_STAT_STATE 0).wr Reg.SPN_STAT_YIELDED 1
  ({ s2 with spn := { s2.spn with yielded := some (code, s.now) } }).showSource

/-- Raises a verdict (R414, R416 to R418): the first code stays in SPN_STAT.VERDICT; a protected holder yields, though not twice for one verdict
without having heard its partner (R419). -/
def State.raiseVerdict (s : State) (code : Nat) : State :=
  if !s.isSender then s
  else
    let new := !s.spn.verdicts.contains code
    let s1 := if new then
        let t := { s with spn := { s.spn with verdicts := s.spn.verdicts ++ [code] } }
        (if t.rd Reg.SPN_STAT_VERDICT = 0 then t.wr Reg.SPN_STAT_VERDICT code else t).raise srcDispatch 0x9102 code
      else s
    if s1.holdsSpindle && s1.flag Reg.SYS_ROLE_PROTECTED && code != 8 && s1.spn.yieldBar != code then s1.yieldFor code else s1

/-- Times of a list that lie within the last second. -/
def State.lastSecond (s : State) (l : List Nat) : Nat := (l.filter fun t => s.now < t + 1000000000).length

/-- The hallmark self-check verdict stands (R183, R184). -/
def State.selfVerdict (s : State) : Bool := s.spn.verdicts.contains 3

/-! ### Piece tables -/

/-- The piece table in force for a pass (R180). -/
def State.tableFor (s : State) (g : Nat) : PieceTable :=
  ((s.hmk.tables.find? fun t => !later32 t.from_ g).orElse fun _ => s.hmk.tables.getLast?).getD default

/-- The piece table that the latest G1 commit built. -/
def State.tableNow (s : State) : PieceTable := s.hmk.tables.headD default

/-! ### STALE orders -/

/-- The ports whose Tiles hold a piece of a named region, and on which the Sender orders (R196). -/
def State.stalePorts (s : State) (regions : List Nat) : List Nat :=
  s.sendPorts.filter fun p => s.ordersPort p && (s.tableNow.pieces.any fun x => x.chain == p && regions.contains x.region)

/-- Raises a STALE order (R196, R198): the floor of every named region rises to LOOM_PASS.GEN, and the packet waits for the next packet
boundary of each port concerned. -/
def State.raiseStale (s : State) (all : Bool) (regions : List Nat) : State :=
  let g := s.rd Reg.LOOM_PASS_GEN
  let named := if all then List.range 256 else regions
  let ports := s.stalePorts named
  { s with hmk := { s.hmk with
      floors := named.foldl (fun t r => Tab.put t r g) s.hmk.floors
      staled := (s.hmk.staled ++ named).dedup
      orders := if ports.isEmpty then s.hmk.orders
        else s.hmk.orders ++ [⟨g, s.rd Reg.HMK_TABLE_VERSION, all, regions, ports⟩] } }

/-- An enabled class A or B region with EARLY set that was affirmed loses affirmability before its next formation (R196): once for each loss. -/
def State.loseEarly (s : State) (r : Nat) : State :=
  let i := r / 64
  let k := r % 64
  if s.acFlag (Reg.HMK_REG_CFG_ENABLE i k) && s.acFlag (Reg.HMK_REG_CFG_EARLY i k) && s.ac (Reg.HMK_REG_CFG_CLASS i k) != 0
      && s.flag (Reg.HMK_REG_STAT_AFFIRMED i k) && !s.hmk.staled.contains r then s.raiseStale false [r]
  else s

/-- A port stops being live: the regions over layers that read it, by the latest pass (R196). -/
def State.earlyPort (s : State) (p : Nat) : State :=
  match s.hmk.snaps with
  | [] => s
  | x :: _ => s.forAll (x.regions.filter fun r => r.2.2.contains p) fun t r => t.loseEarly r.1

/-- The mask of a list of regions: bit r mod 8 of byte r / 8 (R196). -/
def regionMask (l : List Nat) : Bytes :=
  leBytes 32 (l.foldl (fun m r => m ||| 2 ^ (r % 256)) 0)

/-- The body of a STALE packet (R196). -/
def State.staleBody (s : State) (o : StaleRec) : Bytes :=
  leBytes 4 (s.wireGen o.gen) ++ leBytes 2 o.table ++ leBytes 1 o.all.toNat ++ zeros 1 ++ regionMask (if o.all then [] else o.regions)

/-- Drops orders that every port has sent; ORDER reads 1 until then. -/
def State.settleOrders (s : State) : State :=
  let l := s.hmk.orders.filter fun o => !o.ports.isEmpty
  let s1 := { s with hmk := { s.hmk with orders := l } }
  if l.isEmpty then s1.wr Reg.HMK_STALE_ORDER 0 else s1

/-- The chain broadcast address of a Sender's own chain (R28). -/
def State.chainAll (s : State) (p : Nat) : Nat := s.tileAddr p 63

/-- STALE_SEND (R196): the oldest order that has yet to enter this port enters it. -/
def doStaleSend (s : State) (p : Nat) : State :=
  match s.hmk.orders.find? fun o => o.ports.contains p with
  | none => s
  | some o =>
    let s1 := s.sendOrder p .stale (s.chainAll p) (s.staleBody o)
    let upd (l : List StaleRec) : List StaleRec := l.map fun x => if x == o then { x with ports := x.ports.filter (· != p) } else x
    ({ s1 with hmk := { s1.hmk with orders := upd s1.hmk.orders } }).settleOrders

/-- Every pending order enters every port that it concerns. -/
def State.flushStale (s : State) : State := s.forAll s.hmk.orders fun t _ => t.forAll [0, 1, 2, 3] doStaleSend

def execStaleSend (p : Port) (s : State) : Host.Outcome State Fault Refusal :=
  .next (s.whenAlive fun u => doStaleSend u p)

/-- STALE_ORDER (R196): a write of HMK_STALE with ORDER at 1. -/
def doStaleOrder (s : State) (all : Bool) (region : Nat) : State :=
  let s1 := ((s.wrFlag Reg.HMK_STALE_ALL all).wr Reg.HMK_STALE_REGION region).wr Reg.HMK_STALE_ORDER 1
  if s.isSender then (s1.raiseStale all [region]).settleOrders else s1

def execStaleOrder (all : Bool) (region : BitVec 8) (s : State) : Host.Outcome State Fault Refusal :=
  .next (s.whenAlive fun u => doStaleOrder u all region.toNat)

/-- HMK_HOLD (R196): a write of one of the eight words; each 0-to-1 change of a bit is an order. -/
def doHmkHold (s : State) (i : Nat) (v : Nat) : State :=
  let old := s.rd (Reg.HMK_HOLD_HOLD i)
  let rise := ((List.range 32).filter fun b => v.testBit b && !old.testBit b).map (32 * i + ·)
  let s1 := s.wr (Reg.HMK_HOLD_HOLD i) v
  if s.isSender && !rise.isEmpty then s1.raiseStale false rise else s1

def execHmkHold (i : Fin 8) (v : Word) (s : State) : Host.Outcome State Fault Refusal :=
  .next (s.whenAlive fun u => doHmkHold u i v.toNat)

end Sys2Proof.Machine
end

