-- ==== Sys2Proof/Machine/Dram.lean ====
section
/-! DEFINITION. The stacked DRAM (R352 to R374 of spec/12_memory_system.md): windows and interleave, the line code, reads and
writes, service classes and promotion, refresh, power-down, scrub, re-centring and die temperature. -/

namespace Sys2Proof.Machine

/-! ### Windows -/

/-- An address-map window: base and size in units of 64 KiB, grain code, kind (0 Control, 1 Device, 2 Data). -/
structure Window where
  base : Nat
  size : Nat
  grain : Nat
  kind : Nat
deriving DecidableEq, Repr

/-- The windows of a role (R356); without a role only W0. -/
def windowsOf (role : Nat) : List Window :=
  if role = 1 then [⟨0, 0x1000, 4, 0⟩, ⟨0x1000, 0xA000, 1, 1⟩, ⟨0xB000, 0x13000, 1, 2⟩, ⟨0x1E000, 0x2000, 0, 2⟩]
  else if role = 2 then
    [⟨0, 0x1000, 4, 0⟩, ⟨0x1000, 0x1000, 2, 2⟩, ⟨0x2000, 0x1000, 4, 2⟩, ⟨0x3000, 0x1000, 0, 2⟩, ⟨0x4000, 0x1C000, 8, 2⟩]
  else [⟨0, 0x1000, 4, 0⟩]

def Window.has (w : Window) (a : Nat) : Bool := decide (w.base * 65536 ≤ a) && decide (a < (w.base + w.size) * 65536)

/-- What the three registers of window `w` read: they are fixed by the role, and nothing writes them (R356). -/
def State.windowWord (s : State) (w k : Nat) : Nat :=
  match (windowsOf s.role)[w]? with
  | none => 0
  | some x => if k = 0 then x.base else if k = 1 then x.size else 2 ^ 31 + x.kind * 256 + x.grain

/-- The window an address lies in (R355, R356). -/
def State.windowAt (s : State) (a : Nat) : Option Window := (windowsOf s.role).find? fun w => w.has a

/-- An area lies wholly inside one window of kind Data (R358). -/
def State.areaOk (s : State) (base len : Nat) : Bool :=
  (windowsOf s.role).any fun w => w.kind == 2 && decide (w.base * 65536 ≤ base) && decide (base + len ≤ (w.base + w.size) * 65536)

/-- The channel and the address within the channel (R355). -/
def Window.place (w : Window) (a : Nat) : Nat × Nat :=
  let g := 256 * 2 ^ w.grain
  let o := a - w.base * 65536
  (o / g % 8, w.base * 65536 / 8 + o / (8 * g) * g + o % g)

/-- The bank, pseudo-rank and row of a channel address (R355). -/
def chanBank (l : Nat) : Nat := l / 2048 % 16
def chanRank (l : Nat) : Nat := l / 32768 % 2
def chanRow (l : Nat) : Nat := l / 65536 % 16384

/-! ### The line code -/

/-- Multiplication by α in GF(2^8) (R365). -/
def gfDouble (a : Nat) : Nat := if 128 ≤ a then (a * 2 % 256) ^^^ 0x1D else a * 2

/-- Multiplication in GF(2^8) with the polynomial of R365. -/
def gfMul (a b : Nat) : Nat :=
  ([0, 1, 2, 3, 4, 5, 6, 7].foldl
    (fun (acc : Nat × Nat) i => (if b.testBit i then acc.1 ^^^ acc.2 else acc.1, gfDouble acc.2)) (0, a)).1

/-- α^n. -/
def gfPow : Nat → Nat
  | 0 => 1
  | n + 1 => gfDouble (gfPow n)

/-- A polynomial (highest coefficient first) times (x + c). -/
def gfTimesRoot (p : List Nat) (c : Nat) : List Nat :=
  List.zipWith (fun x y => x ^^^ y) (p ++ [0]) (0 :: p.map (gfMul c))

/-- The generator g(x) of R365 without its leading 1. -/
def rsGenerator : List Nat := (([0, 1, 2, 3, 4, 5, 6, 7].foldl (fun p i => gfTimesRoot p (gfPow i)) [1]).drop 1)

/-- One step of the division by g(x). -/
def rsStep (r : List Nat) (d : Byte) : List Nat :=
  let f := d.toNat ^^^ r.headD 0
  List.zipWith (fun x g => x ^^^ gfMul f g) (r.drop 1 ++ [0]) rsGenerator

/-- The eight check symbols of a line (R365). -/
def rsCheck (line : Bytes) : Bytes := (line.foldl rsStep (List.replicate 8 0)).map fun n => BitVec.ofNat 8 n

/-- The bit of the codeword (R365: bit k mod 8 of symbol k / 8) that a wire of a channel carries in a beat: data wire j, or check wire j - 128 (R353). -/
def wireBit (beat j : Nat) : Nat :=
  if j < 128 then 8 * (16 * beat + j / 8) + j % 8 else 8 * (64 + 2 * beat + (j - 128) / 8) + (j - 128) % 8

/-- The four symbols of the codeword of which a wire of a channel carries bits (R353). -/
def wireSymbols (wire : Nat) : List Nat := [0, 1, 2, 3].map fun b => wireBit b wire / 8

/-- The level of a wire in a beat of a line's transfer, with the line's check symbols (R353, R365). -/
def wireLevel (line : Bytes) (beat j : Nat) : Bool :=
  ((line ++ rsCheck line).getD (wireBit beat j / 8) 0).getLsbD (wireBit beat j % 8)

/-- What a read of a line gives, for an error pattern (symbol and difference) and a channel's dead wire. -/
structure LineRead where
  data : Bytes
  /-- the line was found uncorrectable (R367) -/
  bad : Bool
  /-- the line counts as corrected, and how many symbols were corrected, erasures included -/
  corrected : Bool
  symbols : Nat
deriving DecidableEq, Repr

/-- The symbols of the pattern that are really wrong. -/
def realErrors (pattern : List (Nat × Byte)) : List (Nat × Byte) := pattern.filter fun e => e.1 < 72 && e.2 != 0

/-- The decoder (R366, R369). Up to four wrong symbols are corrected; with a dead wire its four symbols are erasures and two
further wrong symbols are corrected. Beyond that the answer is `Config.rsBeyond`. -/
def decodeLine (line : Bytes) (pattern : List (Nat × Byte)) (dead : Nat) : LineRead :=
  let erased := if dead < 144 then wireSymbols dead else []
  let wrong := ((realErrors pattern).map (·.1)).dedup.filter fun i => !erased.contains i
  let power := if dead < 144 then 2 else 4
  if wrong.length ≤ power then ⟨line, false, wrong.length != 0, wrong.length + erased.length⟩
  else match Config.rsBeyond dead line pattern with
    | none => ⟨line, true, false, 0⟩
    | some d => ⟨d.1, false, true, d.2.toNat⟩

/-! ### Access -/

/-- Records a corrected or uncorrectable line (R367). -/
def State.noteLine (s : State) (line : Nat) (r : LineRead) : State :=
  if r.bad then
    ((((s.bump Reg.DMC_ECC_CNT_UE).wr Reg.DMC_ECC_LAST_UE 1).wr Reg.DMC_ECC_LAST_SYMBOLS 0).wr
      Reg.DMC_ECC_LAST_LINE line).raise srcMemory 0x8E01 line
  else if r.corrected then
    (((s.bump Reg.DMC_ECC_CNT_CE).wr Reg.DMC_ECC_LAST_UE 0).wr Reg.DMC_ECC_LAST_SYMBOLS r.symbols).wr
      Reg.DMC_ECC_LAST_LINE line
  else s

/-- A map fault (R359). -/
def State.mapFault (s : State) (line : Nat) : State := (s.bump Reg.DMC_MAPERR_COUNT).raise srcMemory 0x4E02 line

/-- A request wakes its pseudo-rank (R371). -/
def State.wakeRank (s : State) (chan rank : Nat) : State :=
  if rank = 0 then s.wr (Reg.DMC_CH_STAT_PR0 chan) 0 else s.wr (Reg.DMC_CH_STAT_PR1 chan) 0

/-- What a read of the line at a DRAM address gives under an error pattern. -/
def State.lineRead (s : State) (a chan : Nat) (pattern : List (Nat × Byte)) : LineRead :=
  decodeLine (s.dramRead (a / 64 * 64) 64) pattern (s.rd (Reg.DMC_CH_STAT_DEAD_WIRE chan))

def State.dramAnswer (s : State) (r : DramResult) : State := { s with dmc := { s.dmc with result := r } }

/-- Reports an uncorrectable demand read to the Sender's self-diagnosis (R367, R416). -/
def State.reportUe (s : State) : State :=
  let s1 := { s with dmc := { s.dmc with ueTimes := s.now :: s.dmc.ueTimes } }
  if s1.cfg 1 Reg.SPN_CFG_UE_LIMIT ≤ s1.lastSecond s1.dmc.ueTimes then s1.raiseVerdict 1 else s1

/-- A read within another command that the memory flags as uncorrectable (R367). -/
def State.noteUe (s : State) (line : Nat) : State := (s.noteLine line ⟨[], true, false, 0⟩).reportUe

/-! ### Requests -/

/-- The service class of a use (R360). -/
def DramUse.cls : DramUse → Nat
  | .pushRead | .pushQueue | .correction => 0
  | .baleRead | .canvasWrite | .hallmarkRead | .copyEngine => 1
  | .codecWrite | .pushWrite => 2
  | .firmware | .eventLog | .fatalDump | .memoryScan | .patrol | .writeBack | .lampTable => 3

/-- The line of a request. -/
def DramRequest.line (p : DramRequest) : Nat := p.addr / 64

/-- A request goes before another by arrival: by cycle, and within a cycle by class and by source number (R363). -/
def DramRequest.before (p q : DramRequest) : Bool :=
  decide (p.cycle < q.cycle) || ((p.cycle == q.cycle) && (decide (p.cls < q.cls) || ((p.cls == q.cls) && decide (p.src < q.src))))

/-- A request at its place among the waiting ones, oldest first. -/
def enqueueRequest (l : List DramRequest) (p : DramRequest) : List DramRequest :=
  l.takeWhile (fun q => !p.before q) ++ p :: l.dropWhile (fun q => !p.before q)

/-- A DRAM address's channel and address within it; the channel of a line that no window maps is taken as line mod 8 (R355, log entry 8). -/
def State.dramPlace (s : State) (a : Nat) : Nat × Nat :=
  match s.windowAt a with
  | some w => w.place a
  | none => (a / 64 % 8, a / 512 * 64 + a % 64)

/-- The bank of an address by number within its channel and in all, and its row plus 1 as an open row. -/
def State.bankOf (s : State) (a : Nat) : Nat :=
  let (c, l) := s.dramPlace a
  c * 32 + chanRank l * 16 + chanBank l

def State.rowOf (s : State) (a : Nat) : Nat := chanRow (s.dramPlace a).2 + 1

/-- A request arrives at the controller (R360, R363). A write drops the write-back of its line that waits, and a write-back is not made where a write to its line
waits (R367). -/
def State.requestArrives (s : State) (a : Nat) (op : DramOp) (m : DramMaster) (pattern : List (Nat × Byte)) : State :=
  let cycle := s.dmc.cycle + (!m.sameCycle).toNat
  let p : DramRequest := ⟨(s.dramPlace a).1, a, op, DramUse.cls m.use, m.src.toNat, cycle, s.now, none, pattern⟩
  let kept := match op with
    | .write _ => s.dmc.waiting.filter fun q => match q.op with
      | .writeBack _ => q.line != p.line
      | _ => true
    | _ => s.dmc.waiting
  { s with dmc := { s.dmc with waiting := enqueueRequest kept p, cycle := cycle } }

/-- A read corrected a line: the controller writes it back in class C3 unless a write to that line arrives first (R367). -/
def State.writeBackLine (s : State) (a : Nat) (r : LineRead) : State :=
  let taken := s.dmc.waiting.any fun q => (q.line == a / 64) && match q.op with
    | .write _ => true
    | _ => false
  if !r.corrected ∨ taken then s
  else s.requestArrives (a / 64 * 64) (.writeBack (r.data.take 64)) ⟨.writeBack, BitVec.ofNat 12 srcMemory, false⟩ []

/-- The age limit of a class in nanoseconds (R361, DMC_AGE_A, DMC_AGE_B). -/
def State.ageLimit (s : State) (cls : Nat) : Nat :=
  10 * s.ac ([Reg.DMC_AGE_A_C0, Reg.DMC_AGE_A_C1, Reg.DMC_AGE_B_C2, Reg.DMC_AGE_B_C3].getD cls Reg.DMC_AGE_B_C3)

/-- A waiting request has reached the age limit of its class and is not promoted yet (R361). -/
def State.promotable (s : State) (p : DramRequest) : Bool := p.promoted.isNone && decide (p.arrived + s.ageLimit p.cls ≤ s.now)

/-- Every waiting request of a channel that `which` names and that has reached its limit is promoted and counted, as of the time it reached it (R361). -/
def State.promote (s : State) (chan : Nat) (which : DramRequest → Bool) : State :=
  let due (p : DramRequest) : Bool := (p.chan == chan) && which p && s.promotable p
  let s1 : State := { s with dmc := { s.dmc with
    waiting := s.dmc.waiting.map fun p => if due p then { p with promoted := some (p.arrived + s.ageLimit p.cls) } else p } }
  s1.forAll (s.dmc.waiting.filter due) fun t _ => t.bump (Reg.DMC_CH_CLASS_PROMOTED chan)

/-- The requests that a channel may issue now: of each line the first to arrive (R363). -/
def State.issuable (s : State) (chan : Nat) : List DramRequest :=
  s.dmc.waiting.filter fun p => (p.chan == chan) && ((s.dmc.waiting.find? fun q => (q.chan == chan) && (q.line == p.line)) == some p)

/-- The request that a channel issues next, and its count of open-row passes then (R361): the oldest promoted one; else of the lowest class the oldest, or
the oldest to an open row while it has passed fewer than 16 times in a row and the channel lets it pass, which is the channel's own choice. -/
def State.nextRequest (s : State) (chan : Nat) : Option (DramRequest × Nat) :=
  let l := s.issuable chan
  match l.find? fun p => p.promoted.isSome with
  | some p => some (p, Tab.get s.dmc.passes (chan * 4 + p.cls))
  | none =>
    match ([0, 1, 2, 3].map fun c => l.filter fun p => p.cls == c).find? fun g => !g.isEmpty with
    | none => none
    | some g =>
      let passed := Tab.get s.dmc.passes (chan * 4 + (g.map (·.cls)).headD 0)
      match g.head?, g.find? fun p => Tab.get s.dmc.openRow (s.bankOf p.addr) == s.rowOf p.addr with
      | some p, some q => if q = p ∨ 16 ≤ passed ∨ Config.rowPasses s.dmc.cycle = false then some (p, 0) else some (q, passed + 1)
      | some p, none => some (p, 0)
      | none, _ => none

/-- A request is performed on its line (R364, R367, R368). A read is decoded, counted and answered, and a corrected line is written back; a partial write
keeps the rest of the line as decoded, and of an uncorrectable line as stored (log entry 145). -/
def State.performRequest (s : State) (p : DramRequest) : State :=
  let r := s.lineRead p.addr p.chan p.pattern
  match p.op with
  | .read => (((s.noteLine p.line r).onlyIf r.bad State.reportUe).writeBackLine p.addr r).dramAnswer ⟨r.data, rsCheck r.data, r.bad, p.addr⟩
  | .scrub => (s.noteLine p.line r).writeBackLine p.addr r
  | .writeBack line => s.dramWrite (p.addr / 64 * 64) line
  | .write bs =>
    if p.addr % 64 = 0 ∧ bs.length = 64 then s.dramWrite p.addr bs
    else
      let s1 := (s.noteLine p.line r).onlyIf r.bad State.reportUe
      (s1.onlyIf r.corrected fun t => t.dramWrite (p.addr / 64 * 64) (r.data.take 64)).dramWrite p.addr bs

/-- A channel issues its next request (R361, R362, R371): it wakes the pseudo-rank, opens its row, and counts as late when more than 500 ns passed since its
promotion. -/
def State.issueNext (s : State) (chan : Nat) : State :=
  let s1 := s.promote chan fun _ => true
  match s1.nextRequest chan with
  | none => s1
  | some (p, passed) =>
    let s2 : State := { s1 with dmc := { s1.dmc with
      waiting := s1.dmc.waiting.erase p
      openRow := Tab.put s1.dmc.openRow (s1.bankOf p.addr) (s1.rowOf p.addr)
      passes := Tab.put s1.dmc.passes (chan * 4 + p.cls) passed } }
    let late := match p.promoted with
      | some t => decide (t + 500 < s.now)
      | none => false
    ((s2.onlyIf late fun t => t.bump (Reg.DMC_CH_CLASS_LATE chan)).wakeRank chan (chanRank (s1.dramPlace p.addr).2)).performRequest p

/-- A channel issues `n` requests, or as many as wait. -/
def State.issue (s : State) (chan : Nat) : Nat → State
  | 0 => s
  | n + 1 => if s.dmc.waiting.any (fun p => p.chan == chan) then (s.issueNext chan).issue chan n else s

/-- Every channel finishes its queued requests, and the write-backs they give (R372). -/
def State.finishRequests (s : State) : State := s.forAll (List.range 8) fun t c => t.issue c (2 * s.dmc.waiting.length)

/-- DRAM_READ (R359, R361, R367): the request waits on its channel, and the channel issues `turns` requests; one outside every window is a map fault and
answers zeros flagged as uncorrectable. -/
def doDramRead (s : State) (a : Nat) (m : DramMaster) (pattern : List (Nat × Byte)) (turns : Nat) : State :=
  match s.windowAt a with
  | none => (s.mapFault (a / 64)).dramAnswer ⟨zeros 64, rsCheck (zeros 64), true, a⟩
  | some w => (s.requestArrives a .read m pattern).issue (w.place a).1 turns

def execDramRead (a : BitVec 33) (x : DramCall) (s : State) :
    Host.Outcome State Fault Refusal :=
  .next (s.whenAlive fun u => doDramRead u a.toNat x.master x.pattern x.turns)

/-- DRAM_WRITE (R359, R361, R364): as DRAM_READ; outside every window the write is discarded and counted. Bytes past the end of the line are not part of
the request. -/
def doDramWrite (s : State) (a : Nat) (bytes : Bytes) (m : DramMaster) (pattern : List (Nat × Byte)) (turns : Nat) : State :=
  match s.windowAt a with
  | none => s.mapFault (a / 64)
  | some w => (s.requestArrives a (.write (bytes.take (64 - a % 64))) m pattern).issue (w.place a).1 turns

def execDramWrite (a : BitVec 33) (x : DramWriteCall) (s : State) :
    Host.Outcome State Fault Refusal :=
  .next (s.whenAlive fun u => doDramWrite u a.toNat x.bytes x.call.master x.call.pattern x.call.turns)

/-- REQUEST_PROMOTION (R361): the requests that wait for a line of a channel and have reached their class age limit are promoted; the channel then issues
`turns` requests. -/
def doRequestPromotion (s : State) (chan line turns : Nat) : State := (s.promote chan fun p => p.line == line).issue chan turns

def execRequestPromotion (chan : Fin 8) (x : PromotionCall) (s : State) : Host.Outcome State Fault Refusal :=
  .next (s.whenAlive fun u => doRequestPromotion u chan x.line.toNat x.turns)

/-- DRAM_REFRESH (R361, R370, R371): a bank is refreshed now, ahead of all requests, and has no open row after it. A refresh wakes the pseudo-rank and lets it
enter power-down again, so its power state stands as before. -/
def doDramRefresh (s : State) (chan rank bank : Nat) : State :=
  let k := chan * 32 + rank * 16 + bank
  { s with dmc := { s.dmc with refreshed := Tab.put s.dmc.refreshed k s.now, openRow := Tab.put s.dmc.openRow k 0 } }

def execDramRefresh (chan : Fin 8) (rank : Fin 2) (bank : Fin 16) (s : State) : Host.Outcome State Fault Refusal :=
  .next (s.whenAlive fun u => doDramRefresh u chan rank bank)

/-- DRAM_POWER_DOWN (R371): a pseudo-rank with no request queued enters power-down unless PD_TIMER is 0; only a controller in service does. -/
def doDramPowerDown (s : State) (chan rank : Nat) : State :=
  let queued := s.dmc.waiting.any fun p => (p.chan == chan) && (chanRank (s.dramPlace p.addr).2 == rank)
  if s.ac Reg.DMC_CFG_PD_TIMER = 0 ∨ s.rd Reg.DMC_STAT_STATE ≠ 2 ∨ queued then s
  else if rank = 0 then s.wr (Reg.DMC_CH_STAT_PR0 chan) 1 else s.wr (Reg.DMC_CH_STAT_PR1 chan) 1

def execDramPowerDown (chan : Fin 8) (rank : Fin 2) (s : State) : Host.Outcome State Fault Refusal :=
  .next (s.whenAlive fun u => doDramPowerDown u chan rank)

/-- PATROL_SCRUB (R368): a class C3 read of the next line of the die, mapped or not, waits on its channel, and the position moves on; a scrub that SCRUB_H 0 or
self-refresh stops stays where it is. -/
def doPatrolScrub (s : State) (pattern : List (Nat × Byte)) (turns : Nat) : State :=
  if s.ac Reg.DMC_CFG_SCRUB_H = 0 ∨ s.rd Reg.DMC_STAT_STATE ≠ 2 then s
  else
    let line := s.rd Reg.DMC_SCRUB_POS
    ((s.wr Reg.DMC_SCRUB_POS (line + 1)).requestArrives (line * 64) .scrub ⟨.patrol, BitVec.ofNat 12 srcMemory, false⟩ pattern).issue
      (s.dramPlace (line * 64)).1 turns

def execPatrolScrub (x : PatrolCall) (s : State) : Host.Outcome State Fault Refusal :=
  .next (s.whenAlive fun u => doPatrolScrub u x.pattern x.turns)

/-- READ_RECENTRE (R374): a channel in service re-centres its read timing. -/
def doReadRecentre (s : State) (chan : Nat) : State :=
  { s with dmc := { s.dmc with recentred := Tab.put s.dmc.recentred chan s.now } }

def execReadRecentre (chan : Fin 8) (s : State) : Host.Outcome State Fault Refusal :=
  .next (s.whenAlive fun u => doReadRecentre u chan)

/-- Every channel refreshes each bank once and enters self-refresh, which ends its open rows (R372). -/
def State.selfRefresh (s : State) : State :=
  let s1 := s.forAll (List.range 8) fun t c => (t.wr (Reg.DMC_CH_STAT_PR0 c) 2).wr (Reg.DMC_CH_STAT_PR1 c) 2
  { s1.wr Reg.DMC_STAT_STATE 3 with
    dmc := { s1.dmc with refreshed := (List.range 256).foldl (fun t k => Tab.put t k s.now) s1.dmc.refreshed, openRow := [] } }

/-- The channels leave self-refresh (R372). -/
def State.leaveSelfRefresh (s : State) : State :=
  (s.forAll (List.range 8) fun t c => (t.wr (Reg.DMC_CH_STAT_PR0 c) 0).wr (Reg.DMC_CH_STAT_PR1 c) 0).wr Reg.DMC_STAT_STATE 2

/-- The refresh interval in milliseconds for a DRAM die temperature in °C (R370). -/
def refreshInterval (temp : Int) : Nat := if temp ≤ 85 then 32 else if temp ≤ 100 then 16 else 8

/-- DRAM_TEMPERATURE_READ (R370): every channel's DTEMP takes the temperature and the refresh interval follows it. -/
def doDramTemperatureRead (s : State) (temp : Int) : State :=
  let s1 := s.forAll (List.range 8) fun t c => t.wr (Reg.DMC_CH_STAT_DTEMP c) (unsignedOf 8 temp)
  { s1 with dmc := { s1.dmc with refreshMs := refreshInterval temp } }

def execDramTemperatureRead (temp : BitVec 8) (s : State) : Host.Outcome State Fault Refusal :=
  .next (s.whenAlive fun u => doDramTemperatureRead u temp.toInt)

/-- The G1 check of the memory region (R371, DMC_CFG, DMC_AGE): the reason code, 0 when the pending set is good. -/
def dmcRefusal (s : State) : Nat :=
  let pd := s.rd Reg.DMC_CFG_PD_TIMER
  if 1 ≤ pd ∧ pd ≤ 15 then 1
  else if s.rd Reg.DMC_AGE_A_C0 = 0 ∨ s.rd Reg.DMC_AGE_A_C1 = 0 ∨ s.rd Reg.DMC_AGE_B_C2 = 0 ∨ s.rd Reg.DMC_AGE_B_C3 = 0 then 2
  else if 168 < s.rd Reg.DMC_CFG_SCRUB_H then 4
  else 0

end Sys2Proof.Machine
end

