-- ==== Sys2Proof/Machine/Intake.lean ====
section
/-! DEFINITION. Source intake, surfaces and tell-tales (R77 to R109 of spec/03_source_intake_and_bales.md). -/

namespace Sys2Proof.Machine

def State.ip (s : State) (p : Nat) : IntakePort := Tab.get s.intake.ports p
def State.setIp (s : State) (p : Nat) (f : IntakePort → IntakePort) : State :=
  { s with intake := { s.intake with ports := Tab.upd s.intake.ports p f } }
def State.patch (s : State) (p t : Nat) : Patch := Tab.get s.intake.patches (p * 4 + t)
def State.setPatch (s : State) (p t : Nat) (f : Patch → Patch) : State :=
  { s with intake := { s.intake with patches := Tab.upd s.intake.patches (p * 4 + t) f } }
def State.surface (s : State) (n : Nat) : Surface := Tab.get s.intake.surfaces n
def State.setSurface (s : State) (n : Nat) (f : Surface → Surface) : State :=
  { s with intake := { s.intake with surfaces := Tab.upd s.intake.surfaces n f } }

/-! ### Pins and releases -/

/-- Layers that hold a pin on a surface (R132); a layer holds at most one pin on any one surface (R102). -/
def State.holders (s : State) (n : Nat) : List Nat :=
  (s.loom.layers.filter fun l => l.2.held == some n || l.2.matte == some n).map (·.1)

/-- The pin count of a surface (R102): one for the pass that reads it and one for each layer that holds it. -/
def State.pins (s : State) (n : Nat) : Nat := (s.holders n).length + (if s.loom.passPins.contains n then 1 else 0)

/-- A release is pending on a surface (R104). -/
def State.releasing (s : State) (n : Nat) : Bool := s.intake.releases.contains n

/-- A still surface exists and has no release pending, or a pool surface number is in range (R104, R130). -/
def State.stillExists (s : State) (n : Nat) : Bool := (Tab.find s.intake.surfaces n).isSome && decide (n < 256) && !s.releasing n

/-- Frees a surface: a pool surface is FREE, a still surface no longer exists (R101, R104). -/
def State.freeSurface (s : State) (n : Nat) : State :=
  if n < 256 then { s with intake := { s.intake with surfaces := Tab.del s.intake.surfaces n } }
  else s.setSurface n fun x => { x with state := 0 }

/-- A release of one surface: at once, or pending while it is pinned, which PENDING shows; the flag says BUSY (R104). -/
def State.releaseSurface (s : State) (n : Nat) : State × Bool :=
  if s.releasing n then (s, true)
  else if s.pins n ≠ 0 then
    (({ s with intake := { s.intake with releases := s.intake.releases ++ [n] } } : State).wr Reg.BAL_SURF_STAT_PENDING 1, true)
  else (s.freeSurface n, false)

/-- A surface number that stands for a surface: a pool surface, or a still surface that the Charter image gave (R101). -/
def State.surfaceThere (s : State) (n : Nat) : Bool := (decide (256 ≤ n) && decide (n < 280)) || (decide (n < 256) && (Tab.find s.intake.surfaces n).isSome)

/-- RELEASE (R104): BAL_SURF_CMD with OP 1. RESULT 2 names no surface, 3 is a pool surface of an enabled port, 1 is BUSY. -/
def doRelease (s : State) (n : Nat) : State :=
  let s0 := s.wr Reg.BAL_SURF_STAT_SURFACE n
  if !s.surfaceThere n then s0.wr Reg.BAL_SURF_STAT_RESULT 2
  else if 256 ≤ n ∧ s.acFlag (Reg.DPI_PORT_CFG_ENABLE ((n - 256) / 3)) then s0.wr Reg.BAL_SURF_STAT_RESULT 3
  else
    match s0.releaseSurface n with
    | (s1, true) => s1.wr Reg.BAL_SURF_STAT_RESULT 1
    | (s1, false) => s1.wr Reg.BAL_SURF_STAT_RESULT 0

def execRelease (n : BitVec 9) (s : State) : Host.Outcome State Fault Refusal :=
  .next (s.whenAlive fun u => doRelease u n.toNat)

/-- RELEASE_DONE (R104): a pending release whose pin count is 0 is performed, with an event record; PENDING clears when no other is. -/
def doReleaseDone (s : State) (n : Nat) : State :=
  if s.releasing n ∧ s.pins n = 0 then
    let s1 := s.freeSurface n
    let left := s1.intake.releases.filter fun x => x != n
    let s2 := { s1 with intake := { s1.intake with releases := left } }
    (s2.wrFlag Reg.BAL_SURF_STAT_PENDING (!left.isEmpty)).raise srcBale 0x0402 (n * 65536)
  else s

def execReleaseDone (n : BitVec 9) (s : State) : Host.Outcome State Fault Refusal :=
  .next (s.whenAlive fun u => doReleaseDone u n.toNat)

/-! ### Ports, EDID and DPCD -/

/-- The EDID of a port: of the record whose PORT_MASK includes it (R79). -/
def State.portEdid (s : State) (p : Nat) : Option Bytes := (s.charter.edids.find? fun e => e.1.testBit p).map (·.2)

/-- The bytes of the DPCD record that covers a port (R80). -/
def State.portDpcd (s : State) (p : Nat) : Bytes := ((s.charter.dpcds.find? fun e => e.1.testBit p).map (·.2)).getD []

/-- Asserts or drops DP<n>_HPD by R79: enabled in the committed set, and covered by an EDID record. REASON 1 where it is held low. -/
def State.setHpd (s : State) (p : Nat) : State :=
  let up := s.acFlag (Reg.DPI_PORT_CFG_ENABLE p) && (s.portEdid p).isSome
  let s1 := s.setIp p fun x => { x with hpd := up }
  if up then
    let s2 := if s.rd (Reg.DPI_PORT_STAT_REASON p) = 1 then s1.wr (Reg.DPI_PORT_STAT_REASON p) 0 else s1
    if s.rd (Reg.DPI_PORT_STAT_LINK p) = 0 then s2.wr (Reg.DPI_PORT_STAT_LINK p) 1 else s2
  else (s1.wr (Reg.DPI_PORT_STAT_LINK p) 0).wr (Reg.DPI_PORT_STAT_REASON p) 1

def State.dpAnswer (s : State) (bs : Bytes) : State := { s with intake := { s.intake with answer := bs } }

/-- EDID_READ (R79): a source reads one 128-byte block of the port's EDID; a port without one answers nothing. -/
def doEdidRead (s : State) (p blk : Nat) : State :=
  if (s.ip p).hpd then s.dpAnswer (slice ((s.portEdid p).getD []) (128 * blk) 128) else s.dpAnswer []

def execEdidRead (p : Fin 8) (blk : Fin 4) (s : State) : Host.Outcome State Fault Refusal :=
  .next (s.whenAlive fun u => doEdidRead u p blk)

/-- A DPCD byte with the values that R80 forces. -/
def forcedDpcd (a v : Nat) : Nat :=
  if a = 0x00000 then 0x14
  else if a = 0x00001 then min v 0x1E
  else if a = 0x00002 then
    let n := min (v % 32) 4
    v / 32 * 32 + (if n = 3 then 2 else n)
  else if a = 0x00003 then v % 128 + 128
  else if a = 0x0000E then v % 128
  else if a = 0x00021 ∨ a = 0x00060 then v / 2 * 2
  else v

/-- The link status that the port serves at DPCD 0x00200 and 0x00202 to 0x00207, which a source only reads (R80; their layout and values are those of
DisplayPort 1.4a, log entry 51): one sink; clock recovery, equalisation and symbol lock of each trained lane; interlane alignment; adjust requests. -/
def dpcdReadOnly (a : Nat) : Bool := a == 0x200 || (decide (0x202 ≤ a) && decide (a ≤ 0x207))

/-- The lane status bytes 0x00202 to 0x00204 of a link trained on the lanes of a LANES code. -/
def laneStatus (lanes : Nat) : List Byte :=
  [if lanes = 0 then 0 else if lanes = 1 then 0x07 else 0x77, if lanes = 3 then 0x77 else 0, if lanes = 0 then 0 else 1]

/-- Sets the lane status bytes of a port. -/
def State.setLaneStatus (s : State) (p lanes : Nat) : State :=
  s.setIp p fun x => { x with dpcd := (laneStatus lanes).zipIdx.foldl (fun t e => Tab.put t (0x202 + e.2) e.1) x.dpcd }

/-- The DPCD byte a source reads (R80). -/
def State.dpcdByte (s : State) (p a : Nat) : Byte :=
  if a < 0x100 then BitVec.ofNat 8 (forcedDpcd a ((s.portDpcd p).getD a 0).toNat)
  else if a = 0x200 then 1
  else if a < 0x300 then (Tab.find (s.ip p).dpcd a).getD 0
  else 0

/-- DPCD_ACCESS (R80): a read answers one byte; a write lands only in the link configuration and status fields that a source may write, and a write of
0x00201 clears the bits it sets. With DP<n>_HPD low no source sees a sink (R17). -/
def doDpcdAccess (s : State) (p a : Nat) (write : Option Byte) : State :=
  if !(s.ip p).hpd then s.dpAnswer []
  else match write with
  | none => s.dpAnswer [s.dpcdByte p a]
  | some b =>
    if a < 0x100 ∨ 0x300 ≤ a ∨ dpcdReadOnly a then s
    else s.setIp p fun x => { x with dpcd := Tab.put x.dpcd a (if a = 0x201 then (Tab.find x.dpcd a).getD 0 &&& ~~~b else b) }

def execDpcdAccess (p : Fin 8) (a : BitVec 20) (write : Option Byte) (s : State) : Host.Outcome State Fault Refusal :=
  .next (s.whenAlive fun u => doDpcdAccess u p a.toNat write)

/-! ### Tell-tale verdicts -/

/-- The other port of the pair that a port can form (R83). -/
def partnerOf (p : Nat) : Nat := if p % 2 = 0 then p + 1 else p - 1

/-- The port with which a port asks for admission: its partner when the even port's PAIR is committed (R83). -/
def State.pairOf (s : State) (p : Nat) : Option Nat := if s.acFlag (Reg.DPI_PORT_CFG_PAIR (p / 2 * 2)) then some (partnerOf p) else none

/-- The port with which a port runs as a pair. -/
def State.runsWith (s : State) (p : Nat) : Option Nat := if s.flag (Reg.DPI_PORT_STAT_PAIRED p) then some (partnerOf p) else none

/-- One port's own part of the verdict of R109. -/
def State.halfLive (s : State) (p : Nat) : Bool :=
  let on := [0, 1, 2, 3].filter fun t => s.acFlag (Reg.DPI_TT_CFG_ENABLE p t)
  s.flag (Reg.DPI_PORT_STAT_ADMITTED p) && (s.rd (Reg.DPI_PORT_STAT_LINK p) == 4) && (s.rd (Reg.DPI_PORT_STAT_REASON p) == 0)
    && !on.isEmpty && on.all fun t => s.flag (Reg.DPI_TT_STAT_LIVE p t)

/-- The verdict of R109. -/
def State.portLive (s : State) (p : Nat) : Bool :=
  s.halfLive p && (match s.runsWith p with
    | some q => s.halfLive q
    | none => true)

/-- Brings the verdicts of a port and its partner up to date; each change raises an event record (R109, R478), and a loss may order the hatch
of EARLY regions (R196). -/
def State.judgePorts (s : State) (ps : List Nat) : State :=
  s.forAll ps fun t p =>
    let live := t.portLive p
    if live = t.flag (Reg.DPI_PORT_STAT_LIVE p) then t
    else
      let t1 := (t.wrFlag (Reg.DPI_PORT_STAT_LIVE p) live).raise (srcIntake p) 0x4301 (p + (if live then 256 else 0))
      if live then t1.setIp p fun x => { x with liveSince := t.now } else t1.earlyPort p

def State.judgePort (s : State) (p : Nat) : State := s.judgePorts (p :: (s.runsWith p).toList)

/-- An event of R108: every patch is NOT LIVE and loses its comparison base. -/
def State.resetPatches (s : State) (p : Nat) : State :=
  (s.forAll [0, 1, 2, 3] fun t i =>
    ((t.setPatch p i fun x => { x with base := none, run := 0 }).wr (Reg.DPI_TT_STAT_LIVE p i) 0).wr
      (Reg.DPI_TT_STAT_SEEN p i) 0).judgePort p

/-! ### Budget -/

/-- The counted rate of a port in kpixel/s, rounded up (R87). -/
def msaCounted (m : Msa) : Nat := (m.hActive.toNat * m.vTotal * m.rate + 999999) / 1000000

/-- The refusal reason that a source's own attributes give (R78): 2 format, 3 active area, 0 none. -/
def msaReason (m : Msa) : Nat :=
  let bpcOk := if m.format.val = 0 then [6, 8, 10, 12].contains m.bpc else [8, 10, 12].contains m.bpc
  if m.misc1b6 || m.format.val == 3 || !bpcOk then 2
  else if m.hActive.toNat < 64 ∨ 5120 < m.hActive.toNat ∨ m.vActive.toNat < 64 ∨ 4320 < m.vActive.toNat then 3
  else 0

/-- The halves of a pair agree (R83). -/
def sameHalves (a b : Msa) : Bool :=
  a.hActive == b.hActive && a.vActive == b.vActive && a.vTotal == b.vTotal && a.format == b.format && a.bpc == b.bpc

/-- The bpc code of DPI_PORT_STAT. -/
def bpcCode (n : Nat) : Nat := if n = 6 then 0 else if n = 8 then 1 else if n = 10 then 2 else 3

/-- The counted rate that a port's source has. -/
def State.portCounted (s : State) (p : Nat) : Nat := match (s.ip p).msa with
  | some m => msaCounted m
  | none => 0

/-- The sum of the counted rates of the admitted ports but those of a list (R87). -/
def State.admittedBut (s : State) (ps : List Nat) : Nat :=
  (((List.range 8).filter fun p => s.flag (Reg.DPI_PORT_STAT_ADMITTED p) && !ps.contains p).map s.portCounted).sum

/-- DPI_BUDGET.USED is the sum of the counted rates of all admitted ports (R87). -/
def State.recount (s : State) : State := s.wr Reg.DPI_BUDGET_USED (s.admittedBut [])

/-- The surface being written is freed unpublished (R100). -/
def State.dropWriting (s : State) (p : Nat) : State :=
  let s1 := match (s.ip p).writing with
    | some n => s.setSurface n fun x => { x with state := 0 }
    | none => s
  s1.setIp p fun x => { x with writing := none }

/-- A frame cut short frees its surface unpublished (R100). -/
def State.cutFrame (s : State) (p : Nat) : State := (s.dropWriting p).setIp p fun x => { x with frame := none }

/-- A port is refused (R78, R84, R88): not admitted, the reason shown, and its patches reset (R108). -/
def State.refusePort (s : State) (p reason : Nat) : State :=
  ((((s.wr (Reg.DPI_PORT_STAT_REASON p) reason).wr (Reg.DPI_PORT_STAT_ADMITTED p) 0).cutFrame p).setIp p
    fun x => { x with asking := reason == 4 }).recount.resetPatches p

/-- The ports `ps`, one or a pair, ask for `total` of the budget beside the ports already admitted (R87, R88). -/
def State.grant (s : State) (ps : List Nat) (total : Nat) : State :=
  if s.admittedBut ps + total ≤ 6400000 then
    (s.forAll ps fun u q =>
      ((u.wr (Reg.DPI_PORT_STAT_ADMITTED q) 1).wr (Reg.DPI_PORT_STAT_REASON q) 0).setIp q fun x => { x with asking := false }).recount
  else s.forAll ps fun u q => u.refusePort q 4

/-- A pair asks as one (R83, R87): both halves are admitted and run as a pair from a new frame on, or neither is. -/
def State.grantPair (s : State) (p q total : Nat) : State :=
  let t := (s.cutFrame p).cutFrame q
  (t.grant [min p q, max p q] total).forAll [p, q] fun u x =>
    (u.wr (Reg.DPI_PORT_STAT_PAIRED x) (u.rd (Reg.DPI_PORT_STAT_ADMITTED x))).setIp x fun y => { y with allChanged := true }

/-- A port asks for admission (R88). A pair asks as one, once both halves have video (R83, R87). -/
def State.askAdmission (s : State) (p : Nat) : State :=
  match (s.ip p).msa with
  | none => s
  | some m =>
    if msaReason m ≠ 0 then s.refusePort p (msaReason m)
    else
      match s.pairOf p with
      | none => s.grant [p] (msaCounted m)
      | some q =>
        match (s.ip q).msa with
        | none => s
        | some n =>
          if msaReason n ≠ 0 then s
          else if !sameHalves m n then (s.refusePort p 5).refusePort q 5
          else s.grantPair p q (msaCounted m + msaCounted n)

/-- Refused ports ask again, in port order (R88). -/
def State.askAgain (s : State) : State :=
  s.forAll [0, 1, 2, 3, 4, 5, 6, 7] fun t p => if (t.ip p).asking then t.askAdmission p else t

/-- A port leaves the budget (R88), with the port it runs with as a pair, and loses its frame and its patches (R100, R108); the skew of the pair is over
with it (R84). Refused ports then ask again. -/
def State.leaveBudget (s : State) (p : Nat) : State :=
  let s1 := s.forAll (p :: (s.runsWith p).toList) fun t q =>
    (((t.wr (Reg.DPI_PORT_STAT_ADMITTED q) 0).wr (Reg.DPI_PORT_STAT_PAIRED q) 0).cutFrame q).setIp q
      fun x => { x with asking := false, allChanged := true, skewed := false }
  ((s1.setIp p fun x => { x with msa := none }).recount.resetPatches p).askAgain

/-- A port takes the attributes of its source and asks for admission (R88). -/
def State.startVideo (s : State) (p : Nat) (m : Msa) : State :=
  let s1 := ((((s.wr (Reg.DPI_PORT_TIMING_H_ACTIVE p) m.hActive.toNat).wr (Reg.DPI_PORT_TIMING_V_ACTIVE p) m.vActive.toNat).wr
    (Reg.DPI_PORT_STAT_FORMAT p) m.format).wr (Reg.DPI_PORT_STAT_BPC p) (bpcCode m.bpc)).wr (Reg.DPI_PORT_RATE_RATE p) (msaCounted m)
  let s2 := (s1.wr (Reg.DPI_PORT_STAT_LINK p) 4).setIp p fun x => { x with msa := some m, allChanged := true }
  s2.askAdmission p

/-- VIDEO_START (R88): the first frame with a received MSA on a trained link. -/
def doVideoStart (s : State) (p : Nat) (m : Msa) : State :=
  if s.rd (Reg.DPI_PORT_STAT_LINK p) = 3 then s.startVideo p m else s

def execVideoStart (p : Fin 8) (m : Msa) (s : State) : Host.Outcome State Fault Refusal :=
  .next (s.whenAlive fun u => doVideoStart u p m)

/-- VIDEO_STOP (R88, R100, R108): the port leaves the budget and its link is trained without video. -/
def doVideoStop (s : State) (p : Nat) : State :=
  if s.rd (Reg.DPI_PORT_STAT_LINK p) = 4 then (s.wr (Reg.DPI_PORT_STAT_LINK p) 3).leaveBudget p else s

def execVideoStop (p : Fin 8) (s : State) : Host.Outcome State Fault Refusal :=
  .next (s.whenAlive fun u => doVideoStop u p)

/-- TIMING_CHANGE (R88, R108): the port leaves the budget, resets its patches and asks again with its new attributes. A port that has lost its link sees no
timing until it is trained again. -/
def doTimingChange (s : State) (p : Nat) (m : Msa) : State :=
  if s.rd (Reg.DPI_PORT_STAT_LINK p) = 4 ∧ (s.ip p).msa.isSome then (s.leaveBudget p).startVideo p m else s

def execTimingChange (p : Fin 8) (m : Msa) (s : State) : Host.Outcome State Fault Refusal :=
  .next (s.whenAlive fun u => doTimingChange u p m)

/-! ### Link -/

/-- The next higher swing and pre-emphasis, as ADJUST_REQUEST_LANE0_1 and LANE2_3 hold them: the same for each lane (R81). -/
def adjustByte (level : Nat) : Byte :=
  let l := min (level + 1) 3
  BitVec.ofNat 8 ((l + 4 * l) * 17)

/-- DP_LINK_TRAINING (R81, R88, R108): the lanes adapt; while a figure is below FOM_MIN and the source can go higher, the port requests
more; once the source ends the training the link is trained, and the lane status says so (R80). A port whose video was running leaves the budget. -/
def doDpLinkTraining (s : State) (p : Nat) (r : DpTraining) : State :=
  if !(s.ip p).hpd then s
  else
    let s0 := if s.rd (Reg.DPI_PORT_STAT_LINK p) = 4 then s.leaveBudget p else s
    let s1 := ((((((s0.wr (Reg.DPI_PORT_FOM_FOM_0 p) (r.fom.getD 0 0).toNat).wr (Reg.DPI_PORT_FOM_FOM_1 p) (r.fom.getD 1 0).toNat).wr
      (Reg.DPI_PORT_FOM_FOM_2 p) (r.fom.getD 2 0).toNat).wr (Reg.DPI_PORT_FOM_FOM_3 p) (r.fom.getD 3 0).toNat).wr
      (Reg.DPI_PORT_STAT_LINK p) 2).resetPatches p).setLaneStatus p 0
    let low := r.fom.any fun f => decide (f.toNat < s.ac (Reg.DPI_PORT_CFG_FOM_MIN p))
    if low && !r.highest then
      s1.setIp p fun x => { x with dpcd := Tab.put (Tab.put x.dpcd 0x206 (adjustByte r.level)) 0x207 (adjustByte r.level) }
    else if r.done then
      (((s1.wr (Reg.DPI_PORT_STAT_RATE p) r.rate.toNat).wr (Reg.DPI_PORT_STAT_LANES p) r.lanes.toNat).wr (Reg.DPI_PORT_STAT_LINK p) 3).setLaneStatus p
        r.lanes.toNat
    else s1

def execDpLinkTraining (p : Fin 8) (r : DpTraining) (s : State) : Host.Outcome State Fault Refusal :=
  .next (s.whenAlive fun u => doDpLinkTraining u p r)

/-- LINK_LOSS (R82, R88, R100, R108): the port clears its lane status fields (DPCD 0x00202–0x00204) and raises IRQ_HPD. Its video is lost: it leaves the
budget, the frame being written is cut short, and its patches become not live. -/
def doLinkLoss (s : State) (p : Nat) : State :=
  if 2 < s.rd (Reg.DPI_PORT_STAT_LINK p) then
    ((s.onlyIf (s.rd (Reg.DPI_PORT_STAT_LINK p) == 4) fun t => t.leaveBudget p).setLaneStatus p 0).setIp p fun x => { x with irqHpd := x.irqHpd + 1 }
  else s

def execLinkLoss (p : Fin 8) (s : State) : Host.Outcome State Fault Refusal :=
  .next (s.whenAlive fun u => doLinkLoss u p)

/-! ### Pixel conversion -/

/-- A component of `bpc` bits as 12 bits, by bit replication (R85). -/
def replicate12 (bpc v : Nat) : Nat :=
  if bpc = 6 then (v * 64 ||| v) % 4096
  else if bpc = 8 then (v * 16 ||| v / 16) % 4096
  else if bpc = 10 then (v * 4 ||| v / 256) % 4096
  else v % 4096

/-- The chroma that pixel x of a 4:2:2 line takes, from the chroma of the even pixels (R86). -/
def chroma422 (c : Nat → Nat) (w x : Nat) : Nat :=
  if x % 2 = 0 then c x else if x + 1 < w then (c (x - 1) + c (x + 1) + 1) / 2 else c (x - 1)

/-- One source line as intake pixels (R85, R86). -/
def convertLine (m : Msa) (row : List (Nat × Nat × Nat)) : List Pixel :=
  let w := row.length
  let comp (x : Nat) : Nat × Nat × Nat := row.getD x (0, 0, 0)
  let c0 (x : Nat) := replicate12 m.bpc (comp x).1
  let c2 (x : Nat) := replicate12 m.bpc (comp x).2.2
  (List.range w).map fun x =>
    if m.format.val = 2 then pixelOf (chroma422 c0 w x) (replicate12 m.bpc (comp x).2.1) (chroma422 c2 w x)
    else pixelOf (c0 x) (replicate12 m.bpc (comp x).2.1) (c2 x)

/-! ### Frames -/

/-- The pool surface numbers of a port (R101). -/
def poolOf (p : Nat) : List Nat := [256 + 3 * p, 257 + 3 * p, 258 + 3 * p]

/-- The pool state of a surface (R101). -/
def State.poolState (s : State) (n : Nat) : Nat := (s.surface n).state

/-- The port's latest complete surface (R100). -/
def State.latest (s : State) (p : Nat) : Option Nat := (poolOf p).find? fun n => s.poolState n == 2

/-- The surface a frame is written to: a FREE one, else an OLDER one without pins (R103). A surface with a release pending is not taken (R104). DESIGN
CHOICE (log entry 120): of several the lowest-numbered. -/
def State.takeSurface (s : State) (p : Nat) : Option Nat :=
  let may (n : Nat) : Bool := s.pins n == 0 && !s.releasing n
  match (poolOf p).find? fun n => s.poolState n == 0 && may n with
  | some n => some n
  | none => (poolOf p).find? fun n => s.poolState n == 3 && may n

/-- Where the bales and the bale table of a pool surface stand (R357). -/
def poolData (n : Nat) : Nat :=
  let p := (n - 256) / 3
  let i := (n - 256) % 3
  0x10000000 + (8 * i + p) * 104857600
def poolTable (n : Nat) : Nat :=
  let p := (n - 256) / 3
  let i := (n - 256) % 3
  0x10000000 + 2516582400 + (8 * i + p) * 1048576

/-- The width of the surface a port writes: both halves of a pair (R83). -/
def State.surfaceWidth (s : State) (p : Nat) (m : Msa) : Nat := if s.flag (Reg.DPI_PORT_STAT_PAIRED p) then 2 * m.hActive.toNat else m.hActive.toNat

/-- A change of the skew of a pair beyond two lines, or back to one line or less (R84): beyond, neither half is live, and a frame being written is
discarded. -/
def State.pairSkew (s : State) (p skew : Nat) : State :=
  match s.runsWith p with
  | none => s
  | some q =>
    if 2 < skew ∧ !(s.ip p).skewed then
      s.forAll [p, q] fun t x =>
        (((t.dropWriting x).setIp x fun y => { y with skewed := true }).wr (Reg.DPI_PORT_STAT_REASON x) 6).resetPatches x
    else if skew ≤ 1 ∧ (s.ip p).skewed then
      s.forAll [p, q] fun t x => (t.setIp x fun y => { y with skewed := false }).wr (Reg.DPI_PORT_STAT_REASON x) 0
    else s

/-- SOURCE_FRAME_START (R84 to R86, R103): an admitted port converts the frame and takes a surface for WRITING, or counts the frame as
dropped. The odd half of a pair takes no surface of its own, and a pair beyond its skew discards its frames. A frame of the port that
never ended is cut short. -/
def doSourceFrameStart (s : State) (p : Nat) (f : SourceFrame) : State :=
  match (s.ip p).msa with
  | none => s
  | some m =>
    if !s.flag (Reg.DPI_PORT_STAT_ADMITTED p) then s
    else
      let s0 := (s.pairSkew p f.skew).cutFrame p
      let s1 := s0.setIp p fun x => { x with frame := some (f.rows.map (convertLine m)), frames := (x.frames + 1) % 65536 }
      if (s1.ip p).skewed ∨ (s.flag (Reg.DPI_PORT_STAT_PAIRED p) ∧ p % 2 = 1) then s1
      else match s1.takeSurface p with
        | none => s1.bump (Reg.BAL_POOL_DROPPED p)
        | some n =>
          let s2 := s1.setSurface n fun _ =>
            { state := 1, width := s1.surfaceWidth p m, height := m.vActive.toNat, data := poolData n, table := poolTable n
              frame := (s1.ip p).frames, published := 0 }
          s2.setIp p fun x => { x with writing := some n, reference := s1.latest p }

def execSourceFrameStart (p : Fin 8) (f : SourceFrame) (s : State) : Host.Outcome State Fault Refusal :=
  .next (s.whenAlive fun u => doSourceFrameStart u p f)

/-- The rows of the surface being written: both halves side by side for a pair (R83). -/
def State.surfaceRows (s : State) (p : Nat) : List (List Pixel) :=
  let own := ((s.ip p).frame).getD []
  if s.flag (Reg.DPI_PORT_STAT_PAIRED p) then
    List.zipWith (· ++ ·) own (((s.ip (p + 1)).frame).getD (own.map fun _ => []))
  else own

/-- The fingerprint stored for a bale of a surface (R96). -/
def State.fingerprint (s : State) (n i : Nat) : Nat := leNat (s.dramRead ((s.surface n).table + 16 * i) 8)

/-- Where the change bitmap of a surface stands: after its bale table (R96, log entry 13). -/
def Surface.bitmap (x : Surface) : Nat := x.table + 16 * (balesAcross x.width * balesDown x.height)

/-- Sets or clears the change bit of a bale (R96). -/
def State.setChangeBit (s : State) (n i : Nat) (b : Bool) : State :=
  let a := (s.surface n).bitmap + i / 8
  s.dramWrite a [BitVec.ofNat 8 (natSetBit (s.dramByte a).toNat (i % 8) b)]

def State.changeBit (s : State) (n i : Nat) : Bool := (s.dramByte ((s.surface n).bitmap + i / 8)).toNat.testBit (i % 8)

/-- Stores a bale of a surface at its sector, with its table entry and change bit (R96 to R99). -/
def State.storeBale (s : State) (n i sector : Nat) (ps : List Pixel) (changed : Bool) : State :=
  let b := encodeBale ps
  let x := s.surface n
  let s1 := s.dramWrite (x.data + 64 * sector) b.bytes
  let s2 := s1.dramWrite (x.table + 16 * i) (tableEntry (crc64Pixels ps) sector b.sectors changed.toNat x.frame)
  s2.setChangeBit n i changed

/-- BALE_WRITE (R89, R96 to R99): bale i of the surface that the port is writing. CHANGED is set where the fingerprint differs from the
reference surface's, and everywhere on a first surface. -/
def doBaleWrite (s : State) (p i : Nat) : State :=
  match (s.ip p).writing with
  | none => s
  | some n =>
    let x := s.surface n
    if balesAcross x.width * balesDown x.height ≤ i then s
    else
      let ps := balePixels (s.surfaceRows p) x.width x.height (i % balesAcross x.width) (i / balesAcross x.width)
      let changed := (s.ip p).allChanged || (match (s.ip p).reference with
        | some r => s.fingerprint r i != crc64Pixels ps
        | none => true)
      s.storeBale n i (37 * i) ps changed

def execBaleWrite (p : Fin 8) (i : BitVec 18) (s : State) : Host.Outcome State Fault Refusal :=
  .next (s.whenAlive fun u => doBaleWrite u p i.toNat)

/-! ### Tell-tales -/

/-- The pixels of a patch in row order, when it lies wholly within the frame (R105, R106). -/
def State.patchPixels (s : State) (p t : Nat) : Option (List Pixel) :=
  let x := s.ac (Reg.DPI_TT_POS_X p t)
  let y := s.ac (Reg.DPI_TT_POS_Y p t)
  let w := s.ac (Reg.DPI_TT_CFG_WM1 p t) + 1
  let h := s.ac (Reg.DPI_TT_CFG_HM1 p t) + 1
  match (s.ip p).frame, (s.ip p).msa with
  | some rows, some m =>
    if x + w ≤ m.hActive.toNat ∧ y + h ≤ m.vActive.toNat then
      some ((List.range (w * h)).map fun i => (rows.getD (y + i / w) []).getD (x + i % w) 0)
    else none
  | _, _ => none

/-- What a patch reads of a frame: the CRC-32C in change mode; in counter mode the top 8 bits of channel CH, valid when every pixel
gives the same (R106). -/
def State.patchReading (s : State) (p t : Nat) (ps : List Pixel) : Option Nat :=
  if s.ac (Reg.DPI_TT_CFG_MODE p t) = 0 then some (crc32c (ps.flatMap pixelBytes))
  else
    let rs := ps.map fun px => channelOf (s.ac (Reg.DPI_TT_CFG_CH p t)) px / 16
    if rs.all fun r => r == rs.headD 0 then some (rs.headD 0) else none

/-- The frame qualifies against the base (R106). -/
def State.qualifies (s : State) (p t base r : Nat) : Bool :=
  if s.ac (Reg.DPI_TT_CFG_MODE p t) = 0 then r != base
  else
    let d := (r + 256 - base % 256) % 256
    decide (1 ≤ d) && decide (d ≤ s.ac (Reg.DPI_TT_CFG_MAXSTEP p t))

/-- A qualifying frame (R107): the run goes on if it lies within DEADLINE of the one before, and REARM in a row make the patch LIVE. -/
def State.patchQualified (s : State) (p t : Nat) : State :=
  let gapOk := match (s.patch p t).lastQual with
    | some q => decide (s.now ≤ q + s.ac (Reg.DPI_TT_CFG_DEADLINE p t) * 1000000)
    | none => false
  let run := if gapOk && (s.patch p t).run != 0 then (s.patch p t).run + 1 else 1
  let s1 := (s.setPatch p t fun x => { x with lastQual := some s.now, run := run }).wr (Reg.DPI_TT_STAT_SEEN p t) 1
  if s.ac (Reg.DPI_TT_CFG_REARM p t) ≤ run then s1.wr (Reg.DPI_TT_STAT_LIVE p t) 1 else s1

/-- One patch judges the frame (R106 to R108). The first reading after an event of R108 only sets the base. -/
def State.judgePatch (s : State) (p t : Nat) : State :=
  if !s.acFlag (Reg.DPI_TT_CFG_ENABLE p t) then s
  else match s.patchPixels p t with
    | none => s
    | some ps =>
      match s.patchReading p t ps with
      | none => s
      | some r =>
        let s1 := if s.ac (Reg.DPI_TT_CFG_MODE p t) = 1 then s.wr (Reg.DPI_TT_STAT_COUNT p t) r else s
        let s2 := s1.setPatch p t fun x => { x with base := some r }
        match (s.patch p t).base with
        | none => s2
        | some b => if s.qualifies p t b r then s2.patchQualified p t else s2

/-- SOURCE_FRAME_END (R106): each patch of an admitted port judges the frame, discarded frames included. -/
def doSourceFrameEnd (s : State) (p : Nat) : State :=
  if s.flag (Reg.DPI_PORT_STAT_ADMITTED p) then (s.forAll [0, 1, 2, 3] fun t i => t.judgePatch p i).judgePort p else s

def execSourceFrameEnd (p : Fin 8) (s : State) : Host.Outcome State Fault Refusal :=
  .next (s.whenAlive fun u => doSourceFrameEnd u p)

/-- DEADLINE milliseconds have passed since the patch's last qualifying frame (R107). -/
def State.patchOverdue (s : State) (p t : Nat) : Bool := match (s.patch p t).lastQual with
  | some q => decide (q + s.ac (Reg.DPI_TT_CFG_DEADLINE p t) * 1000000 ≤ s.now)
  | none => true

/-- PATCH_DEADLINE (R107): DEADLINE passed without a qualifying frame. -/
def doPatchDeadline (s : State) (p t : Nat) : State :=
  if s.flag (Reg.DPI_TT_STAT_LIVE p t) && s.patchOverdue p t then
    ((s.wr (Reg.DPI_TT_STAT_LIVE p t) 0).setPatch p t fun x => { x with run := 0 }).judgePort p
  else s

def execPatchDeadline (p : Fin 8) (t : Fin 4) (s : State) : Host.Outcome State Fault Refusal :=
  .next (s.whenAlive fun u => doPatchDeadline u p t)

/-- SURFACE_PUBLISH (R100, R101): the written surface is the port's latest, and the one before is OLDER. -/
def doSurfacePublish (s : State) (p : Nat) : State :=
  match (s.ip p).writing with
  | none => s
  | some n =>
    let s1 := match s.latest p with
      | some o => s.setSurface o fun x => { x with state := 3 }
      | none => s
    let s2 := s1.setSurface n fun x => { x with state := 2, published := s.now }
    s2.setIp p fun x => { x with writing := none, frame := none, allChanged := false }

def execSurfacePublish (p : Fin 8) (s : State) : Host.Outcome State Fault Refusal :=
  .next (s.whenAlive fun u => doSurfacePublish u p)

/-! ### Views -/

/-- Milliseconds since a time, saturating at 0xFFFF; 0xFFFF where there is none. -/
def State.msSince (s : State) (t : Option Nat) : Nat := match t with
  | some x => min ((s.now - x) / 1000000) 0xFFFF
  | none => 0xFFFF

/-! ### The G14 commit -/

/-- The refusal code of a port's pending G14 set: 1 a bad tell-tale field, 2 PAIR on an odd port, 0 good. -/
def dpiRefusal (s : State) (p : Nat) : Nat :=
  let bad (t : Nat) : Bool :=
    let d := s.rd (Reg.DPI_TT_CFG_DEADLINE p t)
    decide (d < 10) || decide (10000 < d) || s.rd (Reg.DPI_TT_CFG_REARM p t) == 0 || s.rd (Reg.DPI_TT_CFG_MAXSTEP p t) == 0
      || s.rd (Reg.DPI_TT_CFG_CH p t) == 3
  if [0, 1, 2, 3].any bad then 1 else if p % 2 = 1 ∧ s.flag (Reg.DPI_PORT_CFG_PAIR p) then 2 else 0

/-- The G14 words of a port, active copies. -/
def State.dpiActive (s : State) (p : Nat) : List Word :=
  s.actWord (Reg.DPI_PORT_CFG_ENABLE p) :: ([0, 1, 2, 3].flatMap fun t => [s.actWord (Reg.DPI_TT_POS_X p t), s.actWord (Reg.DPI_TT_CFG_ENABLE p t)])

/-- What a port does once its G14 fields are copied (R79, R104, R108); `old` is the state before the copy. -/
def State.dpiCommitted (s old : State) (p : Nat) : State :=
  if s.dpiActive p = old.dpiActive p then s
  else
    let s1 := s.resetPatches p
    let off := old.acFlag (Reg.DPI_PORT_CFG_ENABLE p) && !s.acFlag (Reg.DPI_PORT_CFG_ENABLE p)
    let s2 := if off then
        ((poolOf p).foldl (fun t n => if (Tab.find t.intake.surfaces n).isSome then (t.releaseSurface n).1 else t)
          (if s.rd (Reg.DPI_PORT_STAT_LINK p) = 4 then s1.leaveBudget p else s1))
      else s1
    s2.setHpd p

end Sys2Proof.Machine
end

