-- ==== Sys2Proof/Machine/Canvas.lean ====
section
/-! DEFINITION. The canvas of a Sender and its map of Tiles (R110 to R115, R153 to R158): geometry, the canvas store, push entries. -/

namespace Sys2Proof.Machine

/-! ### Geometry -/

def State.wb (s : State) : Nat := s.rd Reg.LOOM_GEOM_WBM1 + 1
def State.hb (s : State) : Nat := s.rd Reg.LOOM_GEOM_HBM1 + 1
def State.swb (s : State) : Nat := s.rd Reg.LOOM_GEOM_SWB

/-- Every block of the canvas, in raster order (R113). -/
def State.blocks (s : State) : List Nat := List.range (s.wb * s.hb)

/-- Column and row of a block. -/
def State.blockCol (s : State) (b : Nat) : Nat := b % s.wb
def State.blockRow (s : State) (b : Nat) : Nat := b / s.wb

/-- The stripe of a block (R111). -/
def State.stripeOf (s : State) (b : Nat) : Nat := s.blockCol b / max s.swb 1

/-- Two half-open intervals meet. -/
def meets (a n b m : Nat) : Bool := decide (a < b + m) && decide (b < a + n)

/-- A rectangle in canvas pixels. -/
structure Rect where
  x : Nat
  y : Nat
  w : Nat
  h : Nat
deriving DecidableEq, Repr

/-- A block intersects a rectangle in canvas pixels. -/
def State.blockMeets (s : State) (b : Nat) (r : Rect) : Bool :=
  meets (32 * s.blockCol b) 32 r.x r.w && meets (16 * s.blockRow b) 16 r.y r.h

/-- Two rectangles overlap. -/
def Rect.overlaps (a b : Rect) : Bool := meets a.x a.w b.x b.w && meets a.y a.h b.y b.h

/-! ### The canvas store -/

/-- The canvas bale table and the slots (R114). -/
def State.canvasTable (s : State) : Nat := s.ac Reg.LOOM_STORE_BASE * 65536
def State.canvasData (s : State) : Nat := s.canvasTable + (s.wb * s.hb * 16 + 65535) / 65536 * 65536
def State.entryAddr (s : State) (b : Nat) : Nat := s.canvasTable + 16 * b

/-- The bytes of the store (R114, R358): table, slot 0 and COUNT slots, by the pending fields. -/
def State.pendingStore (s : State) : Nat × Nat :=
  (s.rd Reg.LOOM_STORE_BASE * 65536, (s.wb * s.hb * 16 + 65535) / 65536 * 65536 + (s.rd Reg.LOOM_SLOTS_COUNT + 1) * 2368)

/-- Fields of a canvas table entry (R96, R113). -/
def State.canvasFingerprint (s : State) (b : Nat) : Nat := leNat (s.dramRead (s.entryAddr b) 8)
def State.canvasSector (s : State) (b : Nat) : Nat := leNat (s.dramRead (s.entryAddr b + 8) 4)
def State.canvasSize (s : State) (b : Nat) : Nat := leNat (s.dramRead (s.entryAddr b + 12) 1)
def State.canvasFrame (s : State) (b : Nat) : Nat := leNat (s.dramRead (s.entryAddr b + 14) 2)

/-- The stored bale of a block, and its pixels (R113). -/
def State.canvasBale (s : State) (b : Nat) : Bytes := s.dramRead (s.canvasData + 64 * s.canvasSector b) (64 * s.canvasSize b)
def State.canvasPixels (s : State) (b : Nat) : List Pixel := (decodeBale (s.canvasBale b)).getD (List.replicate 512 0)

/-- A staged colour of 10 bits as 12 bits (R141, R194). -/
def conv10 (v : Nat) : Nat := (v * 4 ||| v / 256) % 4096

/-! ### Tiles -/

/-- The key of a Tile: chain × 64 + position. -/
def tileKey (c p : Nat) : Nat := c * 64 + p
def State.tile (s : State) (c p : Nat) : TileRec := Tab.get s.dmg.tiles (tileKey c p)
def State.setTile (s : State) (c p : Nat) (f : TileRec → TileRec) : State :=
  { s with dmg := { s.dmg with tiles := Tab.upd s.dmg.tiles (tileKey c p) f } }

/-- The committed map entry of a Tile (R157). -/
def State.tileRect (s : State) (c p : Nat) : Rect :=
  ⟨s.ac (Reg.DMG_TILE_POS_X c p), s.ac (Reg.DMG_TILE_POS_Y c p), s.ac (Reg.DMG_TILE_SIZE_WM1 c p) + 1, s.ac (Reg.DMG_TILE_SIZE_HM1 c p) + 1⟩
def State.tileOn (s : State) (c p : Nat) : Bool := s.acFlag (Reg.DMG_TILE_SIZE_ENABLE c p)

/-- Positions 0 to 62 of a chain. -/
def positions : List Nat := List.range 63

/-- The enabled Tiles of a chain, and of the Sender. -/
def State.chainTiles (s : State) (c : Nat) : List Nat := positions.filter (s.tileOn c)
def State.allTiles (s : State) : List (Nat × Nat) := [0, 1, 2, 3].flatMap fun c => (s.chainTiles c).map fun p => (c, p)

/-- The blocks that a Tile's rectangle intersects (R154, R158). -/
def State.tileBlocks (s : State) (c p : Nat) : List Nat := s.blocks.filter fun b => s.blockMeets b (s.tileRect c p)

/-! ### Push entries -/

def State.queue (s : State) (c : Nat) : List PushEntry := Tab.get s.dmg.queues c
def State.setQueue (s : State) (c : Nat) (q : List PushEntry) : State := { s with dmg := { s.dmg with queues := Tab.put s.dmg.queues c q } }

/-- Enters a push of the block as pass `gen` wrote it (R156): one that is already queued for the Tile and block keeps its place and its damage time, and
the earlier of the two passes. -/
def State.enterEntry (s : State) (c p b time gen : Nat) : State :=
  let here (e : PushEntry) : Bool := e.pos == p && e.block == b
  if (s.queue c).any here then
    s.setQueue c ((s.queue c).map fun e => if here e && later16 e.gen gen then { e with gen := gen } else e)
  else s.setQueue c (s.queue c ++ [⟨p, b, time, gen⟩])

/-- Enters a push that no pass has caused (R154, R171, R195): the Tile lacks the block in the window under way, so that a pass later than that window
which has written the block withdraws the entry from it (R160). -/
def State.enterPush (s : State) (c p b time : Nat) : State :=
  let f := s.canvasFrame b
  s.enterEntry c p b time (if later16 f s.dmg.window then s.dmg.window % 65536 else f)

/-- A changed block (R153): its damage bit, and one entry for each enabled Tile it intersects. -/
def State.damageBlock (s : State) (b time : Nat) : State :=
  let s1 := { s with
    dmg := { s.dmg with damage := if s.dmg.damage.contains b then s.dmg.damage else b :: s.dmg.damage }
    hmk := { s.hmk with changed := s.hmk.changed ++ [(b, s.canvasFrame b)] } }
  s1.forAll (s.allTiles.filter fun cp => s.blockMeets b (s.tileRect cp.1 cp.2)) fun t cp => t.enterEntry cp.1 cp.2 b time (s.canvasFrame b)

/-- Enters a push for every block that an enabled Tile's rectangle intersects (R154, R156). -/
def State.enterAll (s : State) (c p time : Nat) : State :=
  s.forAll (if s.tileOn c p then s.tileBlocks c p else []) fun t b => t.enterPush c p b time

/-! ### Guarded regions and pieces -/

/-- A guarded-region entry (R178). -/
structure RegionRec where
  num : Nat
  enabled : Bool
  early : Bool
  cls : Nat
  deadline : Nat
  x : Nat
  y : Nat
  w : Nat
  h : Nat
deriving DecidableEq, Repr

/-- The 256 entries, read through `rd`: the active or the pending copies. -/
def regionsBy (rd : Fld → Nat) : List RegionRec :=
  (List.range 256).map fun r =>
    let i := r / 64
    let k := r % 64
    ⟨r, rd (Reg.HMK_REG_CFG_ENABLE i k) == 1, rd (Reg.HMK_REG_CFG_EARLY i k) == 1, rd (Reg.HMK_REG_CFG_CLASS i k),
      rd (Reg.HMK_REG_CFG_DEADLINE i k), rd (Reg.HMK_REG_X_X i k), rd (Reg.HMK_REG_Y_Y i k),
      32 * (rd (Reg.HMK_REG_SIZE_WBM1 i k) + 1), 16 * (rd (Reg.HMK_REG_SIZE_HBM1 i k) + 1)⟩

/-- An entry that is guarded: enabled, of class A or B (R178). -/
def RegionRec.guarded (r : RegionRec) : Bool := r.enabled && (r.cls == 1 || r.cls == 2)

/-- The enabled map entries, read through `rd`: chain, position, rectangle (R157). -/
def tilesBy (rd : Fld → Nat) : List (Nat × Nat × Rect) :=
  ([0, 1, 2, 3].flatMap fun c => positions.map fun p => (c, p)).filterMap fun cp =>
    if rd (Reg.DMG_TILE_SIZE_ENABLE cp.1 cp.2) = 1 then
      some (cp.1, cp.2, ⟨rd (Reg.DMG_TILE_POS_X cp.1 cp.2), rd (Reg.DMG_TILE_POS_Y cp.1 cp.2),
        rd (Reg.DMG_TILE_SIZE_WM1 cp.1 cp.2) + 1, rd (Reg.DMG_TILE_SIZE_HM1 cp.1 cp.2) + 1⟩)
    else none

/-- The intersection of a region, moved to canvas coordinates, with a Tile's rectangle (R180); none where they do not meet. -/
def pieceRect (ox oy : Nat) (r : RegionRec) (t : Rect) : Option Rect :=
  let x0 : Int := max ((r.x : Int) - ox) t.x
  let x1 : Int := min ((r.x : Int) - ox + r.w) (t.x + t.w : Nat)
  let y0 : Int := max ((r.y : Int) - oy) t.y
  let y1 : Int := min ((r.y : Int) - oy + r.h) (t.y + t.h : Nat)
  if x0 < x1 ∧ y0 < y1 then some ⟨x0.toNat, y0.toNat, (x1 - x0).toNat, (y1 - y0).toNat⟩ else none

/-- The pieces at one Tile, in ascending order of region number (R180). -/
def piecesOf (ox oy : Nat) (rs : List RegionRec) (t : Nat × Nat × Rect) : List PieceRec :=
  ((rs.filter RegionRec.guarded).filterMap fun r => (pieceRect ox oy r t.2.2).map fun q => (r, q)).mapIdx fun n x =>
    ⟨t.1, t.2.1, n, x.1.num, x.1.cls, x.1.deadline, x.2.x - t.2.2.x, x.2.y - t.2.2.y, x.2.w, x.2.h, x.2.x, x.2.y⟩

/-- Every piece of the Sender (R180). -/
def piecesBy (ox oy : Nat) (rd : Fld → Nat) : List PieceRec := (tilesBy rd).flatMap (piecesOf ox oy (regionsBy rd))

/-- The part of a wall-canvas rectangle inside the Sender's rectangle meets a block, both taken in canvas pixels (R110, R115). -/
def State.coveredBy (s : State) (b : Nat) (r : Rect) : Bool :=
  let c := s.charter
  let x0 := max r.x c.originX
  let x1 := min (r.x + r.w) (c.originX + c.width)
  let y0 := max r.y c.originY
  let y1 := min (r.y + r.h) (c.originY + c.height)
  decide (x0 < x1) && decide (y0 < y1) && s.blockMeets b ⟨x0 - c.originX, y0 - c.originY, x1 - x0, y1 - y0⟩

/-- The class of a block (R135, R155): the highest class of the guarded regions that contain any of its pixels; 0 C, 1 B, 2 A. -/
def State.blockClass (s : State) (b : Nat) : Nat :=
  (((regionsBy s.ac).filter fun r => r.guarded && s.coveredBy b ⟨r.x, r.y, r.w, r.h⟩).map (·.cls)).foldl max 0

/-- The guard table of a Tile as GUARD carries it (R187). -/
def PieceTable.guardEntries (t : PieceTable) (c p : Nat) : List GuardEntry :=
  (t.pieces.filter fun x => x.chain == c && x.pos == p).map fun x => ⟨x.region, x.cls, x.deadline, x.x, x.y, x.w, x.h⟩

def GuardEntry.bytes (e : GuardEntry) : Bytes :=
  leBytes 1 e.region ++ leBytes 1 e.cls ++ leBytes 2 e.deadline ++ leBytes 2 e.x ++ leBytes 2 e.y ++ leBytes 2 e.w ++ leBytes 2 e.h
    ++ zeros 4

/-- The body of a GUARD message (R187). -/
def State.guardBody (s : State) (t : PieceTable) (c p : Nat) : Bytes :=
  let es := t.guardEntries c p
  let r := s.tileRect c p
  leBytes 1 0x10 ++ leBytes 1 es.length ++ leBytes 2 t.version ++ leBytes 4 (s.actWord Reg.HMK_HATCH_A_C0).toNat
    ++ leBytes 4 (s.actWord Reg.HMK_HATCH_B_C0).toNat ++ leBytes 1 ((r.x + s.charter.originX + r.y + s.charter.originY) % 8) ++ zeros 3
    ++ es.flatMap GuardEntry.bytes

/-- Sends a Tile its guard table (R187). -/
def State.sendGuard (s : State) (t : PieceTable) (c p : Nat) : State :=
  if s.ordersTile c p && s.tileOn c p then s.sendOrder c .mgmt (s.tileAddr c p) (s.guardBody t c p) else s

/-- A full re-push of an enabled Tile, with its guard table (R154, R187). -/
def State.fullRepush (s : State) (c p time : Nat) : State :=
  s.onlyIf (s.tileOn c p) fun t => (t.enterAll c p time).sendGuard t.tableNow c p

/-- A full re-push of every enabled Tile. -/
def State.repushAll (s : State) (time : Nat) : State := s.forAll s.allTiles fun t cp => t.fullRepush cp.1 cp.2 time

/-- REPUSH (R154): a write of DMG_REPUSH that names a chain and a position; position 63 means every Tile of the chain. Only enabled Tiles
have entries. -/
def doRepush (s : State) (c p : Nat) : State :=
  if s.isSender then
    s.forAll ((s.chainTiles c).filter fun x => p == 63 || x == p) fun t x => t.fullRepush c x s.now
  else s

def execRepush (c : Port) (p : BitVec 6) (s : State) : Host.Outcome State Fault Refusal :=
  .next (s.whenAlive fun u => doRepush u c p.toNat)

/-- REPUSH_ALL (R154): a write of DMG_REPUSH with ALL set. -/
def doRepushAll (s : State) : State := if s.isSender then s.repushAll s.now else s

def execRepushAll (s : State) : Host.Outcome State Fault Refusal :=
  .next (s.whenAlive fun u => doRepushAll u)

end Sys2Proof.Machine
end

