-- ==== Sys2Proof/Machine/Loom.lean ====
section
/-! DEFINITION. Loom composition (R110 to R147 of spec/04_loom_composition.md): sampling, colour, passes, holds and hatch of layers, slice fencing,
and the G0 commit. -/

namespace Sys2Proof.Machine

def State.layer (s : State) (n : Nat) : LayerSt := Tab.get s.loom.layers n
def State.setLayer (s : State) (n : Nat) (f : LayerSt → LayerSt) : State :=
  { s with loom := { s.loom with layers := Tab.upd s.loom.layers n f } }

/-- The 64 layers, lowest first (R117). -/
def layerNumbers : List Nat := List.range 64

/-- The enabled layers of the committed set. -/
def State.layersOn (s : State) : List Nat := layerNumbers.filter fun n => s.acFlag (Reg.LOOM_L_CTRL_ENABLE n)

/-- A layer's destination rectangle in wall-canvas pixels. -/
def State.dstRect (s : State) (n : Nat) : Rect :=
  ⟨s.ac (Reg.LOOM_L_DST_X_X n), s.ac (Reg.LOOM_L_DST_Y_Y n), s.ac (Reg.LOOM_L_DST_SIZE_WM1 n) + 1, s.ac (Reg.LOOM_L_DST_SIZE_HM1 n) + 1⟩

/-- A rectangle contains a point. -/
def Rect.contains (r : Rect) (x y : Nat) : Bool := decide (r.x ≤ x) && decide (x < r.x + r.w) && decide (r.y ≤ y) && decide (y < r.y + r.h)

/-- A block lies under a layer: the layer's rectangle meets the block, padding pixels included. -/
def State.under (s : State) (b n : Nat) : Bool :=
  let r := s.dstRect n
  meets (s.charter.originX + 32 * s.blockCol b) 32 r.x r.w && meets (s.charter.originY + 16 * s.blockRow b) 16 r.y r.h

/-- A block is covered (R115). -/
def State.covered (s : State) (b : Nat) : Bool := s.layersOn.any fun n => s.coveredBy b (s.dstRect n)

/-! ### Sampling -/

/-- The source position of a local column or row, in 1/65,536 pixel (R119). -/
def srcPos (u step : Nat) (phase : Int) : Int := (((2 * u + 1) * step / 2 : Nat) : Int) - 32768 + phase

/-- Tap number and weight of a position (R119). -/
def tapOf (p : Int) : Int × Nat := (p / 65536, (p / 256 % 256).toNat)

/-- A tap column or row limited to the crop (R120). -/
def clampTap (i : Int) (m : Nat) : Nat := (clampInt 0 m i).toNat

/-- The bilinear sample of four taps (R121): 14 bits. -/
def bilinear (a b c d fx fy : Nat) : Nat :=
  let h0 := a * (256 - fx) + b * fx
  let h1 := c * (256 - fx) + d * fx
  (h0 * (256 - fy) + h1 * fy + 8192) / 16384

/-- The four taps of a wall-canvas pixel in a layer's surface, upper left, upper right, lower left, lower right, and the two weights
(R119, R120). -/
def State.taps (s : State) (n x y : Nat) : List (Nat × Nat) × Nat × Nat :=
  let r := s.dstRect n
  let (ix, fx) := tapOf (srcPos (x - r.x) (s.ac (Reg.LOOM_L_STEP_X_STEP n)) (s.acInt (Reg.LOOM_L_PHASE_PX n)))
  let (iy, fy) := tapOf (srcPos (y - r.y) (s.ac (Reg.LOOM_L_STEP_Y_STEP n)) (s.acInt (Reg.LOOM_L_PHASE_PY n)))
  let wm := s.ac (Reg.LOOM_L_SRC_SIZE_WM1 n)
  let hm := s.ac (Reg.LOOM_L_SRC_SIZE_HM1 n)
  let cx (i : Int) := s.ac (Reg.LOOM_L_SRC_POS_X n) + clampTap i wm
  let cy (i : Int) := s.ac (Reg.LOOM_L_SRC_POS_Y n) + clampTap i hm
  ([(cx ix, cy iy), (cx (ix + 1), cy iy), (cx ix, cy (iy + 1)), (cx (ix + 1), cy (iy + 1))], fx, fy)

/-- A surface position beyond the surface's size reads the nearest edge pixel (R120); its bale and its place within the bale. -/
def Surface.locate (f : Surface) (x y : Nat) : Nat × Nat :=
  let x := min x (f.width - 1)
  let y := min y (f.height - 1)
  (y / 16 * balesAcross f.width + x / 32, y % 16 * 32 + x % 32)

/-- The stored bytes of a bale of a surface (R96). -/
def State.baleBytes (s : State) (f i : Nat) : Bytes :=
  let x := s.surface f
  s.dramRead (x.data + 64 * leNat (s.dramRead (x.table + 16 * i + 8) 4)) (64 * leNat (s.dramRead (x.table + 16 * i + 12) 1))

/-- The pixel of a surface at a position; a bale that does not decode reads 0 (its block is held, R138). -/
def State.surfacePixel (s : State) (f x y : Nat) : Pixel :=
  let (i, k) := (s.surface f).locate x y
  ((decodeBale (s.baleBytes f i)).getD []).getD k 0

/-- The alpha of one tap, 12 bits (R122). -/
def State.tapAlpha (s : State) (n x y : Nat) (px : Pixel) : Nat :=
  match s.ac (Reg.LOOM_L_CTRL_ALPHA_MODE n) with
  | 1 => if px = pixelOf (s.ac (Reg.LOOM_L_KEY0_K0 n)) (s.ac (Reg.LOOM_L_KEY0_K1 n)) (s.ac (Reg.LOOM_L_KEY1_K2 n)) then 0 else 4095
  | 2 => channelOf (s.ac (Reg.LOOM_L_ALPHA_MATTE_CH n)) (s.surfacePixel (s.ac (Reg.LOOM_L_ALPHA_MATTE n)) x y)
  | _ => 4095

/-- The alpha of a pixel, 0 to 4,096, from its interpolated 14-bit value and CONST (R122). -/
def alphaOf (sa const : Nat) : Nat :=
  let ap := (sa + 2) / 4
  let ap := ap + ap / 2048
  (ap * const + 2048) / 4096

/-! ### Colour -/

/-- The input LUT on a table (R123). -/
def inputLut (t : Nat → Nat) (w : Nat) : Nat :=
  let i := w / 16
  let f := w % 16
  let next : Int := if i < 1023 then t (i + 1) else clampInt 0 1048575 (2 * (t 1023 : Int) - t 1022)
  ((t i : Int) + ((next - t i) * f + 8) / 16).toNat

/-- The input LUT of a layer for channel c (R123, R125). -/
def State.layerLut (s : State) (n c w : Nat) : Nat :=
  if s.acFlag (Reg.LOOM_L_CTRL_ILUT_BYPASS n) then w * 64
  else inputLut (fun i => s.ac (Reg.LOOM_ILUT_ENTRY (3 * s.ac (Reg.LOOM_L_CTRL_ILUT n) + c) i)) w

/-- One row of the matrix (R124). -/
def matrixRow (c0 c1 c2 off : Int) (v : Nat × Nat × Nat) : Nat :=
  (clampInt 0 1048575 ((c0 * v.1 + c1 * v.2.1 + c2 * v.2.2 + 2048) / 4096 + off * 64)).toNat

/-- The matrix of a layer (R124). -/
def State.layerMatrix (s : State) (n : Nat) (v : Nat × Nat × Nat) : Nat × Nat × Nat :=
  (matrixRow (s.acInt (Reg.LOOM_L_M0_C00 n)) (s.acInt (Reg.LOOM_L_M0_C01 n)) (s.acInt (Reg.LOOM_L_M1_C02 n)) (s.acInt (Reg.LOOM_L_M1_OFF0 n)) v,
   matrixRow (s.acInt (Reg.LOOM_L_M2_C10 n)) (s.acInt (Reg.LOOM_L_M2_C11 n)) (s.acInt (Reg.LOOM_L_M3_C12 n)) (s.acInt (Reg.LOOM_L_M3_OFF1 n)) v,
   matrixRow (s.acInt (Reg.LOOM_L_M4_C20 n)) (s.acInt (Reg.LOOM_L_M4_C21 n)) (s.acInt (Reg.LOOM_L_M5_C22 n)) (s.acInt (Reg.LOOM_L_M5_OFF2 n)) v)

/-- The linear value of a layer from its three samples (R125). -/
def State.layerLinear (s : State) (n : Nat) (v : Nat × Nat × Nat) : Nat × Nat × Nat :=
  if s.acFlag (Reg.LOOM_L_CTRL_MATRIX_FIRST n) then
    let m := s.layerMatrix n (v.1 * 64, v.2.1 * 64, v.2.2 * 64)
    (s.layerLut n 0 (m.1 / 64), s.layerLut n 1 (m.2.1 / 64), s.layerLut n 2 (m.2.2 / 64))
  else s.layerMatrix n (s.layerLut n 0 v.1, s.layerLut n 1 v.2.1, s.layerLut n 2 v.2.2)

/-- One blend step (R126). -/
def blend (alpha v acc : Nat) : Nat := (alpha * v + (4096 - alpha) * acc + 2048) / 4096

/-- The output LUT on a table (R127). -/
def outputLut (o : Nat → Nat) (acc : Nat) : Nat :=
  let i := acc / 256
  let f := acc % 256
  let next : Int := if i < 4095 then o (i + 1) else clampInt 0 4095 (2 * (o 4095 : Int) - o 4094)
  (clampInt 0 4095 ((o i : Int) + ((next - o i) * f + 128) / 256)).toNat

/-- The output LUT of channel c (R127). -/
def State.wallCode (s : State) (c acc : Nat) : Nat := outputLut (fun e => s.ac (Reg.LOOM_OLUT_ENTRY (4 * c + e / 1024) (e % 1024))) acc

/-- The background accumulator (R126). -/
def State.background (s : State) : Nat × Nat × Nat := (s.ac Reg.LOOM_BG_C0 * 1024, s.ac Reg.LOOM_BG_C1 * 1024, s.ac Reg.LOOM_BG_C2 * 1024)

/-- Wall codes of an accumulator (R127). -/
def State.codes (s : State) (a : Nat × Nat × Nat) : Pixel := pixelOf (s.wallCode 0 a.1) (s.wallCode 1 a.2.1) (s.wallCode 2 a.2.2)

/-- What a layer adds to an accumulator at a wall-canvas pixel (R119 to R126). -/
def State.layerOnto (s : State) (n f x y : Nat) (acc : Nat × Nat × Nat) : Nat × Nat × Nat :=
  let (ts, fx, fy) := s.taps n x y
  let px := ts.map fun t => s.surfacePixel f t.1 t.2
  let al := ts.map fun t => s.tapAlpha n t.1 t.2 (s.surfacePixel f t.1 t.2)
  let smp (l : List Nat) := bilinear (l.getD 0 0) (l.getD 1 0) (l.getD 2 0) (l.getD 3 0) fx fy
  let v := s.layerLinear n (smp (px.map pixelR), smp (px.map pixelG), smp (px.map pixelB))
  let a := alphaOf (smp al) (s.ac (Reg.LOOM_L_ALPHA_CONST n))
  (blend a v.1 acc.1, blend a v.2.1 acc.2.1, blend a v.2.2 acc.2.2)

/-- The hatch colour at a wall-canvas pixel (R141, R194). -/
def State.hatchPixel (s : State) (x y : Nat) : Pixel :=
  if (x + y) % 8 < 4 then pixelOf (conv10 (s.ac Reg.HMK_HATCH_A_C0)) (conv10 (s.ac Reg.HMK_HATCH_A_C1)) (conv10 (s.ac Reg.HMK_HATCH_A_C2))
  else pixelOf (conv10 (s.ac Reg.HMK_HATCH_B_C0)) (conv10 (s.ac Reg.HMK_HATCH_B_C1)) (conv10 (s.ac Reg.HMK_HATCH_B_C2))

/-- A layer is hatched in the pass under way. -/
def State.hatched (s : State) (n : Nat) : Bool := s.flag (Reg.LOOM_L_STAT_HATCH n)

/-- The wall code of one canvas pixel (R126, R127, R141). -/
def State.canvasPixel (s : State) (cx cy : Nat) : Pixel :=
  let x := s.charter.originX + cx
  let y := s.charter.originY + cy
  let here := s.layersOn.filter fun n => (s.dstRect n).contains x y
  if here.any s.hatched then s.hatchPixel x y
  else s.codes (here.foldl (fun acc n => match (s.layer n).held with
    | some f => s.layerOnto n f x y acc
    | none => acc) s.background)

/-- The 512 wall codes of a block (R113). -/
def State.composeBlock (s : State) (b : Nat) : List Pixel :=
  (List.range 512).map fun i => s.canvasPixel (32 * s.blockCol b + i % 32) (16 * s.blockRow b + i / 32)

/-- The bales that a layer reads for a block: surface and bale (R138). -/
def State.layerBales (s : State) (n b : Nat) : List (Nat × Nat) :=
  match (s.layer n).held with
  | none => []
  | some f =>
    let pts := ((List.range 512).map fun i => (s.charter.originX + 32 * s.blockCol b + i % 32, s.charter.originY + 16 * s.blockRow b + i / 32)).filter
      fun p => (s.dstRect n).contains p.1 p.2
    let ts := pts.flatMap fun p => (s.taps n p.1 p.2).1
    let m := s.ac (Reg.LOOM_L_ALPHA_MATTE n)
    ((ts.map fun t => (f, ((s.surface f).locate t.1 t.2).1)) ++
      (if s.ac (Reg.LOOM_L_CTRL_ALPHA_MODE n) = 2 then ts.map fun t => (m, ((s.surface m).locate t.1 t.2).1) else [])).dedup

/-- Cycles a block costs (R136). -/
def blockCycles (layers : Nat) : Nat := if layers = 0 then 32 else if layers ≤ 4 then 512 else if layers ≤ 8 then 1024 else 2048

/-! ### The canvas store in a pass -/

/-- Writes a block's bale to its slot and its table entry; CHANGED, and with it a push entry for each Tile, where the fingerprint differs
(R113, R116, R153). -/
def State.storeBlock (s : State) (b : Nat) (ps : List Pixel) : State :=
  let slot := Tab.get s.loom.slots b
  let bale := encodeBale ps
  let fp := crc64Pixels ps
  let changed := s.canvasFingerprint b != fp
  let s1 := s.dramWrite (s.canvasData + slot * 2368) bale.bytes
  let s2 := s1.dramWrite (s.entryAddr b) (tableEntry fp (slot * 37) bale.sectors changed.toNat (s.rd Reg.LOOM_PASS_GEN % 65536))
  if changed then s2.damageBlock b s.now else s2

/-- The background bale (R115). -/
def State.bgPixels (s : State) : List Pixel := List.replicate 512 (s.codes s.background)

/-- Slot 0 takes the background bale (R114, R115). -/
def State.writeSlot0 (s : State) : State := s.dramWrite s.canvasData (encodeBale s.bgPixels).bytes

/-- An uncovered block's entry points to slot 0 (R115), stamped with generation `g`; a changed fingerprint enters its pushes. -/
def State.uncoverBlock (s : State) (b g : Nat) : State :=
  let fp := crc64Pixels s.bgPixels
  let changed := s.canvasFingerprint b != fp
  let s1 := s.dramWrite (s.entryAddr b) (tableEntry fp 0 (encodeBale s.bgPixels).sectors changed.toNat (g % 65536))
  if changed then s1.damageBlock b s.now else s1

/-- A block is held for the next pass, and the pass is unclean for the layers over it (R137). -/
def State.holdBlock (s : State) (b : Nat) : State :=
  { s with loom := { s.loom with
      dirty := s.loom.dirty.filter fun x => x != b
      carried := if s.loom.carried.contains b then s.loom.carried else s.loom.carried ++ [b]
      unclean := (s.loom.unclean ++ (s.layersOn.filter (s.under b))).dedup
      heldCount := s.loom.heldCount + 1 } }

/-! ### Slices -/

def State.fenced (s : State) (i : Nat) : Bool := s.flag (Reg.LOOM_SLICE_STAT_FENCED i)
def sliceNumbers : List Nat := List.range 16

/-- The slice that serves a stripe. -/
def State.server (s : State) (stripe : Nat) : Nat := (sliceNumbers.find? fun i => s.bit (Reg.LOOM_SLICE_STAT_SERVES i) stripe).getD stripe

/-- Stripes that a slice serves. -/
def State.stripesOf (s : State) (i : Nat) : List Nat := sliceNumbers.filter fun t => s.bit (Reg.LOOM_SLICE_STAT_SERVES i) t

/-- The unfenced slice that serves the fewest stripes, the lowest number on a tie (R145). -/
def State.leastLoaded (s : State) : Option Nat :=
  (sliceNumbers.filter fun i => !s.fenced i).foldl (fun best i => match best with
    | none => some i
    | some b => if (s.stripesOf i).length < (s.stripesOf b).length then some i else best) none

/-- Marks every block of a stripe dirty for the coming pass (R133, R145). -/
def State.markStripe (s : State) (t : Nat) : State :=
  { s with loom := { s.loom with marked := s.loom.marked ++ s.blocks.filter fun b => s.stripeOf b == t } }

/-- Record 0x8504 of a slice (R147): 0 a fence, 1 a transfer, 2 the end of a forced fence; and the stripe. -/
def State.fenceRecord (s : State) (kind i t : Nat) : State := s.raise (srcOf 1 1 (i + 1)) 0x8504 (kind * 256 + i * 16 + t)

/-- Moves a stripe to a slice, with its record (R145, R147). -/
def State.moveStripe (s : State) (t i : Nat) : State :=
  let o := s.server t
  if o = i then s
  else (((s.wrBit (Reg.LOOM_SLICE_STAT_SERVES o) t false).wrBit (Reg.LOOM_SLICE_STAT_SERVES i) t true).markStripe t).fenceRecord 1 i t

/-- A slice is fenced through LOOM_CFG.FORCE in the committed set (R147). -/
def State.forcedNow (s : State) (i : Nat) : Bool := (s.ac Reg.LOOM_CFG_FORCE).testBit i

/-- A fault of R144 fences a slice at this boundary. -/
def State.faultDue (s : State) (i : Nat) : Bool := (s.loom.toFence.any fun x => x.1 == i) && !s.loom.faulted.contains i

/-- The fences of one slice at a boundary (R144, R147): each fence that begins and each forced fence that ends has its record; the slice stays fenced
while either holds it. -/
def State.fenceSlice (s : State) (i : Nat) : State :=
  let was := s.flag (Reg.LOOM_SLICE_STAT_FORCED i)
  let forced := s.forcedNow i
  let due := s.faultDue i
  let s1 := (s.wrFlag (Reg.LOOM_SLICE_STAT_FORCED i) forced).onlyIf (forced && !was) fun t => t.fenceRecord 0 i i
  let s2 := s1.onlyIf due fun t =>
    let parity := t.loom.toFence.contains (i, true)
    let u := (t.onlyIf parity fun v => v.wr (Reg.LOOM_SLICE_STAT_PARITY i) 1).onlyIf (t.loom.toFence.contains (i, false)) fun v =>
      v.wr (Reg.LOOM_SLICE_STAT_TEST_FAIL i) 1
    ({ u with loom := { u.loom with faulted := i :: u.loom.faulted } } : State).fenceRecord 0 i i
  let s3 := s2.onlyIf (was && !forced) fun t => t.fenceRecord 2 i i
  let fenced := forced || s3.loom.faulted.contains i
  (s3.wrFlag (Reg.LOOM_SLICE_STAT_FENCED i) fenced).wrBit Reg.LOOM_FENCE_FENCED i fenced

/-- The stripes of a slice that a fence has taken effect on pass to other slices (R145); with all 16 fenced they stay (log entry 126). -/
def State.fenceStripes (s : State) (i : Nat) : State :=
  s.forAll (s.stripesOf i) fun t k => match t.leastLoaded with
    | some j => t.moveStripe k j
    | none => t

/-- A slice that is no longer fenced serves its home stripe again (R147). -/
def State.unfenceSlice (s : State) (i : Nat) : State := s.moveStripe i i

/-- The slice-fence verdict (R146). -/
def State.judgeFences (s : State) : State :=
  if s.cfg 0 Reg.LOOM_CFG_BUDGET < s.rd Reg.LOOM_FENCE_COUNT then s.raiseVerdict 2 else s

/-- Fences that take effect at a boundary, and forced fences that end at it; too many raise the slice-fence verdict (R144 to R147). DESIGN CHOICE (log
entry 125): the order of several at one boundary. -/
def State.applyFences (s : State) : State :=
  let s1 := s.forAll sliceNumbers State.fenceSlice
  let s2 := s1.forAll (sliceNumbers.filter fun i => s.fenced i && !s1.fenced i) State.unfenceSlice
  let s3 := s2.forAll (sliceNumbers.filter fun i => !s.fenced i && s1.fenced i) State.fenceStripes
  let s4 := s3.wr Reg.LOOM_FENCE_COUNT s3.loom.faulted.length
  ({ s4 with loom := { s4.loom with toFence := [] } }).judgeFences

/-- A slice has failed a self-test, or met a parity error: it is fenced from the next boundary on (R144). -/
def State.dueFence (s : State) (i : Nat) (parity : Bool) : State :=
  { s with loom := { s.loom with toFence := ((i, parity) :: s.loom.toFence).dedup } }

/-- The quick self-test that every slice runs at a start, before the first pass (R143, R144): the slices that fail it. -/
def State.quickTest (s : State) (failed : List (Fin 16)) : State :=
  if s.isSender then s.forAll failed fun t i => t.dueFence i.val false else s

/-- A slice is idle in the pass under way (R143): it has no dirty block left, and the cut-off of R137 has not come. -/
def State.sliceIdle (s : State) (i : Nat) : Bool :=
  s.loom.inPass && !(s.loom.dirty.any fun b => s.server (s.stripeOf b) == i) && decide (s.now + 20000 ≤ s.loom.boundaryAt + s.period)

/-- BIST_FRAGMENT (R143, R144): one fragment of the full self-test, in the slice's idle time; a failure fences the slice at the next boundary. -/
def doBistFragment (s : State) (i : Nat) (failed : Bool) : State :=
  if !s.isSender ∨ !s.acFlag Reg.LOOM_CFG_BIST_EN ∨ !s.sliceIdle i then s
  else
    let s1 := s.wr (Reg.LOOM_SLICE_LOAD_FRAGMENTS i) ((s.rd (Reg.LOOM_SLICE_LOAD_FRAGMENTS i) + 1) % 4096)
    if failed then s1.dueFence i false else s1

def execBistFragment (i : Fin 16) (failed : Bool) (s : State) : Host.Outcome State Fault Refusal :=
  .next (s.whenAlive fun u => doBistFragment u i failed)

/-- SLICE_PARITY_ERROR (R144): the block in which it occurred is held and the slice is fenced from the next boundary. -/
def doSliceParityError (s : State) (i b : Nat) : State :=
  if !s.isSender then s else (s.dueFence i true).onlyIf (s.loom.dirty.contains b) fun t => t.holdBlock b

def execSliceParityError (i : Fin 16) (b : BitVec 22) (s : State) : Host.Outcome State Fault Refusal :=
  .next (s.whenAlive fun u => doSliceParityError u i b.toNat)

/-! ### Layers at a boundary -/

/-- The surface a layer names that it could read now, and its NR code (R118, R139): 0 ready, 1 no new surface, 2 no surface, 3 release pending. -/
def State.layerSource (s : State) (n : Nat) : Option Nat × Nat :=
  let src := s.ac (Reg.LOOM_L_CTRL_SOURCE n)
  let held := (s.layer n).held
  if src < 256 then
    if held = some src then (some src, 0)
    else if s.stillExists src then (some src, 0) else (held, 3)
  else
    let p := src - 256
    let odd := decide (p % 2 = 1) && s.acFlag (Reg.DPI_PORT_CFG_PAIR (p - 1))
    match (if odd then none else s.latest p) with
    | none => (if odd then none else held, 2)
    | some l => if held = some l then (held, 1) else if s.releasing l then (held, 3) else (some l, 0)

/-- The matte surface a layer names (R132). -/
def State.layerMatte (s : State) (n : Nat) : Option Nat :=
  if s.ac (Reg.LOOM_L_CTRL_ALPHA_MODE n) = 2 then some (s.ac (Reg.LOOM_L_ALPHA_MATTE n)) else none

/-- The matte surface that a layer holds in the coming pass (R132): a surface with a release pending grants no new hold pin (R104). -/
def State.holdMatte (s : State) (n : Nat) : Option Nat := match s.layerMatte n with
  | some m => if (s.layer n).matte = some m ∨ (s.layer n).held = some m ∨ !s.releasing m then some m else none
  | none => none

/-- A layer's age at a boundary in ns (R140). -/
def State.layerAge (s : State) (n : Nat) (f : Option Nat) : Nat :=
  let l := s.layer n
  let clean := s.now - l.lastClean.getD l.enabledAt
  let src := match f with
    | none => s.now - l.enabledAt
    | some k => if k < 256 then 0 else s.now - (s.surface k).published
  max clean src

/-- One enabled layer takes its surface at a boundary (R132, R134, R139 to R141). -/
def State.takeLayer (s : State) (n : Nat) : State :=
  let (f, nr) := s.layerSource n
  let l := s.layer n
  let frame := match f with
    | some k => (s.surface k).frame
    | none => 0
  let moved := f != l.held
  let next := match f with
    | some k => decide (256 ≤ k) && l.held.isSome && frame == (l.heldFrame + 1) % 65536
    | none => true
  let age := s.layerAge n f
  let limit := s.ac (Reg.LOOM_L_FRESH_LIMIT n)
  let hatch := limit != 0 && decide (limit * 1000000 < age)
  let was := s.hatched n
  let s1 := s.setLayer n fun x => { x with
    held := f, matte := s.holdMatte n, heldFrame := frame, age := age, whole := (moved && !next) || (hatch != was) }
  let s2 := (((s1.wr (Reg.LOOM_L_STAT_AGE n) (min (age / 1000000) 0xFFFF)).wr (Reg.LOOM_L_STAT_NR n) nr).wrFlag
    (Reg.LOOM_L_STAT_HATCH n) hatch).wr (Reg.LOOM_L_STAT_UNCLEAN n) 0
  if hatch && !was then s2.raise srcLoom 0x8501 n else if was && !hatch then s2.raise srcLoom 0x0502 n else s2

/-- A block is dirty on account of a layer's source: the whole layer is, or the layer reads its port's next surface and has a tap in a bale whose change
bit is set there (R133, R134). A surface that it read in the pass before adds nothing. -/
def State.layerChanged (s old : State) (n b : Nat) : Bool :=
  (s.layer n).whole
    || ((s.layer n).held != (old.layer n).held && (s.layerBales n b).any fun x => some x.1 == (s.layer n).held && s.changeBit x.1 x.2)

/-- The blocks that are dirty for the pass that begins (R133). -/
def State.dirtyBlocks (s old : State) : List Nat :=
  s.blocks.filter fun b =>
    s.loom.markedAll || s.loom.carried.contains b || s.loom.marked.contains b
      || s.layersOn.any fun n => s.under b n && s.layerChanged old n b

/-! ### The order of band segments -/

/-- The band segment of a block: stripe and band (R111). -/
def State.segmentOf (s : State) (b : Nat) : Nat × Nat := (s.stripeOf b, s.blockRow b)

/-- The rank of a band segment by its dirty blocks (R135): class A before B before the rest; then the boundary since which its oldest dirty block has been
dirty; then band; then stripe. -/
def State.segmentRank (s : State) (g : Nat × Nat) : List Nat :=
  let bs := s.loom.dirty.filter fun b => s.segmentOf b == g
  [2 - (bs.map s.blockClass).foldl max 0, (bs.map fun b => Tab.get s.loom.dirtySince b).foldl min s.now, g.2, g.1]

/-- A list of numbers comes before another, first number first. -/
def ranksBefore : List Nat → List Nat → Bool
  | a :: l, b :: m => decide (a < b) || (a == b && ranksBefore l m)
  | _, _ => false

/-- The band segments with dirty blocks in the stripes that a slice serves. -/
def State.sliceSegments (s : State) (i : Nat) : List (Nat × Nat) :=
  ((s.loom.dirty.filter fun b => s.server (s.stripeOf b) == i).map s.segmentOf).dedup

/-- The band segment that a slice composes (R135): the one under way while it has a dirty block, and then the one that comes first. -/
def State.segmentNow (s : State) (i : Nat) : Option (Nat × Nat) :=
  let gs := s.sliceSegments i
  match Tab.find s.loom.segments i with
  | some g => if gs.contains g then some g else gs.foldl (fun best g => match best with
      | none => some g
      | some h => if ranksBefore (s.segmentRank g) (s.segmentRank h) then some g else best) none
  | none => gs.foldl (fun best g => match best with
      | none => some g
      | some h => if ranksBefore (s.segmentRank g) (s.segmentRank h) then some g else best) none

/-- A pass begins at boundary B, in a Sender that is in no pass (R102, R131 to R134, R139 to R145): fences take effect, every enabled layer takes its surface and the pass its pins, the
generation rises, and the dirty blocks are decided. Nothing is composed of an uncovered block. The first pass is the Sender's first light,
and enters a full re-push of every enabled Tile (R66, R154). -/
def State.beginPass (s : State) (B : Nat) : State :=
  let g := (s.rd Reg.LOOM_PASS_GEN + 1) % 2 ^ 32
  let s1 := (s.applyFences).wr Reg.LOOM_PASS_GEN g
  let s2 := s1.forAll s1.layersOn State.takeLayer
  let dirty := (s2.dirtyBlocks s).filter s2.covered
  let pins := ((s2.layersOn.flatMap fun n => (s2.layer n).held.toList ++ (s2.layer n).matte.toList)).dedup
  let s3 := { s2 with
    loom := { s2.loom with
      passPins := pins, inPass := true, boundaryAt := B, dirty := dirty, carried := []
      dirtySince := dirty.map fun b => (b, (Tab.find s2.loom.dirtySince b).getD s.now)
      marked := [], markedAll := false, unclean := [], heldCount := 0, lastBlock := s.now, faults := [], segments := [], busy := [] }
    dmg := { s2.dmg with bounds := (Tab.put s2.dmg.bounds g B).filter fun x => decide (g ≤ x.1 + 3) } }
  if g = 1 then
    let s4 := s3.resumeOffset.repushAll s.now
    ({ s4 with dmg := { s4.dmg with window := 1 } } : State).light
  else s3

/-- COMPOSITION_PASS (R131, R248, R251): at a frame boundary of the Frame die's count, once for each. -/
def doCompositionPass (s : State) : State :=
  if s.isSender && !s.loom.inPass && s.boundaryDue actPass s.frameNow then (s.perform actPass (s.lastBoundaryAt s.frameNow)).beginPass (s.lastBoundaryAt s.frameNow) else s

def execCompositionPass (s : State) : Host.Outcome State Fault Refusal :=
  .next (s.whenAlive fun u => doCompositionPass u)

/-- The line at which the stored bale of a surface begins. -/
def State.baleLine (s : State) (x : Nat × Nat) : Nat :=
  (s.surface x.1).data / 64 + leNat (s.dramRead ((s.surface x.1).table + 16 * x.2 + 8) 4)

/-- A faulty bale of a layer is recorded once in a pass (R138): 0x4503 for the layer, 0x4401 for a bale that does not decode; one that the memory flags
as uncorrectable (`ue`) counts there and toward the self-diagnosis verdict (log entry 58). -/
def State.recordFault (s : State) (n : Nat) (x : Nat × Nat) (ue : Bool) : State :=
  let seen := s.loom.faults.any fun f => f.1 == n && f.2 == x
  let known := s.loom.faults.any fun f => f.2 == x
  let s1 := if seen then s else s.raise srcLoom 0x4503 n
  let s2 := if known then s1 else if ue then s1.noteUe (s.baleLine x) else s1.raise srcBale 0x4401 (x.1 * 65536 + x.2 % 65536)
  { s2 with loom := { s2.loom with faults := if seen then s2.loom.faults else (n, x) :: s2.loom.faults } }

/-- The bales that layer n reads for block b and that do not decode, or that the memory flags as uncorrectable. -/
def State.badBales (s : State) (n b : Nat) (ue : List (Nat × Nat)) : List (Nat × Nat) :=
  (s.layerBales n b).filter fun x => ue.contains x || (decodeBale (s.baleBytes x.1 x.2)).isNone

/-- The layers that contribute to a block in the pass under way: over it, with a surface (R117, R136, R139). -/
def State.contributing (s : State) (b : Nat) : List Nat := s.layersOn.filter fun n => s.under b n && (s.layer n).held.isSome

/-- BLOCK_ENCODED (R116, R135 to R138, R153): the slice that serves the block's stripe finishes a block of the band segment that it composes. `ue` names
surface bales whose read the memory flags as uncorrectable. A faulty bale under a layer that is not hatched holds the block. -/
def doBlockEncoded (s : State) (b : Nat) (ue : List (Nat × Nat)) : State :=
  let i := s.server (s.stripeOf b)
  if !s.loom.dirty.contains b ∨ s.fenced i ∨ s.segmentNow i ≠ some (s.segmentOf b) then s
  else
    let bad := (s.contributing b).filter fun n => !(s.badBales n b ue).isEmpty
    let s1 := s.forAll bad fun t n => t.forAll (s.badBales n b ue) fun u x => u.recordFault n x (ue.contains x)
    let s2 := { s1 with loom := { s1.loom with
      unclean := (s1.loom.unclean ++ bad).dedup, segments := Tab.put s1.loom.segments i (s.segmentOf b) } }
    if bad.any fun n => !s.hatched n then s2.holdBlock b
    else
      let s3 := s2.storeBlock b (s.composeBlock b)
      { s3 with
        loom := { s3.loom with
          dirty := s3.loom.dirty.filter fun x => x != b
          dirtySince := Tab.del s3.loom.dirtySince b
          lastBlock := s.now
          busy := Tab.upd s3.loom.busy i (· + blockCycles (s.contributing b).length) }
        dmg := { s3.dmg with written := if s3.dmg.window = 1 then b :: s3.dmg.written else s3.dmg.written } }

def execBlockEncoded (b : BitVec 22) (ue : List (BitVec 9 × BitVec 18)) (s : State) : Host.Outcome State Fault Refusal :=
  .next (s.whenAlive fun u => doBlockEncoded u b.toNat (ue.map fun x => (x.1.toNat, x.2.toNat)))

/-- CUTOFF (R137): every dirty block that no slice has started is held; `started` names those that are under way. -/
def doCutoff (s : State) (started : List Nat) : State :=
  s.forAll (s.loom.dirty.filter fun b => !started.contains b) State.holdBlock

def execCutoff (started : List (BitVec 22)) (s : State) : Host.Outcome State Fault Refusal :=
  .next (s.whenAlive fun u => doCutoff u (started.map (·.toNat)))

/-- The current bit of a layer at the end of a pass (R142; a layer without a surface is not current, whatever its NR, log entry 123). -/
def State.layerCurrent (s : State) (n : Nat) : Bool :=
  let limit := s.ac (Reg.LOOM_L_FRESH_LIMIT n)
  s.acFlag (Reg.LOOM_L_CTRL_ENABLE n) && !s.hatched n && (s.layer n).held.isSome && (s.rd (Reg.LOOM_L_STAT_NR n) != 2)
    && !s.loom.unclean.contains n && (limit == 0 || decide ((s.layer n).age ≤ limit * 1000000))

/-- The enabled layers whose rectangle, clipped to the Sender's, meets a guarded region (R184). -/
def State.layersOver (s : State) (r : RegionRec) : List Nat :=
  let c := s.charter
  s.layersOn.filter fun n =>
    let d := s.dstRect n
    decide (max (max d.x c.originX) r.x < min (min (d.x + d.w) (c.originX + c.width)) (r.x + r.w))
      && decide (max (max d.y c.originY) r.y < min (min (d.y + d.h) (c.originY + c.height)) (r.y + r.h))

/-- The intake port that a layer reads; none for a still surface. -/
def State.layerPort (s : State) (n : Nat) : Option Nat :=
  let src := s.ac (Reg.LOOM_L_CTRL_SOURCE n)
  if 256 ≤ src then some (src - 256) else none

/-- Keeps what R184 asks of the pass that ends, and orders the hatch of EARLY regions over a layer that is not current (R196). -/
def State.recordPass (s : State) : State :=
  let rs := ((regionsBy s.ac).filter RegionRec.guarded).map fun r =>
    let ls := s.layersOver r
    (r.num, ls.all fun n => s.flag (Reg.LOOM_L_STAT_CURRENT n), ls.filterMap s.layerPort)
  let s1 := { s with hmk := { s.hmk with snaps := (PassSnap.mk (s.rd Reg.LOOM_PASS_GEN) s.loom.boundaryAt rs :: s.hmk.snaps).take 4 } }
  s1.forAll (rs.filter fun r => !r.2.1) fun t r => t.loseEarly r.1

/-- PASS_END (R102, R137, R140, R142): current bits, clean passes, the pass status; the pass drops its pins. -/
def doPassEnd (s : State) : State :=
  if !s.loom.inPass then s
  else
    let s0 := doCutoff s []
    let s1 := s0.forAll layerNumbers fun t n =>
      let cur := s0.layerCurrent n
      let t1 := (t.wrFlag (Reg.LOOM_L_STAT_CURRENT n) cur).wrFlag (Reg.LOOM_L_STAT_UNCLEAN n) (s0.loom.unclean.contains n)
      let t2 := if n < 32 then t1.wrBit Reg.LOOM_CURRENT_LO_CUR n cur else t1.wrBit Reg.LOOM_CURRENT_HI_CUR (n - 32) cur
      if s0.acFlag (Reg.LOOM_L_CTRL_ENABLE n) && !s0.loom.unclean.contains n then
        t2.setLayer n fun x => { x with lastClean := some s0.loom.boundaryAt }
      else t2
    let s2 := (s1.wr Reg.LOOM_PASS_STAT_HELD (min s0.loom.heldCount 0xFFFF)).wr Reg.LOOM_PASS_STAT_TIME
      (min ((s0.loom.lastBlock - s0.loom.boundaryAt) / 1000) 0xFFFF)
    let s3 := s2.forAll sliceNumbers fun t i => t.wr (Reg.LOOM_SLICE_LOAD_BUSY i) (min (Tab.get s0.loom.busy i / 1000) 0xFFFF)
    ({ s3 with loom := { s3.loom with inPass := false, passPins := [] } }).recordPass

def execPassEnd (s : State) : Host.Outcome State Fault Refusal :=
  .next (s.whenAlive fun u => doPassEnd u)

/-! ### The G0 commit -/

/-- Fields of a pending layer. -/
def State.pendDst (s : State) (n : Nat) : Rect :=
  ⟨s.rd (Reg.LOOM_L_DST_X_X n), s.rd (Reg.LOOM_L_DST_Y_Y n), s.rd (Reg.LOOM_L_DST_SIZE_WM1 n) + 1, s.rd (Reg.LOOM_L_DST_SIZE_HM1 n) + 1⟩
def State.pendOn (s : State) (n : Nat) : Bool := s.flag (Reg.LOOM_L_CTRL_ENABLE n)

/-- The canvas columns of a stripe, as wall-canvas columns (R111). -/
def State.stripeCols (s : State) (t : Nat) : Nat × Nat :=
  (s.charter.originX + 32 * (t * s.swb), s.charter.originX + 32 * min ((t + 1) * s.swb) s.wb)

/-- The span of a pending layer in a stripe; 0 where they do not meet (R128). -/
def State.pendSpan (s : State) (n t : Nat) : Nat :=
  let r := s.pendDst n
  let (a, b) := s.stripeCols t
  let x0 := max a r.x
  let x1 := min b (r.x + r.w)
  if x1 ≤ x0 then 0
  else
    let wm := s.rd (Reg.LOOM_L_SRC_SIZE_WM1 n)
    let tap (x : Nat) : Int := (tapOf (srcPos (x - r.x) (s.rd (Reg.LOOM_L_STEP_X_STEP n)) (s.rdInt (Reg.LOOM_L_PHASE_PX n)))).1
    clampTap (tap (x1 - 1) + 1) wm - clampTap (tap x0) wm + 1

/-- Line capacity by alpha mode (R128). DESIGN CHOICE (log entry 124): 12,288 for ALPHA_MODE 3, for which the table gives none. -/
def lineCapacity (mode : Nat) : Nat := if mode = 0 then 16384 else if mode = 1 then 15941 else 12288

/-- Pending enabled layers whose rectangle, inside the Sender's, meets a band segment (R129). -/
def State.segmentLayers (s : State) (t band : Nat) : List Nat :=
  let c := s.charter
  let (a, b) := s.stripeCols t
  layerNumbers.filter fun n =>
    let r := s.pendDst n
    s.pendOn n && meets (max a c.originX) (min b (c.originX + c.width) - max a c.originX) r.x r.w
      && decide (max a c.originX < min b (c.originX + c.width))
      && meets (c.originY + 16 * band) (min 16 (c.height - 16 * band)) r.y r.h

/-- The faults of one pending layer: reason, stripe, band (R130). -/
def State.layerFaults (s : State) (n : Nat) : List (Nat × Nat × Nat) :=
  let mode := s.rd (Reg.LOOM_L_CTRL_ALPHA_MODE n)
  let src := s.rd (Reg.LOOM_L_CTRL_SOURCE n)
  let matte := s.rd (Reg.LOOM_L_ALPHA_MATTE n)
  let stepBad (v : Nat) : Bool := decide (v < 0x400) || decide (0x40000 < v)
  let limit := s.rd (Reg.LOOM_L_FRESH_LIMIT n)
  let r1 := (sliceNumbers.filter fun t => lineCapacity mode < s.pendSpan n t).map fun t => (1, t, 0)
  let r2 := if stepBad (s.rd (Reg.LOOM_L_STEP_X_STEP n)) || stepBad (s.rd (Reg.LOOM_L_STEP_Y_STEP n)) then [(2, 0, 0)] else []
  let r3 := sliceNumbers.flatMap fun t => ((List.range s.hb).filter fun b =>
      let l := s.segmentLayers t b
      decide (16 < l.length) && l.getLast? == some n).map fun b => (3, t, b)
  let r4 := if (src < 256 ∧ !s.stillExists src) ∨ 264 ≤ src then [(4, 0, 0)] else []
  let r5 := if 1048575 < s.rd (Reg.LOOM_L_DST_X_X n) + s.rd (Reg.LOOM_L_DST_SIZE_WM1 n)
      ∨ 1048575 < s.rd (Reg.LOOM_L_DST_Y_Y n) + s.rd (Reg.LOOM_L_DST_SIZE_HM1 n) then [(5, 0, 0)] else []
  let matteBad := mode = 2 ∧ (!s.stillExists matte
      ∨ (s.surface matte).width < s.rd (Reg.LOOM_L_SRC_POS_X n) + s.rd (Reg.LOOM_L_SRC_SIZE_WM1 n) + 1
      ∨ (s.surface matte).height < s.rd (Reg.LOOM_L_SRC_POS_Y n) + s.rd (Reg.LOOM_L_SRC_SIZE_HM1 n) + 1)
  let r6 := if mode = 3 ∨ s.rd (Reg.LOOM_L_ALPHA_MATTE_CH n) = 3 ∨ matteBad ∨ 4096 < s.rd (Reg.LOOM_L_ALPHA_CONST n)
      ∨ (limit ≠ 0 ∧ (limit < 20 ∨ 10000 < limit)) then [(6, 0, 0)] else []
  r1 ++ r2 ++ r3 ++ r4 ++ r5 ++ r6

/-- Blocks that the pending layers would cover (R115). -/
def State.pendCovered (s : State) : Nat :=
  (s.blocks.filter fun b => (layerNumbers.filter s.pendOn).any fun n => s.coveredBy b (s.pendDst n)).length

/-- The G0 check (R130): layer, reason, stripe and band of the fault to record; none when the pending set is good. -/
def loomRefusal (s : State) : Option (Nat × Nat × Nat × Nat) :=
  match (layerNumbers.filter s.pendOn).findSome? fun n => ((s.layerFaults n).head?).map fun f => (n, f) with
  | some (n, f) => some (n, f.1, f.2.1, f.2.2)
  | none => if s.rd Reg.LOOM_SLOTS_COUNT < s.pendCovered then some (0, 7, 0, 0) else none

/-- Records a refused G0 commit. -/
def State.loomRefused (s : State) (f : Nat × Nat × Nat × Nat) : State :=
  (((s.wr Reg.LOOM_REFUSE_LAYER f.1).wr Reg.LOOM_REFUSE_REASON f.2.1).wr Reg.LOOM_REFUSE_STRIPE f.2.2.1).wr Reg.LOOM_REFUSE_BAND f.2.2.2

/-- Active words in an address range differ between two states. -/
def actDiffers (s old : State) (lo hi : Nat) : Bool :=
  ((s.act.map (·.1) ++ old.act.map (·.1)).filter fun a => lo ≤ a && a < hi).any fun a => s.actWordAt a != old.actWordAt a

/-- A G0 commit changed a layer's descriptor, or a table it selects (R133). -/
def State.layerEdited (s old : State) (n : Nat) : Bool :=
  let base := 0x11000000 + n * 0x1000
  let lut (t : State) : Nat := 0x11500000 + 3 * t.ac (Reg.LOOM_L_CTRL_ILUT n) * 0x1000
  actDiffers s old base (base + 0x4C) || actDiffers s old (lut s) (lut s + 0x3000)

/-- Holds that a G0 commit drops, and the boundary at which a layer is enabled (R132, R140). The hatch of a layer that is disabled ends (R141). -/
def State.commitLayer (s old : State) (n : Nat) : State :=
  let on := s.acFlag (Reg.LOOM_L_CTRL_ENABLE n)
  let was := old.acFlag (Reg.LOOM_L_CTRL_ENABLE n)
  let keep := on && was && s.ac (Reg.LOOM_L_CTRL_SOURCE n) == old.ac (Reg.LOOM_L_CTRL_SOURCE n)
  let keepM := on && was && s.layerMatte n == old.layerMatte n
  let s1 := if s.hatched n && !on then (s.wr (Reg.LOOM_L_STAT_HATCH n) 0).raise srcLoom 0x0502 n else s
  s1.setLayer n fun x => { x with
    held := if keep then x.held else none
    matte := if keepM then x.matte else none
    enabledAt := if on && !was then s.now else x.enabledAt
    lastClean := if on && !was then none else x.lastClean }

/-- The lowest free slot (R115). -/
def lowestFree (used : List Nat) (count : Nat) : Nat := ((List.range count).map (· + 1)).find? (fun k => !used.contains k) |>.getD 0

/-- A block that is not covered after a G0 commit (R115) frees its slot, and where it had one, or the background has changed, its entry points to slot 0;
`g` is the generation of the pass that begins. -/
def State.freeLoomSlot (s old : State) (b g : Nat) (bg : Bool) : State :=
  let s1 := { s with loom := { s.loom with slots := Tab.del s.loom.slots b } }
  if (Tab.find s.loom.slots b).isSome || bg || old.covered b then s1.uncoverBlock b g else s1

/-- A block that is covered after a G0 commit keeps its slot, or takes the lowest free one (R115). -/
def State.takeSlot (s : State) (b : Nat) : State :=
  if (Tab.find s.loom.slots b).isSome then s
  else { s with loom := { s.loom with slots := Tab.put s.loom.slots b (lowestFree (s.loom.slots.map (·.2)) (s.ac Reg.LOOM_SLOTS_COUNT)) } }

/-- The slots at a G0 commit (R115): first every block that is uncovered frees its slot, then the covered blocks take theirs, in raster order. -/
def State.commitSlots (s old : State) (g : Nat) (bg : Bool) : State :=
  (s.forAll (s.blocks.filter fun b => !s.covered b) fun t b => t.freeLoomSlot old b g bg).forAll (s.blocks.filter s.covered) State.takeSlot

/-- What the Loom does once its G0 fields are copied (R115, R132, R133); `old` is the state before the copy. Until the first G0 commit no
background bale stands in the store, so the first commit writes it. DEDUCED (log entry 122): a change of the output LUT or of the store does so too. -/
def State.loomCommitted (s old : State) : State :=
  let g := (s.rd Reg.LOOM_PASS_GEN + 1) % 2 ^ 32
  let bg := !old.sys.committed.contains 0 || s.actWord Reg.LOOM_BG_C0 != old.actWord Reg.LOOM_BG_C0
    || s.actWord Reg.LOOM_STORE_BASE != old.actWord Reg.LOOM_STORE_BASE || actDiffers s old 0x11540000 0x11550000
  let s1 := s.forAll layerNumbers fun t n => t.commitLayer old n
  let edited := layerNumbers.filter fun n => s.layerEdited old n
  let s2 := { s1 with loom := { s1.loom with
    markedAll := s1.loom.markedAll || bg
    marked := s1.loom.marked ++ s.blocks.filter fun b => edited.any fun n => s.under b n || old.under b n } }
  let s3 := if bg then s2.writeSlot0 else s2
  s3.commitSlots old g bg

end Sys2Proof.Machine
end

