-- ==== Sys2Proof/Machine/Hallmark.lean ====
section
/-! DEFINITION. Hallmarks at a Sender (R178 to R187, R195, R202, R413, R414 of spec/06 and spec/14): the G1 check, piece tables, the hallmark engines,
affirmability, REAFFIRM, guard reports and the shadow comparison. -/

namespace Sys2Proof.Machine

/-! ### The G1 check -/

/-- The faults of one region entry that name no Tile (reasons 1, 2, 3 and 6 of R179), lowest first. -/
def State.regionFaults (s : State) (r : RegionRec) : List Nat :=
  let c := s.charter
  (if r.guarded then
    (if r.x < c.originX ∨ r.y < c.originY ∨ c.originX + c.width < r.x + r.w ∨ c.originY + c.height < r.y + r.h then [1] else [])
    ++ (if ((r.x : Int) - c.originX) % 32 ≠ 0 ∨ ((r.y : Int) - c.originY) % 16 ≠ 0 then [2] else [])
    ++ (if r.deadline < 20 ∨ 10000 < r.deadline ∨ r.deadline * 1000000 ≤ s.period + 2000000 then [3] else [])
  else []) ++ (if r.cls = 3 then [6] else [])

/-- The first element whose running count or sum of sizes passes a limit (reasons 4 and 5 of R179). -/
def overLimit (count pixels : Nat) : Nat → Nat → List PieceRec → Option PieceRec
  | _, _, [] => none
  | n, a, x :: t =>
    if count < n + 1 ∨ pixels < a + x.w * x.h then some x else overLimit count pixels (n + 1) (a + x.w * x.h) t

/-- Pieces in ascending region order. -/
def byRegion (l : List PieceRec) : List PieceRec := l.mergeSort fun a b => a.region ≤ b.region

/-- Every fault of the pending G1 set: region, reason, chain and position (R179). -/
def State.hmkFaults (s : State) : List (Nat × Nat × Nat × Nat) :=
  let rs := regionsBy s.rd
  let ps := (tilesBy s.rd).map fun t => piecesOf s.charter.originX s.charter.originY rs t
  (rs.flatMap fun r => (s.regionFaults r).map fun k => (r.num, k, 0, 0))
    ++ (ps.filterMap fun l => (overLimit 64 1048576 0 0 l).map fun x => (x.region, 4, x.chain, x.pos))
    ++ ((overLimit 2048 67108864 0 0 (byRegion ps.flatten)).map fun x => (x.region, 5, 0, 0)).toList

/-- The order in which HMK_REFUSE records faults: lowest region, then lowest reason. -/
def faultBefore (a b : Nat × Nat × Nat × Nat) : Bool := decide (a.1 < b.1) || (a.1 == b.1 && decide (a.2.1 < b.2.1))

/-- The fault that HMK_REFUSE records (R179): region, reason, chain, position; none when the set is good. -/
def hmkRefusal (s : State) : Option (Nat × Nat × Nat × Nat) :=
  match s.hmkFaults with
  | f :: t => some (t.foldl (fun a b => if faultBefore b a then b else a) f)
  | [] => if s.rd Reg.HMK_CFG_RELIGHT = 0 ∨ s.rd Reg.HMK_CFG_GLASS_LIMIT = 0 then some (0, 7, 0, 0) else none

/-- Records a refused set. -/
def State.hmkRefused (s : State) (f : Nat × Nat × Nat × Nat) : State :=
  (((s.wr Reg.HMK_REFUSE_REGION f.1).wr Reg.HMK_REFUSE_REASON f.2.1).wr Reg.HMK_REFUSE_CHAIN f.2.2.1).wr Reg.HMK_REFUSE_POS f.2.2.2

/-- Pieces of a region in the latest table. -/
def State.regionPieces (s : State) (r : Nat) : Nat := (s.tableNow.pieces.filter fun x => x.region == r).length

/-- Shows PIECES of every region; a region that is no longer guarded is not affirmed. -/
def State.showRegions (s : State) : State :=
  s.forAll (regionsBy s.ac) fun t r =>
    let i := r.num / 64
    let k := r.num % 64
    let t1 := t.onlyIf (t.rd (Reg.HMK_REG_STAT_PIECES i k) != min (t.regionPieces r.num) 2048)
      fun u => u.wr (Reg.HMK_REG_STAT_PIECES i k) (min (t.regionPieces r.num) 2048)
    t1.onlyIf (!r.guarded && t1.flag (Reg.HMK_REG_STAT_AFFIRMED i k))
      fun u => (u.wr (Reg.HMK_REG_STAT_AFFIRMED i k) 0).wrBit (Reg.HMK_AFFIRM_AFF (r.num / 32)) (r.num % 32) false

/-- The registers of the Tile map: DMG_TILE_POS and DMG_TILE_SIZE of every chain and position. -/
def mapAddrs : List Nat := [0, 1, 2, 3].flatMap fun c => positions.flatMap fun p => [RegAddr.DMG_TILE_POS c p, RegAddr.DMG_TILE_SIZE c p]

/-- What the block does once its G1 fields are copied (R180): a change of a region entry, a Tile map entry or a hatch colour raises the table
version and builds a new piece table, which holds from the pass that begins. -/
def State.hmkCommitted (s old : State) : State :=
  let changed := actDiffers s old 0x14200000 0x14300000 || (mapAddrs.any fun a => s.actWordAt a != old.actWordAt a) || actDiffers s old 0x14FFF104 0x14FFF10C
  if changed || s.hmk.tables.isEmpty then
    let v := if changed then (s.rd Reg.HMK_TABLE_VERSION + 1) % 65536 else s.rd Reg.HMK_TABLE_VERSION
    let g := (s.rd Reg.LOOM_PASS_GEN + 1) % 2 ^ 32
    let tbl : PieceTable := ⟨g, v, piecesBy s.charter.originX s.charter.originY s.ac, []⟩
    let s1 := s.wr Reg.HMK_TABLE_VERSION v
    ({ s1 with hmk := { s1.hmk with tables := (tbl :: s1.hmk.tables).take 3, changed := [] } }).showRegions
  else s

/-! ### The engines -/

/-- The number of a piece in a table's marks. -/
def PieceRec.key (x : PieceRec) : Nat := (x.chain * 64 + x.pos) * 64 + x.num

/-- The canvas blocks of a piece. -/
def State.pieceBlocks (s : State) (x : PieceRec) : List Nat := s.blocks.filter fun b => s.blockMeets b ⟨x.cx, x.cy, x.w, x.h⟩

/-- The pixels of one row of a canvas rectangle, from the decoded blocks. -/
def State.rowPixels (s : State) (dec : List (Nat × List Pixel)) (x w y : Nat) : List Pixel :=
  (List.range w).map fun i =>
    let cx := x + i
    ((Tab.find dec (y / 16 * s.wb + cx / 32)).getD []).getD (y % 16 * 32 + cx % 32) 0

/-- The hallmark of a piece by the canvas store (R181). -/
def State.pieceHallmark (s : State) (x : PieceRec) : Nat :=
  let dec := (s.pieceBlocks x).map fun b => (b, s.canvasPixels b)
  crc64Pixels ((List.range x.h).flatMap fun j => s.rowPixels dec x.cx x.w (x.cy + j))

/-- The generation nearest `g` that has the low 16 bits `f`. -/
def fullGen (g f : Nat) : Nat :=
  let d := (f % 65536 + 65536 - g % 65536) % 65536
  if d ≤ 32767 then (g + d) % 2 ^ 32 else (g + 2 ^ 32 + d - 65536) % 2 ^ 32

/-- Generations from which a piece has changed and has no hallmark: the table's own for a piece that has none yet, then those of the passes
that wrote a block of it with CHANGED set (R182). -/
def State.pieceTodo (s : State) (t : PieceTable) (x : PieceRec) : List Nat :=
  let bl := s.pieceBlocks x
  (if (Tab.find t.marks x.key).isSome then [] else [t.from_])
    ++ ((s.hmk.changed.filter fun c => bl.contains c.1).map fun c => fullGen (s.rd Reg.LOOM_PASS_GEN) c.2).dedup

/-- Every block of the piece that the pass writes has been written (R182). -/
def State.pieceWritten (s : State) (x : PieceRec) : Bool := !(s.pieceBlocks x).any s.loom.dirty.contains

/-- Enters a hallmark: it is that of the latest of the generations; the others were never computed. -/
def enterMark (t : PieceTable) (x : PieceRec) (gens : List Nat) (v : Nat) : PieceTable :=
  let old := (Tab.find t.marks x.key).getD []
  let last := gens.foldl (fun a b => if later32 b a then b else a) (gens.headD 0)
  { t with marks := Tab.put t.marks x.key (((last, some v) :: (gens.filter (· != last)).map (fun g => (g, none)) ++ old).take 8) }

/-- The hallmark of a piece for a generation: the newest that began at or before it (R182). -/
def PieceTable.mark (t : PieceTable) (x : PieceRec) (g : Nat) : Option Nat :=
  (((Tab.find t.marks x.key).getD []).find? fun m => !later32 m.1 g).bind (·.2)

/-- Replaces the table that begins at the same generation. -/
def State.putTable (s : State) (t : PieceTable) : State :=
  { s with hmk := { s.hmk with tables := s.hmk.tables.map fun x => if x.from_ == t.from_ && x.version == t.version then t else x } }

/-- The second engine's piece of this generation (R183): a disagreement omits the piece and checks it again; a second in a row is the
self-check verdict, with a STALE order for every region, which enters the ports ahead of the YIELD of that verdict (R196, R417, log entry 130). -/
def State.selfCheck (s : State) (t : PieceTable) (bad : Bool) : State :=
  let g := s.rd Reg.LOOM_PASS_GEN
  if !s.acFlag Reg.HMK_CFG_SELFCHECK || t.pieces.isEmpty || s.hmk.checkedGen == some g then s
  else
    let x := t.pieces.getD (s.hmk.rotation % t.pieces.length) default
    let s1 := { s with hmk := { s.hmk with checkedGen := some g } }
    if bad then
      let s2 := ({ s1 with hmk := { s1.hmk with checkRun := s1.hmk.checkRun + 1, omitted := some (g, x.key) } }).raise srcDispatch 0x4706 x.region
      if s2.hmk.checkRun = 2 then ((s2.raiseStale true []).flushStale).raiseVerdict 3 else s2
    else { s1 with hmk := { s1.hmk with checkRun := 0, rotation := s1.hmk.rotation + 1 } }

/-- HALLMARK_COMPUTE (R182, R183): every piece that has changed, and whose blocks the pass has written, is hashed; `bad` says that the second
engine disagrees with the first on the piece it checks. -/
def doHallmarkCompute (s : State) (bad : Bool) : State :=
  if !s.isSender then s
  else
    let t := s.tableFor (s.rd Reg.LOOM_PASS_GEN)
    let todo := t.pieces.filter fun x => !(s.pieceTodo t x).isEmpty
    let ready := todo.filter s.pieceWritten
    let t1 := ready.foldl (fun u x => enterMark u x (s.pieceTodo t x) (s.pieceHallmark x)) t
    let wait := (todo.filter fun x => !s.pieceWritten x).flatMap s.pieceBlocks
    let s1 := s.putTable t1
    let s2 := { s1 with hmk := { s1.hmk with changed := s1.hmk.changed.filter fun c => wait.contains c.1 } }
    s2.selfCheck t1 bad

def execHallmarkCompute (bad : Bool) (s : State) : Host.Outcome State Fault Refusal :=
  .next (s.whenAlive fun u => doHallmarkCompute u bad)

/-! ### Affirmability and REAFFIRM -/

/-- A guarded region is affirmable for a generation (R184), apart from the Tiles it is affirmed to. -/
def State.affirmable (s : State) (g r : Nat) : Bool :=
  match s.hmk.snaps.find? fun x => x.gen == g with
  | none => false
  | some x =>
    match x.regions.find? fun y => y.1 == r with
    | none => false
    | some y =>
      y.2.1 && (y.2.2.all fun p => s.flag (Reg.DPI_PORT_STAT_LIVE p) && decide ((s.ip p).liveSince ≤ x.start))
        && !s.bit (Reg.HMK_HOLD_HOLD (r / 32)) (r % 32)
        && (match Tab.find s.hmk.floors r with
          | some f => later32 g f
          | none => true)
        && !s.selfVerdict && (s.holdsSpindle || s.splitService)

/-- Shows a region's verdict; a change raises an event record, an alert for class A (R202). -/
def State.showAffirmed (s : State) (r cls : Nat) (aff : Bool) : State :=
  let i := r / 64
  let k := r % 64
  let s1 := (s.wrBit (Reg.HMK_AFFIRM_AFF (r / 32)) (r % 32) aff).wr (Reg.HMK_REG_STAT_NOT_READY i k) 0
  if aff = s.flag (Reg.HMK_REG_STAT_AFFIRMED i k) then s1
  else (s1.wrFlag (Reg.HMK_REG_STAT_AFFIRMED i k) aff).raise srcDispatch (if cls = 2 then 0x8701 else 0x4701) (r + (if aff then 256 else 0))

/-- The body of a REAFFIRM (R186): generation, SHOW, table version, and entries of piece number and hallmark. -/
def reaffirmBody (gen show_ table : Nat) (es : List (Nat × Nat)) : Bytes :=
  leBytes 4 gen ++ leBytes 8 show_ ++ leBytes 2 table ++ leBytes 1 es.length ++ zeros 1
    ++ es.flatMap fun e => leBytes 1 e.1 ++ zeros 7 ++ leBytes 8 e.2

/-- A piece that is affirmable and not ready is omitted, counted and recorded (R182, R202). -/
def State.notReady (s : State) (r : Nat) : State :=
  ((s.bump Reg.HMK_COUNT_NOT_READY).wr (Reg.HMK_REG_STAT_NOT_READY (r / 64) (r % 64)) 1).raise srcDispatch 0x4705 r

/-- The hallmark of a piece for a generation, where it is ready (R182, R186): no change by that generation's pass, or an earlier one, waits to be hashed. -/
def State.readyMark (s : State) (t : PieceTable) (g : Nat) (x : PieceRec) : Option Nat :=
  if (s.pieceTodo t x).any fun h => !later32 h g then none else t.mark x g

/-- Forms the REAFFIRM of one Tile and sends it (R186). -/
def State.reaffirmTile (s : State) (t : PieceTable) (g show_ : Nat) (aff : List Nat) (c p : Nat) : State :=
  let ps := t.pieces.filter fun x => x.chain == c && x.pos == p && aff.contains x.region && !(s.hmk.omitted == some (g, x.key))
  let s1 := s.forAll (ps.filter fun x => (s.readyMark t g x).isNone) fun u x => u.notReady x.region
  let es := ps.filterMap fun x => (s.readyMark t g x).map fun v => (x.num, v)
  if es.isEmpty ∨ !s.ordersTile c p then s1
  else s1.sendOrder c .reaffirm (s.tileAddr c p) (reaffirmBody (s.wireGen g) show_ t.version es)

/-- After COMMIT g (R186): a GUARD to each Tile when the tables changed at the pass's boundary, or where one is due after a takeover, and the
REAFFIRMs of generation g, chain by chain in position order. -/
def State.affirmGeneration (s : State) (g show_ : Nat) (guards : Bool) : State :=
  let t := s.tableFor g
  let rs := (regionsBy s.ac).filter RegionRec.guarded
  let aff := (rs.filter fun r => s.affirmable g r.num).map (·.num)
  let s1 := s.forAll rs fun u r => u.showAffirmed r.num r.cls (aff.contains r.num)
  let s2 := { s1 with hmk := { s1.hmk with staled := s1.hmk.staled.filter fun r => !aff.contains r } }
  s2.forAll [0, 1, 2, 3] fun u c =>
    let tiles := u.chainTiles c
    let u1 := if guards || t.from_ == g then u.forAll tiles fun v p => v.sendGuard t c p else u
    u1.forAll tiles fun v p => v.reaffirmTile t g show_ aff c p

/-! ### Guard reports -/

/-- A guard report's entries (R201): region and state of each piece. -/
def reportEntries (body : Bytes) : List (Nat × Nat) :=
  (List.range (leAt body 1 1)).map fun i => (leAt body (32 + 4 * i + 2) 1, leAt body (32 + 4 * i + 1) 1 % 32)

/-- The blocks of the pieces of a region at a Tile. -/
def State.regionBlocksAt (s : State) (c p r : Nat) : List Nat :=
  (s.tableNow.pieces.filter fun x => x.chain == c && x.pos == p && x.region == r).flatMap s.pieceBlocks

/-- The class of a region at this Sender. -/
def State.regionClass (s : State) (r : Nat) : Nat := s.ac (Reg.HMK_REG_CFG_CLASS (r / 64) (r % 64))

/-- One entry of a guard report (R195, R202): a changed state is recorded; a mismatch re-enters every block of the piece. -/
def State.takePieceState (s : State) (c p : Nat) (old : List (Nat × Nat)) (e : Nat × Nat) : State :=
  let a := s.regionClass e.1 == 2
  let arg := e.1 + e.2 / 2 * 256 + p % 16 * 4096
  let s1 := if ((old.find? fun x => x.1 == e.1).map (·.2)).getD 0 = e.2 then s
    else s.raise srcDispatch (if a then 0x8702 else 0x4702) arg
  if e.2.testBit 4 then
    ((s1.bump Reg.HMK_COUNT_MISMATCH).raise srcDispatch 0x8703 arg).forAll (s.regionBlocksAt c p e.1) fun t b => t.enterPush c p b s.now
  else s1

/-- The changes of a Tile's glass masks and dark groups, as event records (R202). A record for a whole group names port 15. -/
def glassChanges (old new : List Nat) (oldDark newDark : Nat) : List Nat :=
  ((List.range 8).flatMap fun n =>
    ((List.range 16).filter fun k => (old.getD n 0).testBit k != (new.getD n 0).testBit k).map fun k =>
      n * 256 + k + (if (new.getD n 0).testBit k then 0 else 4096))
  ++ ((List.range 8).filter fun n => oldDark.testBit n != newDark.testBit n).map fun n =>
      n * 256 + 15 + (if newDark.testBit n then 0 else 4096)

/-- Any Tile reports a piece of a region hatched. -/
def State.tileHatch (s : State) (r : Nat) : Bool :=
  s.hmk.tileStates.any fun t => t.2.any fun e => e.1 == r && e.2 % 2 == 1

/-- A guard report of a Tile of this Sender (R195, R201, R202). -/
def State.takeGuardReport (s : State) (body : Bytes) : State :=
  let addr := leAt body 2 2 % 4096
  let c := addr / 64 % 4
  let p := addr % 64
  if addr / 256 ≠ s.rd Reg.SYS_ROLE_GROUP ∨ p = 63 then s
  else
    let k := tileKey c p
    let old := (Tab.find s.hmk.tileStates k).getD []
    let es := reportEntries body
    let glass := (List.range 8).map fun n => leAt body (16 + 2 * n) 2
    let dark := leAt body 10 1
    let s1 := s.forAll es fun t e => t.takePieceState c p old e
    let s2 := s1.forAll (glassChanges ((Tab.find s.hmk.tileGlass k).getD []) glass ((Tab.find s.hmk.tileDark k).getD 0) dark)
      fun t a => t.raise srcDispatch 0x8704 a
    let s3 := { s2 with hmk := { s2.hmk with
      tileStates := Tab.put s2.hmk.tileStates k es
      tileGlass := Tab.put s2.hmk.tileGlass k glass
      tileDark := Tab.put s2.hmk.tileDark k dark } }
    s3.forAll ((es ++ old).map (·.1)).dedup fun t r => t.wrFlag (Reg.HMK_REG_STAT_TILE_HATCH (r / 64) (r % 64)) (t.tileHatch r)

/-- GUARD_REPORT_RECEIVE (R195): a STATUS packet of form 0x02 at a Sender. -/
def doGuardReportReceive (s : State) (p : Nat) (a : Arrival) : State :=
  s.onPacket p .status a fun t _ =>
    t.onForm p statusForms a.pkt.body 2 fun u => u.takeGuardReport a.pkt.body

def execGuardReportReceive (p : Port) (a : Arrival) (s : State) : Host.Outcome State Fault Refusal :=
  .next (s.whenAlive fun u => doGuardReportReceive u p a)

end Sys2Proof.Machine
end

