-- ==== Sys2Proof/Machine/WeftLink.lean ====
section
/-! DEFINITION. The Weft ports as links (R203 to R208, R232 to R246, R517 of spec/07_weft_chain_link.md): training, back-off,
degrade, power states, stored settings and eye scans. -/

namespace Sys2Proof.Machine

/-! ### Widths and lanes -/

/-- The lanes in use for a good mask and a width limit code (R205, R233): 4 lanes, a pair, or the lowest good one. -/
def lanesFor (mask limit : Nat) : List Nat :=
  let good (l : Nat) : Bool := mask.testBit l
  if limit = 3 ∧ mask % 16 = 15 then [0, 1, 2, 3]
  else if 2 ≤ limit ∧ good 0 ∧ good 1 then [0, 1]
  else if 2 ≤ limit ∧ good 2 ∧ good 3 then [2, 3]
  else (([0, 1, 2, 3].filter good).take 1)

/-- The width code of the lanes in use: 0 none, 1 one, 2 two, 3 four (WFT_PORT_STAT.RX_WIDTH). -/
def widthCode (lanes : List Nat) : Nat :=
  match lanes.length with
  | 0 => 0
  | 1 => 1
  | 2 => 2
  | _ => 3

/-- The number of lanes of a width code. -/
def lanesOfCode (c : Nat) : Nat := if c = 3 then 4 else c

/-- Sets the receive width and the lanes in use in the receive direction (R205). -/
def State.setRxLanes (s : State) (p mask : Nat) : State :=
  let used := lanesFor mask (s.ac (Reg.WFT_PORT_CFG_MAX_WIDTH p))
  ((s.wr (Reg.WFT_PORT_STAT_RX_WIDTH p) (widthCode used)).wr (Reg.WFT_PORT_STAT_RX_GOOD p) mask).forAll [0, 1, 2, 3]
    fun t l => t.wrFlag (Reg.WFT_LANE_STAT_LOGICAL p l) (used.contains l)

/-- Sets the transmit width from the partner's receive good mask (R233). -/
def State.setTxMask (s : State) (p mask : Nat) : State :=
  (s.wr (Reg.WFT_PORT_STAT_TX_WIDTH p) (widthCode (lanesFor mask (s.ac (Reg.WFT_PORT_CFG_MAX_WIDTH p))))).wr
    (Reg.WFT_PORT_STAT_TX_GOOD p) mask

/-! ### Attempts -/

/-- The lane settings as they stand (R517). -/
def State.laneSettings (s : State) (p : Nat) : List (Word × Word) :=
  [0, 1, 2, 3].map fun l => (s.word (Reg.WFT_LANE_STAT_FOM p l), s.word (Reg.WFT_LANE_DFE_TAP_0 p l))

/-- Stores the equaliser settings of a port (R517). -/
def State.storeSettings (s : State) (p : Nat) : State := s.setPort p fun w => { w with stored := some (s.laneSettings p) }

/-- Loads stored equaliser settings and partner presets into the lanes (R517). -/
def State.loadSettings (s : State) (p : Nat) : State :=
  match (s.port p).stored with
  | none => s
  | some l => (s.forAll [0, 1, 2, 3]) fun t i =>
      let (st, dfe) := l.getD i (0, 0)
      let t1 := (t.wr (Reg.WFT_LANE_STAT_CTLE p i) (getBits st 20 4)).wr (Reg.WFT_LANE_STAT_PRESET p i) (getBits st 16 3)
      { t1 with regs := Tab.put t1.regs (RegAddr.WFT_LANE_DFE p i) dfe }

/-- A port that is not in service runs at no width (R205). -/
def State.noWidth (s : State) (p : Nat) : State :=
  ((s.wr (Reg.WFT_PORT_STAT_RX_WIDTH p) 0).wr (Reg.WFT_PORT_STAT_TX_WIDTH p) 0).forAll [0, 1, 2, 3]
    fun t l => t.wr (Reg.WFT_LANE_STAT_LOGICAL p l) 0

/-- A training attempt begins, with TS1 on every lane (R232, R233, R517): a full one at DETECT, a fast one at LOCK with the stored settings. A fast retrain
without stored settings is a full attempt. -/
def State.startAttempt (s : State) (p : Nat) (fast : Bool) : State :=
  let fast := fast && (s.port p).stored.isSome
  let s1 := (s.noWidth p).setPort p fun w => { w with fast := fast, degrading := false, commanded := false }
  let s2 := s1.wr (Reg.WFT_PORT_STAT_TX_POWER p) 0
  (if fast then (s2.loadSettings p).wr (Reg.WFT_PORT_STAT_STATE p) 3 else s2.wr (Reg.WFT_PORT_STAT_STATE p) 2).sendSet p 1 0 0 false

/-- The device's share of a port leaving service: the event record of R246 and the time, which the lane-loss verdict counts from. -/
def State.leaveService (s : State) (p reason : Nat) : State :=
  if s.inService p then
    let s1 := (s.noWidth p).raise (srcWeft p) 0x8804 (p * 64 + reason % 16)
    let s2 := { s1 with weft := { s1.weft with losses := (p, s.now) :: s1.weft.losses } }
    ((if p = s.timePort then s2.chainLost else s2).wr (Reg.WFT_PORT_STAT_STATE p) 0).showSource
  else s

/-- An attempt fails (R233, R235, R236, R237, R517). A failed fast retrain is followed at once by a full attempt. Without energy the port
is marked absent and enters Dormant; otherwise it waits its back-off. -/
def State.failAttempt (s : State) (p reason : Nat) (energy : Bool) : State :=
  let s0 := (s.wr (Reg.WFT_PORT_STAT_FAIL p) reason).bump (Reg.WFT_PORT_ERR_D_ATTEMPTS p)
  if (s.port p).fast then s0.startAttempt p false
  else
    let k := (s.port p).k + 1
    let s1 := (s0.noWidth p).setPort p fun w => { w with k := k }
    let s2 := s1.wr (Reg.WFT_PORT_STAT_BACKOFF p) (min (k - 1) 10)
    if reason = 1 ∨ !energy then
      (((s2.wr (Reg.WFT_PORT_STAT_ABSENT p) 1).wr (Reg.WFT_PORT_STAT_TX_POWER p) 2).setPort p fun w => { w with commanded := false }).wr
        (Reg.WFT_PORT_STAT_STATE p) 1
    else
      let s3 := s2.wr (Reg.WFT_PORT_STAT_STATE p) 6
      if k = 1 ∨ k = 11 then s3.raise (srcWeft p) 0x4802 (p * 64 + reason * 256) else s3

/-- A port enters service (R216, R217, R233, R235, R517). -/
def State.enterService (s : State) (p rxMask partner : Nat) : State :=
  let s1 := ((s.setRxLanes p rxMask).setTxMask p partner).wr (Reg.WFT_PORT_STAT_STATE p) 7
  let s2 := (((s1.wr (Reg.WFT_PORT_STAT_BACKOFF p) 0).wr (Reg.WFT_PORT_STAT_ABSENT p) 0).wr
    (Reg.WFT_PORT_STAT_REMOTE_DORMANT p) 0).wr (Reg.WFT_PORT_ERR_D_ATTEMPTS p) 0
  let s3 := s2.wr (Reg.WFT_PORT_STAT_TX_POWER p) 0
  let s4 := s3.setPort p fun w => { w with
    k := 0, fast := false, degrading := false, syncDue := true, since := s.now, lastTx := s.now, lowFom := []
    entries := w.entries.map fun e => (e.1, { e.2 with synced := false, fails := 0 }) }
  (s4.storeSettings p).showSource

/-- Bit `l` of a lane mask. -/
def laneBit (m : BitVec 4) (l : Nat) : Bool := m.toNat.testBit l

/-- The partner preset that a lane keeps (R238): the first, from 0, whose figure of merit reaches FOM_MIN; with none the one with the highest figure, the
first of them on a tie. With it goes its figure. -/
def bestPreset (min_ : Nat) (foms : List Nat) : Nat × Nat :=
  let l := foms.zipIdx
  match l.find? fun x => decide (min_ ≤ x.1) with
  | some x => (x.2, x.1)
  | none =>
    let b := l.foldl (fun (a : Nat × Nat) x => if a.1 < x.1 then x else a) (l.headD (0, 0))
    (b.2, b.1)

/-- What the equaliser loop settles on for a lane: preset and figure of merit (R238); a fast retrain keeps the stored preset (R517). -/
def State.laneChoice (s : State) (p l : Nat) (r : LaneResult) : Nat × Nat :=
  let foms := (r.fom.getD l []).map (·.toNat)
  if (s.port p).fast then (s.rd (Reg.WFT_LANE_STAT_PRESET p l), foms.headD 0) else bestPreset (s.ac (Reg.WFT_PORT_CFG_FOM_MIN p)) (foms.take 8)

/-- The lanes that qualify at the end of EQ, of those locked (R233): those whose figure reaches FOM_MIN; in a fast retrain, which has no EQ, all of them. -/
def State.goodLanes (s : State) (p : Nat) (r : LaneResult) : Nat :=
  [0, 1, 2, 3].foldl (fun m l =>
    if s.flag (Reg.WFT_LANE_STAT_LOCK p l) && ((s.port p).fast || decide (s.ac (Reg.WFT_PORT_CFG_FOM_MIN p) ≤ (s.laneChoice p l r).2))
    then m + 2 ^ l else m) 0

/-- The mask of the lanes marked good. -/
def State.goodMask (s : State) (p : Nat) : Nat :=
  [0, 1, 2, 3].foldl (fun m l => if s.flag (Reg.WFT_LANE_STAT_GOOD p l) then m + 2 ^ l else m) 0

/-- The lanes take what the equaliser loop found (R238). -/
def State.adaptLanes (s : State) (p : Nat) (r : LaneResult) : State :=
  s.forAll [0, 1, 2, 3] fun t l =>
    let t1 := ((t.wr (Reg.WFT_LANE_STAT_FOM p l) (s.laneChoice p l r).2).wr (Reg.WFT_LANE_STAT_CTLE p l) (r.ctle.getD l 0).toNat).wr
      (Reg.WFT_LANE_STAT_PRESET p l) (s.laneChoice p l r).1
    { t1 with regs := Tab.put t1.regs (RegAddr.WFT_LANE_DFE p l) (r.dfe.getD l 0 &&& 0x3FFFFFFF#32) }

/-- What follows the EQ phase: the lanes that qualify are good, and TS2 with their mask goes out; with none the attempt fails (R232, R233). A fast retrain
adapts here and keeps the lanes that locked (R517). -/
def State.endEq (s : State) (p : Nat) (r : LaneResult) : State :=
  let good := s.goodLanes p r
  let s1 := (s.adaptLanes p r).forAll [0, 1, 2, 3] fun t l => t.wrFlag (Reg.WFT_LANE_STAT_GOOD p l) (good.testBit l)
  if good = 0 then s1.failAttempt p 3 r.energy else (s1.wr (Reg.WFT_PORT_STAT_STATE p) 5).sendSet p 2 0 good true

/-- The partner's transmitter wakes (R243): the lanes that lock on its TS2 carry its traffic again, and the port answers with ACK on its own direction. -/
def State.partnerWakes (s : State) (p : Nat) (r : LaneResult) : State :=
  if s.flag (Reg.WFT_PORT_STAT_REMOTE_DORMANT p) ∧ r.mask ≠ 0 then
    ((s.wr (Reg.WFT_PORT_STAT_REMOTE_DORMANT p) 0).forAll [0, 1, 2, 3] fun t l =>
      (t.wrFlag (Reg.WFT_LANE_STAT_ENERGY p l) (laneBit r.mask l)).wrFlag (Reg.WFT_LANE_STAT_LOCK p l) (laneBit r.mask l)).onlyIf (s.canSend p)
        fun t => t.sendSet p 2 16 (t.goodMask p) true
  else s

/-- The partner's ACK ends the wake of the port's own transmit direction (R243). -/
def State.wakeAcked (s : State) (p : Nat) : State :=
  if s.rd (Reg.WFT_PORT_STAT_TX_POWER p) = 3 then (s.wr (Reg.WFT_PORT_STAT_TX_POWER p) 0).setPort p fun w => { w with syncDue := true } else s

/-- TRAINING_PHASE_END (R233): the condition of the phase the port is in is met. On a port in service it is the end of a wake: the partner's, or the port's
own, whose ACK has come (R243). -/
def doTrainingPhaseEnd (s : State) (p : Nat) (r : LaneResult) : State :=
  match s.rd (Reg.WFT_PORT_STAT_STATE p) with
  | 2 =>
    if r.mask = 0 then s
    else (s.forAll [0, 1, 2, 3] fun t l => t.wrFlag (Reg.WFT_LANE_STAT_ENERGY p l) (laneBit r.mask l)).wr (Reg.WFT_PORT_STAT_STATE p) 3
  | 3 =>
    if r.mask = 0 then s
    else (s.forAll [0, 1, 2, 3] fun t l => t.wrFlag (Reg.WFT_LANE_STAT_LOCK p l) (laneBit r.mask l)).wr (Reg.WFT_PORT_STAT_STATE p) 4
  | 4 => s.endEq p r
  | 5 =>
    if lanesFor r.partner.toNat (s.ac (Reg.WFT_PORT_CFG_MAX_WIDTH p)) = [] then s
    else s.enterService p (s.goodMask p) r.partner.toNat
  | 7 => (s.partnerWakes p r).wakeAcked p
  | _ => s

/-- TRAINING_TIMEOUT (R233): the phase runs out. LOCK and EQ go on with the lanes that qualify; otherwise the attempt fails with the
phase's reason. -/
def doTrainingTimeout (s : State) (p : Nat) (r : LaneResult) : State :=
  match s.rd (Reg.WFT_PORT_STAT_STATE p) with
  | 2 => s.failAttempt p 1 false
  | 3 => if r.mask = 0 then s.failAttempt p 2 r.energy else doTrainingPhaseEnd s p r
  | 4 => s.endEq p r
  | 5 => s.failAttempt p 4 r.energy
  | _ => s

def execTrainingTimeout (p : Port) (r : LaneResult) (s : State) : Host.Outcome State Fault Refusal :=
  .next (s.whenAlive fun u => doTrainingTimeout u p r)

/-- TS1_RECEIVE (R232, R235): a waiting port starts an attempt at once; a port in service whose partner has begun one, as four consecutive sets of a lane in
use say, leaves service, resets k and joins. `set` is symbols 1 to 15 of the sets; a set that does not match is ignored. -/
def doTs1Receive (s : State) (p : Nat) (set : Bytes) : State :=
  if !setIs 1 set then s
  else if s.inService p then
    (((s.leaveService p 0).setPort p fun w => { w with k := 0 }).wr (Reg.WFT_PORT_STAT_BACKOFF p) 0).startAttempt p false
  else if s.rd (Reg.WFT_PORT_STAT_STATE p) = 6 then s.startAttempt p false
  else s

def execTs1Receive (x : SetArrival) (s : State) : Host.Outcome State Fault Refusal :=
  .next (s.whenAlive fun u => doTs1Receive u x.port x.set)

/-- BACKOFF_EXPIRY (R235): the wait ends and the next attempt starts. -/
def doBackoffExpiry (s : State) (p : Nat) : State :=
  if s.rd (Reg.WFT_PORT_STAT_STATE p) = 6 then s.startAttempt p false else s

def execBackoffExpiry (p : Port) (s : State) : Host.Outcome State Fault Refusal :=
  .next (s.whenAlive fun u => doBackoffExpiry u p)

/-- ENERGY_DETECTED (R236): a port in Dormant leaves it, resets k and starts an attempt. -/
def doEnergyDetected (s : State) (p : Nat) : State :=
  if s.rd (Reg.WFT_PORT_STAT_STATE p) = 1 then
    (((s.setPort p fun w => { w with k := 0 }).wr (Reg.WFT_PORT_STAT_BACKOFF p) 0).wr (Reg.WFT_PORT_STAT_ABSENT p) 0).startAttempt p false
  else s

def execEnergyDetected (p : Port) (s : State) : Host.Outcome State Fault Refusal :=
  .next (s.whenAlive fun u => doEnergyDetected u p)

/-- BEACON (R236): an absent port in Dormant drives a burst; a port in Dormant by command does not. -/
def doBeacon (s : State) (p : Nat) : State :=
  if s.rd (Reg.WFT_PORT_STAT_STATE p) = 1 ∧ s.flag (Reg.WFT_PORT_STAT_ABSENT p) ∧ !(s.port p).commanded then
    { s with weft := { s.weft with beacons := s.weft.beacons + 1 } }
  else s

def execBeacon (p : Port) (s : State) : Host.Outcome State Fault Refusal :=
  .next (s.whenAlive fun u => doBeacon u p)

/-! ### Adaptation in service -/

/-- A setting of `n` bits after a millisecond (R238): it moves down, up or not at all, by at most one step; which, is free (log entry 134). -/
def stepSetting (n v move : Nat) : Nat := if move = 0 then v - 1 else if move = 1 then min (v + 1) (2 ^ n - 1) else v

/-- A signed DFE tap of six bits after a millisecond. -/
def stepTap (v move : Nat) : Nat := unsignedOf 6 (clampInt (-32) 31 (signedOf 6 v + (if move = 0 then -1 else if move = 1 then 1 else 0)))

/-- One millisecond of a lane in use (R238): its CTLE and each DFE tap move by at most one step, and its figure of merit is measured anew. -/
def State.adaptLane (s : State) (p l : Nat) : State :=
  if !s.inService p || !s.flag (Reg.WFT_LANE_STAT_LOGICAL p l) then s
  else
    let v := (s.free 32).toNat
    let fom := v % 256
    let low := if fom < s.ac (Reg.WFT_PORT_CFG_FOM_MIN p) then
        (if (Tab.find (s.port p).lowFom l).isSome then (s.port p).lowFom else Tab.put (s.port p).lowFom l s.now)
      else Tab.del (s.port p).lowFom l
    let dfe := s.rd ⟨RegAddr.WFT_LANE_DFE p l, 0, 30, 0⟩
    let taps := ([0, 1, 2, 3, 4].map fun t => stepTap (dfe / 64 ^ t % 64) (v / 4 ^ (5 + t) % 4) * 64 ^ t).sum
    let s1 := (((s.wr (Reg.WFT_LANE_STAT_FOM p l) fom).wr (Reg.WFT_LANE_STAT_CTLE p l) (stepSetting 4 (s.rd (Reg.WFT_LANE_STAT_CTLE p l)) (v / 256 % 4))).wr
      ⟨RegAddr.WFT_LANE_DFE p l, 0, 30, 0⟩ taps).setPort p fun w => { w with lowFom := low }
    s1.spend

/-- A millisecond passes on every lane of every port (R238). -/
def State.adaptPorts (s : State) : State := s.forAll s.weftPorts fun t p => t.forAll [0, 1, 2, 3] fun u l => u.adaptLane p l

/-! ### Degrade -/

/-- A lane in use suffers a fault (R239): lock is lost, which the partner's sleep excuses (R243); more than 255 violations were counted in the millisecond;
its figure of merit has been below FOM_MIN for 100 ms; or its skew exceeds R206. -/
def State.laneFaulty (s : State) (p l : Nat) (cause : LaneCause) (count : Nat) : Bool :=
  s.inService p && s.flag (Reg.WFT_LANE_STAT_LOGICAL p l) && (match cause with
    | .lock => !s.flag (Reg.WFT_PORT_STAT_REMOTE_DORMANT p)
    | .errors => decide (255 < count)
    | .fom => (Tab.find (s.port p).lowFom l).any fun t => decide (t + 100000000 ≤ s.now)
    | .skew => true)

/-- LANE_FAULT (R239): the lane counts the violations it saw outside packets (`cv`, `disp`); a lane that a fault has hit is no longer good, four DEGRADE sets
carry the new mask, and the receive width follows it. A mask that allows no width takes the port out of service into a full attempt. -/
def doLaneFault (s0 : State) (p l : Nat) (cause : LaneCause) (cv disp : Nat) : State :=
  let s := (s0.bumpBy (Reg.WFT_LANE_ERR_CV p l) cv).bumpBy (Reg.WFT_LANE_ERR_DISP p l) disp
  if s.laneFaulty p l cause (cv + disp) then
    let s1 := (s.onlyIf (cause == .lock) fun t => t.wr (Reg.WFT_LANE_STAT_LOCK p l) 0).wr (Reg.WFT_LANE_STAT_GOOD p l) 0
    let mask := s1.goodMask p
    let s2 := ((s1.bump (Reg.WFT_PORT_ERR_C_DEGRADE p)).raise (srcWeft p) 0x4803 (p * 64 + mask)).onlyIf (s1.canSend p) fun t =>
      t.sendSet p 4 4 mask false
    if mask = 0 then (s2.leaveService p mask).startAttempt p false
    else (s2.setRxLanes p mask).setPort p fun w => { w with degrading := true }
  else s

def execLaneFault (p : Port) (l : Fin 4) (cause : LaneCause) (n : LaneErrors) (s : State) : Host.Outcome State Fault Refusal :=
  .next (s.whenAlive fun u => doLaneFault u p l cause n.cv.toNat n.disp.toNat)

/-- DEGRADE_RECEIVE (R232, R239): the port transmits at the widest width its partner's new mask allows, or leaves service where it allows none. `set` is
symbols 1 to 15 of the sets; a set that does not match is ignored. -/
def doDegradeReceive (s : State) (p : Nat) (set : Bytes) : State :=
  let mask := setMask set
  if s.inService p ∧ setIs 4 set then
    let s1 := s.setTxMask p mask
    if lanesFor mask (s.ac (Reg.WFT_PORT_CFG_MAX_WIDTH p)) = [] then (s1.leaveService p mask).startAttempt p false else s1
  else s

def execDegradeReceive (p : Port) (set : Bytes) (s : State) : Host.Outcome State Fault Refusal :=
  .next (s.whenAlive fun u => doDegradeReceive u p set)

/-- DEGRADE_TIMEOUT (R239): the partner has not changed width 10 µs after a lane fault. -/
def doDegradeTimeout (s : State) (p : Nat) : State :=
  if s.inService p ∧ (s.port p).degrading then (s.leaveService p (s.goodMask p)).startAttempt p false else s

def execDegradeTimeout (p : Port) (s : State) : Host.Outcome State Fault Refusal :=
  .next (s.whenAlive fun u => doDegradeTimeout u p)

/-! ### Power states -/

/-- The transmit queue of a port has been empty for IDLE_AFTER µs (R241): nothing waits to be forwarded, and the last packet left that long ago. -/
def State.txEmpty (s : State) (p : Nat) : Bool :=
  (s.port p).fwd.isEmpty && decide ((s.port p).lastTx + s.ac (Reg.WFT_PORT_CFG_IDLE_AFTER p) * 1000 ≤ s.now)

/-- IDLE_HOLD_ENTRY (R241): with IDLE_HOLD set, an Active transmit direction whose queue stayed empty enters Idle-hold. -/
def doIdleHoldEntry (s : State) (p : Nat) : State :=
  if s.inService p ∧ s.acFlag (Reg.WFT_PORT_CFG_IDLE_HOLD p) ∧ s.rd (Reg.WFT_PORT_STAT_TX_POWER p) = 0 ∧ s.txEmpty p then
    s.wr (Reg.WFT_PORT_STAT_TX_POWER p) 1
  else s

def execIdleHoldEntry (p : Port) (s : State) : Host.Outcome State Fault Refusal :=
  .next (s.whenAlive fun u => doIdleHoldEntry u p)

/-- SLEEP_RECEIVE (R232, R243): the partner's transmitter goes Dormant. `set` is symbols 1 to 15 of the sets; a set that does not match is ignored. -/
def doSleepReceive (s : State) (p : Nat) (set : Bytes) : State := s.onlyIf (setIs 3 set) fun t => t.wr (Reg.WFT_PORT_STAT_REMOTE_DORMANT p) 1

def execSleepReceive (x : SetArrival) (s : State) : Host.Outcome State Fault Refusal :=
  .next (s.whenAlive fun u => doSleepReceive u x.port x.set)

/-- WAKE_TIMEOUT (R243, R442): no ACK 150 µs after a wake; reason 5, and a full attempt; an exchange that waited for the wake is dropped. -/
def doWakeTimeout (s : State) (p : Nat) : State :=
  if s.inService p ∧ s.rd (Reg.WFT_PORT_STAT_TX_POWER p) = 3 then
    (((s.leaveService p 5).wr (Reg.WFT_PORT_STAT_FAIL p) 5).startAttempt p false).dropAnswer p
  else s

def execWakeTimeout (p : Port) (s : State) : Host.Outcome State Fault Refusal :=
  .next (s.whenAlive fun u => doWakeTimeout u p)

/-- The port's pins run at all: it is enabled in the committed WFT_PORT_CFG (R241). -/
def State.portOn (s : State) (p : Nat) : Bool := s.rd (Reg.WFT_PORT_STAT_STATE p) != 0

/-- FULL_RETRAIN (R246, R517): out of service and into a full attempt. -/
def doFullRetrain (s : State) (p : Nat) : State := if s.portOn p then (s.leaveService p 0).startAttempt p false else s

def execFullRetrain (p : Port) (s : State) : Host.Outcome State Fault Refusal :=
  .next (s.whenAlive fun u => doFullRetrain u p)

/-- FAST_RETRAIN (R246, R517): out of service and into a fast retrain, or a full attempt without stored settings. -/
def doFastRetrain (s : State) (p : Nat) : State := if s.portOn p then (s.leaveService p 0).startAttempt p true else s

def execFastRetrain (p : Port) (s : State) : Host.Outcome State Fault Refusal :=
  .next (s.whenAlive fun u => doFastRetrain u p)

/-- TRANSMIT_DORMANT (R243, R246): SLEEP sets, then the transmit direction is Dormant; the port stays in service. -/
def doTransmitDormant (s : State) (p : Nat) : State :=
  if s.inService p then (s.onlyIf (s.canSend p) fun t => t.sendSet p 3 16 0 false).wr (Reg.WFT_PORT_STAT_TX_POWER p) 2 else s

def execTransmitDormant (p : Port) (s : State) : Host.Outcome State Fault Refusal :=
  .next (s.whenAlive fun u => doTransmitDormant u p)

/-- TRANSMIT_WAKE (R243): a Dormant transmit direction relocks and sends TS2; it carries traffic once the partner's ACK arrives. -/
def doTransmitWake (s : State) (p : Nat) : State :=
  if s.inService p ∧ s.rd (Reg.WFT_PORT_STAT_TX_POWER p) = 2 then
    (s.sendSet p 2 0 (s.goodMask p) false).wr (Reg.WFT_PORT_STAT_TX_POWER p) 3
  else s

def execTransmitWake (p : Port) (s : State) : Host.Outcome State Fault Refusal :=
  .next (s.whenAlive fun u => doTransmitWake u p)

/-- PORT_DORMANT (R243, R246): after its SLEEP sets the whole port goes Dormant and out of service, without beacons. -/
def doPortDormant (s : State) (p : Nat) : State :=
  if s.portOn p then
    ((((s.onlyIf (s.canSend p) fun t => t.sendSet p 3 16 0 false).leaveService p 0).setPort p fun w => { w with commanded := true }).wr (Reg.WFT_PORT_STAT_STATE p) 1).wr
      (Reg.WFT_PORT_STAT_TX_POWER p) 2
  else s

def execPortDormant (p : Port) (s : State) : Host.Outcome State Fault Refusal :=
  .next (s.whenAlive fun u => doPortDormant u p)

/-- A write of WFT_PORT_CMD (R246): the operation it names; other values have no effect. -/
def doPortCmd (s : State) (p op : Nat) : State :=
  match op with
  | 1 => doFullRetrain s p
  | 2 => doFastRetrain s p
  | 3 => doTransmitDormant s p
  | 4 => doTransmitWake s p
  | 5 => doPortDormant s p
  | _ => s

/-- SETTINGS_SAVE (R517): every 10 s in service the settings are stored. -/
def doSettingsSave (s : State) (p : Nat) : State := if s.inService p then s.storeSettings p else s

def execSettingsSave (p : Port) (s : State) : Host.Outcome State Fault Refusal :=
  .next (s.whenAlive fun u => doSettingsSave u p)

/-! ### Eye scans -/

/-- EYE_SCAN_START (R240): the fields are taken and the scan runs; on a lane that is not in service it ends at once with a count of all
ones. While a scan runs, START has no further effect beyond the fields. -/
def doEyeScanStart (s : State) (p voff phase dwell : Nat) : State :=
  let s1 := ((s.wr (Reg.WFT_EYE_CTRL_VOFF p) voff).wr (Reg.WFT_EYE_CTRL_PHASE p) phase).wr (Reg.WFT_EYE_CTRL_DWELL p) dwell
  if s.flag (Reg.WFT_EYE_CTRL_START p) then s1
  else if s.inService p ∧ s.flag (Reg.WFT_LANE_STAT_LOGICAL p 0) then
    (s1.wr (Reg.WFT_EYE_CTRL_START p) 1).wr (Reg.WFT_EYE_CTRL_DONE p) 0
  else ((s1.wr (Reg.WFT_EYE_CTRL_START p) 0).wr (Reg.WFT_EYE_CTRL_DONE p) 1).wr (Reg.WFT_EYE_ERR_COUNT p) 0xFFFFFFFF

def execEyeScanStart (p : Port) (voff : BitVec 7) (phase : BitVec 6) (dwell : BitVec 4) (s : State) : Host.Outcome State Fault Refusal :=
  .next (s.whenAlive fun u => doEyeScanStart u p voff.toNat phase.toNat dwell.toNat)

/-- EYE_SCAN_DONE (R240): the dwell ends with a count of disagreements. -/
def doEyeScanDone (s : State) (p count : Nat) : State :=
  if s.flag (Reg.WFT_EYE_CTRL_START p) then
    ((s.wr (Reg.WFT_EYE_CTRL_START p) 0).wr (Reg.WFT_EYE_CTRL_DONE p) 1).wr (Reg.WFT_EYE_ERR_COUNT p) count
  else s

def execEyeScanDone (p : Port) (count : Word) (s : State) : Host.Outcome State Fault Refusal :=
  .next (s.whenAlive fun u => doEyeScanDone u p count.toNat)

/-! ### The G12 commit -/

/-- The refusal code of a port's pending G12 set, 0 when it is good (WFT_PORT_STAT.REFUSE). -/
def weftRefusal (s : State) (p : Nat) : Nat :=
  if s.rd (Reg.WFT_PORT_CFG_IDLE_AFTER p) = 0 then 1
  else if s.rd (Reg.WFT_PORT_CFG_MAX_WIDTH p) = 0 then 2
  else if s.rd (Reg.WFT_PORT_CFG_RATE p) = 3 then 3
  else 0

/-- W8 (R517): a port that was absent returns to Dormant; any other trains from its stored settings, or in full where it has none. -/
def State.warmTrain (s : State) (p : Nat) : State :=
  if s.flag (Reg.WFT_PORT_STAT_ABSENT p) then (s.wr (Reg.WFT_PORT_STAT_STATE p) 1).wr (Reg.WFT_PORT_STAT_TX_POWER p) 2 else s.startAttempt p true

/-- What a port does once its G12 fields are copied (R241, R517): ENABLE 0 turns it Off, ENABLE 1 starts it, and a change of RATE or MAX_WIDTH
starts a full attempt. `old` is the state before the copy. -/
def State.weftCommitted (s old : State) (p : Nat) : State :=
  if !s.acFlag (Reg.WFT_PORT_CFG_ENABLE p) then ((s.leaveService p 0).noWidth p).wr (Reg.WFT_PORT_STAT_STATE p) 0
  else if s.warmStart ∧ !s.sys.committed.contains 12 then s.warmTrain p
  else if !old.acFlag (Reg.WFT_PORT_CFG_ENABLE p) ∨ s.ac (Reg.WFT_PORT_CFG_RATE p) ≠ old.ac (Reg.WFT_PORT_CFG_RATE p)
      ∨ s.ac (Reg.WFT_PORT_CFG_MAX_WIDTH p) ≠ old.ac (Reg.WFT_PORT_CFG_MAX_WIDTH p) then
    (s.leaveService p 0).startAttempt p false
  else s

end Sys2Proof.Machine
end

