-- ==== Sys2Proof/Machine/Push.lean ====
section
/-! DEFINITION. Push dispatch and frame commit at a Sender (R148 to R177 of spec/05_damage_push_and_commit.md), commit reports and the region loop,
and the uniform derate of a sender group (R299 of spec/09). -/

namespace Sys2Proof.Machine

/-! ### The G1 check -/

/-- The faults of one pending Tile (R157): reason, and the other Tile of an overlap. -/
def tileFaults (s : State) (ts : List (Nat × Nat × Rect)) (t : Nat × Nat × Rect) : List (Nat × Nat) :=
  let r := t.2.2
  (if r.w < 32 ∨ 2048 < r.w ∨ r.h < 16 ∨ 1024 < r.h ∨ 524288 < r.w * r.h then [(1, 0)] else [])
    ++ (if s.charter.width < r.x + r.w ∨ s.charter.height < r.y + r.h then [(2, 0)] else [])
    ++ (match ts.find? fun u => !(u.1 == t.1 && u.2.1 == t.2.1) && u.2.2.overlaps r with
      | some u => [(3, u.1 * 64 + u.2.1)]
      | none => [])

/-- The chain whose CATCHUP or RESERVE_A is invalid, or chain 0 for an invalid DROPOUT (reason 5). -/
def State.dmgReason5 (s : State) : Option Nat :=
  if s.rd Reg.DMG_CFG_DROPOUT = 0 then some 0
  else [0, 1, 2, 3].find? fun c => s.rd (Reg.DMG_CHAIN_CFG_CATCHUP c) == 0 || decide (32 < s.rd (Reg.DMG_CHAIN_CFG_RESERVE_A c))

/-- The pending queue area lies in one address-map window (R358). -/
def State.queueAreaOk (s : State) : Bool := s.areaOk (s.rd Reg.DMG_QUEUE_BASE * 65536) 16777216

/-- The fault that DMG_REFUSE records (R157): reason, chain, position, other Tile; none when the pending set is good. -/
def dmgRefusal (s : State) : Option (Nat × Nat × Nat × Nat) :=
  let ts := tilesBy s.rd
  match ts.findSome? fun t => ((tileFaults s ts t).head?).map fun f => (f.1, t.1, t.2.1, f.2) with
  | some f => some f
  | none => if !s.queueAreaOk then some (4, 0, 0, 0) else s.dmgReason5.map fun c => (5, c, 0, 0)

/-- Records a refused set. -/
def State.dmgRefused (s : State) (f : Nat × Nat × Nat × Nat) : State :=
  (((s.wr Reg.DMG_REFUSE_REASON f.1).wr Reg.DMG_REFUSE_CHAIN f.2.1).wr Reg.DMG_REFUSE_POS f.2.2.1).wr Reg.DMG_REFUSE_OTHER f.2.2.2

/-- Drops what is queued and recorded for a Tile (R156). -/
def State.dropTile (s : State) (c p : Nat) : State :=
  (s.setQueue c ((s.queue c).filter fun e => e.pos != p)).setTile c p fun x => { x with sets := [] }

/-- What the dispatcher does once its G1 fields are copied (R154, R156): a Tile whose map entry changed loses its entries, and gets a full re-push
where it is enabled; its GUARD follows the next COMMIT (R186). -/
def State.dmgCommitted (s old : State) : State :=
  s.forAll ([0, 1, 2, 3].flatMap fun c => positions.map fun p => (c, p)) fun t cp =>
    if s.tileOn cp.1 cp.2 = old.tileOn cp.1 cp.2 ∧ s.tileRect cp.1 cp.2 = old.tileRect cp.1 cp.2 then t
    else
      let t1 := t.dropTile cp.1 cp.2
      if s.tileOn cp.1 cp.2 then t1.enterAll cp.1 cp.2 s.now else t1

/-! ### Windows and budgets -/

/-- C of R149 in ns. -/
def State.commitOffset (s : State) : Nat := min (s.ac Reg.DMG_CFG_COMMIT_AT * 1000) (s.period - 100000)

/-- The n-th boundary after the one at which the pass of generation g began. -/
def State.boundAfter (s : State) (g n : Nat) : Nat :=
  boundary s.whl.rate (boundaryIndex s.whl.rate (Tab.get s.dmg.bounds g) + n)

/-- T_c(g) (R149). -/
def State.commitTime (s : State) (g : Nat) : Nat := s.boundAfter g 1 + s.commitOffset

/-- The push budget of a window in bytes (R161). -/
def State.budget (s : State) (c : Nat) : Nat := s.portLanes c * s.portRate c * s.period * 31 / 320

/-! ### Eligibility -/

/-- The data of a push (R164): form 1 with the bale, or form 0 with the raw block. -/
def State.pushData (s : State) (b : Nat) : Nat × Bytes :=
  let bale := s.canvasBale b
  let n := 64 + (leAt bale 2 2 + 7) / 8 * 8
  if n < 2304 then (1, slice bale 0 n) else (0, rawData (s.canvasPixels b))

/-- The payload of a push (R164), and its charge (R161). -/
def State.pushPayload (s : State) (b : Nat) : Nat := 24 + (s.pushData b).2.length
def State.pushCharge (s : State) (b : Nat) : Nat := s.pushPayload b + 96

/-- A FRAME number is that of a pass later than the window's (R148, R160). -/
def State.laterThanWindow (s : State) (f : Nat) : Bool := later16 f s.dmg.window

/-- A queued entry's block has been written by a pass later than the window's (R160). -/
def State.ahead (s : State) (e : PushEntry) : Bool := s.laterThanWindow (s.canvasFrame e.block)

/-- In the first window an entry waits until pass 1 has written its block (R154). -/
def State.unwritten (s : State) (e : PushEntry) : Bool :=
  s.dmg.window == 1 && s.covered e.block && !s.dmg.written.contains e.block

/-- An entry is eligible (R160, R154). -/
def State.eligible (s : State) (e : PushEntry) : Bool := !s.ahead e && !s.unwritten e

/-- Withdraws from the window the entries that a later pass has overtaken (R160): they were entered for the block as the window's pass, or an earlier one,
left it. An entry that the later pass itself enters waits for that pass's own window (log entry 61). -/
def State.sweep (s : State) (c : Nat) : State :=
  s.forAll ((s.queue c).filter fun e => s.ahead e && !s.laterThanWindow e.gen && !s.dmg.withdrawn.contains (tileKey c e.pos, e.block))
    fun t e => ({ t with dmg := { t.dmg with withdrawn := (tileKey c e.pos, e.block) :: t.dmg.withdrawn } }).bump
      (Reg.DMG_CHAIN_ERR_WITHDRAWN c)

/-! ### The scheduler -/

/-- Order by damage time, position, row and column (R162). -/
def olderPush (a b : PushEntry) : Bool :=
  decide (a.time < b.time) || (a.time == b.time && (decide (a.pos < b.pos) || (a.pos == b.pos && decide (a.block < b.block))))

/-- The first of a list by an order. -/
def firstBy {α : Type} (before : α → α → Bool) : List α → Option α
  | [] => none
  | x :: t => some (t.foldl (fun a b => if before b a then b else a) x)

/-- A Tile is in catch-up, and its consecutive skips (R163). -/
def State.catchingUp (s : State) (c p : Nat) : Bool := s.flag (Reg.DMG_TILE_STAT_CATCHUP c p)
def State.skips (s : State) (c p : Nat) : Nat := s.rd (Reg.DMG_TILE_STAT_SKIPS c p)

/-- The order of rule 2 of R162: most consecutive skips first, then the lower position, then the order of damage. -/
def State.catchupOrder (s : State) (c : Nat) (a b : PushEntry) : Bool :=
  decide (s.skips c b.pos < s.skips c a.pos) || (s.skips c a.pos == s.skips c b.pos && (decide (a.pos < b.pos) || (a.pos == b.pos && olderPush a b)))

/-- The next entry of a chain (R162). -/
def State.pickPush (s : State) (c : Nat) : Option PushEntry :=
  let l := (s.queue c).filter fun e => s.eligible e && !(s.tile c e.pos).unreached
  let classA := if Tab.get s.dmg.chargeA c * 64 < s.ac (Reg.DMG_CHAIN_CFG_RESERVE_A c) * s.budget c then
    firstBy olderPush (l.filter fun e => s.blockClass e.block == 2) else none
  (classA.orElse fun _ => firstBy (s.catchupOrder c) (l.filter fun e => s.catchingUp c e.pos)).orElse fun _ => firstBy olderPush l

/-- The body of a PUSH (R158, R164). -/
def State.pushBody (s : State) (c p b : Nat) : Bytes :=
  let r := s.tileRect c p
  let (form, data) := s.pushData b
  leBytes 4 (s.wireGen s.dmg.window) ++ leBytes 2 (unsignedOf 16 ((32 * s.blockCol b : Nat) - (r.x : Int)))
    ++ leBytes 2 (unsignedOf 16 ((16 * s.blockRow b : Nat) - (r.y : Int))) ++ leBytes 1 form ++ leBytes 1 (s.blockClass b)
    ++ leBytes 2 data.length ++ zeros 4 ++ leBytes 8 (s.canvasFingerprint b) ++ data

/-- The time in ns that a packet with a body of `n` bytes and a tag takes on a port. -/
def State.wireNs (s : State) (c n : Nat) : Nat := s.airNs c (20 + n + 4 + 12)

/-- A push would be over by T_c of the window at the port's width and rate (R150; log entry 128). -/
def State.fitsWindow (s : State) (c b : Nat) : Bool :=
  decide (0 < s.portLanes c) && decide (s.frameNow + s.wireNs c (s.pushPayload b) ≤ s.commitTime s.dmg.window)

/-- Removes a sent entry; the damage bit of a block clears with its last entry. -/
def State.takePush (s : State) (c : Nat) (e : PushEntry) : State :=
  let s1 := s.setQueue c ((s.queue c).filter fun x => !(x.pos == e.pos && x.block == e.block))
  if [0, 1, 2, 3].any fun k => (s1.queue k).any fun x => x.block == e.block then s1
  else { s1 with dmg := { s1.dmg with damage := s1.dmg.damage.filter fun b => b != e.block } }

/-- PUSH_SEND (R150, R160 to R164): at a packet boundary of a port, the next eligible entry is sent, charged and recorded in the set of its
generation. An entry that would not be over by T_c waits, and no other is tried in its place (DESIGN CHOICE, log entry 128). The dispatcher does all but
send an entry of a Tile that this Sender does not order (R413, log entry 129); one that it does order waits while the port accepts nothing. -/
def doPushSend (s : State) (c : Nat) : State :=
  if !s.isSender ∨ s.dmg.window = 0 then s
  else
    let s1 := s.sweep c
    match s1.pickPush c with
    | none => s1
    | some e =>
      if !s1.fitsWindow c e.block ∨ (s1.ordersTile c e.pos ∧ !s1.canSend c) then s1
      else
        let n := s1.pushCharge e.block
        let g := s1.wireGen s1.dmg.window
        let a := if s1.blockClass e.block = 2 then n else 0
        let s2 := (s1.onlyIf (s1.ordersTile c e.pos) fun t => t.sendOrder c .push (s1.tileAddr c e.pos) (s1.pushBody c e.pos e.block)).takePush c e
        let s3 := { s2 with dmg := { s2.dmg with
          charge := Tab.upd s2.dmg.charge c (· + n), chargeA := Tab.upd s2.dmg.chargeA c (· + a) } }
        s3.setTile c e.pos fun x => { x with
          sent := x.sent + 1
          sets := if s.ordersTile c e.pos then Tab.put x.sets g ((Tab.find x.sets g).getD [] ++ [e]) else x.sets }

def execPushSend (c : Port) (s : State) : Host.Outcome State Fault Refusal :=
  .next (s.whenAlive fun u => doPushSend u c)

/-! ### COMMIT -/

/-- One entry of a COMMIT (R166). -/
def commitEntry (count : Nat) (skip alone : Bool) : Bytes :=
  leBytes 4 (min count 65535 + (if skip then 65536 else 0) + (if alone then 131072 else 0))

/-- The body of a COMMIT packet (R166): phase 0 COMMIT, 1 PREPARE, 2 GO, 3 ABORT. -/
def commitBody (gen show_ phase : Nat) (entries : Bytes) : Bytes :=
  leBytes 4 gen ++ leBytes 8 show_ ++ leBytes 1 phase ++ zeros 3 ++ entries

/-- Positions of a chain with an eligible entry still queued, and with one whose block pass 1 has not written. -/
def State.leftOver (s : State) (c : Nat) : List Nat := (((s.queue c).filter s.eligible).map (·.pos)).dedup
def State.leftUnwritten (s : State) (c : Nat) : List Nat := (((s.queue c).filter s.unwritten).map (·.pos)).dedup

/-- The SKIP bit of a Tile's entry (R154, R167). -/
def State.skipBit (s : State) (c p : Nat) : Bool :=
  !s.tileOn c p || (s.leftOver c).contains p || (s.leftUnwritten c).contains p || s.dmg.withdrawn.any fun w => w.1 == tileKey c p

/-- The 63 entries of a chain's COMMIT (R166, R174). -/
def State.commitEntries (s : State) (c : Nat) : Bytes :=
  positions.flatMap fun p => commitEntry (s.tile c p).sent (s.skipBit c p)
    (s.acFlag Reg.DMG_CFG_WALL_ATOMIC && s.tileOn c p && s.flag (Reg.DMG_TILE_STAT_ALONE c p))

/-- A Tile reaches catch-up when its skips reach CATCHUP (R163). -/
def State.judgeCatchup (s : State) (c p : Nat) : State :=
  if s.ac (Reg.DMG_CHAIN_CFG_CATCHUP c) ≤ s.skips c p then s.wr (Reg.DMG_TILE_STAT_CATCHUP c p) 1 else s

/-- A generation that a Tile does not show: it counts once (R163, R177). -/
def State.countSkip (s : State) (c p gen : Nat) : State :=
  if (s.tile c p).skipped.contains gen then s
  else ((s.bump (Reg.DMG_TILE_STAT_SKIPS c p)).setTile c p fun x => { x with skipped := (gen :: x.skipped).take 64 }).judgeCatchup c p

/-- The books of a chain at T_c (R177): load, queue length, and the over-budget rules; at a standby as at the holder (R413). -/
def State.closeChain (s : State) (c g : Nat) : State :=
  let left := s.leftOver c
  let work := Tab.get s.dmg.charge c + (((s.queue c).filter s.eligible).map fun e => s.pushCharge e.block).sum
  let load := if s.budget c = 0 then (if work = 0 then 0 else 2047) else min 2047 (work * 1024 / s.budget c)
  let s1 := (s.wr (Reg.DMG_CHAIN_LOAD_QUEUED c) (min (s.queue c).length 262143)).wr (Reg.DMG_CHAIN_LOAD_LOAD c) load
  if left.isEmpty then { s1 with dmg := { s1.dmg with overRun := s1.dmg.overRun.filter fun x => x != c } }
  else
    let s2 := (s1.bump (Reg.DMG_CHAIN_ERR_OVER c)).forAll left fun t p => t.countSkip c p (s.wireGen g)
    if s.dmg.overRun.contains c then s2
    else ({ s2 with dmg := { s2.dmg with overRun := c :: s2.dmg.overRun } }).raise srcDispatch 0x8601 c

/-- The enabled, enrolled Tiles that are not alone (R174), of those this Sender orders. -/
def State.atomicSet (s : State) : List Nat :=
  (s.allTiles.filter fun cp => s.ordersTile cp.1 cp.2 && s.trs.enrolled.contains (tileKey cp.1 cp.2)
    && !s.flag (Reg.DMG_TILE_STAT_ALONE cp.1 cp.2)).map fun cp => tileKey cp.1 cp.2

/-- GO or ABORT for a PREPARE, twice on each port (R172). -/
def State.decidePrepare (s : State) : State :=
  match s.dmg.prepare with
  | none => s
  | some r =>
    let go := !r.skipped && r.members.all fun k => (s.tile (k / 64) (k % 64)).complete.contains r.gen
    let body := commitBody r.gen r.show_ (if go then 2 else 3) (zeros 252)
    let s1 := s.forAll s.sendPorts fun t p => (t.sendOrder p .commit (t.chainAll p) body).sendOrder p .commit (t.chainAll p) body
    { s1 with dmg := { s1.dmg with prepare := none } }

/-- Opens the window of generation g + 1 (R151). -/
def State.nextWindow (s : State) (g : Nat) : State :=
  { s with dmg := { s.dmg with
      window := (g + 1) % 2 ^ 32, charge := [], chargeA := [], withdrawn := [], written := [], guardDue := false
      tiles := s.dmg.tiles.map fun x => (x.1, { x.2 with sent := 0 }) } }

/-- COMMIT_SEND (R149 to R151, R154, R166, R167, R172, R177, R186): at T_c(g) the Sender decides the last PREPARE, sends COMMIT or PREPARE g on
each active port, then GUARDs and REAFFIRMs, and opens the next window. A standby builds it and sends nothing (R413). Nothing happens
before the pass of generation g has begun, or before the Frame die's count has reached T_c (R248, R251). -/
def doCommitSend (s : State) : State :=
  let g := s.dmg.window
  if !s.isSender ∨ g = 0 ∨ (Tab.find s.dmg.bounds g).isNone ∨ s.frameNow < s.commitTime g then s
  else
    let atomic := s.acFlag Reg.DMG_CFG_WALL_ATOMIC
    let show_ := s.boundAfter g (if atomic then 3 else 2)
    let w := s.wireGen g
    let s1 := [0, 1, 2, 3].foldl State.sweep s.decidePrepare
    let tiles := (s1.allTiles.filter fun cp => s1.ordersTile cp.1 cp.2).map fun cp => tileKey cp.1 cp.2
    let members := s1.atomicSet
    let skipped := members.any fun k => s1.skipBit (k / 64) (k % 64)
    let s2 := s1.forAll s1.sendPorts fun t p =>
      t.sendOrder p .commit (t.chainAll p) (commitBody w show_ (if atomic then 1 else 0) (s1.commitEntries p))
    let s3 := [0, 1, 2, 3].foldl (fun t c => t.closeChain c g) s2
    let s4 := if s.holdsSpindle || s.splitService then s3.wr Reg.DMG_GEN_GEN w else s3
    let s5 := { s4 with
      dmg := { s4.dmg with
        prepare := if atomic && (s.holdsSpindle || s.splitService) then some (PrepareRec.mk w show_ members skipped) else none
        due := if tiles.isEmpty then s4.dmg.due else s4.dmg.due ++ [DueRec.mk w show_ tiles] }
      spn := if s.holdsSpindle then { s4.spn with lastGen := w, lastBoundary := boundaryIndex s.whl.rate (Tab.get s.dmg.bounds g) } else s4.spn }
    (s5.affirmGeneration g show_ s.dmg.guardDue).nextWindow g

def execCommitSend (s : State) : Host.Outcome State Fault Refusal :=
  .next (s.whenAlive fun u => doCommitSend u)

/-! ### Reports and the region loop -/

/-- A Tile becomes alone, or rejoins the atomic set (R174). -/
def State.judgeAlone (s : State) (c p : Nat) : State :=
  let n := s.ac Reg.DMG_CFG_DROPOUT
  let x := s.tile c p
  let alone := s.flag (Reg.DMG_TILE_STAT_ALONE c p)
  if !alone && decide (n ≤ x.failRun) then
    (s.wr (Reg.DMG_TILE_STAT_ALONE c p) 1).raise srcDispatch 0x4602 (2 * 256 + c * 64 + p)
  else if alone && decide (n ≤ x.goodRun) then
    (s.wr (Reg.DMG_TILE_STAT_ALONE c p) 0).raise srcDispatch 0x4602 (3 * 256 + c * 64 + p)
  else s

/-- Counts one generation of a Tile: shown (COMPLETE or LATE) ends its skips and its catch-up (R163); COMPLETE counts for R174. -/
def State.countGeneration (s : State) (c p gen : Nat) (shown complete : Bool) : State :=
  let s1 := if shown then
      (s.wr (Reg.DMG_TILE_STAT_SKIPS c p) 0).wr (Reg.DMG_TILE_STAT_CATCHUP c p) 0
    else s.countSkip c p gen
  (s1.setTile c p fun x => { x with
    goodRun := if complete then x.goodRun + 1 else 0
    failRun := if complete then 0 else x.failRun + 1
    complete := if complete then (gen :: x.complete).take 8 else x.complete }).judgeAlone c p

/-- Settles the set of a generation: a MISS re-enters it with its damage times (R171). -/
def State.settleSet (s : State) (c p gen : Nat) (miss : Bool) : State :=
  let set := (Tab.find (s.tile c p).sets gen).getD []
  let s1 := s.setTile c p fun x => { x with sets := Tab.del x.sets gen, settled := (gen :: x.settled).take 64 }
  if miss then s1.forAll set fun t e => t.enterPush c p e.block e.time else s1

/-- Reported geometry against the map entry in force (R159). -/
def State.judgeGeometry (s : State) (c p w h : Nat) : State :=
  let r := s.tileRect c p
  let bad := !(r.w == w && r.h == h)
  if !s.tileOn c p ∨ bad = s.flag (Reg.DMG_TILE_STAT_GEOM c p) then s
  else (s.wrFlag (Reg.DMG_TILE_STAT_GEOM c p) bad).raise srcDispatch 0x4602 ((if bad then 1 else 4) * 256 + c * 64 + p)

/-- A report from a Tile that was marked unreached clears the mark; the change of path brings a full re-push (R425, R154). -/
def State.reachTile (s : State) (c p : Nat) : State :=
  if (s.tile c p).unreached then (s.setTile c p fun x => { x with unreached := false, missRun := 0 }).fullRepush c p s.now else s

/-- A commit report (R170, R171): one that comes after its deadline only renews DMG_TILE_SHOWN, geometry and the unreached mark. -/
def State.takeCommitReport (s : State) (body : Bytes) : State :=
  let addr := leAt body 2 2 % 4096
  let c := addr / 64 % 4
  let p := addr % 64
  if addr / 256 ≠ s.rd Reg.SYS_ROLE_GROUP ∨ p = 63 then s
  else
    let gen := leAt body 4 4
    let result := leAt body 1 1 % 16
    let s1 := ((s.reachTile c p).judgeGeometry c p (leAt body 16 2) (leAt body 18 2)).wr (Reg.DMG_TILE_SHOWN_GEN c p) (leAt body 12 4)
    if (s1.tile c p).settled.contains gen then s1
    else
      let s2 := ((s1.wr (Reg.DMG_TILE_STAT_RESULT c p) result).setTile c p fun x => { x with missRun := 0 }).settleSet c p gen (result == 1)
      s2.countGeneration c p gen (result == 0 || result == 2) (result == 0)

/-- COMMIT_REPORT_RECEIVE (R159, R163, R170, R171, R174, R425). -/
def doCommitReportReceive (s : State) (p : Nat) (a : Arrival) : State :=
  s.onPacket p .status a fun t _ =>
    if !t.isSender then t else t.onForm p statusForms a.pkt.body 1 fun u => u.takeCommitReport a.pkt.body

def execCommitReportReceive (p : Port) (a : Arrival) (s : State) : Host.Outcome State Fault Refusal :=
  .next (s.whenAlive fun u => doCommitReportReceive u p a)

/-- A Tile whose report is missing at S_g (R171, R425): eight in a row mark it unreached at a protected holder. -/
def State.reportMissing (s : State) (c p gen : Nat) : State :=
  if (s.tile c p).settled.contains gen then s
  else
    let s1 := (((s.wr (Reg.DMG_TILE_STAT_RESULT c p) 4).settleSet c p gen true).countGeneration c p gen false false).setTile c p
      fun x => { x with missRun := x.missRun + 1 }
    if s1.holdsSpindle ∧ s1.flag Reg.SYS_ROLE_PROTECTED ∧ !(s1.tile c p).unreached ∧ 8 ≤ (s1.tile c p).missRun then
      (s1.setTile c p fun x => { x with unreached := true }).raise srcDispatch 0x8604 (s1.tileAddr c p)
    else s1

/-- REPORT_DEADLINE (R171): S_g of the oldest generation whose reports are awaited. -/
def doReportDeadline (s : State) : State :=
  match s.dmg.due with
  | [] => s
  | d :: t => ({ s with dmg := { s.dmg with due := t } }).forAll d.tiles fun u k => u.reportMissing (k / 64) (k % 64) d.gen

def execReportDeadline (s : State) : Host.Outcome State Fault Refusal :=
  .next (s.whenAlive fun u => doReportDeadline u)

/-! ### Uniform derate -/

/-- A derate report (R298, R299). -/
def State.takeDerateReport (s : State) (body : Bytes) : State :=
  let addr := leAt body 2 2 % 4096
  if addr / 256 ≠ s.rd Reg.SYS_ROLE_GROUP ∨ addr % 64 = 63 then s
  else
    let k := addr % 256
    { s with dmg := { s.dmg with
        derates := Tab.put s.dmg.derates k (leAt body 4 2, s.now)
        derateOmitted := s.dmg.derateOmitted.filter fun x => x != k } }

/-- DERATE_REPORT_RECEIVE (R299). -/
def doDerateReportReceive (s : State) (p : Nat) (a : Arrival) : State :=
  s.onPacket p .status a fun t _ =>
    if !t.isSender then t else t.onForm p statusForms a.pkt.body 3 fun u => u.takeDerateReport a.pkt.body

def execDerateReportReceive (p : Port) (a : Arrival) (s : State) : Host.Outcome State Fault Refusal :=
  .next (s.whenAlive fun u => doDerateReportReceive u p a)

/-- The wheel time from which a Tile's silence counts: its last report, or the event after which one is awaited (R299). -/
def State.derateFrom (s : State) (k : Nat) : Option Nat :=
  match Tab.find s.dmg.derates k with
  | some x => some x.2
  | none => Tab.find s.dmg.derateSince k

/-- The body of the wall minimum (R299). -/
def wallminBody (m second tiles : Nat) : Bytes := leBytes 1 0x20 ++ zeros 1 ++ leBytes 2 m ++ leBytes 4 second ++ leBytes 2 tiles ++ zeros 2

/-- The Tiles whose reports the holder counts (R299): the enabled ones that completed enrolment with it, or that it took over with the Spindle. -/
def State.derateTiles (s : State) : List Nat :=
  (s.allTiles.map fun cp => tileKey cp.1 cp.2).filter fun k => s.trs.enrolled.contains k || (Tab.find s.dmg.derateSince k).isSome

/-- WALL_DERATE (R299): the holder computes the group minimum from the reports of the last 3 s and sends the wall minimum on every active port. -/
def doWallDerate (s : State) : State :=
  if !s.holdsSpindle then s
  else
    let tiles := s.derateTiles
    let fresh := tiles.filter fun k => match Tab.find s.dmg.derates k with
      | some x => decide (s.now ≤ x.2 + 3000000000)
      | none => false
    let stale := tiles.filter fun k => !fresh.contains k && match s.derateFrom k with
      | some t => decide (t + 3000000000 < s.now)
      | none => false
    let gm := (fresh.map fun k => (Tab.get s.dmg.derates k).1).foldl min 32768
    let wm := if s.acFlag Reg.DMG_DERATE_EXT_ENABLE then min gm (s.ac Reg.DMG_DERATE_EXT_MIN) else gm
    let s1 := ((s.wr Reg.DMG_DERATE_GROUP_MIN gm).wr Reg.DMG_DERATE_TILES (min fresh.length 255)).wr Reg.DMG_DERATE_STALE
      (min stale.length 255)
    let s2 := s1.forAll (stale.filter fun k => !s.dmg.derateOmitted.contains k) fun t k =>
      ({ t with dmg := { t.dmg with derateOmitted := k :: t.dmg.derateOmitted } }).raise srcDispatch 0x4603 (s.rd Reg.SYS_ROLE_GROUP * 256 + k)
    s2.forAll s2.sendPorts fun t p =>
      t.sendOrder p .mgmt (t.chainAll p) (wallminBody wm (s.now / 1000000000) fresh.length)

def execWallDerate (s : State) : Host.Outcome State Fault Refusal :=
  .next (s.whenAlive fun u => doWallDerate u)

end Sys2Proof.Machine
end

