-- ==== Sys2Proof/Machine/Spindle.lean ====
section
/-! DEFINITION. Spindle fail-over (R400 to R429 of spec/14_spindle_failover.md): heartbeats, a Tile's master, takeover, queries, split-ring service, swap
drills, the shadow comparison, and verdicts by command. -/

namespace Sys2Proof.Machine

/-! ### The G1 check and the claim at start -/

/-- The refusal code of the pending SPN fields (SPN_STAT.REFUSE), 0 when they are good. -/
def spnRefusal (s : State) : Nat :=
  let bad (v lo hi : Nat) : Bool := decide (v < lo) || decide (hi < v)
  if bad (s.rd Reg.SPN_CFG_THERM_C) 80 110 then 1
  else if s.rd Reg.SPN_CFG_UE_LIMIT = 0 ∨ s.rd Reg.SPN_CFG_SHADOW_LIMIT = 0 then 2
  else if bad (s.rd Reg.SPN_CFG_LOSS_MS) 4 64 then 3
  else if bad (s.rd Reg.SPN_CFG2_WDOG_MS) 10 10000 || bad (s.rd Reg.SPN_CFG2_LANE_MS) 10 10000 then 4
  else 0

/-- A Sender claims the Spindle in step C12 (R404): one of rank 0 that has heard no holder, or one without a partner. It draws a wall key if it holds
none (R441). -/
def State.claimSpindle (s : State) : State :=
  if s.flag Reg.SPN_STAT_RANK_CLASH || (s.flag Reg.SYS_ROLE_PROTECTED && (s.rd Reg.SYS_ROLE_RANK != 0 || s.spn.holderHeard)) then s
  else
    let s1 := ((s.wr Reg.SPN_EPOCH_EPOCH (max 1 ((s.spn.maxEpoch + 1) % 2 ^ 32))).wr Reg.SPN_STAT_STATE 1).wr Reg.SPN_GEN_OFS_OFFSET 0
    (({ s1 with spn := { s1.spn with offsetSet := true } }).needWallKey).showSource

/-! ### Hearing the partner -/

/-- LOSS_MS in ns. -/
def State.lossNs (s : State) : Nat := s.cfg 1 Reg.SPN_CFG_LOSS_MS * 1000000

/-- The partner was heard on a port within LOSS_MS (R411). -/
def State.partnerHeard (s : State) (p : Nat) : Bool :=
  match Tab.find s.spn.heard p with
  | some h => decide (s.now < h.time + s.lossNs)
  | none => false

/-- SPN_STAT.PARTNER (R411). -/
def State.partnerMask (s : State) : Nat := ([0, 1, 2, 3].filter s.partnerHeard).foldl (fun m p => m + 2 ^ p) 0

/-- The heartbeat is lost wholly (R411): on every port in service that the partner was ever heard on. -/
def State.lossWhole (s : State) : Bool :=
  [0, 1, 2, 3].all fun p => !s.inService p || (Tab.find s.spn.heard p).isNone || !s.partnerHeard p

/-- A standing is better than another (R400). -/
def betterStanding (e r e' r' : Nat) : Bool := decide (e' < e) || (e == e' && decide (r < r'))

/-- A verdict of codes 1 to 6 stands (R420). -/
def State.ownVerdict (s : State) : Bool := s.spn.verdicts.any fun v => decide (1 ≤ v) && decide (v ≤ 6)

/-! ### HEART -/

/-- The body of a HEART (R230). -/
def heartBody (count sent flags : Nat) : Bytes := leBytes 4 count ++ leBytes 8 sent ++ leBytes 4 flags

/-- The STATE of a HEART on a port (R410, R417, R424). -/
def State.heartFlags (s : State) (p : Nat) : Nat :=
  s.holdsSpindle.toNat + 2 * (!s.spn.verdicts.isEmpty).toNat + 4 * (s.splitPort p).toNat

/-- Sends one HEART on a port. -/
def State.sendHeart (s : State) (p : Nat) : State :=
  s.send p .heart (s.destChain 3 p) (heartBody s.spn.hearts s.now (s.heartFlags p))

/-- The next heartbeat number. -/
def State.countHeart (s : State) : State := { s with spn := { s.spn with hearts := (s.spn.hearts + 1) % 2 ^ 32 } }

/-- Puts a transmit direction into Dormant (R243), unless the Sender needs it. -/
def State.restPort (s : State) (p : Nat) : State :=
  if s.holdsSpindle || s.splitPort p || !s.canSend p then s else doTransmitDormant s p

/-- Ends a drill with a result (R427, R428). -/
def State.endDrill (s : State) (result : Nat) : State :=
  let s1 := ((s.wr Reg.SPN_DRILL_STAT_RESULT result).wr Reg.SPN_STAT_DRILL 0).raise srcDispatch 0x1107 result
  { s1 with spn := { s1.spn with drill := none } }

/-- A holder whose partner did not take the Spindle in a drill holds on (R428, step 4). -/
def State.drillHeart (s : State) : State :=
  match s.spn.drill with
  | some d =>
    if d.stage = 4 then ((s.wr Reg.SPN_STAT_STATE 1).endDrill 5).showSource
    else if d.stage = 3 ∧ d.at_ ≤ s.now then { s with spn := { s.spn with drill := some { d with stage := 4 } } }
    else s
  | none => s

/-- HEART_SEND (R251, R410, R423): at each whole millisecond, on every transmit direction in service; a Sender that gave up the Spindle then puts them into
Dormant. -/
def doHeartSend (s : State) : State :=
  let at_ := s.frameNow / 1000000 * 1000000
  if !s.isSender ∨ !s.due actHeart at_ at_ s.frameNow then s
  else
    let s0 := (s.perform actHeart at_).drillHeart
    let s1 := (s0.forAll s0.sendPorts State.sendHeart).countHeart
    if s1.spn.sleepAfter then
      ({ s1 with spn := { s1.spn with sleepAfter := false } }).forAll s1.sendPorts State.restPort
    else s1

def execHeartSend (s : State) : Host.Outcome State Fault Refusal :=
  .next (s.whenAlive fun u => doHeartSend u)

/-! ### A Tile's master -/

/-- The first packet of a higher epoch clears every floor (R197). -/
def State.clearFloors (s : State) : State :=
  { s with hmk := { s.hmk with guard := s.hmk.guard.map fun g => { g with floor := none } } }

/-- A HEART with STATE[0] or STATE[2] at a Tile that holds no wall key (R222): it serves to lock wheel time, by the time port of R254, and `heard` is the
highest epoch heard before it. -/
def State.followHeart (s : State) (p epoch heard : Nat) : State := s.onlyIf (decide (heard ≤ epoch)) fun t => t.moveTimePort p

/-- A HEART with STATE[0] or STATE[2] at a Tile (R254, R406, R409). -/
def State.takeMaster (s : State) (p epoch rank : Nat) : State :=
  let held := s.flag Reg.SPN_TILE_MASTER_VALID
  let e := s.rd Reg.SPN_TILE_EPOCH_EPOCH
  let r := s.rd Reg.SPN_TILE_MASTER_RANK
  let same := e == epoch && r == rank
  if held && !same && !betterStanding epoch rank e r then s
  else
    let s1 := (((s.wr Reg.SPN_TILE_MASTER_VALID 1).wr Reg.SPN_TILE_MASTER_PORT p).wr Reg.SPN_TILE_MASTER_RANK rank).wr
      Reg.SPN_TILE_EPOCH_EPOCH epoch
    let s2 := { s1 with spn := { s1.spn with heartAt := some s.now, affirmAt := if same then s1.spn.affirmAt else none } }
    let s3 := if epoch < e then s2.markBehind else if e < epoch then s2.clearFloors else s2
    s3.moveTimePort p

/-- HEART_RECEIVE (R222, R406): at a Tile. -/
def doHeartReceive (s : State) (p : Nat) (a : Arrival) : State :=
  s.onPacket p .heart a fun t _ =>
    let st := leAt a.pkt.body 12 4
    if t.isTile && (st.testBit 0 || st.testBit 2) then
      (if t.trs.wallKey.isSome then t.takeMaster p a.pkt.epoch.toNat a.pkt.rank else t.followHeart p a.pkt.epoch.toNat s.spn.maxEpoch)
    else t

def execHeartReceive (p : Port) (a : Arrival) (s : State) : Host.Outcome State Fault Refusal :=
  .next (s.whenAlive fun u => doHeartReceive u p a)

/-- MASTER_LAPSE (R406): LOSS_MS after the last HEART that renewed it, a master lapses. -/
def doMasterLapse (s : State) : State :=
  let lapsed := match s.spn.heartAt with
    | some t => decide (t + s.lossNs ≤ s.now)
    | none => true
  if s.isTile && lapsed then s.wr Reg.SPN_TILE_MASTER_VALID 0 else s

def execMasterLapse (s : State) : Host.Outcome State Fault Refusal :=
  .next (s.whenAlive fun u => doMasterLapse u)

/-! ### Takeover and giving up -/

/-- Wakes a transmit direction that is Dormant, and sends a HEART at once on one that is awake (R421, R422, R428). -/
def State.wakeAndHeart (s : State) (p : Nat) : State :=
  if !s.inService p then s else if s.canSend p then s.sendHeart p else doTransmitWake s p

/-- T5 of R422: queues and sets are discarded, skips and catch-up are cleared, and every enabled Tile gets a full re-push. A Tile without a derate report
is awaited from now on (R299). -/
def State.restartDispatch (s : State) : State :=
  let s1 : State := { s with dmg := { s.dmg with
    queues := [], due := [], prepare := none, guardDue := true, withdrawn := [], overRun := []
    tiles := s.dmg.tiles.map fun x => (x.1, { x.2 with sets := [], skipped := [], sent := 0, missRun := 0, unreached := false })
    derateOmitted := []
    derateSince := s.allTiles.foldl (fun t cp => Tab.put t (tileKey cp.1 cp.2) s.now) [] } }
  s1.forAll s.allTiles fun t cp =>
    ((t.wr (Reg.DMG_TILE_STAT_SKIPS cp.1 cp.2) 0).wr (Reg.DMG_TILE_STAT_CATCHUP cp.1 cp.2) 0).enterAll cp.1 cp.2 s.now

/-- A takeover (R422, R441), T1 to T5; its first COMMIT, GUARDs and REAFFIRMs follow at the next T_c. -/
def State.takeSpindle (s : State) : State :=
  let e := (s.rd Reg.SPN_EPOCH_EPOCH + 1) % 2 ^ 32
  let s1 := (((s.needWallKey.wr Reg.SPN_EPOCH_EPOCH e).wr Reg.SPN_STAT_STATE 1).wr Reg.SPN_STAT_SPLIT 0).bump Reg.SPN_CNT_TAKEOVERS
  let s2 := ({ s1 with spn := { s1.spn with served := [], queries := [], partnerYield := none, sleepAfter := false } }).raise srcDispatch 0x9104 e
  let s3 := ((s2.forAll [0, 1, 2, 3] State.wakeAndHeart).countHeart.wr Reg.WHL_STAT_SLEWING 1).showSource
  s3.restartDispatch

/-- The Sender may take the Spindle at all (R402, R420). -/
def State.mayTake (s : State) : Bool :=
  s.isSender && !s.holdsSpindle && s.flag Reg.SYS_ROLE_PROTECTED && !s.flag Reg.SPN_STAT_RANK_CLASH

/-- A holder, or a yielder, hears a better standing (R417, R423, R428). -/
def State.giveUp (s : State) (epoch : Nat) : State :=
  let s1 := (s.wr Reg.SPN_STAT_STATE 0).wr Reg.SPN_EPOCH_EPOCH epoch
  let s2 := { s1 with spn := { s1.spn with sleepAfter := true, yielded := none } }
  (match s2.spn.drill with
    | some d => if 3 ≤ d.stage then s2.endDrill (if d.returning then 2 else 1) else s2.endDrill 5
    | none => s2).showSource

/-- A port leaves split-ring service (R426): its orders end, a last HEART goes out with STATE[2] at 0, and the direction goes Dormant. -/
def State.leaveSplit (s : State) (p : Nat) : State :=
  if !s.splitPort p then s
  else
    let s1 := s.wrBit Reg.SPN_STAT_SPLIT p false
    let s2 := { s1 with spn := { s1.spn with served := s1.spn.served.filter fun k => k / 64 != p } }
    let s3 := if s2.rd Reg.SPN_STAT_SPLIT = 0 then s2.wr Reg.SPN_STAT_STATE 0 else s2
    ((s3.sendHeart p).countHeart.restPort p).showSource

/-- A query ends without service: the direction goes Dormant again. -/
def State.dropQuery (s : State) (p : Nat) : State := ({ s with spn := { s.spn with queries := Tab.del s.spn.queries p } }).restPort p

/-- What a Sender does with a HEART of its partner (R402, R404, R411, R419, R423, R426, R255). -/
def State.takePartnerHeart (s : State) (p : Nat) (pkt : Packet) : State :=
  let sent := leAt pkt.body 4 8
  let st := leAt pkt.body 12 4
  let e := pkt.epoch.toNat
  if pkt.rank = s.rd Reg.SYS_ROLE_RANK then
    if s.flag Reg.SPN_STAT_RANK_CLASH then s else (s.wr Reg.SPN_STAT_RANK_CLASH 1).raise srcDispatch 0xD101 0
  else
    let holder := st.testBit 0
    let better := betterStanding e pkt.rank (s.rd Reg.SPN_EPOCH_EPOCH) (s.rd Reg.SYS_ROLE_RANK)
    let s1 := { s with spn := { s.spn with
      resume := s.spn.resume && !better
      heard := Tab.put s.spn.heard p ⟨s.now, sent, st, e, pkt.rank⟩
      yieldBar := 0
      holderHeard := s.spn.holderHeard || holder } }
    if (s1.holdsSpindle || s1.spn.yielded.isSome || s1.spn.drill.isSome) && better then s1.giveUp e
    else
      let s2 := if (s1.spn.queries.any fun x => x.1 == p) then s1.dropQuery p else s1
      if holder && !s2.holdsSpindle then ((s2.wr Reg.SPN_EPOCH_EPOCH e).coarseCount sent).leaveSplit p else s2

/-- What a Sender that holds no wall key does with a HEART of its partner (R222, R255, R404): it learns the epoch and that there is a holder, and sets its
count by it. -/
def State.learnHeart (s : State) (pkt : Packet) : State :=
  let s1 := { s with spn := { s.spn with holderHeard := s.spn.holderHeard || (leAt pkt.body 12 4).testBit 0 } }
  if (leAt pkt.body 12 4).testBit 0 && !s.holdsSpindle then (s1.wr Reg.SPN_EPOCH_EPOCH pkt.epoch.toNat).coarseCount (leAt pkt.body 4 8) else s1

/-- PARTNER_HEART_RECEIVE (R222, R402, R411, R423, R426): at a Sender. -/
def doPartnerHeartReceive (s : State) (p : Nat) (a : Arrival) : State :=
  s.onPacket p .heart a fun t _ => if !t.isSender then t else if t.trs.wallKey.isSome then t.takePartnerHeart p a.pkt else t.learnHeart a.pkt

def execPartnerHeartReceive (p : Port) (a : Arrival) (s : State) : Host.Outcome State Fault Refusal :=
  .next (s.whenAlive fun u => doPartnerHeartReceive u p a)

/-! ### Loss of the heartbeat, queries, split-ring service -/

def State.query (s : State) (p : Nat) : Option QueryRec := Tab.find s.spn.queries p
def State.setQuery (s : State) (p : Nat) (q : QueryRec) : State := { s with spn := { s.spn with queries := Tab.put s.spn.queries p q } }

/-- The body of a MGMT register read (R472). -/
def readRequestBody (count id reg : Nat) : Bytes := leBytes 1 0x30 ++ leBytes 1 count ++ leBytes 2 id ++ leBytes 4 reg

/-- The number of the query's read of a Tile (log entry 14). -/
def queryId (p pos : Nat) : Nat := 0x8000 + p * 64 + pos

/-- Sends the reads of SPN_TILE_SEEN to each Tile of a chain's map, nearest to this end first (R421): from the highest position down for a Sender of
rank 1. -/
def State.askTiles (s : State) (p : Nat) : State :=
  match s.query p with
  | some q =>
    if q.asked.isSome then s
    else
      let l := s.chainTiles p
      let near := if s.rd Reg.SYS_ROLE_RANK = 0 then l else l.reverse
      (s.setQuery p { q with asked := some s.now }).forAll near fun t pos =>
        t.send p .mgmt (t.tileAddr p pos) (readRequestBody 1 (queryId p pos) RegAddr.SPN_TILE_SEEN)
  | none => s

/-- HEARTBEAT_LOSS (R421): a protected standby wakes the port, sends HEART and queries the Tiles of its chain. -/
def doHeartbeatLoss (s : State) (p : Nat) : State :=
  if !s.isSender ∨ s.holdsSpindle ∨ !s.flag Reg.SYS_ROLE_PROTECTED ∨ !s.inService p ∨ s.splitPort p ∨ s.partnerHeard p ∨ (s.query p).isSome then s
  else
    let s1 := s.setQuery p ⟨none, false, []⟩
    if s1.canSend p then ((s1.sendHeart p).countHeart).askTiles p else doTransmitWake s1 p

def execHeartbeatLoss (p : Port) (s : State) : Host.Outcome State Fault Refusal :=
  .next (s.whenAlive fun u => doHeartbeatLoss u p)

/-- DEST of an ENROL packet for a group and chain (R210). -/
def enrolDest (place : Nat) : Nat := 0x8000 + place + 63

/-- Sends the stage 2 answer of an exchange, if it has not gone yet (R442, R443, R518): ADDR names the HOPS of the offer, or 63 for a Sender. -/
def State.sendAnswer (s : State) (p : Nat) : State :=
  match Tab.find s.trs.answers p with
  | none => s
  | some r =>
    if r.answered || !s.canSend p then s
    else
      let pos := if s.isSender then 63 else r.hops
      let s1 := s.send p .enrol (enrolDest r.place) (enrolBody 2 0 (r.place + pos) r.key)
      { s1 with trs := { s1.trs with answers := Tab.put s1.trs.answers p { r with answered := true, at_ := s.now } } }

/-- A woken transmit direction of a Sender sends HEART at once, the reads of a query that waited for it, and an answer to an offer (R421, R422, R428,
R442). -/
def State.afterWake (s old : State) (p : Nat) : State :=
  if s.isSender ∧ old.rd (Reg.WFT_PORT_STAT_TX_POWER p) = 3 ∧ old.inService p ∧ s.canSend p then
    (((s.sendHeart p).countHeart).askTiles p).sendAnswer p
  else s

/-- TRAINING_PHASE_END (R233, R243): a phase of training, or a wake, meets its condition. -/
def execTrainingPhaseEnd (p : Port) (r : LaneResult) (s : State) : Host.Outcome State Fault Refusal :=
  .next (s.whenAlive fun u => (doTrainingPhaseEnd u p r).afterWake u p)

/-- Takes the answer of a Tile to a query (R421). -/
def State.queryAnswer (s : State) (id value : Nat) : State :=
  let p := id / 64 % 4
  match s.query p with
  | some q => if q.ended then s else s.setQuery p { q with answers := Tab.put q.answers (id % 64) (value / 65536, value % 65536) }
  | none => s

/-- The Tiles of a query's answers that are abandoned (R421). -/
def State.abandoned (s : State) (q : QueryRec) : List Nat :=
  let ms := s.cfg 1 Reg.SPN_CFG_LOSS_MS
  (q.answers.filter fun x => decide (ms ≤ x.2.1) && decide (ms ≤ x.2.2)).map (·.1)

/-- A port enters split-ring service (R424). -/
def State.enterSplit (s : State) (p : Nat) (tiles : List Nat) : State :=
  let first := tiles.foldl min (tiles.headD 0)
  let s1 := ((s.wrBit Reg.SPN_STAT_SPLIT p true).wr Reg.SPN_STAT_STATE 2).bump Reg.SPN_CNT_SPLITS
  let s2 := { s1 with spn := { s1.spn with served := s1.spn.served ++ tiles.map fun x => tileKey p x, queries := Tab.del s1.spn.queries p } }
  let s3 := ((s2.raise srcDispatch 0x9105 (p * 64 + first)).sendHeart p).countHeart.showSource
  s3.forAll tiles fun t x => t.fullRepush p x s.now

/-- The end of the query of one port when the loss is not whole, or some answering Tile is not abandoned (R421, R424). -/
def State.settleQuery (s : State) (p : Nat) : State :=
  match s.query p with
  | some q => if (s.abandoned q).isEmpty then s.dropQuery p else s.enterSplit p (s.abandoned q)
  | none => s

/-- The query of a port is over (R421): every Tile of the chain's map has answered, or 2 ms have passed since the last read was sent; or the port is out of
service, so that no Tile can answer. -/
def State.queryOver (s : State) (p : Nat) (q : QueryRec) : Bool :=
  !s.inService p || (match q.asked with
    | some t => decide (t + 2000000 ≤ s.now) || (s.chainTiles p).all fun x => (Tab.find q.answers x).isSome
    | none => false)

/-- QUERY_COMPLETE (R420, R421, R424): a whole loss is judged when the query of every lost port has ended. Where every answering Tile is abandoned the Sender takes
the Spindle if it may, and does nothing else; otherwise the ports with an abandoned Tile enter split-ring service. -/
def doQueryComplete (s : State) (p : Nat) : State :=
  match s.query p with
  | none => s
  | some q =>
    if !s.queryOver p q then s else
    let s1 := s.setQuery p { q with ended := true }
    if s.partnerHeard p then s1.dropQuery p
    else if !s.lossWhole then s1.settleQuery p
    else
      let qs := s1.spn.queries
      if qs.any fun x => !x.2.ended then s1
      else
        let answering := (qs.map fun x => x.2.answers.length).sum
        let left := (qs.map fun x => (s1.abandoned x.2).length).sum
        if answering ≠ left then s1.forAll (qs.map (·.1)) State.settleQuery
        else if 0 < answering ∧ s1.mayTake ∧ s1.spn.verdicts.isEmpty then s1.takeSpindle
        else s1.forAll (qs.map (·.1)) State.dropQuery

def execQueryComplete (p : Port) (s : State) : Host.Outcome State Fault Refusal :=
  .next (s.whenAlive fun u => doQueryComplete u p)

/-! ### YIELD -/

/-- What a Sender that does not hold the Spindle does with a YIELD (R420, R428). -/
def State.takeYield (s : State) (pkt : Packet) : State :=
  let reason := leAt pkt.body 0 4
  let y : YieldRec := ⟨reason, leAt pkt.body 4 4, leAt pkt.body 8 8, 0⟩
  let s1 := (s.raise srcDispatch 0x5103 reason).wr Reg.SPN_EPOCH_EPOCH (max (s.rd Reg.SPN_EPOCH_EPOCH) pkt.epoch.toNat)
  if reason = 7 then
    let s2 := { s1 with spn := { s1.spn with partnerYield := some y } }
    if s.spn.partnerYield = some y then s1 else (s2.forAll [0, 1, 2, 3] State.wakeAndHeart).countHeart
  else if 1 ≤ reason ∧ reason ≤ 6 ∧ s.rd Reg.SPN_EPOCH_EPOCH ≤ pkt.epoch.toNat ∧ s1.mayTake ∧ !s1.ownVerdict then s1.takeSpindle
  else s1

/-- YIELD_RECEIVE (R417, R420). -/
def doYieldReceive (s : State) (p : Nat) (a : Arrival) : State :=
  s.onPacket p .yield a fun t _ =>
    if t.isSender && !t.holdsSpindle && a.pkt.rank != t.rd Reg.SYS_ROLE_RANK then t.takeYield a.pkt else t

def execYieldReceive (p : Port) (a : Arrival) (s : State) : Host.Outcome State Fault Refusal :=
  .next (s.whenAlive fun u => doYieldReceive u p a)

/-- YIELD_TIMEOUT (R419): a yielder that has heard no better standing for 100 ms resumes the Spindle at its own epoch. -/
def doYieldTimeout (s : State) : State :=
  match s.spn.yielded with
  | some (code, t) =>
    if s.now < t + 100000000 then s else
    let s1 := (s.wr Reg.SPN_STAT_STATE 1).raise srcDispatch 0x5106 ((Config.spindleKind 3).toNat * 256 + s.rd Reg.SYS_ROLE_RANK)
    ({ s1 with spn := { s1.spn with yielded := none, yieldBar := code } }).showSource
  | none => s

def execYieldTimeout (s : State) : Host.Outcome State Fault Refusal :=
  .next (s.whenAlive fun u => doYieldTimeout u)

/-! ### Generation offset and shadow -/

/-- OFFSET from a COMMIT or PREPARE of the holder (R405): its GEN minus the generation of the own pass that began at the same boundary. -/
def State.learnOffset (s : State) (body : Bytes) : State :=
  let gen := leAt body 0 4
  let phase := leAt body 12 1
  let f := s.whl.rate
  let k := boundaryIndex f (leAt body 4 8) - (if phase = 0 then 2 else 3)
  let s1 := { s with spn := { s.spn with holderGen := some gen } }
  match s.dmg.bounds.find? fun b => b.2 == boundary f k with
  | none => s1
  | some b =>
    let off := (gen + 2 ^ 32 - b.1 % 2 ^ 32) % 2 ^ 32
    let s2 := (s1.wr Reg.SPN_GEN_OFS_OFFSET off).wr Reg.SPN_STAT_GEN_SYNC 1
    let s3 := { s2 with spn := { s2.spn with offsetSet := true } }
    if s.spn.offsetSet ∧ off ≠ s.rd Reg.SPN_GEN_OFS_OFFSET then
      s3.raise srcDispatch 0x5106 ((Config.spindleKind 1).toNat * 256 + s.rd Reg.SYS_ROLE_RANK)
    else s3

/-- GEN_OFFSET_SYNC (R405): a COMMIT or PREPARE of the holder at a Sender that does not hold the Spindle. -/
def doGenOffsetSync (s : State) (p : Nat) (a : Arrival) : State :=
  s.onPacket p .commit a fun t _ => if t.isSender && !t.holdsSpindle && decide (leAt a.pkt.body 12 1 < 2) then t.learnOffset a.pkt.body else t

def execGenOffsetSync (p : Port) (a : Arrival) (s : State) : Host.Outcome State Fault Refusal :=
  .next (s.whenAlive fun u => doGenOffsetSync u p a)

/-- One entry of a holder's REAFFIRM against the own hallmark (R413, R414). -/
def State.shadowEntry (s : State) (x : PieceRec) (own theirs : Nat) : State :=
  let n := if own = theirs then 0 else Tab.get s.spn.unequal x.key + 1
  let s1 := { s with spn := { s.spn with unequal := Tab.put s.spn.unequal x.key n } }
  if own = theirs then s1
  else
    let s2 := (s1.bump Reg.SPN_CNT_SHADOW_MISMATCH).raise srcDispatch 0x5106 ((Config.spindleKind 0).toNat * 256 + x.region)
    if s2.cfg 1 Reg.SPN_CFG_SHADOW_LIMIT ≤ n then s2.raiseVerdict 8 else s2

/-- The entries of a REAFFIRM body (R186): piece and hallmark. -/
def reaffirmEntries (body : Bytes) : List (Nat × Nat) :=
  (List.range (leAt body 14 1)).map fun i => (leAt body (16 + 16 * i) 1, leAt body (24 + 16 * i) 8)

/-- SHADOW_COMPARE (R413, R414): a REAFFIRM of the holder at a standby, compared only while the own piece table of the Tile equals the holder's last
GUARD for it. -/
def doShadowCompare (s : State) (p : Nat) (a : Arrival) : State :=
  s.onPacket p .reaffirm a fun t _ =>
    if !t.isSender || t.holdsSpindle then t
    else
      let c := a.pkt.addr / 64 % 4
      let pos := a.pkt.addr % 64
      let g := t.ownGen (leAt a.pkt.body 0 4)
      let tbl := t.tableFor g
      if Tab.find t.hmk.holderGuard (tileKey c pos) ≠ some (tbl.guardEntries c pos) then t
      else t.forAll (reaffirmEntries a.pkt.body) fun u e =>
        match tbl.pieces.find? fun x => x.chain == c && x.pos == pos && x.num == e.1 with
        | none => u
        | some x => match t.readyMark tbl g x with
          | none => u
          | some v => u.shadowEntry x v e.2

def execShadowCompare (p : Port) (a : Arrival) (s : State) : Host.Outcome State Fault Refusal :=
  .next (s.whenAlive fun u => doShadowCompare u p a)

/-! ### Drills -/

/-- Serial distance of one generation from another, as a signed number (R148). -/
def genAfter (a b : Nat) : Int := signedOf 32 ((a + 2 ^ 32 - b % 2 ^ 32) % 2 ^ 32)

/-- The order of a drill (R427). -/
def State.orderDrill (s : State) (out : Nat) : State :=
  let back := s.spn.drillBack
  if !s.holdsSpindle ∨ !s.flag Reg.SYS_ROLE_PROTECTED ∨ genAfter out (s.rd Reg.DMG_GEN_GEN) < 4 ∨ (back ≠ 0 ∧ genAfter back out < 64) then
    (s.wr Reg.SPN_DRILL_STAT_RESULT 3).raise srcDispatch 0x1107 3
  else
    let s1 := ((s.wr Reg.SPN_STAT_DRILL 1).wr Reg.SPN_DRILL_STAT_RESULT 0).wr Reg.SPN_DRILL_STAT_MISSING 0
    { s1 with spn := { s1.spn with drill := some ⟨out, back, 1, 0, false⟩ } }

/-- SPN_DRILL_OUT (R427): a write of the register. -/
def doSpnDrillOut (s : State) (out : Nat) : State := if s.isSender then s.orderDrill out else s

def execSpnDrillOut (out : Word) (s : State) : Host.Outcome State Fault Refusal :=
  .next (s.whenAlive fun u => doSpnDrillOut u out.toNat)

/-- DRILL_YIELD (R428, step 1): after COMMIT OUT − 3 and its REAFFIRMs. -/
def doDrillYield (s : State) : State :=
  match s.spn.drill with
  | some d =>
    let w := (s.dmg.window + 2 ^ 32 - 1) % 2 ^ 32
    if s.holdsSpindle ∧ d.stage = 1 ∧ s.rd Reg.DMG_GEN_GEN = (d.out + 2 ^ 32 - 3) % 2 ^ 32 then
      let at_ := s.boundAfter w 3 + s.commitOffset + 2000000
      let s1 := s.sendYield 7 ((d.out + 2 ^ 32 - 1) % 2 ^ 32) at_
      { s1 with spn := { s1.spn with drill := some { d with stage := 2, at_ := at_ } } }
    else s
  | none => s

def execDrillYield (s : State) : Host.Outcome State Fault Refusal :=
  .next (s.whenAlive fun u => doDrillYield u)

/-- Ports with an enabled Tile in the map on which the partner is not heard (R428, step 3). -/
def State.silentPorts (s : State) : List Nat := [0, 1, 2, 3].filter fun p => !(s.chainTiles p).isEmpty && !s.partnerHeard p

/-- DRILL_RELEASE (R428, step 3): after COMMIT and REAFFIRM OUT − 1. -/
def doDrillRelease (s : State) : State :=
  match s.spn.drill with
  | some d =>
    if s.holdsSpindle ∧ d.stage = 2 ∧ s.rd Reg.DMG_GEN_GEN = (d.out + 2 ^ 32 - 1) % 2 ^ 32 then
      if s.silentPorts.isEmpty then
        let s1 := s.wr Reg.SPN_STAT_STATE 0
        ({ s1 with spn := { s1.spn with drill := some { d with stage := 3 } } } : State).showSource
      else (s.wr Reg.SPN_DRILL_STAT_MISSING (s.silentPorts.foldl (fun m p => m + 2 ^ p) 0)).endDrill 4
    else s
  | none => s

def execDrillRelease (s : State) : Host.Outcome State Fault Refusal :=
  .next (s.whenAlive fun u => doDrillRelease u)

/-- A HEART of the holder with STATE[0] at 0, sent after a time (R428, step 4). -/
def State.heardReleased (s : State) (after : Nat) : Bool := s.spn.heard.any fun h => decide (after < h.2.sent) && !h.2.flags.testBit 0

/-- A new holder to which BACK was written has the handover back to make (R428). -/
def State.returnDrill (s : State) : State :=
  if s.spn.drillBack = 0 then s
  else
    let s1 := s.wr Reg.SPN_STAT_DRILL 1
    { s1 with spn := { s1.spn with drill := some ⟨s.spn.drillBack, 0, 1, 0, true⟩ } }

/-- DRILL_TAKE (R420, R428, step 4): at WHEN the partner takes the Spindle, or returns to Dormant. The handover back, at the BACK that was
written to it, is its own drill (log entry 15). -/
def doDrillTake (s : State) : State :=
  match s.spn.partnerYield with
  | none => s
  | some y =>
    if s.now < y.when_ then s else
    let s1 := { s with spn := { s.spn with partnerYield := none } }
    if s.mayTake ∧ !s.ownVerdict ∧ s.spn.holderGen = some y.lastGen ∧ s.heardReleased (y.when_ - 2000000) then
      s1.takeSpindle.returnDrill
    else s1.forAll s1.sendPorts State.restPort

def execDrillTake (s : State) : Host.Outcome State Fault Refusal :=
  .next (s.whenAlive fun u => doDrillTake u)

/-! ### Watchdog and verdicts -/

/-- WATCHDOG_KICK (R482): a write of SPN_WDOG; only the key restarts the watchdog. -/
def doWatchdogKick (s : State) (key : Nat) : State := if key = 0x3C96 then { s with spn := { s.spn with wdogAt := s.now } } else s

def execWatchdogKick (key : BitVec 16) (s : State) : Host.Outcome State Fault Refusal :=
  .next (s.whenAlive fun u => doWatchdogKick u key.toNat)

/-- Ports that are out of service, each with an enabled Tile in its map (R416). -/
def State.portsDown (s : State) : Nat := ([0, 1, 2, 3].filter fun p => !s.inService p && !(s.chainTiles p).isEmpty).length

/-- The temperature is above THERM_C; LPM1 + 1 or more ports with Tiles are out of service (R416). -/
def State.tooHot (s : State) : Bool := decide ((16 * s.cfg 1 Reg.SPN_CFG_THERM_C : Int) < s.rdInt Reg.ASY_TEMP_TEMP)
def State.lanesLost (s : State) : Bool := decide (s.cfg 1 Reg.SPN_CFG2_LPM1 + 1 ≤ s.portsDown)

/-- Since when a condition holds without a break. -/
def State.since (s : State) (c : Bool) (t : Option Nat) : Option Nat := if c then some (t.getD s.now) else none

/-- The clocks of the verdicts 5 and 6 (R416). -/
def State.watch (s : State) : State :=
  { s with spn := { s.spn with hotSince := s.since s.tooHot s.spn.hotSince, downSince := s.since s.lanesLost s.spn.downSince } }

/-- A time at which a condition began lies `n` ns back or more. -/
def State.lasted (s : State) (t : Option Nat) (n : Nat) : Bool := t.any fun x => decide (x + n ≤ s.now)

/-- The condition of a verdict (R416). -/
def State.verdictDue (s : State) (code : Nat) : Bool :=
  match code with
  | 1 => decide (s.cfg 1 Reg.SPN_CFG_UE_LIMIT ≤ s.lastSecond s.dmc.ueTimes) || !s.srb.failTimes.isEmpty
  | 2 => decide (s.cfg 0 Reg.LOOM_CFG_BUDGET < s.rd Reg.LOOM_FENCE_COUNT)
  | 3 => decide (2 ≤ s.hmk.checkRun)
  | 4 => decide (s.spn.wdogAt + s.cfg 1 Reg.SPN_CFG2_WDOG_MS * 1000000 ≤ s.now) || s.sys.fatal.isSome
  | 5 => s.tooHot && s.lasted s.spn.hotSince 1000000000
  | 6 => s.lanesLost && s.lasted s.spn.downSince (s.cfg 1 Reg.SPN_CFG2_LANE_MS * 1000000)
  | 8 => s.spn.unequal.any fun x => decide (s.cfg 1 Reg.SPN_CFG_SHADOW_LIMIT ≤ x.2)
  | _ => false

/-- VERDICT (R414, R416 to R418). -/
def doVerdict (s : State) (code : Nat) : State := if s.isSender && s.verdictDue code then s.raiseVerdict code else s

def execVerdict (code : BitVec 4) (s : State) : Host.Outcome State Fault Refusal :=
  .next (s.whenAlive fun u => doVerdict u code.toNat)

end Sys2Proof.Machine
end

