-- ==== Sys2Proof/Machine/TileStore.lean ====
section
/-! DEFINITION. The Tile frame store (R164 to R173, R275 to R285): pushes, cells and copies, commits and their judgement, and what the Tile
shows. -/

namespace Sys2Proof.Machine

/-! ### The G2 check -/

/-- The refusal code of the pending G2 fields (TFS_STAT.REFUSE), 0 when they are good. -/
def tfsRefusal (s : State) : Nat :=
  let w := s.rd Reg.TFS_GEOM_WM1 + 1
  let h := s.rd Reg.TFS_GEOM_HM1 + 1
  let lead := s.rd Reg.TFS_FEED_LEAD
  if w < 32 ∨ 2048 < w ∨ h < 16 ∨ 1024 < h ∨ 524288 < w * h then 1
  else if lead < 200 ∨ 40000 < lead then 2
  else if !s.areaOk (s.rd Reg.TFS_STORE_BASE * 65536) 9502720 then 3
  else 0

/-- The expiry of every piece becomes 0 (R269, R277). -/
def State.clearExpiry (s : State) : State :=
  { s with hmk := { s.hmk with guard := s.hmk.guard.map fun g => { g with expiry := 0, why := 2 } } }

/-- Wall code 0 in every pixel of the three buffers, and the cell grid phase (0, 0) (R277). -/
def State.clearStore (s : State) : State :=
  let n := 6 * s.storeW * s.storeH
  let s1 := s.forAll [0, 1, 2] fun t b => { t with dram := Cells.erase t.dram (s.pixelAddr b 0 0) (s.pixelAddr b 0 0 + n) }
  { s1 with
    tfs := { s1.tfs with cx := 0, cy := 0, behind := [], pending := [], next := none }
    hmk := { s1.hmk with hashed := [] } }

/-- The geometry and place of the store. -/
def State.storeShape (s : State) : Nat × Nat × Nat := (s.storeW, s.storeH, s.cfg 2 Reg.TFS_STORE_BASE)

/-- What the store does once its G2 fields are copied (R277). -/
def State.tfsCommitted (s old : State) : State := if s.storeShape = old.storeShape then s else s.clearStore.clearExpiry

/-! ### Feed times -/

/-- L of R284, in ns. -/
def State.feedLead (s : State) : Nat := min (s.cfg 2 Reg.TFS_FEED_LEAD * 1000) (s.period - 200000)

/-- The show boundary of the feed start whose turn it is: the last boundary that is at most L away (R284). -/
def State.feedBoundary (s : State) (now : Nat) : Nat := s.lastBoundaryAt (now + s.feedLead)

/-- A packet accepted now is in time for the commit deadline of boundary S (R285). -/
def State.inTime (s : State) (show_ : Nat) : Bool := decide (s.now + s.feedLead + 50000 ≤ show_)

/-- The boundary from which a generation is shown (R252, R285), and whether that is later than its SHOW asks: the boundary after SHOW for a packet that
misses the deadline, or, where even that frame's feed has begun, the first whose feed has not (log entry 17). -/
def State.showFrom (s : State) (show_ : Nat) : Nat × Bool :=
  let f := s.whl.rate
  let b := boundaryFrom f show_
  if s.inTime b then (b, false) else (max (nextBoundary f b) (boundaryFrom f (s.now + s.feedLead)), true)

/-- A SHOW that is not one of the Tile's own boundaries (R252). -/
def State.noteShow (s : State) (show_ : Nat) : State :=
  if isBoundary s.whl.rate show_ then s else (s.bump Reg.WHL_CNT_SHOW_MISS).raise srcWheel 0x4902 0

/-! ### Copies -/

/-- Copies a cell from the receive buffer into a buffer (R281). -/
def State.copyCell (s : State) (b c : Nat) : State :=
  s.forAll (s.cellPixels c) fun t p => t.writePixel b p.1 p.2 (t.storedPixel s.receiveBuf p.1 p.2)

/-- Copies a cell that is pending and clears its bit (R281). -/
def State.copyPending (s : State) (b c : Nat) : State :=
  if (s.pendingOf b).contains c then
    let s1 := s.copyCell b c
    { s1 with tfs := { s1.tfs with pending := Tab.put s1.tfs.pending b ((s1.pendingOf b).filter fun x => x != c) } }
  else s

/-- CELL_COPY (R281): the engine copies one pending cell of a buffer. -/
def doCellCopy (s : State) (b col row : Nat) : State := if s.isTile then s.copyPending b (row * 128 + col) else s

def execCellCopy (b : Fin 3) (col row : BitVec 7) (s : State) : Host.Outcome State Fault Refusal :=
  .next (s.whenAlive fun u => doCellCopy u b col.toNat row.toNat)

/-- Every pending copy is completed (R278). -/
def State.finishCopies (s : State) : State := s.forAll s.otherBufs fun t b => t.forAll (t.pendingOf b) fun u c => u.copyPending b c

/-! ### Pushes -/

/-- The pixels of a push, or none where R165 drops it for its form, its length or a decode fault; the last is recorded. -/
def pushPixels (form len : Nat) (data : Bytes) : Option (List Pixel) :=
  if len ≠ data.length then none
  else if form = 0 ∧ len = 2304 then some (rawPixels 512 (bytesBits data))
  else if form = 1 ∧ 64 ≤ len ∧ len ≤ 2304 ∧ len % 8 = 0 then decodeBale data
  else none

/-- A bale that came whole and does not decode (R95). -/
def baleFault (form len : Nat) (data : Bytes) : Bool :=
  form == 1 && len == data.length && decide (64 ≤ len) && decide (len ≤ 2304) && len % 8 == 0 && (decodeBale data).isNone

/-- Counts a push of a generation as accepted or dropped (R168, R170). -/
def State.countPush (s : State) (epoch gen : Nat) (ok : Bool) : State :=
  let old := if s.tfs.pushEpoch = epoch then s.tfs.pushes else []
  { s with tfs := { s.tfs with
      pushEpoch := epoch
      pushes := Tab.upd old gen fun c => if ok then (c.1 + 1, c.2) else (c.1, c.2 + 1) } }

/-- Pushes of a generation accepted and dropped. -/
def State.pushCount (s : State) (epoch gen : Nat) : Nat × Nat := if s.tfs.pushEpoch = epoch then Tab.get s.tfs.pushes gen else (0, 0)

/-- Adopts a cell grid phase (R278, steps 1 to 3). -/
def State.adoptPhase (s : State) (cx cy : Nat) : State :=
  if s.tfs.cx = cx ∧ s.tfs.cy = cy then s
  else
    let s1 := s.finishCopies
    ({ s1 with tfs := { s1.tfs with cx := cx, cy := cy } }).markBehind

/-- The places of a block's pixels inside the store, each with its pixel (R158). -/
def State.blockPlaces (s : State) (x0 y0 : Int) (ps : List Pixel) : List ((Nat × Nat) × Pixel) :=
  (ps.mapIdx fun i p => ((x0 + (i % 32 : Nat), y0 + (i / 32 : Nat)), p)).filterMap fun q =>
    if 0 ≤ q.1.1 ∧ q.1.1 < (s.storeW : Int) ∧ 0 ≤ q.1.2 ∧ q.1.2 < (s.storeH : Int) then some ((q.1.1.toNat, q.1.2.toNat), q.2) else none

/-- A push is about to write a cell: the cell is copied where it is pending, and becomes behind in both other buffers (R279, R281). -/
def State.touchCell (s : State) (c : Nat) : State :=
  let s1 := s.forAll s.otherBufs fun t b => t.copyPending b c
  let add (l : List Nat) : List Nat := if l.contains c then l else c :: l
  { s1 with tfs := { s1.tfs with
      behind := s1.otherBufs.foldl (fun t b => Tab.put t b (add ((Tab.find t b).getD []))) s1.tfs.behind
      next := s1.tfs.next.map fun n => { n with since := add n.since } } }

/-- Writes an accepted push into the receive buffer (R158, R278 to R281). -/
def State.writeBlock (s : State) (x0 y0 : Int) (ps : List Pixel) : State :=
  let s1 := s.adoptPhase (x0 % 32).toNat (y0 % 16).toNat
  match s1.blockPlaces x0 y0 ps with
  | [] => s1
  | q :: l => (s1.touchCell (s1.cellOf q.1.1 q.1.2)).forAll (q :: l) fun t r => t.writePixel s1.receiveBuf r.1.1 r.1.2 r.2

/-- An accepted PUSH packet (R164, R165). The event record of a bale that does not decode names a surface and a bale, which a push has none of:
its argument is free (log entry 18). -/
def State.takePushPacket (s : State) (epoch : Nat) (body : Bytes) : State :=
  let gen := leAt body 0 4
  let form := leAt body 8 1
  let len := leAt body 10 2
  let data := body.drop 24
  let s1 := if baleFault form len data then (s.raise srcBale 0x4401 (s.free 25).toNat).spend else s
  match pushPixels form len data with
  | none => s1.countPush epoch gen false
  | some ps =>
    if crc64Pixels ps = leAt body 16 8 then
      (s1.countPush epoch gen true).writeBlock (signedOf 16 (leAt body 4 2)) (signedOf 16 (leAt body 6 2)) ps
    else s1.countPush epoch gen false

/-- PUSH_RECEIVE (R158, R165): at a Tile. -/
def doPushReceive (s : State) (p : Nat) (a : Arrival) : State :=
  s.onPacket p .push a fun t _ => if t.isTile then t.takePushPacket a.pkt.epoch.toNat a.pkt.body else t

def execPushReceive (p : Port) (a : Arrival) (s : State) : Host.Outcome State Fault Refusal :=
  .next (s.whenAlive fun u => doPushReceive u p a)

/-! ### What the Tile shows -/

/-- The back buffer is bound, without awaiting GO; it is awaiting GO (R280). -/
def State.backBound (s : State) : Bool := s.rd Reg.TFS_STAT_BACK_STATE == 1
def State.backWaits (s : State) : Bool := s.rd Reg.TFS_STAT_BACK_STATE == 2

/-- The buffer whose picture the Tile shows from a boundary, as decided so far, and its generation (R191). -/
def State.shownFrom (s : State) (b : Nat) : Nat × Nat :=
  if s.backBound ∧ s.tfs.boundShow ≤ b then (s.backBuf, s.rd Reg.TFS_BACK_GEN) else (s.frontBuf, s.rd Reg.TFS_SHOW_GEN)

/-- A pixel of the picture of a buffer: a pending cell is read from the receive buffer (R281). -/
def State.picturePixel (s : State) (b x y : Nat) : Pixel :=
  s.storedPixel (if (s.pendingOf b).contains (s.cellOf x y) then s.receiveBuf else b) x y

/-! ### Commits -/

/-- Binds the back buffer to a generation and its boundary (R280). A PREPARE, or a commit, that comes while the back buffer is bound to be shown from an
earlier boundary is held beside it until that one is fed (log entry 16). -/
def State.bindBack (s : State) (gen show_ : Nat) (late waits : Bool) : State :=
  if s.backBound ∧ s.tfs.boundShow < show_ ∧ s.now + s.feedLead ≤ s.tfs.boundShow then
    { s with tfs := { s.tfs with
        next := some ⟨gen, show_, late, waits, s.dramRead (s.pixelAddr s.receiveBuf 0 0) (6 * s.storeW * s.storeH), []⟩ } }
  else
    let b := s.backBuf
    let s1 := (s.wr Reg.TFS_BACK_GEN gen).wr Reg.TFS_STAT_BACK_STATE (if waits then 2 else 1)
    { s1 with tfs := { s1.tfs with
        boundShow := show_, boundLate := late, next := none
        pending := Tab.put s1.tfs.pending b ((s.pendingOf b ++ s.behindOf b).dedup)
        behind := Tab.put s1.tfs.behind b [] } }

/-- The binding of the back buffer is cancelled (R280). -/
def State.unbind (s : State) : State := s.wr Reg.TFS_STAT_BACK_STATE 0

/-- The body of a commit report (R170). -/
def State.commitReport (s : State) (result gen show_ epoch : Nat) : Bytes :=
  let n := s.pushCount epoch gen
  leBytes 1 1 ++ leBytes 1 result ++ leBytes 2 (s.rd Reg.SYS_WALL_ADDR) ++ leBytes 4 gen ++ leBytes 2 (min n.1 65535)
    ++ leBytes 2 (min n.2 65535) ++ leBytes 4 (s.shownFrom (boundaryFrom s.whl.rate show_)).2 ++ leBytes 2 s.storeW ++ leBytes 2 s.storeH
    ++ zeros 4

/-- What every accepted COMMIT packet does first (R169, R201, R283): the first of a higher epoch marks every cell behind; a COMMIT or PREPARE
notes the port on which its generation came. -/
def State.acceptCommit (s : State) (p epoch gen phase : Nat) : State :=
  let s1 := match s.tfs.commitEpoch with
    | some e => if e < epoch then s.markBehind else s
    | none => s
  let same := s.tfs.commitEpoch == some epoch && s.tfs.commitGen == gen
  { s1 with tfs := { s1.tfs with
      commitEpoch := some epoch
      commitGen := if phase < 2 then gen else s1.tfs.commitGen
      commitPorts := if 1 < phase then s1.tfs.commitPorts
        else if same then (if s1.tfs.commitPorts.contains p then s1.tfs.commitPorts else s1.tfs.commitPorts ++ [p]) else [p] } }

/-- Runs an action on an accepted COMMIT packet of one phase at a Tile. -/
def State.onCommit (s : State) (p : Nat) (a : Arrival) (phase : Nat) (act : State → State) : State :=
  s.onPacket p .commit a fun t _ =>
    if t.isTile ∧ leAt a.pkt.body 12 1 = phase then
      act ((t.acceptCommit p a.pkt.epoch.toNat (leAt a.pkt.body 0 4) phase).onlyIf (phase != 3) fun u => u.noteShow (leAt a.pkt.body 4 8))
    else t

/-- The Tile's entry of a COMMIT (R166). -/
def State.ownEntry (s : State) (body : Bytes) : Nat := leAt body (16 + 4 * (s.rd Reg.SYS_WALL_ADDR % 64)) 4

/-- A generation is no later than the one the back buffer is bound to, within one epoch (R169). -/
def State.overtaken (s : State) (epoch gen : Nat) : Bool :=
  s.backBound && s.tfs.commitEpoch == some epoch && !later32 gen (s.rd Reg.TFS_BACK_GEN)

/-- Judges a COMMIT or PREPARE (R168, R170, R173, R189, R285) and sends its report out of the port of arrival. `asCommit`: it acts as a COMMIT. -/
def State.judgeCommit (s old : State) (p epoch : Nat) (body : Bytes) (asCommit : Bool) : State :=
  let gen := leAt body 0 4
  let show_ := leAt body 4 8
  let e := s.ownEntry body
  let skip := e.testBit 16
  let whole := (s.pushCount epoch gen).1 == e % 65536
  let holds := s.flag Reg.HMK_TABLE_VALID
  let shows := whole && !skip && holds
  let (b, late) := if asCommit then s.showFrom show_ else (boundaryFrom s.whl.rate show_, false)
  let s1 := if !shows ∨ old.overtaken epoch gen then s else s.bindBack gen b late (!asCommit)
  let s2 := (s1.onlyIf (holds && !(whole && !skip)) fun t => t.bump Reg.TFS_CNT_MISS).onlyIf (shows && late) fun t => t.bump Reg.TFS_CNT_LATE
  let result := if !whole then 1 else if skip then 3 else if shows && late then 2 else 0
  s2.send p .status (s2.destChain 1 p) (s2.commitReport result gen show_ epoch)

/-- COMMIT_RECEIVE (R168 to R170, R280, R283, R285). -/
def doCommitReceive (s : State) (p : Nat) (a : Arrival) : State :=
  s.onCommit p a 0 fun t => t.judgeCommit s p a.pkt.epoch.toNat a.pkt.body true

def execCommitReceive (p : Port) (a : Arrival) (s : State) : Host.Outcome State Fault Refusal :=
  .next (s.whenAlive fun u => doCommitReceive u p a)

/-- PREPARE_RECEIVE (R170, R173, R280): one whose entry has ALONE acts as a COMMIT. -/
def doPrepareReceive (s : State) (p : Nat) (a : Arrival) : State :=
  s.onCommit p a 1 fun t => t.judgeCommit s p a.pkt.epoch.toNat a.pkt.body ((t.ownEntry a.pkt.body).testBit 17)

def execPrepareReceive (p : Port) (a : Arrival) (s : State) : Host.Outcome State Fault Refusal :=
  .next (s.whenAlive fun u => doPrepareReceive u p a)

/-- The generation that awaits GO in the back buffer is this one. -/
def State.awaits (s : State) (gen : Nat) : Bool := s.backWaits && s.rd Reg.TFS_BACK_GEN == gen

/-- The generation that awaits GO beside the bound one is this one (log entry 16). -/
def State.nextAwaits (s : State) (gen : Nat) : Bool := s.tfs.next.any fun n => n.waits && n.gen == gen

/-- Changes what is held beside the bound generation. -/
def State.updNext (s : State) (f : NextBind → Option NextBind) : State := { s with tfs := { s.tfs with next := s.tfs.next.bind f } }

/-- GO_RECEIVE (R173, R280, R285): GO in time for the commit deadline confirms the binding. -/
def doGoReceive (s : State) (p : Nat) (a : Arrival) : State :=
  s.onCommit p a 2 fun t =>
    let g := leAt a.pkt.body 0 4
    if t.awaits g && t.inTime t.tfs.boundShow then t.wr Reg.TFS_STAT_BACK_STATE 1
    else t.onlyIf (t.nextAwaits g) fun u => u.updNext fun n => some { n with waits := n.waits && !u.inTime n.show_ }

def execGoReceive (p : Port) (a : Arrival) (s : State) : Host.Outcome State Fault Refusal :=
  .next (s.whenAlive fun u => doGoReceive u p a)

/-- ABORT_RECEIVE (R173, R280). -/
def doAbortReceive (s : State) (p : Nat) (a : Arrival) : State :=
  s.onCommit p a 3 fun t =>
    let g := leAt a.pkt.body 0 4
    if t.awaits g then t.unbind else t.onlyIf (t.nextAwaits g) fun u => u.updNext fun _ => none

def execAbortReceive (p : Port) (a : Arrival) (s : State) : Host.Outcome State Fault Refusal :=
  .next (s.whenAlive fun u => doAbortReceive u p a)

/-- GO_TIMEOUT (R173, R280): no GO by the commit deadline of the boundary that the binding is for. -/
def doGoTimeout (s : State) : State := if s.isTile && s.backWaits && !s.inTime s.tfs.boundShow then s.unbind else s

def execGoTimeout (s : State) : Host.Outcome State Fault Refusal :=
  .next (s.whenAlive fun u => doGoTimeout u)

/-! ### The swap at a feed start -/

/-- A PREPARE held beside the generation just fed takes the buffer that the feed freed (log entry 16). -/
def State.promoteNext (s : State) : State :=
  match s.tfs.next with
  | none => s
  | some n =>
    let b := s.backBuf
    let s1 := (s.dramWrite (s.pixelAddr b 0 0) n.bytes).wr Reg.TFS_BACK_GEN n.gen
    let s2 := s1.wr Reg.TFS_STAT_BACK_STATE (if n.waits then 2 else 1)
    { s2 with tfs := { s2.tfs with
        boundShow := n.show_, boundLate := n.late, next := none
        pending := Tab.put s2.tfs.pending b [], behind := Tab.put s2.tfs.behind b n.since } }

/-- The front and the back buffer trade roles (R282). -/
def State.swapBuffers (s : State) : State :=
  let f := s.frontBuf
  let s1 := ((s.wr Reg.TFS_STAT_FRONT s.backBuf).wr Reg.TFS_STAT_BACK f).wr Reg.TFS_STAT_BACK_STATE 0
  ((s1.wr Reg.TFS_SHOW_GEN (s.rd Reg.TFS_BACK_GEN)).wrFlag Reg.TFS_STAT_LATE s.tfs.boundLate).promoteNext

/-- The buffers at the feed start of the frame shown from S (R282). -/
def State.feedBuffers (s : State) (S : Nat) : State :=
  let s1 := if s.backBound ∧ s.tfs.boundShow = S then s.swapBuffers else s
  { s1 with tfs := { s1.tfs with feedShow := S } }

end Sys2Proof.Machine
end

