-- ==== Sys2Proof/Machine/TileGuard.lean ====
section
/-! DEFINITION. Guard tables, expiry and the Tile's own hallmarks (R187 to R194, R197, R270 of spec/06 and spec/08). -/

namespace Sys2Proof.Machine

/-! ### Guard tables -/

/-- The entries of a GUARD message (R187); no more than its bytes hold. -/
def guardEntriesOf (body : Bytes) : List GuardEntry :=
  (List.range (min (min (leAt body 1 1) 64) ((body.length - 16) / 16))).map fun i =>
    let f (o n : Nat) := leAt body (16 + 16 * i + o) n
    ⟨f 0 1, f 1 1, f 2 2, f 4 2, f 6 2, f 8 2, f 10 2⟩

/-- A piece of a new guard table: one equal to a piece of the old table keeps its expiry and floor (R188). -/
def keepPiece (old : List GuardPiece) (e : GuardEntry) : GuardPiece := (old.find? fun g => g.entry == e).getD ⟨e, 0, none, 2, false, 0⟩

/-- Where the guard table lies: the 64 KiB that follow the three buffers (R276). -/
def State.guardPlace (s : State) : Nat := s.pixelAddr 0 0 0 + 9437184

/-- The bytes of a guard table in DRAM: as many as its message has, laid out as the spec does not say (log entry 140). -/
def guardBytes (body : Bytes) : Bytes := (List.range (16 + 16 * (guardEntriesOf body).length)).map (Config.guardByte body)

/-- A Tile applies a GUARD message (R188) and keeps the table in DRAM (R276); the hallmarks of its pieces are yet to be hashed. -/
def State.applyGuard (s : State) (body : Bytes) : State :=
  let s0 := s.dramWrite s.guardPlace (guardBytes body)
  let s1 := { s0 with hmk := { s.hmk with
    guard := (guardEntriesOf body).map (keepPiece s.hmk.guard), phase := leAt body 12 1 % 8, hashed := [] } }
  ((((((((s1.wr Reg.HMK_TABLE_VALID 1).wr Reg.HMK_TABLE_VERSION (leAt body 2 2)).wr Reg.HMK_HATCH_A_C0 (leAt body 4 4)).wr
    Reg.HMK_HATCH_A_C1 (leAt body 4 4 / 1024)).wr Reg.HMK_HATCH_A_C2 (leAt body 4 4 / 1048576)).wr
    Reg.HMK_HATCH_B_C0 (leAt body 8 4)).wr Reg.HMK_HATCH_B_C1 (leAt body 8 4 / 1024)).wr Reg.HMK_HATCH_B_C2 (leAt body 8 4 / 1048576))

/-- A Sender that does not hold the Spindle keeps the holder's guard table of each Tile (R413). -/
def State.keepHolderGuard (s : State) (addr : Nat) (body : Bytes) : State :=
  { s with hmk := { s.hmk with holderGuard := Tab.put s.hmk.holderGuard (tileKey (addr / 64 % 4) (addr % 64)) (guardEntriesOf body) } }

/-- GUARD_RECEIVE (R188, R413): a MGMT packet of form 0x10. -/
def doGuardReceive (s : State) (p : Nat) (a : Arrival) : State :=
  s.onPacket p .mgmt a fun t _ =>
    t.onForm p mgmtForms a.pkt.body 0x10 fun u =>
      if u.isTile then u.applyGuard a.pkt.body else if u.isSender && !u.holdsSpindle then u.keepHolderGuard a.pkt.addr a.pkt.body else u

def execGuardReceive (p : Port) (a : Arrival) (s : State) : Host.Outcome State Fault Refusal :=
  .next (s.whenAlive fun u => doGuardReceive u p a)

/-! ### STALE -/

/-- A STALE order ends a piece's expiry and sets its floor (R197). -/
def GuardPiece.stale (g : GuardPiece) (epoch gen : Nat) : GuardPiece :=
  { g with expiry := 0, floor := some (epoch, gen), why := g.why / 2 * 2 ||| 4 }

/-- An accepted STALE packet (R197). -/
def State.takeStale (s : State) (epoch : Nat) (body : Bytes) : State :=
  let all := (leAt body 6 1).testBit 0 || leAt body 4 2 != s.rd Reg.HMK_TABLE_VERSION
  let mask := leAt body 8 32
  { s with hmk := { s.hmk with
      guard := s.hmk.guard.map fun g => if all || mask.testBit g.entry.region then g.stale epoch (leAt body 0 4) else g } }

/-- STALE_RECEIVE (R197): at a Tile. -/
def doStaleReceive (s : State) (p : Nat) (a : Arrival) : State :=
  s.onPacket p .stale a fun t _ => if t.isTile then t.takeStale a.pkt.epoch.toNat a.pkt.body else t

def execStaleReceive (p : Port) (a : Arrival) (s : State) : Host.Outcome State Fault Refusal :=
  .next (s.whenAlive fun u => doStaleReceive u p a)

/-! ### Hallmarks at the Tile -/

/-- The lines that a read of a stored pixel meets. -/
def State.pixelLines (s : State) (b x y : Nat) : List Nat :=
  let src := if (s.pendingOf b).contains (s.cellOf x y) then s.receiveBuf else b
  [s.pixelAddr src x y / 64, (s.pixelAddr src x y + 5) / 64]

/-- The pixels of a piece, in raster order. -/
def GuardEntry.places (e : GuardEntry) : List (Nat × Nat) :=
  (List.range e.h).flatMap fun j => (List.range e.w).map fun i => (e.x + i, e.y + j)

/-- A value that equals no hallmark: that of a piece that holds an uncorrectable line (R292). -/
def noHallmark : Nat := 2 ^ 64

/-- The hallmark of a piece in the picture of a buffer (R181, R192, R292). -/
def State.tilePieceHallmark (s : State) (bad : List Nat) (b : Nat) (e : GuardEntry) : Nat :=
  if e.places.any fun q => (s.pixelLines b q.1 q.2).any bad.contains then noHallmark
  else crc64Pixels (e.places.map fun q => s.picturePixel b q.1 q.2)

/-- TILE_HALLMARK (R192): the hashing of the pictures that the Tile shows or has committed to show ends; `bad` are the lines of the store whose
reads were uncorrectable. -/
def doTileHallmark (s : State) (bad : List Nat) : State :=
  if s.isTile then
    let row (b gen : Nat) := (b, gen, s.hmk.guard.map fun g => s.tilePieceHallmark bad b g.entry)
    let s1 := s.forAll bad State.noteUe
    { s1 with hmk := { s1.hmk with
        hashed := row s.frontBuf (s.rd Reg.TFS_SHOW_GEN) ::
          (if s.backBound || s.backWaits then [row s.backBuf (s.rd Reg.TFS_BACK_GEN)] else []) } }
  else s

def execTileHallmark (bad : List (BitVec 27)) (s : State) : Host.Outcome State Fault Refusal :=
  .next (s.whenAlive fun u => doTileHallmark u (bad.map (·.toNat)))

/-! ### REAFFIRM -/

/-- REAFFIRM_RECEIVE (R191): a Tile holds the message until it is judged. -/
def doReaffirmReceive (s : State) (p : Nat) (a : Arrival) : State :=
  s.onPacket p .reaffirm a fun t _ =>
    let b := a.pkt.body
    if t.isTile then { t with hmk := { t.hmk with
      held := t.hmk.held ++ [⟨leAt b 0 4, leAt b 4 8, leAt b 12 2, a.pkt.epoch.toNat, reaffirmEntries b⟩] } }
    else t

def execReaffirmReceive (p : Port) (a : Arrival) (s : State) : Host.Outcome State Fault Refusal :=
  .next (s.whenAlive fun u => doReaffirmReceive u p a)

/-- The argument of a record about a piece (R478). -/
def State.pieceArg (s : State) (g : GuardPiece) (reasons : Nat) : Nat :=
  g.entry.region + reasons * 256 + s.rd Reg.SYS_WALL_ADDR % 16 * 4096

/-- Replaces piece n. -/
def State.setPiece (s : State) (n : Nat) (f : GuardPiece → GuardPiece) : State :=
  { s with hmk := { s.hmk with guard := s.hmk.guard.mapIdx fun i g => if i = n then f g else g } }

/-- A floor of this epoch bars a generation (R191, R197). -/
def GuardPiece.barred (g : GuardPiece) (epoch gen : Nat) : Bool :=
  match g.floor with
  | some (e, f) => e == epoch && !later32 gen f
  | none => false

/-- One entry of a REAFFIRM against the Tile's own hallmark (R191), where the Tile shows generation `shown` from SHOW. -/
def State.judgeEntry (s : State) (h : HeldAffirm) (shown : Nat) (own : List Nat) (e : Nat × Nat) : State :=
  match s.hmk.guard[e.1]?, own[e.1]? with
  | some g, some v =>
    if g.barred h.epoch h.gen then s
    else if v = e.2 then
      let s1 := s.setPiece e.1 fun g => { g with expiry := h.show_ + g.entry.deadline * 1000000, why := 1 }
      { s1 with spn := { s1.spn with affirmAt := some s.now } }
    else if shown = h.gen then
      ((s.setPiece e.1 fun g => { g with expiry := 0, why := 10 }).bump Reg.HMK_COUNT_MISMATCH).raise srcDispatch 0x4703 (s.pieceArg g 10)
    else s
  | _, _ => s

/-- The Tile has decided which generation it shows from a boundary (R191). -/
def State.decided (s : State) (b : Nat) : Bool :=
  !(s.backWaits && s.tfs.boundShow == b) && !(s.tfs.next.any fun n => n.show_ == b)

/-- The hallmarks of the picture that the Tile shows from a boundary, with its generation; none while they are not ready. -/
def State.ownHallmarks (s : State) (b : Nat) : Option (Nat × List Nat) :=
  let (buf, gen) := s.shownFrom b
  (s.hmk.hashed.find? fun x => x.1 == buf && x.2.1 == gen).map fun x => (gen, x.2.2)

/-- Judges one held REAFFIRM, or goes on holding it (R191). -/
def State.judgeHeld (s : State) (h : HeldAffirm) : State :=
  let b := boundaryFrom s.whl.rate h.show_
  match (if s.decided b then s.ownHallmarks b else none) with
  | none => { s with hmk := { s.hmk with held := s.hmk.held ++ [h] } }
  | some (gen, own) => if h.table = s.rd Reg.HMK_TABLE_VERSION then s.forAll h.entries fun t e => t.judgeEntry h gen own e else s

/-- REAFFIRM_EVALUATE (R191, R270): every held REAFFIRM that can be judged is; in ACQUIRE and FREE every entry is ignored. -/
def doReaffirmEvaluate (s : State) : State :=
  if !s.isTile then s
  else
    let l := s.hmk.held
    let s1 := { s with hmk := { s.hmk with held := [] } }
    if 2 ≤ s.rd Reg.WHL_STAT_STATE then s1.forAll l State.judgeHeld else s1

def execReaffirmEvaluate (s : State) : Host.Outcome State Fault Refusal :=
  .next (s.whenAlive fun u => doReaffirmEvaluate u)

/-! ### COUNT_STEP -/

/-- COUNT_STEP (R268, R269): once its count has reached its next boundary, a Tile that regains a source beyond 1 ms steps its count. Times at which groups were armed
move with the count. -/
def doCountStep (s : State) : State :=
  match s.whl.stepPending with
  | none => s
  | some o =>
    if s.now < s.whl.stepAt then s
    else
    let t := ((s.count16 : Int) - o).toNat
    let shift (x : Nat) : Nat := ((x : Int) - o / 16).toNat
    let s1 := (s.setCount16 t).clearExpiry
    let s2 := ({ s1 with
      whl := { s1.whl with stepPending := none }
      sys := { s1.sys with armAt := s1.sys.armAt.map fun (x : Nat × Nat) => (x.1, shift x.2) }
      tfs := { s1.tfs with next := none }
      hmk := { s1.hmk with held := [] } }).unbind
    (s2.bump Reg.WHL_CNT_STEPS).enterTrack (some 0)

def execCountStep (s : State) : Host.Outcome State Fault Refusal :=
  .next (s.whenAlive fun u => doCountStep u)

end Sys2Proof.Machine
end

