-- ==== Sys2Proof/Machine/Lamp.lean ====
section
/-! DEFINITION. Lamp correction at a Tile (R286 to R302 of spec/09): the path from wall code to grey, sensors and thermal zones, and the
Tile's part of the uniform derate. -/

namespace Sys2Proof.Machine

/-! ### Configuration -/

def State.sets (s : State) : Nat := s.cfg 3 Reg.LMP_CFG_NSM1 + 1

/-- The set temperatures T_0 to T_3, read through `rd`. -/
def setTempsBy (rd : Fld → Nat) : List Int :=
  [Reg.LMP_SET01_T0, Reg.LMP_SET01_T1, Reg.LMP_SET23_T2, Reg.LMP_SET23_T3].map fun f => signedOf 16 (rd f)

/-- The set temperatures in use (R296). -/
def State.setTemps (s : State) : List Int := (setTempsBy (s.cfg 3)).take s.sets

/-- A list rises strictly. -/
def rising : List Int → Bool
  | a :: b :: t => decide (a < b) && rising (b :: t)
  | _ => true

/-- The refusal code of the pending G3 fields (LMP_STAT.REFUSE), 0 when they are good. -/
def lmpRefusal (s : State) : Nat :=
  let n := s.rd Reg.LMP_CFG_NSM1 + 1
  let slew := s.rd Reg.LMP_CFG_SLEW
  if !rising ((setTempsBy s.rd).take n) then 1
  else if slew = 0 ∨ 4 < slew then 2
  else if s.rd Reg.LMP_CFG_SCAN_MS < 10 then 3
  else if !s.areaOk (s.rd Reg.LMP_TABLE_BASE * 65536) (n * 8388608) then 4
  else if s.rd Reg.LMP_CFG_DRT_SLEW = 0 then 5
  else 0

/-! ### Zones -/

/-- The zone of a pixel (R289). -/
def State.zoneOf (s : State) (x y : Nat) : Nat := 4 * (4 * y / s.storeH) + 4 * x / s.storeW

/-- The target position at a temperature (R296). -/
def targetOf (ts : List Int) (t : Int) : Nat :=
  let n := ts.length
  if t ≤ ts.headD 0 then 0
  else if ts.getD (n - 1) 0 ≤ t then 1024 * (n - 1)
  else
    let k := ((List.range n).filter fun i => decide (ts.getD i 0 ≤ t)).foldl max 0
    1024 * k + (1024 * (t - ts.getD k 0) / (ts.getD (k + 1) 0 - ts.getD k 0)).toNat

/-- Sets every zone's target from its temperature (R296). -/
def State.setTargets (s : State) : State :=
  s.forAll (List.range 16) fun t z => t.wr (Reg.LMP_ZONE_STAT_TARGET z) (targetOf s.setTemps (s.rdInt (Reg.LMP_ZONE_TEMP_TEMP z)))

/-- Sets every position to its target (R297). -/
def State.settleZones (s : State) : State := s.forAll (List.range 16) fun t z => t.wr (Reg.LMP_ZONE_STAT_POS z) (t.rd (Reg.LMP_ZONE_STAT_TARGET z))

/-- The G3 fields whose change settles every zone (R297). -/
def State.lampShape (s : State) : Nat × Nat × Nat × List Int :=
  (s.cfg 3 Reg.LMP_CFG_NSM1, s.cfg 3 Reg.LMP_CFG_IDENTITY, s.cfg 3 Reg.LMP_TABLE_BASE, setTempsBy (s.cfg 3))

/-- What lamp correction does once its G3 fields are copied (R297). -/
def State.lmpCommitted (s old : State) : State := if s.lampShape = old.lampShape then s else s.setTargets.settleZones

/-- A position moves toward its target by at most the slew (R297). -/
def stepToward (x target by_ : Nat) : Nat := if x < target then min target (x + by_) else max target (x - by_)

/-- The positions at a feed start (R297); with no valid sensor they stay (R295). -/
def State.slewZones (s : State) : State :=
  if s.flag Reg.LMP_STAT_NOSENSE then s
  else s.forAll (List.range 16) fun t z =>
    t.wr (Reg.LMP_ZONE_STAT_POS z) (stepToward (t.rd (Reg.LMP_ZONE_STAT_POS z)) (t.rd (Reg.LMP_ZONE_STAT_TARGET z)) (s.cfg 3 Reg.LMP_CFG_SLEW))

/-! ### Sensors -/

/-- The reading of a sensor in 1/16 °C; none for a read that failed or lies outside −40 to +150 °C (R293, R294). -/
def goodReading (r : Option (BitVec 16)) : Option Int :=
  match r with
  | some v => if -10240 ≤ v.toInt ∧ v.toInt ≤ 38400 then some (v.toInt / 16) else none
  | none => none

/-- One read of a sensor (R294). -/
def State.readSensor (s : State) (i : Nat) (r : Option (BitVec 16)) : State :=
  let was := s.flag (Reg.LMP_SNS_STAT_VALID i)
  match goodReading r with
  | some t =>
    let s1 := ((s.wr (Reg.LMP_SNS_STAT_FAILS i) 0).wr (Reg.LMP_SNS_STAT_TEMP i) (unsignedOf 16 t)).wr (Reg.LMP_SNS_STAT_VALID i) 1
    if was then s1 else (s1.wrBit Reg.LMP_STAT_VALID i true).raise srcLamp 0x4B01 i
  | none =>
    let n := min 3 (s.rd (Reg.LMP_SNS_STAT_FAILS i) + 1)
    let s1 := s.wr (Reg.LMP_SNS_STAT_FAILS i) n
    if n = 3 ∧ was then ((s1.wr (Reg.LMP_SNS_STAT_VALID i) 0).wrBit Reg.LMP_STAT_VALID i false).raise srcLamp 0x4B01 i else s1

/-- Temperatures of the valid sensors that a mask names. -/
def State.sensorTemps (s : State) (mask : Nat) : List Int :=
  ((List.range 16).filter fun i => mask.testBit i && s.bit Reg.LMP_STAT_VALID i).map fun i => s.rdInt (Reg.LMP_SNS_STAT_TEMP i)

/-- The mean of R295. -/
def meanTemp (l : List Int) : Int := (2 * l.sum + l.length) / (2 * l.length : Nat)

/-- The highest of a list. -/
def highest (l : List Int) : Int := l.foldl max (l.headD 0)

/-- A zone's temperature after a scan, while some sensor is valid (R295). -/
def State.scanZone (s : State) (z : Nat) : State :=
  match s.sensorTemps (s.cfg 3 (Reg.LMP_ZONE_MASK_MASK z)) with
  | [] => (s.wr (Reg.LMP_ZONE_TEMP_TEMP z) (unsignedOf 16 (highest (s.sensorTemps 0xFFFF)))).wr (Reg.LMP_ZONE_STAT_SRC z) 1
  | l => (s.wr (Reg.LMP_ZONE_TEMP_TEMP z) (unsignedOf 16 (meanTemp l))).wr (Reg.LMP_ZONE_STAT_SRC z) 0

/-- The zones after a scan (R295, R296). -/
def State.scanZones (s : State) : State :=
  if (s.sensorTemps 0xFFFF).isEmpty then
    let s1 := (s.wr Reg.LMP_STAT_NOSENSE 1).forAll (List.range 16) fun t z => t.wr (Reg.LMP_ZONE_STAT_SRC z) 2
    if s.flag Reg.LMP_STAT_NOSENSE then s1 else s1.raise srcLamp 0x8B02 0
  else ((s.wr Reg.LMP_STAT_NOSENSE 0).forAll (List.range 16) State.scanZone).setTargets

/-- The sensors that a scan reads, in index order (R293). -/
def State.sensorsOn (s : State) : List Nat := (List.range 16).filter fun i => s.cfg 3 (Reg.LMP_SNS_CFG_ENABLE i) == 1

/-- The reads of one scan, in index order (R293): each writes the pointer byte to the sensor's address and reads two bytes, the more significant first. -/
def State.scanSensors (s : State) (readings : List (Option (BitVec 16))) : State :=
  let s1 := { s with drv := { s.drv with bus := s.sensorsOn.map fun i => (s.cfg 3 (Reg.LMP_SNS_CFG_ADDR i), s.cfg 3 (Reg.LMP_SNS_CFG_PTR i)) } }
  (s1.forAll s.sensorsOn fun t i => t.readSensor i (readings.getD i none)).scanZones

/-- SENSOR_SCAN (R293 to R296): the two bytes that each sensor's read gave, the first in the upper half; none for one that failed. -/
def doSensorScan (s : State) (readings : List (Option (BitVec 16))) : State := if s.isTile then s.scanSensors readings else s

def execSensorScan (readings : List (Option (BitVec 16))) (s : State) : Host.Outcome State Fault Refusal :=
  .next (s.whenAlive fun u => doSensorScan u readings)

/-! ### From wall code to grey -/

/-- A correction entry (R288): D0 to D2, then O01, O02, O10, O12, O20, O21, then OFF. -/
structure LampEntry where
  d : List Int
  o : List Int
  off : Nat
deriving DecidableEq, Repr

/-- The identity correction (R288). -/
def LampEntry.identity : LampEntry := ⟨[2048, 2048, 2048], [0, 0, 0, 0, 0, 0], 0⟩

/-- The entry that 128 bits spell (R288). -/
def lampEntryOf (v : Nat) : LampEntry :=
  ⟨[0, 1, 2].map fun i => ((v / 2 ^ (12 * i) % 4096 : Nat) : Int),
   [3, 4, 5, 6, 7, 8].map fun i => signedOf 12 (v / 2 ^ (12 * i)),
   v / 2 ^ 108 % 8⟩

/-- The address of a pixel's entry in a set (R288). -/
def State.entryPlace (s : State) (k x y : Nat) : Nat :=
  s.cfg 3 Reg.LMP_TABLE_BASE * 65536 + k * 8388608 + 16 * (y * s.storeW + x)

def State.lampEntry (s : State) (k x y : Nat) : LampEntry := lampEntryOf (leNat (s.dramRead (s.entryPlace k x y) 16))

/-- One interpolated coefficient (R289). -/
def mixCoeff (f : Nat) (a b : Int) : Int := (a * (1024 - f : Nat) + b * f + 512) / 1024

/-- The identity correction applies to every pixel (R288). -/
def State.identityOn (s : State) : Bool := s.cfg 3 Reg.LMP_CFG_IDENTITY == 1 || s.flag Reg.SYS_START_LEDGER_NONE

/-- The sets read for a pixel, and the fraction between them (R289). -/
def State.setsRead (s : State) (x y : Nat) : Nat × Nat :=
  let p := s.rd (Reg.LMP_ZONE_STAT_POS (s.zoneOf x y))
  (p / 1024, p % 1024)

/-- The correction of a pixel (R288, R289, R292); `bad` are the lines whose reads were uncorrectable. -/
def State.correction (s : State) (bad : List Nat) (x y : Nat) : LampEntry :=
  if s.identityOn then LampEntry.identity
  else
    let (k, f) := s.setsRead x y
    if bad.contains (s.entryPlace k x y / 64) then LampEntry.identity
    else if f = 0 then s.lampEntry k x y
    else if bad.contains (s.entryPlace (k + 1) x y / 64) then LampEntry.identity
    else
      let a := s.lampEntry k x y
      let b := s.lampEntry (k + 1) x y
      ⟨List.zipWith (mixCoeff f) a.d b.d, List.zipWith (mixCoeff f) a.o b.o, a.off ||| b.off⟩

/-- The linear value of a wall code (R287). -/
def State.linear (s : State) (c e : Nat) : Nat := s.cfg 3 (Reg.LMP_DEC_ENTRY (4 * c + e / 1024) (e % 1024))

/-- g_k of R290 for lamp k, from the three linear values. -/
def LampEntry.mix (e : LampEntry) (lin : List Nat) (k : Nat) : Nat :=
  let l (c : Nat) : Int := (lin.getD c 0 : Nat)
  let (j, i) := if k = 0 then (1, 2) else if k = 1 then (0, 2) else (0, 1)
  let sum := 2 * e.d.getD k 0 * l k + e.o.getD (2 * k) 0 * l j + e.o.getD (2 * k + 1) 0 * l i
  (clampInt 0 65535 ((sum + 2048) / 4096)).toNat

/-- The derate multiplier for a knee factor k_n (R302). -/
def State.derateOf (s : State) (k : Nat) : Nat := min 32768 (s.rd Reg.LMP_DERATE_APPLIED * 32768 / max k 1)

/-- The grey word of lamp k of a pixel with these wall codes, at a multiplier (R291). -/
def State.greyOf (s : State) (e : LampEntry) (p : Pixel) (m k : Nat) : Nat :=
  if e.off.testBit k then 0
  else (e.mix [s.linear 0 (pixelR p), s.linear 1 (pixelG p), s.linear 2 (pixelB p)] k * m + 16384) / 32768

/-! ### The fed picture -/

/-- The hatch code of a place (R194). -/
def State.tileHatchPixel (s : State) (x y : Nat) : Pixel :=
  if (x + y + s.hmk.phase) % 8 < 4 then
    pixelOf (conv10 (s.rd Reg.HMK_HATCH_A_C0)) (conv10 (s.rd Reg.HMK_HATCH_A_C1)) (conv10 (s.rd Reg.HMK_HATCH_A_C2))
  else pixelOf (conv10 (s.rd Reg.HMK_HATCH_B_C0)) (conv10 (s.rd Reg.HMK_HATCH_B_C1)) (conv10 (s.rd Reg.HMK_HATCH_B_C2))

/-- A place lies in a piece. -/
def GuardEntry.has (e : GuardEntry) (x y : Nat) : Bool :=
  decide (e.x ≤ x) && decide (x < e.x + e.w) && decide (e.y ≤ y) && decide (y < e.y + e.h)

/-- The wall codes of a fed pixel (R286 steps 1 and 2, R292). -/
def State.fedPixel (s : State) (bad : List Nat) (x y : Nat) : Pixel :=
  if s.hmk.guard.any fun g => g.hatched && g.entry.has x y then s.tileHatchPixel x y
  else if (s.pixelLines s.frontBuf x y).any bad.contains then 0
  else s.picturePixel s.frontBuf x y

/-- The lines of the fed picture's buffers and of the tables, among those whose reads were uncorrectable: each is recorded (R292). -/
def State.feedLine (s : State) (l : Nat) : Bool :=
  let within (base len : Nat) : Bool := decide (base ≤ 64 * l + 63) && decide (64 * l < base + len)
  within (s.pixelAddr s.frontBuf 0 0) (6 * s.storeW * s.storeH)
    || (!(s.pendingOf s.frontBuf).isEmpty && within (s.pixelAddr s.receiveBuf 0 0) (6 * s.storeW * s.storeH))
    || (!s.identityOn && (List.range s.sets).any fun k => within (s.entryPlace k 0 0) (16 * s.storeW * s.storeH))

/-- The uncorrectable lines that the pipeline met: they count in the memory system and are recorded (R292, R367). -/
def State.noteBadLines (s : State) (bad : List Nat) : State := s.forAll (bad.filter s.feedLine) fun t l => (t.noteUe l).raise srcLamp 0x8A01 l

/-! ### Uniform derate -/

/-- Driver groups in use. -/
def State.groupOn (s : State) (n : Nat) : Bool := s.cfg (4 + n) (Reg.DRV_GRP_CFG_ENABLE n) == 1

/-- LOCAL (R298): the smallest knee factor among the driver groups in service. -/
def State.localFactor (s : State) : Nat :=
  (((List.range 8).filter s.groupOn).map fun n => s.rd (Reg.DRV_GRP_FACTOR_K n)).foldl min 32768

/-- WALLMIN as it acts (R299). -/
def State.wallmin (s : State) : Nat := max 8192 (s.rd Reg.LMP_WALLMIN_WALLMIN)

/-- W at a feed start (R301). -/
def nextApplied (w wallmin loc slew : Nat) : Nat := min (stepToward w (min wallmin loc) slew) loc

/-- The applied factor and LOCAL at a feed start (R298, R301). -/
def State.slewDerate (s : State) : State :=
  let l := s.localFactor
  (s.wr Reg.LMP_DERATE_APPLIED (nextApplied (s.rd Reg.LMP_DERATE_APPLIED) s.wallmin l (s.cfg 3 Reg.LMP_CFG_DRT_SLEW))).wr Reg.LMP_DERATE_LOCAL l

/-- The zone with the highest temperature, the lowest-numbered of several; 0xFF with no valid sensor (R298). -/
def State.hotZone (s : State) : Nat :=
  if s.flag Reg.LMP_STAT_NOSENSE then 0xFF
  else (List.range 16).foldl (fun a z => if s.rdInt (Reg.LMP_ZONE_TEMP_TEMP a) < s.rdInt (Reg.LMP_ZONE_TEMP_TEMP z) then z else a) 0

/-- HOT_TEMP of a derate report: the temperature of HOT_ZONE; with no valid sensor there is no such zone, and the value is free (log
entry 19). -/
def State.hotTemp (s : State) : Nat := if s.hotZone = 0xFF then (s.free 16).toNat else s.rd (Reg.LMP_ZONE_TEMP_TEMP s.hotZone)

/-- The body of a derate report (R298). -/
def State.derateBody (s : State) : Bytes :=
  leBytes 1 3 ++ leBytes 1 s.hotZone ++ leBytes 2 (s.rd Reg.SYS_WALL_ADDR) ++ leBytes 2 (s.rd Reg.LMP_DERATE_LOCAL)
    ++ leBytes 2 (s.rd Reg.LMP_DERATE_APPLIED) ++ leBytes 2 s.hotTemp ++ zeros 2 ++ leBytes 4 (s.now / 1000000000)

/-- DERATE_REPORT_SEND (R298): at a whole second, on every port on which the Tile last accepted a COMMIT. -/
def doDerateReportSend (s : State) : State :=
  if s.isTile then (s.forAll s.tfs.commitPorts fun t p => t.send p .status (t.destChain 1 p) s.derateBody).spend else s

def execDerateReportSend (s : State) : Host.Outcome State Fault Refusal :=
  .next (s.whenAlive fun u => doDerateReportSend u)

/-- WALLMIN_RECEIVE (R299, R300): a MGMT packet of form 0x20 at a Tile. -/
def doWallminReceive (s : State) (p : Nat) (a : Arrival) : State :=
  s.onPacket p .mgmt a fun t _ =>
    t.onForm p mgmtForms a.pkt.body 0x20 fun u =>
      if u.isTile then
        let v := u.wr Reg.LMP_WALLMIN_WALLMIN (leAt a.pkt.body 2 2)
        { v with drv := { v.drv with wallminAt := some v.now } }
      else u

def execWallminReceive (p : Port) (a : Arrival) (s : State) : Host.Outcome State Fault Refusal :=
  .next (s.whenAlive fun u => doWallminReceive u p a)

end Sys2Proof.Machine
end

