-- ==== Sys2Proof/Machine/Trim.lean ====
section
/-! DEFINITION. Assay trims in force (R336 to R340, R351) and the current references (R332 to R334) of spec/10 and spec/11. -/

namespace Sys2Proof.Machine

/-! ### Interpolation -/

/-- The quotient a / b rounded to the nearest integer, ties up; b is positive. -/
def roundDiv (a b : Int) : Int := (2 * a + b) / (2 * b)

/-- Interpolation between two points (R339). -/
def mixTrim (ta tb va vb t : Int) : Int := va + (2 * (vb - va) * (t - ta) + (tb - ta)) / (2 * (tb - ta))

/-- The filled points of the record in force, in ascending order of their recorded temperature. -/
def State.filledPoints (s : State) : List AsyPoint :=
  match s.asy.record with
  | some r => (r.points.map (·.2)).mergeSort fun a b => decide (a.temp ≤ b.temp)
  | none => []

/-- A per-point trim at a die temperature (R339), for points in ascending order. -/
def trimAt (v : AsyPoint → Int) (t : Int) : List AsyPoint → Int
  | [] => 0
  | [a] => v a
  | a :: b :: l =>
    if t ≤ a.temp then v a
    else if t < b.temp then mixTrim a.temp b.temp (v a) (v b) t
    else trimAt v t (b :: l)

/-- A per-point trim for the die temperature last sampled. -/
def State.trimNow (s : State) (v : AsyPoint → Int) : Int := trimAt v (s.rdInt Reg.ASY_TEMP_TEMP) s.filledPoints

/-- The DUTY that a group's GCLK moves toward (R339, R340). -/
def State.dutyTarget (s : State) (n : Nat) : Int := s.trimNow fun p => p.duty.getD n 0

/-- L_i of an output (R349). -/
def State.linPoint (s : State) (n i : Nat) : Int :=
  match s.asy.record with
  | some r => (r.lin.getD n []).getD i 0
  | none => 0

/-! ### Raw codes -/

/-- The code of linearity point i (R337). -/
def linCode (i : Nat) : Nat := if i = 16 then 16383 else 1024 * i

/-- lin of R337. -/
def State.linAt (s : State) (n code : Nat) : Int :=
  let i := min (code / 1024) 15
  let w : Int := (linCode (i + 1) : Int) - linCode i
  s.linPoint n i + (2 * (s.linPoint n (i + 1) - s.linPoint n i) * ((code : Int) - linCode i) + w) / (2 * w)

/-- The raw code of R337 before its clamp. -/
def State.rawWanted (s : State) (n code : Nat) : Int :=
  let gain := (s.rdInt (Reg.ASY_CREF_GADJ n) * ((code : Int) - 8192) + 524288) / 1048576
  (code : Int) + gain + s.rdInt (Reg.ASY_CREF_OFF n) + s.linAt n code

/-- The raw code of R337. -/
def State.rawTarget (s : State) (n : Nat) : Nat := (clampInt 0 16383 (s.rawWanted n (s.rd (Reg.DRV_GRP_STAT_CREF_NOW n)))).toNat

/-- The clamp of R337 acts on an output. -/
def State.rawClipped (s : State) (n : Nat) : Bool :=
  let r := s.rawWanted n (s.rd (Reg.DRV_GRP_STAT_CREF_NOW n))
  decide (r < 0) || decide (16383 < r)

/-- The largest change of a code in 100 µs (R333). -/
def crefStep (code : Nat) : Nat := max 1 ((4915 + code) / 2000)

/-- Shows CLIP and SLEWING (R337, R340). -/
def State.showTrims (s : State) : State :=
  let outs := List.range 8
  (s.wrFlag Reg.ASY_STAT_CLIP (s.isTile && outs.any s.rawClipped)).wrFlag Reg.ASY_STAT_SLEWING
    (s.isTile && outs.any fun n => s.rd (Reg.ASY_CREF_RAW_RAW n) != s.rawTarget n || s.rdInt (Reg.ASY_DUTY_DUTY n) != s.dutyTarget n)

/-! ### Current references -/

/-- The code that an output moves toward (R332 to R334): the committed CODE of a group that the committed ENABLE has on, and 0 otherwise. -/
def State.crefTarget (s : State) (n : Nat) : Nat := if s.acFlag (Reg.DRV_GRP_CFG_ENABLE n) then s.ac (Reg.DRV_GRP_CREF_CODE n) else 0

/-- An output is being swept (R347). -/
def State.sweeping (s : State) (n : Nat) : Bool := s.rd Reg.ASY_STAT_STEP == 6 && s.asy.run.any fun r => r.sweep.testBit n

/-- Every output and raw code takes its value at once, and each duty: before first light (R333, R340). A swept output goes on with its sweep. -/
def State.settleCref (s : State) : State :=
  (s.forAll (List.range 8) fun t n =>
    let t0 := t.wr (Reg.ASY_DUTY_DUTY n) (unsignedOf 8 (t.dutyTarget n))
    if s.sweeping n then t0
    else
      let t1 := t0.wr (Reg.DRV_GRP_STAT_CREF_NOW n) (t.crefTarget n)
      t1.wr (Reg.ASY_CREF_RAW_RAW n) (t1.rawTarget n)).showTrims

/-- One step of a swept output: it moves to its point, is held there 20 ms and read, and goes on to the next (R347). With no trim applied the output code is
the raw code. -/
def State.sweepStep (s : State) (n : Nat) : State :=
  match s.asy.run with
  | none => s
  | some r =>
    let (i, since) := Tab.get r.at_ n
    let raw := s.rd (Reg.ASY_CREF_RAW_RAW n)
    let put (x : Nat × Option Nat) (t : State) : State := { t with asy := { t.asy with run := some { r with at_ := Tab.put r.at_ n x } } }
    match since with
    | some t => if t + 21024000 ≤ s.now ∧ i < 16 then put (i + 1, none) s else s
    | none =>
      let v := stepToward raw (linCode i) (crefStep raw)
      ((if v = linCode i then put (i, some s.now) s else s).wr (Reg.ASY_CREF_RAW_RAW n) v).wr (Reg.DRV_GRP_STAT_CREF_NOW n) v

/-- 100 µs of one output (R333, R340). -/
def State.crefTick (s : State) (n : Nat) : State :=
  if s.sweeping n then s.sweepStep n
  else
    let code := s.rd (Reg.DRV_GRP_STAT_CREF_NOW n)
    let s1 := s.wr (Reg.DRV_GRP_STAT_CREF_NOW n) (stepToward code (s.crefTarget n) (crefStep code))
    let raw := s1.rd (Reg.ASY_CREF_RAW_RAW n)
    s1.wr (Reg.ASY_CREF_RAW_RAW n) (stepToward raw (s1.rawTarget n) (crefStep raw))

/-- CREF_SLEW (R333, R334, R340): every 100 µs, at a Tile. -/
def doCrefSlew (s : State) : State :=
  if !s.isTile then s
  else if s.sys.firstLight then (s.forAll (List.range 8) State.crefTick).showTrims
  else s.settleCref.forAll ((List.range 8).filter s.sweeping) State.sweepStep

def execCrefSlew (s : State) : Host.Outcome State Fault Refusal :=
  .next (s.whenAlive fun u => doCrefSlew u)

/-! ### Every 100 ms -/

/-- TS_OFF of the record in force. -/
def State.tsOff (s : State) : Int := match s.asy.record with
  | some r => r.tsOff
  | none => 0

/-- Brings the trims into force for the die temperature sampled (R336, R339, R340): before first light the raw codes and duties follow at once. -/
def State.applyTrims (s : State) : State :=
  let s1 := s.wr Reg.ASY_TEMP_TEMP (unsignedOf 16 (s.rdInt Reg.ASY_TEMP_RAW + s.tsOff))
  let s2 := (s1.wr Reg.ASY_ADC_OFF (unsignedOf 16 (s1.trimNow AsyPoint.adcOff))).wr Reg.ASY_ADC_GADJ (unsignedOf 16 (s1.trimNow AsyPoint.adcGadj))
  let s3 := s2.forAll (if s.isTile then List.range 8 else []) fun t n =>
    (t.wr (Reg.ASY_CREF_OFF n) (unsignedOf 16 (s1.trimNow fun p => p.crefOff.getD n 0))).wr (Reg.ASY_CREF_GADJ n)
      (unsignedOf 16 (s1.trimNow fun p => p.crefGadj.getD n 0))
  if s.isTile && !s.sys.firstLight then s3.settleCref else s3.showTrims

/-- TRIM_UPDATE (R336, R339): a sample of the Lane die's thermal sense, in 1/16 °C. A run counts it in its mean die temperature (R338). -/
def doTrimUpdate (s : State) (raw : BitVec 16) : State :=
  let s1 := (s.wr Reg.ASY_TEMP_RAW raw.toNat).applyTrims
  { s1 with asy := { s1.asy with run := s1.asy.run.map fun r => { r with temps := (r.temps.1 + s1.rdInt Reg.ASY_TEMP_TEMP, r.temps.2 + 1) } } }

def execTrimUpdate (raw : BitVec 16) (s : State) : Host.Outcome State Fault Refusal :=
  .next (s.whenAlive fun u => doTrimUpdate u raw)

end Sys2Proof.Machine
end

