-- ==== Sys2Proof/Machine/Drive.lean ====
section
/-! DEFINITION. LED driver groups (R303 to R331 of spec/10): profiles, the cabinet map, the feed, refresh, lamp reads, knee and gain. -/

namespace Sys2Proof.Machine

def State.group (s : State) (n : Nat) : DrvGroup := (Tab.find s.drv.groups n).getD DrvGroup.idle
def State.setGroup (s : State) (n : Nat) (f : DrvGroup → DrvGroup) : State :=
  { s with drv := { s.drv with groups := Tab.put s.drv.groups n (f (s.group n)) } }

/-! ### Profiles -/

/-- The body of a driver profile (R306). -/
def State.profileBody (s : State) (p : Nat) : Option Bytes := (s.charter.profiles.find? fun x => x.1 == p).map (·.2)

/-- A number lies in a range. -/
def inRange (v lo hi : Nat) : Bool := decide (lo ≤ v) && decide (v ≤ hi)

/-- The LE widths of a profile (R306), in the order of their offsets. -/
def leWidths (b : Bytes) : List Nat := (List.range 7).map fun i => leAt b i 1

/-- A profile is valid (R307). -/
def profileValid (b : Bytes) : Bool :=
  let f (i : Nat) := leAt b i 1
  let w := (leWidths b).filter (· != 0)
  ([0, 1, 2, 3, 5].all fun i => inRange (f i) 1 15) && inRange (f 4) 0 15 && inRange (f 6) 0 15 && decide (f 7 < 8)
    && decide (f 8 ≤ 252) && inRange (f 9) 4 10 && decide (f 8 + f 9 ≤ 256) && decide (f 10 ≤ 240) && (decide (f 11 ≤ 240) || f 11 == 255)
    && inRange (leAt b 12 2) 10 5000 && decide (f 14 ≤ 3) && f 15 == 0 && (w.dedup == w)

/-- Fields of the profile of a group that are used elsewhere; an absent profile reads as zeros. -/
def State.profile (s : State) (n : Nat) : Bytes := (s.profileBody (s.cfg (4 + n) (Reg.DRV_GRP_CFG_PROFILE n))).getD []

/-- Shows which profiles are present and valid, and their words. -/
def State.showProfiles (s : State) : State :=
  let pres := (List.range 4).filter fun p => (s.profileBody p).isSome
  let valid := pres.filter fun p => (s.profileBody p).any profileValid
  let mask (l : List Nat) := l.foldl (fun m p => m + 2 ^ p) 0
  ((s.wr Reg.DRV_PROF_STAT_PRESENT (mask pres)).wr Reg.DRV_PROF_STAT_VALID (mask valid)).forAll (List.range 48)
    fun t i => t.wr (Reg.DRV_PROF_BODY (i / 12) (i % 12)) (leAt ((s.profileBody (i / 12)).getD []) (4 * (i % 12)) 4)

/-! ### The G4+n check -/

/-- A group's fields as `rd` gives them. -/
def groupCfgBy (rd : Fld → Nat) (n : Nat) : GroupCfg :=
  ⟨rd (Reg.DRV_GRP_CFG_CHAIN n), rd (Reg.DRV_GRP_CFG_SCANM1 n) + 1, rd (Reg.DRV_GRP_CFG_PCL n), rd (Reg.DRV_GRP_REFRESH_RPFL n),
    rd (Reg.DRV_GRP_REFRESH_BLANK n), rd (Reg.DRV_GRP_CLK_GDIV n), rd (Reg.DRV_GRP_CLK_DDIV n)⟩

def State.groupCfg (s : State) (n : Nat) : GroupCfg := groupCfgBy (s.cfg (4 + n)) n

/-- RPF and SLOT (R319). -/
def GroupCfg.rpf (c : GroupCfg) : Nat := 2 ^ c.rpfl
def GroupCfg.slot (c : GroupCfg) : Nat := 65536 / c.rpf

/-- The refresh timing of R320 at frame rate F. -/
def GroupCfg.refreshFits (c : GroupCfg) (f : Nat) : Bool :=
  decide (f * c.rpf ≤ 7680)
    && decide (5 * (c.scan * (c.slot + c.blank) * c.gdiv) * f * c.rpf + 3000 * f * c.rpf ≤ 6000000000)

/-- Bytes of a group's lamp table (R323). -/
def GroupCfg.tableBytes (c : GroupCfg) : Nat := 2 * (16 * c.chain * 16 * c.scan)

/-- The refusal code of the pending G4+n fields (DRV_GRP_STAT.REFUSE), 0 when they are good; the lowest of several. -/
def drvRefusal (s : State) (n : Nat) : Nat :=
  let c := groupCfgBy s.rd n
  let b := (s.profileBody (s.rd (Reg.DRV_GRP_CFG_PROFILE n))).getD []
  let gain := s.rd (Reg.DRV_GRP_ZONE_BASE_GAIN n)
  if !profileValid b then 1
  else if c.chain % 3 ≠ 0 ∨ c.chain < 3 ∨ 48 < c.chain then 2
  else if !inRange c.ddiv 20 250 || !inRange c.gdiv 8 1200 then 3
  else if !c.refreshFits s.whl.rate then 4
  else if 5 * c.blank * c.gdiv < 6 * (leAt b 1 1 + 1) * c.ddiv then 5
  else if s.rd (Reg.DRV_GRP_CFG_PROBE_EN n) = 1 ∧ (c.rpf < 8 ∨ leAt b 6 1 = 0 ∨ s.rd (Reg.DRV_GRP_REFRESH_PROBE_NS n) < leAt b 12 2) then 6
  else if !inRange (s.rd (Reg.DRV_GRP_KNEE_KNEE n)) 40 90 || decide (256 < s.rd (Reg.DRV_GRP_KNEE_SLOPE n))
      || s.rd (Reg.DRV_GRP_KNEE_KSLEW n) == 0 || gain == 0 || decide (2 ^ leAt b 9 1 - 1 < gain) then 7
  else if !s.areaOk (s.rd (Reg.DRV_GRP_LAMP_BASE n) * 65536) c.tableBytes then 8
  else if 4 < c.pcl then 9
  else 0

/-! ### The lamp table -/

/-- The number of lamps of a group, and the address of a lamp's entry (R323). -/
def State.lamps (s : State) (n : Nat) : Nat := 16 * (s.groupCfg n).chain * 16 * (s.groupCfg n).scan
def State.lampPlace (s : State) (n i : Nat) : Nat := s.cfg (4 + n) (Reg.DRV_GRP_LAMP_BASE n) * 65536 + 2 * i

/-- The index of a lamp (R323): port, driver, channel, row. -/
def GroupCfg.lampIndex (c : GroupCfg) (k d ch r : Nat) : Nat := ((k * c.chain + d) * 16 + ch) * c.scan + r

/-- State and AGE of a lamp. -/
def State.lampAt (s : State) (n i : Nat) : Nat × Nat :=
  let v := leNat (s.dramRead (s.lampPlace n i) 2)
  (v % 4, v / 4)
def State.setLamp (s : State) (n i st age : Nat) : State := s.dramWrite (s.lampPlace n i) (leBytes 2 (st + 4 * min age 16383))

/-- Lamps of a group in a state. -/
def State.lampsIn (s : State) (n st : Nat) : Nat := ((List.range (s.lamps n)).filter fun i => (s.lampAt n i).1 == st).length

/-- Shows the counts of a group's lamps by state (R329). -/
def State.showLamps (s : State) (n : Nat) : State :=
  ((s.wr (Reg.DRV_GRP_LAMPS_SHORT n) (min (s.lampsIn n 3) 65535)).wr (Reg.DRV_GRP_LAMPS_OPEN n) (min (s.lampsIn n 2) 65535)).wr
    (Reg.DRV_GRP_UNVER_COUNT n) (s.lampsIn n 0)

/-- Port, driver, channel and row of a lamp by its index (R323). -/
def GroupCfg.lampOf (c : GroupCfg) (i : Nat) : Nat × Nat × Nat × Nat :=
  (i / c.scan / 16 / c.chain, i / c.scan / 16 % c.chain, i / c.scan % 16, i % c.scan)

/-- The argument of the record of a lamp's change (R329). -/
def lampArg (n k d ch r st : Nat) : Nat := (n * 16 + k) * 2 ^ 24 + d * 65536 + ch * 4096 + r * 64 + st

/-- Every lamp of the group becomes UNVERIFIED with age 0 (R323). -/
def State.resetLamps (s : State) (n : Nat) : State :=
  ({ s with dram := Cells.erase s.dram (s.lampPlace n 0) (s.lampPlace n (s.lamps n)) }).showLamps n

/-- Every lamp of the group becomes UNVERIFIED with age 0 (R315); each that `old` had in OPEN or SHORT leaves it with a record (R329). -/
def State.clearLamps (s old : State) (n : Nat) : State :=
  let gone := (List.range (old.lamps n)).filter fun i => decide (2 ≤ (old.lampAt n i).1)
  (s.forAll gone fun t i =>
    let (k, d, ch, r) := (old.groupCfg n).lampOf i
    t.raise (srcDrive n) 0x4C03 (lampArg n k d ch r 0)).resetLamps n

/-! ### Commits -/

/-- The fields whose change R315 names. -/
def State.drvShape (s : State) (n : Nat) : List Nat :=
  [Reg.DRV_GRP_CFG_PROFILE n, Reg.DRV_GRP_CFG_CHAIN n, Reg.DRV_GRP_CFG_SCANM1 n, Reg.DRV_GRP_CFG_PCL n, Reg.DRV_GRP_CFG_CHAIN_MODE n,
    Reg.DRV_GRP_CFG_LAMP_ORDER n, Reg.DRV_GRP_CFG_CH_REV n, Reg.DRV_GRP_CFG_ROW_REV n].map (s.cfg (4 + n))

/-- Judges whether the refresh fits (R320, R321): a record when it no longer does. -/
def State.judgeRefresh (s : State) (n : Nat) : State :=
  let fits := (s.groupCfg n).refreshFits s.whl.rate
  (s.wrFlag (Reg.DRV_GRP_STAT_REFRESH_FIT n) fits).onlyIf (s.flag (Reg.DRV_GRP_STAT_REFRESH_FIT n) && !fits)
    fun t => t.raise (srcDrive n) 0x4C04 n

/-- A commit that enables a group ends its output's sweep (R347). -/
def State.cutSweep (s : State) (n : Nat) : State :=
  if s.groupOn n && s.sweeping n then
    ({ s with asy := { s.asy with run := s.asy.run.map fun (r : AsyRun) => { r with sweep := natSetBit r.sweep n false } } } : State).wr Reg.ASY_STAT_SWEEP_CUT 1
  else s

/-- What a group does once its fields are copied (R315, R333). -/
def State.drvCommitted (s old : State) (n : Nat) : State :=
  let s1 := if s.drvShape n = old.drvShape n then s else (s.clearLamps old n).setGroup n fun g => { g with runs := [] }
  let s2 := (s1.judgeRefresh n).cutSweep n
  if s.sys.firstLight then s2 else s2.settleCref

/-- RATE_SWITCH (R250, R321). -/
def execRateSwitch (s : State) : Host.Outcome State Fault Refusal :=
  .next (s.whenAlive fun u => (doRateSwitch u).forAll (if u.isTile then (List.range 8).filter u.groupOn else []) State.judgeRefresh)

/-! ### The cabinet map -/

/-- The lamp (0 red, 1 green, 2 blue) that LAMP_ORDER gives q (R310). -/
def lampOrder (o q : Nat) : Nat := (([[0, 1, 2], [2, 1, 0], [1, 0, 2], [0, 2, 1]] : List (List Nat)).getD o []).getD q 0

/-- The top-left corner of port k's rectangle (R309). -/
def State.portCorner (s : State) (n k : Nat) : Nat × Nat :=
  let c := s.groupCfg n
  (s.cfg (4 + n) (Reg.DRV_GRP_ORIGIN_GX n) + k % 2 ^ c.pcl * (16 * c.chain / 3),
   s.cfg (4 + n) (Reg.DRV_GRP_ORIGIN_GY n) + k / 2 ^ c.pcl * c.scan)

/-- The pixel and the lamp of channel ch of driver d of port k in row r (R310). -/
def State.lampPixel (s : State) (n k d ch r : Nat) : Nat × Nat × Nat :=
  let c := s.groupCfg n
  let f (x : Fld) := s.cfg (4 + n) x
  let (q, b) := if f (Reg.DRV_GRP_CFG_CHAIN_MODE n) = 0 then (d % 3, d / 3) else (d / (c.chain / 3), d % (c.chain / 3))
  let (x0, y0) := s.portCorner n k
  (x0 + 16 * b + (if f (Reg.DRV_GRP_CFG_CH_REV n) = 0 then ch else 15 - ch),
   y0 + (if f (Reg.DRV_GRP_CFG_ROW_REV n) = 0 then r else c.scan - 1 - r),
   lampOrder (f (Reg.DRV_GRP_CFG_LAMP_ORDER n)) q)

/-- A place lies inside the store. -/
def State.inStore (s : State) (x y : Nat) : Bool := decide (x < s.storeW) && decide (y < s.storeH)

/-- The grey word that the feed of a frame sends to a lamp (R286 to R291, R310, R328). -/
def State.feedWord (s : State) (bad : List Nat) (n k d ch r : Nat) : Nat :=
  let c := s.groupCfg n
  let (x, y, l) := s.lampPixel n k d ch r
  if !s.inStore x y then 0
  else if s.cfg (4 + n) (Reg.DRV_GRP_CFG_SHORT_OFF n) = 1 ∧ (s.lampAt n (c.lampIndex k d ch r)).1 = 3 then 0
  else s.greyOf (s.correction bad x y) (s.fedPixel bad x y) (s.derateOf (s.rd (Reg.DRV_GRP_FACTOR_K n))) l

/-- Every grey word of a frame, by the index of R323. -/
def State.feedWords (s : State) (bad : List Nat) (n : Nat) : List Nat :=
  let c := s.groupCfg n
  (List.range 16).flatMap fun k => (List.range c.chain).flatMap fun d => (List.range 16).flatMap fun ch =>
    (List.range c.scan).map fun r => s.feedWord bad n k d ch r

/-- A lamp belongs to a guarded pixel of the frame that the group feeds: all pieces that GUARD carries are of class A or B (R199, R322). -/
def State.guardedLamp (s : State) (n k d ch r : Nat) : Bool :=
  let q := s.lampPixel n k d ch r
  s.inStore q.1 q.2.1 && (s.group n).pieces.any fun e => e.has q.1 q.2.1

/-- Ports that carry a lamp of a guarded pixel (R199): the pieces that meet the port's rectangle inside the store. -/
def State.guardedPorts (s : State) (n : Nat) : Nat :=
  let c := s.groupCfg n
  ((List.range 16).filter fun k =>
    let q := s.portCorner n k
    s.hmk.guard.any fun g =>
      decide (max q.1 g.entry.x < min (min (q.1 + 16 * c.chain / 3) (g.entry.x + g.entry.w)) s.storeW)
        && decide (max q.2 g.entry.y < min (min (q.2 + c.scan) (g.entry.y + g.entry.h)) s.storeH)).foldl (fun m k => m + 2 ^ k) 0

/-! ### The order of shifting -/

/-- The driver and the position for which edge t of a transfer carries the bit (R308). -/
def edgePlace (chain t : Nat) : Nat × Nat := (chain - 1 - t / 256, 255 - t % 256)

/-- The edge that carries the bit for a position of a driver (R308). -/
def placeEdge (chain d pos : Nat) : Nat := (chain - 1 - d) * 256 + 255 - pos

/-- The channel and the bit of its word that stand at a position (R308). -/
def positionWord (order pos : Nat) : Nat × Nat :=
  (if order.testBit 0 then 15 - pos / 16 else pos / 16, if order.testBit 1 then 15 - pos % 16 else pos % 16)

/-- What edge t of row r's transfer carries on port k: the lamp's driver and channel, and the bit of its grey word. -/
def State.edgeLamp (s : State) (n t : Nat) : Nat × Nat × Nat :=
  let (d, pos) := edgePlace (s.groupCfg n).chain t
  let (ch, b) := positionWord (leAt (s.profile n) 7 1) pos
  (d, ch, b)

/-- The edges of a frame's row transfers at which port k carries bits of guarded pixels, in shift order (R199, R322): row, edge. -/
def State.guardedEdges (s : State) (n k : Nat) : List (Nat × Nat) :=
  let c := s.groupCfg n
  (List.range c.scan).flatMap fun r => ((List.range (256 * c.chain)).filter fun t =>
    let (d, ch, _) := s.edgeLamp n t
    s.guardedLamp n k d ch r).map fun t => (r, t)

/-- D of R313: the edges after which a bit sent returns. -/
def State.returnDelay (s : State) (n : Nat) : Nat := 256 * (s.groupCfg n).chain + leAt (s.profile n) 14 1

/-- The bit that port k sends at an edge of a row's transfer. -/
def State.sentBit (s : State) (n k r t : Nat) : Bool :=
  let (d, ch, b) := s.edgeLamp n t
  ((s.group n).back.getD ((s.groupCfg n).lampIndex k d ch r) 0).testBit b

/-- The CRC-64 of R181 over single bits (R199). -/
def crc64Bits (l : List Bool) : Nat := (l.foldl crc64Bit (2 ^ 64 - 1)) ^^^ (2 ^ 64 - 1)

/-! ### Knee and gain -/

/-- The temperature of a group (R330); with no zone named there is none, and the value is free (log entry 20). -/
def State.groupTemp (s : State) (n : Nat) : Int :=
  match ((List.range 16).filter fun z => (s.cfg (4 + n) (Reg.DRV_GRP_ZONE_ZONES n)).testBit z).map fun z => s.rdInt (Reg.LMP_ZONE_TEMP_TEMP z) with
  | [] => (s.free 16).toInt
  | l => highest l

/-- The knee factor target (R330). -/
def kneeTarget (slope knee : Nat) (t : Int) : Nat := max 8192 (32768 - slope * (t - 16 * knee).toNat / 2)

/-- The gain code and the factor in force for a knee factor (R331). -/
def gainCode (f base : Nat) : Nat := max 1 ((f * base + 16384) / 32768)
def gainFactor (code base : Nat) : Nat := min 32768 (code * 32768 / max base 1)

/-- A group's knee at a feed start (R331). -/
def State.slewKnee (s : State) (n : Nat) : State :=
  let f (x : Fld) := s.cfg (4 + n) x
  let t := s.groupTemp n
  let target := kneeTarget (f (Reg.DRV_GRP_KNEE_SLOPE n)) (f (Reg.DRV_GRP_KNEE_KNEE n)) t
  let g := s.group n
  let v := stepToward g.f target (f (Reg.DRV_GRP_KNEE_KSLEW n))
  let base := f (Reg.DRV_GRP_ZONE_BASE_GAIN n)
  let code := gainCode v base
  let s1 := (((s.wr (Reg.DRV_GRP_TEMP_TARGET n) target).wr (Reg.DRV_GRP_TEMP_T n) (unsignedOf 16 t)).wr (Reg.DRV_GRP_FACTOR_GAIN n) code).wr
    (Reg.DRV_GRP_FACTOR_K n) (gainFactor code base)
  (s1.setGroup n fun x => { x with
    f := v, before := (g.f, s.rd (Reg.DRV_GRP_FACTOR_GAIN n), s.rd (Reg.DRV_GRP_FACTOR_K n)) }).spend

/-- f, the code and k_n stay at their previous values when the frame's GAIN transfer is not made (R331). -/
def State.keepGain (s : State) (n : Nat) : State :=
  let (f, code, k) := (s.group n).before
  ((s.wr (Reg.DRV_GRP_FACTOR_GAIN n) code).wr (Reg.DRV_GRP_FACTOR_K n) k).setGroup n fun g => { g with f := f }

/-! ### Commands on LE -/

/-- A bare command (R305): LE is high for `w` edges with DATA low, at least two edges after the last command; one of width 0 does not exist. -/
def DrvGroup.bare (g : DrvGroup) (k : LeKind) (w : Nat) : DrvGroup :=
  if w = 0 then g
  else
    let e := max g.edges (g.leEnd + 2)
    { g with edges := e + w, leEnd := e + w, le := g.le ++ [⟨k, e, w⟩] }

/-- A transfer of `n` edges with LE high during its last `w` (R305). -/
def DrvGroup.latch (g : DrvGroup) (k : LeKind) (w n : Nat) : DrvGroup :=
  { g with edges := g.edges + n, leEnd := g.edges + n, le := g.le ++ [⟨k, g.edges + n - w, w⟩] }

/-- Edges with LE low. -/
def DrvGroup.shift (g : DrvGroup) (n : Nat) : DrvGroup := { g with edges := g.edges + n }

/-- The configuration word of a driver (R314): TEMPLATE with a gain code at GAIN_POS. -/
def confWord (b : Bytes) (code : Nat) : BitVec 256 :=
  let pos := leAt b 8 1
  let mask := (2 ^ leAt b 9 1 - 1) * 2 ^ pos
  BitVec.ofNat 256 (leNat (slice b 16 32)) &&& ~~~BitVec.ofNat 256 mask ||| (BitVec.ofNat 256 (code * 2 ^ pos) &&& BitVec.ofNat 256 mask)

/-- A GAIN transfer at a code (R314). -/
def State.gainTransfer (s : State) (n code : Nat) (g : DrvGroup) : DrvGroup :=
  let b := s.profile n
  { g.latch (.gain (confWord b code)) (leAt b 3 1) (256 * (s.groupCfg n).chain) with driverGain := code, conf := confWord b code }

/-- The row transfers of the first rows of a feed (R311). -/
def State.rowTransfers (s : State) (n rows : Nat) (g : DrvGroup) : DrvGroup :=
  (List.range rows).foldl (fun g r => g.latch (.rowLatch r) (leAt (s.profile n) 0 1) (256 * (s.groupCfg n).chain)) g

/-! ### The feed -/

/-- The rows of some groups in the order in which their first edges fall due (R312): ties go to the lower group. -/
def State.fillOrder (s : State) (groups : List Nat) : List (Nat × Nat) :=
  let due (x : Nat × Nat) : Nat := x.2 * 256 * (s.groupCfg x.1).chain * (s.groupCfg x.1).ddiv
  (groups.flatMap fun n => (List.range (s.groupCfg n).scan).map fun r => (n, r)).insertionSort
    fun a b => due a < due b ∨ (due a = due b ∧ a.1 ≤ b.1)

/-- The grey words of a group pass through SRAM bank B5 while it is On (R286, R312, log entry 141). -/
def State.stageWords (s : State) (n : Nat) (words : List Nat) : State :=
  if s.rd (Reg.SRB_PWR_STATE 5) = 2 then
    s.forAll words.zipIdx fun t x => t.sramWrite 5 (2 * (Config.stagePlace n x.2 % 0xE0000)) (leBytes 2 x.1)
  else s

/-- The length of a feed in ns (R311). -/
def GroupCfg.feedTime (c : GroupCfg) : Nat := c.scan * 256 * c.chain * c.ddiv

/-- FEED_FIT (R312). -/
def State.feedFits (s : State) (n : Nat) : Bool := decide ((s.groupCfg n).feedTime + 2000 ≤ s.feedLead)

/-- A group begins to feed the frame (R311, R312): START, and the rows that its transfers will have latched once the feed is complete (log entry 22). -/
def State.startFeed (s : State) (bad : List Nat) (n : Nat) : State :=
  let words := s.feedWords bad n
  ((s.wr (Reg.HMK_GLASS_GRP_GUARDED n) (s.guardedPorts n)).stageWords n words).setGroup n fun g =>
    { ({ g with le := [] } : DrvGroup).bare .start (leAt (s.profile n) 2 1) with
      prev := g.back, back := words, feeding := true, aborted := false, pieces := s.hmk.guard.map (·.entry) }

/-- DARK: for R318 or for R200. -/
def State.showDark (s : State) (n : Nat) : State :=
  s.wrFlag (Reg.DRV_GRP_STAT_DARK n) (s.flag (Reg.DRV_GRP_STAT_DARK_ABORT n) || s.flag (Reg.HMK_GLASS_GRP_DARK n) || s.sys.fatal.isSome)

/-- Rows of a bank below one come from one list, the others from another. -/
def mixRows (scan row : Nat) (new old : List Nat) : List Nat := new.mapIdx fun i w => if i % scan < row then w else old.getD i 0

/-- Aborts the feed of the frame at a row (R316): only the rows before it have been latched. -/
def State.abortFeed (s : State) (n row : Nat) (cnt : Fld) : State :=
  (((s.setGroup n fun g => { s.rowTransfers n row g with
    aborted := true, back := mixRows (s.groupCfg n).scan row g.back g.prev }).keepGain n).bump cnt).raise (srcDrive n) 0x4C01 (n * 256 + row)

/-- UNDERRUN (R316): a bit of the row's transfer has not reached the group in time. -/
def doUnderrun (s : State) (n row : Nat) : State :=
  if s.isTile && s.groupOn n && (s.group n).feeding && !(s.group n).aborted then s.abortFeed n row (Reg.DRV_GRP_CNT_UNDERRUN n) else s

def execUnderrun (n : Fin 8) (row : Fin 64) (s : State) : Host.Outcome State Fault Refusal :=
  .next (s.whenAlive fun u => doUnderrun u n row)

/-- LATE_FEED (R317): the edge of S − 2 µs comes before the last ROW_LATCH; only when FEED_FIT is 0. -/
def doLateFeed (s : State) (n : Nat) : State :=
  if s.isTile && s.groupOn n && (s.group n).feeding && !(s.group n).aborted && !s.feedFits n then
    s.abortFeed n ((s.feedLead - 2000) / max (256 * (s.groupCfg n).chain * (s.groupCfg n).ddiv) 1) (Reg.DRV_GRP_CNT_LATE n)
  else s

def execLateFeed (n : Fin 8) (s : State) : Host.Outcome State Fault Refusal :=
  .next (s.whenAlive fun u => doLateFeed u n)

/-- SWAP is withheld (R316, R318). -/
def State.withholdSwap (s : State) (n : Nat) : State :=
  let k := min 15 (s.rd (Reg.DRV_GRP_STAT_ABORTS n) + 1)
  let s1 := s.wr (Reg.DRV_GRP_STAT_ABORTS n) k
  if k < 2 then s1
  else
    let s2 := (s1.wr (Reg.DRV_GRP_STAT_DARK_ABORT n) 1).showDark n
    if s.flag (Reg.DRV_GRP_STAT_DARK_ABORT n) then s2 else s2.raise (srcDrive n) 0x8C02 (n * 256)

/-- A completed feed at S (R305, R311, R313): its row transfers, its flush of D edges, and SWAP, which exchanges the banks. -/
def State.swapFeed (s : State) (n : Nat) (g : DrvGroup) : DrvGroup :=
  let g1 := ((s.rowTransfers n (s.groupCfg n).scan g).shift (s.returnDelay n)).bare .swap (leAt (s.profile n) 1 1)
  { g1 with front := g.back, back := g.front, feeding := false }

/-- A group's swap at S (R66, R313, R315, R316, R318, R340): the refresh fields in force from now on, and SWAP after a completed feed, which a group that has
fed nothing since the last boundary does not issue. GCLK DUTY moves at most one step. -/
def State.swapBank (s : State) (n : Nat) : State :=
  let duty := s.rdInt (Reg.ASY_DUTY_DUTY n)
  let want := s.dutyTarget n
  let s0 := ((s.wr (Reg.ASY_DUTY_DUTY n) (unsignedOf 8 (if duty < want then duty + 1 else if want < duty then duty - 1 else duty))).setGroup n
    fun g => { g with cycle := 0, refresh := some (s.groupCfg n) }).showTrims
  if !s.groupOn n then s0
  else if !(s.group n).feeding then s0
  else if (s.group n).aborted then (s0.setGroup n fun g => { g with feeding := false }).withholdSwap n
  else
    (((s0.wr (Reg.DRV_GRP_STAT_ABORTS n) 0).wr (Reg.DRV_GRP_STAT_DARK_ABORT n) 0).showDark n |>.setGroup n
      (s.swapFeed n)).light

/-- BANK_SWAP (R251, R313): at a show boundary that the count has reached, once for each. -/
def doBankSwap (s : State) (n : Nat) : State :=
  if s.isTile && s.boundaryDue (actSwap n) s.now then (s.perform (actSwap n) (s.lastBoundaryAt s.now)).swapBank n else s

def execBankSwap (n : Fin 8) (s : State) : Host.Outcome State Fault Refusal :=
  .next (s.whenAlive fun u => doBankSwap u n)

/-- The next feed start (R284). -/
def State.nextFeed (s : State) : Nat :=
  let b := nextBoundary s.whl.rate s.now
  if s.now < b - s.feedLead then b - s.feedLead else nextBoundary s.whl.rate b - s.feedLead

/-- GAIN_TRANSFER (R314, R331): after the flush and SWAP; one that could not end 1 µs before the next feed start is not started. After an aborted
feed there is none. -/
def doGainTransfer (s : State) (n : Nat) : State :=
  let c := s.groupCfg n
  if !s.isTile ∨ !s.groupOn n ∨ (s.group n).aborted then s
  else if s.now + 256 * c.chain * c.ddiv + 1000 ≤ s.nextFeed then
    s.setGroup n fun g => { s.gainTransfer n (s.rd (Reg.DRV_GRP_FACTOR_GAIN n)) g with before := (g.f, s.rd (Reg.DRV_GRP_FACTOR_GAIN n), s.rd (Reg.DRV_GRP_FACTOR_K n)) }
  else (s.keepGain n).bump (Reg.DRV_GRP_CNT_SKIPPED n)

def execGainTransfer (n : Fin 8) (s : State) : Host.Outcome State Fault Refusal :=
  .next (s.whenAlive fun u => doGainTransfer u n)

/-! ### Refresh -/

/-- The number of the show boundary of the frame on display (R249, R324). -/
def State.showNumber (s : State) : Nat := boundaryIndex s.whl.rate s.now

/-- The row that a frame probes (R324), if it probes one. -/
def State.probeRow (s : State) (n : Nat) : Option Nat :=
  let b := s.showNumber
  if s.cfg (4 + n) (Reg.DRV_GRP_CFG_PROBE_EN n) = 1 ∧ b % 16 = 0 ∧ b % 1024 / 16 < (s.groupCfg n).scan then some (b % 1024 / 16) else none

/-- The refresh fields in force (R315). -/
def State.refreshCfg (s : State) (n : Nat) : GroupCfg := (s.group n).refresh.getD (s.groupCfg n)

/-- The beginning of refresh cycle j of the frame on display (R319): its boundary and j × P / RPF, rounded. -/
def State.cycleStart (s : State) (n j : Nat) : Nat :=
  let d := max (s.whl.rate * (s.refreshCfg n).rpf) 1
  s.lastBoundaryAt s.now + (2 * j * 1000000000 + d) / (2 * d)

/-- The latest refresh cycle of the frame that the count has reached. -/
def State.cycleNow (s : State) (n : Nat) : Nat :=
  let j := (s.now - s.lastBoundaryAt s.now) * s.whl.rate * (s.refreshCfg n).rpf / 1000000000
  min ((s.refreshCfg n).rpf - 1) (if s.cycleStart n (j + 1) ≤ s.now then j + 1 else if s.cycleStart n j ≤ s.now then j else j - 1)

/-- A span of ns, given in sixths, that starts with the read's cycle ends 1 µs before the next feed start (R324). -/
def State.readFits (s : State) (n sixths : Nat) : Bool :=
  decide (6 * s.cycleStart n ((s.refreshCfg n).rpf / 2) + sixths + 6000 ≤ 6 * (nextBoundary s.whl.rate s.now - s.feedLead))

/-- How long an ordinary read of a row (R325), and a probe (R326), take from the beginning of their cycle, in sixths of a ns. -/
def State.readSpan (s : State) (n r : Nat) : Nat :=
  let c := s.refreshCfg n
  5 * (r + 1) * (c.slot + c.blank) * c.gdiv + 6 * (leAt (s.profile n) 5 1 + 256 * c.chain) * c.ddiv
def State.probeSpan (s : State) (n : Nat) : Nat :=
  let b := s.profile n
  let c := s.refreshCfg n
  6 * ((leAt b 3 1 + leAt b 4 1 + leAt b 6 1 + leAt b 5 1 + 256 * c.chain) * c.ddiv + s.cfg (4 + n) (Reg.DRV_GRP_REFRESH_PROBE_NS n))

/-- The frame makes a probe gap (R324, R326): it probes a row, and the probe fits. -/
def State.probes (s : State) (n : Nat) : Bool := (s.probeRow n).isSome && s.readFits n (s.probeSpan n)

/-- The length of a refresh cycle, and of a row slot with its blanking, in a common unit. -/
def cycleUnits : Nat := 6000000000
def State.slotUnits (s : State) (n : Nat) : Nat :=
  let c := s.refreshCfg n
  5 * (c.slot + c.blank) * c.gdiv * s.whl.rate * c.rpf

/-- The rows that a cycle reaches, and those whose slot it lights, before the next one begins (R319, R321): all of them where the cycle fits. -/
def State.rowsReached (s : State) (n : Nat) : Nat := min (s.refreshCfg n).scan ((cycleUnits + s.slotUnits n - 1) / max (s.slotUnits n) 1)
def State.rowsFit (s : State) (n : Nat) : Nat :=
  let c := s.refreshCfg n
  ((List.range c.scan).filter fun r => decide (r * s.slotUnits n + 5 * c.blank * c.gdiv * s.whl.rate * c.rpf < cycleUnits)).length

/-- REFRESH_CYCLE (R251, R319, R321): the cycle of the frame that the count has reached, once for each; a probe gap runs no row slot, and a dark group none
either. -/
def doRefreshCycle (s : State) (n : Nat) : State :=
  let j := s.cycleNow n
  if s.isTile && s.groupOn n && decide ((s.group n).cycle ≤ j) && decide (s.whl.skip ≤ s.cycleStart n j) then
    let gap := s.probes n && j == (s.refreshCfg n).rpf / 2
    let runs := !gap && !s.flag (Reg.DRV_GRP_STAT_DARK n) && s.sys.firstLight
    (s.judgeRefresh n).setGroup n fun g => { g with
      cycle := j + 1, cycleAt := s.cycleStart n j, gap := gap, lit := if runs then s.rowsFit n else 0
      rowa := if runs then s.rowsReached n - 1 else g.rowa }
  else s

def execRefreshCycle (n : Fin 8) (s : State) : Host.Outcome State Fault Refusal :=
  .next (s.whenAlive fun u => doRefreshCycle u n)

/-! ### Reads of lamps -/

/-- The bit of port k at an edge of a read's shift. -/
def retBit (ret : List (List Bool)) (k t : Nat) : Bool := (ret.getD k []).getD t false

/-- A flag of a channel is set (R325): the bit at its position, RET_DELAY edges later, equals FLAG_POL. -/
def flagSet (b : Bytes) (chain : Nat) (ret : List (List Bool)) (k d pos : Nat) : Bool :=
  retBit ret k (placeEdge chain d pos + leAt b 14 1) == (leAt b 7 1).testBit 2

/-- What a counted read makes of a lamp (R327). -/
def readState (b : Bytes) (chain : Nat) (ret : List (List Bool)) (k d ch : Nat) : Nat :=
  if leAt b 11 1 ≠ 255 ∧ flagSet b chain ret k d (leAt b 11 1 + ch) then 3
  else if flagSet b chain ret k d (leAt b 10 1 + ch) then 2
  else 1

/-- A read of one lamp (R327, R329); `counts` says that its on-time was long enough. -/
def State.readLamp (s : State) (n : Nat) (ret : List (List Bool)) (k d ch r : Nat) (counts : Bool) : State :=
  let c := s.groupCfg n
  let i := c.lampIndex k d ch r
  let (old, age) := s.lampAt n i
  let age' := min (age + 1) 16383
  let new := if counts then readState (s.profile n) c.chain ret k d ch
    else if old = 1 ∧ s.cfg (4 + n) (Reg.DRV_GRP_LAMP_AGE_MAX n) < age' then 0 else old
  let s1 := s.setLamp n i new (if counts then 0 else age')
  if new ≠ old ∧ (2 ≤ new ∨ 2 ≤ old) then
    s1.raise (srcDrive n) 0x4C03 (lampArg n k d ch r new)
  else s1

/-- A read of a row (R325, R327): `onTime` decides for each lamp whether it counts. -/
def State.readRow (s : State) (n : Nat) (ret : List (List Bool)) (r : Nat) (counts : Nat → Bool) : State :=
  let c := s.groupCfg n
  let lamps := (List.range 16).flatMap fun k => (List.range c.chain).flatMap fun d => (List.range 16).map fun ch => (k, d, ch)
  ((s.forAll lamps fun t q => t.readLamp n ret q.1 q.2.1 q.2.2 r (counts (c.lampIndex q.1 q.2.1 q.2.2 r))).showLamps n).wr
    (Reg.DRV_GRP_STAT_PROBE_FIT n) 1

/-- A read that is not made (R324). -/
def State.skipRead (s : State) (n : Nat) : State := (s.bump (Reg.DRV_GRP_CNT_SKIPPED n)).wr (Reg.DRV_GRP_STAT_PROBE_FIT n) 0

/-- DETECT, STATUS and the 256 × N edges of zeros of a read (R325). -/
def State.senseEdges (s : State) (n : Nat) (g : DrvGroup) : DrvGroup :=
  let b := s.profile n
  ((g.bare .detect (leAt b 4 1)).bare .status (leAt b 5 1)).shift (256 * (s.groupCfg n).chain)

/-- LAMP_READ (R324, R325, R327): in a frame that does not probe, row n mod SCAN, with the bits that return on the 16 ports. -/
def doLampRead (s : State) (n : Nat) (ret : List (List Bool)) : State :=
  let c := s.refreshCfg n
  if !s.isTile ∨ !s.groupOn n ∨ (s.probeRow n).isSome then s
  else
    let r := s.showNumber % c.scan
    let b := s.profile n
    if !s.readFits n (s.readSpan n r) then s.skipRead n
    else (s.readRow n ret r fun i => decide (6 * leAt b 12 2 ≤ 5 * ((s.group n).front.getD i 0 / c.rpf * c.gdiv))).setGroup n (s.senseEdges n)

def execLampRead (n : Fin 8) (ret : List (List Bool)) (s : State) : Host.Outcome State Fault Refusal :=
  .next (s.whenAlive fun u => doLampRead u n ret)

/-- The gain code of a probe (R326). -/
def probeGain (code : Nat) : Nat := max 1 ((code + 8) / 16)

/-- The transfers and commands of a probe of row r (R326): GAIN at the probe gain, DETECT, PROBE with ROWA at r, STATUS, and GAIN at the code in force. -/
def State.probeEdges (s : State) (n r : Nat) (g : DrvGroup) : DrvGroup :=
  let b := s.profile n
  let code := s.rd (Reg.DRV_GRP_FACTOR_GAIN n)
  let g1 := ((s.gainTransfer n (probeGain code) g).bare .detect (leAt b 4 1)).bare .probe (leAt b 6 1)
  { s.gainTransfer n code (g1.bare .status (leAt b 5 1)) with rowa := r }

/-- LAMP_PROBE (R324, R326, R327): in a frame that probes. -/
def doLampProbe (s : State) (n : Nat) (ret : List (List Bool)) : State :=
  match s.probeRow n with
  | none => s
  | some r =>
    if !s.isTile ∨ !s.groupOn n then s
    else if !s.probes n then s.skipRead n
    else
      (s.readRow n ret r fun _ => decide (leAt (s.profile n) 12 2 ≤ s.cfg (4 + n) (Reg.DRV_GRP_REFRESH_PROBE_NS n))).setGroup n (s.probeEdges n r)

def execLampProbe (n : Fin 8) (ret : List (List Bool)) (s : State) : Host.Outcome State Fault Refusal :=
  .next (s.whenAlive fun u => doLampProbe u n ret)

end Sys2Proof.Machine
end

