-- ==== Sys2Proof/Machine/Assay.lean ====
section
/-! DEFINITION. Assay runs and records (R335 to R351 of spec/11_assay_and_self_trim.md). -/

namespace Sys2Proof.Machine

/-! ### Records -/

/-- A number in `n` bytes, two's complement. -/
def leSigned (n : Nat) (z : Int) : Bytes := leBytes n (unsignedOf (8 * n) z)

/-- A signed number in `n` bytes at an offset. -/
def leIntAt (l : Bytes) (o n : Nat) : Int := signedOf (8 * n) (leAt l o n)

/-- A list of eight numbers. -/
def eight (f : Nat → Int) : List Int := (List.range 8).map f

/-- The 64 bytes of a temperature point (R349). -/
def AsyPoint.bytes (p : AsyPoint) : Bytes :=
  leSigned 2 p.temp ++ leSigned 2 p.adcOff ++ leSigned 2 p.adcGadj ++ zeros 2 ++ ((eight fun n => p.crefOff.getD n 0).flatMap (leSigned 2))
    ++ ((eight fun n => p.crefGadj.getD n 0).flatMap (leSigned 2)) ++ ((eight fun n => p.duty.getD n 0).flatMap (leSigned 1)) ++ leBytes 4 p.run
    ++ leBytes 8 p.when_ ++ zeros 4

/-- The point in 64 bytes (R349). -/
def asyPointOf (b : Bytes) : AsyPoint :=
  ⟨leIntAt b 0 2, leIntAt b 2 2, leIntAt b 4 2, eight fun n => leIntAt b (8 + 2 * n) 2, eight fun n => leIntAt b (24 + 2 * n) 2,
    eight fun n => leIntAt b (40 + n) 1, leAt b 48 4, leAt b 52 8⟩

/-- POINTS of a record: bit j for a filled point j. -/
def AsyRecord.mask (r : AsyRecord) : Nat := r.points.foldl (fun m x => m + 2 ^ x.1) 0

/-- Bytes 0 to 559 of a record, which the signature covers (R349). -/
def AsyRecord.bytes (r : AsyRecord) : Bytes :=
  leBytes 4 0x5341434F ++ leBytes 2 1 ++ leBytes 1 r.mask ++ zeros 1 ++ leBytes 4 r.run ++ zeros 4 ++ leBytes 8 r.when_ ++ leSigned 2 r.tsOff
    ++ zeros 6
    ++ ((List.range 8).flatMap fun n => (List.range 17).flatMap fun i => leSigned 2 ((r.lin.getD n []).getD i 0))
    ++ ((List.range 4).flatMap fun j => match Tab.find r.points j with
      | some p => p.bytes
      | none => zeros 64)

/-- The record in 560 bytes, of a bank (R349). -/
def asyRecordOf (b : Bytes) (bank : Nat) : AsyRecord :=
  ⟨(([0, 1, 2, 3].filter fun j => (leAt b 6 1).testBit j).map fun j => (j, asyPointOf (slice b (304 + 64 * j) 64))), leAt b 8 4, leAt b 16 8,
    leIntAt b 24 2, (List.range 8).map fun n => (List.range 17).map fun i => leIntAt b (32 + 34 * n + 2 * i) 2, bank⟩

/-- Where the Assay area of a Ledger bank begins: its last 64 KiB (R350). -/
def State.asyArea (s : State) (bank : Nat) : Nat :=
  let d := s.directoryRead
  d.ledger bank + d.ledgerMax - 65536

/-- The 102 places of an Assay area (R350). -/
def State.asyPlaces (s : State) (bank : Nat) : List Nat := (List.range 102).map fun i => s.asyArea bank + 640 * i

/-- The record at a place, if its signature holds (R351). -/
def State.asyAt (s : State) (bank a : Nat) : Option AsyRecord :=
  let b := s.flashRead a 640
  if leAt b 0 4 = 0x5341434F ∧ leAt b 4 2 = 1 ∧ Config.ecdsaVerify s.idPub (b.take 560) (be256 b 560) (be256 b 592) then
    some (asyRecordOf b bank)
  else none

/-- The valid record with the highest RUN of both areas (R351). -/
def State.bestRecord (s : State) : Option AsyRecord :=
  (([0, 1].flatMap fun b => (s.asyPlaces b).filterMap (s.asyAt b)).foldl
    (fun (best : Option AsyRecord) r => match best with
      | some x => if x.run < r.run then some r else best
      | none => some r) none)

/-- Puts a record in force, or none (R340, R351). -/
def State.useRecord (s : State) (r : Option AsyRecord) : State :=
  let s1 : State := { s with asy := { s.asy with record := r } }
  let s2 := (s1.wr Reg.ASY_STAT_POINTS ((r.map AsyRecord.mask).getD 0)).wr Reg.ASY_STAT_RUN ((r.map AsyRecord.run).getD 0)
  s2.applyTrims

/-- Step C7's share (R351): the record in force, or NO_RECORD with its event record. -/
def State.loadAssay (s : State) : State :=
  let r := if s.sys.directory then s.bestRecord else none
  let s1 := s.useRecord r
  if r.isNone then (s1.wr Reg.ASY_STAT_NO_RECORD 1).raise srcAssay 0x8D02 0 else s1

/-! ### A run -/

/-- Changes the run in progress. -/
def State.updRun (s : State) (f : AsyRun → AsyRun) : State := { s with asy := { s.asy with run := s.asy.run.map f } }

/-- A run ends with a REASON (R344 to R349). -/
def State.endRun (s : State) (reason : Nat) : State :=
  let s1 := ((s.wr Reg.ASY_RUN_START 0).wr Reg.ASY_STAT_STEP 0).wr Reg.ASY_STAT_REASON reason
  { s1 with asy := { s1.asy with run := none } }

/-- ASY_RUN_START (R344): a write of START with its other fields; a run that is in progress goes on, and REASON 1 sets. A device without a role runs none
(R15). -/
def doAsyRunStart (s : State) (sweep : Nat) (tsEn : Bool) (refTemp : Nat) : State :=
  if s.role = 0 then s
  else if s.asy.run.isSome then s.wr Reg.ASY_STAT_REASON 1
  else
    let s1 := ((s.wr Reg.ASY_RUN_SWEEP sweep).wrFlag Reg.ASY_RUN_TS_EN tsEn).wr Reg.ASY_RUN_REF_TEMP refTemp
    let s2 := ((s1.wr Reg.ASY_RUN_START 1).wr Reg.ASY_STAT_STEP 1).wr Reg.ASY_STAT_REASON 0
    let run : AsyRun := ⟨0, (s.rdInt Reg.ASY_TEMP_TEMP, 1), s.rd Reg.ASY_REF_REF_UV, tsEn, signedOf 12 refTemp, sweep, 0, [], 0, 0, none, [], [], [],
      s.asy.record⟩
    { s2 with asy := { s2.asy with run := some run } }

def execAsyRunStart (sweep : BitVec 8) (tsEn : Bool) (refTemp : BitVec 12) (s : State) : Host.Outcome State Fault Refusal :=
  .next (s.whenAlive fun u => doAsyRunStart u sweep.toNat tsEn refTemp.toNat)

/-- ASY_RUN_ABORT (R348): before A8 the run ends with REASON 6 and changes nothing. -/
def doAsyRunAbort (s : State) : State := if s.asy.run.isSome ∧ s.rd Reg.ASY_STAT_STEP < 8 then s.endRun 6 else s

def execAsyRunAbort (s : State) : Host.Outcome State Fault Refusal :=
  .next (s.whenAlive fun u => doAsyRunAbort u)

/-- The mean die temperature of a run (R338). -/
def AsyRun.mean (r : AsyRun) : Int := roundDiv r.temps.1 (max r.temps.2 1 : Nat)

/-- The point that a die temperature fills: nominal temperature within 12.5 °C, the higher one on a tie (R338). -/
def fillPoint (t : Int) : Option Nat := if 200 ≤ t ∧ t ≤ 1800 then some (min 3 ((t - 200) / 400).toNat) else none

/-- A trim lies in its range (R335). -/
def inTrim (z : Int) (lim : Nat) : Bool := decide (-(lim : Int) ≤ z) && decide (z ≤ (lim : Int))

/-- A1 ends: REF_UV and die temperature (R338, R341). -/
def State.endA1 (s : State) (r : AsyRun) : State :=
  if r.refUv < 1240000 ∨ 1260000 < r.refUv then s.endRun 2
  else match fillPoint r.mean with
    | none => s.endRun 3
    | some j => (s.updRun fun x => { x with point := j }).wr Reg.ASY_STAT_STEP 2

/-- A3 ends: OFF is the mean raw reading less 2,048 (R345). -/
def State.endA3 (s : State) (total : Int) : State :=
  let off := roundDiv total 16384 - 2048
  if inTrim off 512 then (s.updRun fun x => { x with off := off }).wr Reg.ASY_STAT_STEP 4 else s.endRun 4

/-- What A6 sweeps: the outputs named in SWEEP whose group is not enabled as A6 begins (R346, R347). -/
def State.sweepMask (s : State) (named : Nat) : Nat :=
  ((List.range 8).filter fun n => named.testBit n && !s.groupOn n).foldl (fun m n => m + 2 ^ n) 0

/-- The step after A4 or A5: a Sender skips A6 and A7 (R345). -/
def State.afterConverter (s : State) : State :=
  if s.isTile then (s.updRun fun x => { x with began := s.sweepMask x.began, sweep := s.sweepMask x.began }).wr Reg.ASY_STAT_STEP 6
  else s.wr Reg.ASY_STAT_STEP 8

/-- A4 ends: GADJ from the reference; A5 runs with TS_EN 1 only (R345). -/
def State.endA4 (s : State) (r : AsyRun) (total : Int) : State :=
  let n := total - 16384 * (2048 + r.off)
  if n ≤ 0 then s.endRun 4
  else
    let g := roundDiv (1048576 * ((r.refUv : Int) * 16384 - 25 * n)) (25 * n)
    if inTrim g 31457 then
      let s1 := s.updRun fun x => { x with gadj := g }
      if r.tsEn then s1.wr Reg.ASY_STAT_STEP 5 else s1.afterConverter
    else s.endRun 4

/-- A5 ends: TS_OFF from REF_TEMP (R345). -/
def State.endA5 (s : State) (r : AsyRun) (total : Int) : State :=
  let z := roundDiv (r.refTemp * 1024 - total) 1024
  if inTrim z 160 then (s.updRun fun x => { x with tsOff := some z }).afterConverter else s.endRun 8

/-- The corrected voltage in µV of 1,024 raw readings (R336, log entry 26). -/
def AsyRun.volts (r : AsyRun) (total : Nat) : Int :=
  (((total : Int) - 1024 * (2048 + r.off)) * (1048576 + r.gadj) * 25 + 536870912) / 1073741824

/-- The distance of a code from the code equivalent of a voltage, rounded (R346). -/
def codeLess (code : Int) (v : Int) : Int := roundDiv (code * 1000000 - (v - 300000) * 16383) 1000000

/-- What a sweep gives for an output: OFF, GADJ and L (R347); none where the readings do not rise. -/
def sweepTrims (vs : List Int) : Option (Int × Int × List Int) :=
  let d := vs.getD 16 0 - vs.getD 0 0
  if d ≤ 0 then none
  else
    let off := codeLess (linCode 8) (vs.getD 8 0)
    let g := roundDiv (1048576 * (1000000 - d)) d
    some (off, g, (List.range 17).map fun i =>
      codeLess (linCode i) (vs.getD i 0) - off - (g * ((linCode i : Int) - 8192) + 524288) / 1048576)

/-- Trims of a swept output within their ranges (R335). -/
def sweepInRange (x : Option (Int × Int × List Int)) : Bool := match x with
  | some (o, g, l) => inTrim o 256 && inTrim g 20971 && l.all fun z => inTrim z 64
  | none => false

/-- Outputs measured at a single point: those that A6 did not begin to sweep (R346, R347). -/
def AsyRun.singleOutputs (r : AsyRun) : List Nat := (List.range 8).filter fun n => !r.began.testBit n

/-- A6 ends: single points and sweeps (R346, R347). -/
def State.endA6 (s : State) (r : AsyRun) (m : AsyMeasure) : State :=
  let single := r.singleOutputs.map fun n => (n, codeLess (s.rd (Reg.DRV_GRP_STAT_CREF_NOW n)) (r.volts (m.singles.getD n 0)))
  let swept := ((List.range 8).filter fun n => r.sweep.testBit n).map fun n => (n, sweepTrims ((m.sweeps.getD n []).map r.volts))
  if swept.all fun x => sweepInRange x.2 then
    (s.updRun fun x => { x with
      single := single
      swept := swept.filterMap fun y => y.2.map fun z => (y.1, z.1, z.2.1, z.2.2) }).wr Reg.ASY_STAT_STEP 7
  else s.endRun 5

/-- A7 ends: the duty of each enabled group (R345): what DUTY moves by, in steps of 10 ps. -/
def State.endA7 (s : State) (duty : List (BitVec 10)) : State :=
  let on := (List.range 8).filter s.groupOn
  let d := on.map fun n =>
    let meas := (duty.getD n 0).toNat
    (n, meas, roundDiv ((512 - (meas : Int)) * (s.groupCfg n).gdiv * 1000) 12288)
  let s1 := s.forAll d fun t x => t.wr (Reg.ASY_DUTY_MEAS x.1) x.2.1
  (s1.updRun fun x => { x with duty := d }).wr Reg.ASY_STAT_STEP 8

/-- The point that a run fills, before its measurements: the recorded one, or the trims in force where none is recorded (log entry 27). -/
def State.basePoint (s : State) (j : Nat) : AsyPoint :=
  match s.asy.record.bind fun r => Tab.find r.points j with
  | some p => p
  | none => ⟨0, 0, 0, eight fun n => s.trimNow fun p => p.crefOff.getD n 0, eight fun n => s.trimNow fun p => p.crefGadj.getD n 0,
      eight fun n => s.dutyTarget n, 0, 0⟩

/-- A list of eight numbers with some replaced. -/
def replaceIn (l : List Int) (xs : List (Nat × Int)) : List Int :=
  eight fun n => ((xs.find? fun x => x.1 == n).map (·.2)).getD (l.getD n 0)

/-- The point that a run fills (R345 to R347). -/
def State.newPoint (s : State) (r : AsyRun) (j run : Nat) : AsyPoint :=
  let b := s.basePoint j
  let off1 := replaceIn b.crefOff (r.single.map fun x => (x.1, b.crefOff.getD x.1 0 + x.2))
  { temp := r.mean
    adcOff := r.off
    adcGadj := r.gadj
    crefOff := replaceIn off1 (r.swept.map fun x => (x.1, x.2.1))
    crefGadj := replaceIn b.crefGadj (r.swept.map fun x => (x.1, x.2.2.1))
    duty := replaceIn b.duty (r.duty.map fun x => (x.1, b.duty.getD x.1 0 + x.2.2))
    run := run
    when_ := s.now }

/-- The record that a run builds from the one in force (R349). -/
def State.newRecord (s : State) (r : AsyRun) (j : Nat) : AsyRecord :=
  let old : AsyRecord := s.asy.record.getD ⟨[], 0, 0, 0, [], 1⟩
  let run := old.run + 1
  { points := Tab.put old.points j (s.newPoint r j run)
    run := run
    when_ := s.now
    tsOff := r.tsOff.getD old.tsOff
    lin := (List.range 8).map fun n => ((r.swept.find? fun x => x.1 == n).map (·.2.2.2)).getD (old.lin.getD n [])
    bank := 1 - old.bank }

/-- A8 ends: the trims come into force, unless one lies outside its range (R335, R340, R342). -/
def State.endA8 (s : State) (r : AsyRun) : State :=
  match fillPoint r.mean with
  | none => s.endRun 3
  | some j =>
    let n := s.newRecord r j
    let p := (Tab.find n.points j).getD default
    if !p.crefOff.all (fun z => inTrim z 256) then s.endRun 5
    else if !p.duty.all (fun z => inTrim z 32) then s.endRun 8
    else (((s.updRun fun x => { x with point := j }).useRecord (some n)).wr Reg.ASY_STAT_NO_RECORD 0).wr Reg.ASY_STAT_STEP 9

/-- The place for a new record: the first free one of its bank's area; none where the area is full (R350). -/
def State.freePlace (s : State) (bank : Nat) : Option Nat := (s.asyPlaces bank).find? fun a => (s.flashRead a 640).all fun b => b == 0xFF

/-- A9 ends: the record is signed and written to the area of the bank that does not hold the record in force (R349, R350). -/
def State.endA9 (s : State) (flashOk : Bool) : State :=
  match s.asy.record with
  | none => s.endRun 7
  | some r =>
    if !flashOk || !s.canDraw || !s.sys.directory then
      let s1 : State := { s with asy := { s.asy with record := some { r with bank := 1 - r.bank } } }
      ((s1.endRun 7).wr Reg.ASY_STAT_WRITE_FAIL 1).raise srcAssay 0x8D01 0
    else
      let (s1, sg) := s.sign r.bytes
      let s2 := match s1.freePlace r.bank with
        | some a => s1.flashWrite a (r.bytes ++ sg)
        | none => (s1.flashErase (s1.asyArea r.bank) 65536).flashWrite (s1.asyArea r.bank) (r.bytes ++ sg)
      s2.endRun 0

/-- ASSAY_STEP_END (R345 to R349): the end of the step that ASY_STAT.STEP names. -/
def doAssayStepEnd (s : State) (m : AsyMeasure) : State :=
  match s.asy.run with
  | none => s
  | some r =>
    match s.rd Reg.ASY_STAT_STEP with
    | 1 => s.endA1 r
    | 2 => s.wr Reg.ASY_STAT_STEP 3
    | 3 => s.endA3 m.total
    | 4 => s.endA4 r m.total
    | 5 => s.endA5 r m.total
    | 6 => s.endA6 r m
    | 7 => s.endA7 m.duty
    | 8 => s.endA8 r
    | 9 => s.endA9 m.flashOk
    | _ => s

def execAssayStepEnd (m : AsyMeasure) (s : State) : Host.Outcome State Fault Refusal :=
  .next (s.whenAlive fun u => doAssayStepEnd u m)

end Sys2Proof.Machine
end

