-- ==== Sys2Proof/Machine/Feed.lean ====
section
/-! DEFINITION. What a Tile does at a feed start (R190, R194, R200, R201, R282, R284 to R302, R311, R331), and the glass hallmark (R199, R200). -/

namespace Sys2Proof.Machine

/-! ### The hatch -/

/-- A piece at the feed start of the frame shown from S (R190). -/
def GuardPiece.feed (g : GuardPiece) (S : Nat) : GuardPiece :=
  let h := decide (g.expiry ≤ S)
  { g with hatched := h, reasons := if h then g.why else 0 }

/-- The STATE byte of a guard report (R201). -/
def GuardPiece.stateByte (g : GuardPiece) : Nat := g.hatched.toNat + 2 * g.reasons

/-- The hatch of every piece at a feed start, with a record of each change (R190, R202). -/
def State.feedPieces (s : State) (S : Nat) : State :=
  let new := s.hmk.guard.map fun g => g.feed S
  let changed := (s.hmk.guard.zip new).filter fun x => x.1.stateByte != x.2.stateByte
  ({ s with hmk := { s.hmk with guard := new } }).forAll changed fun t x => t.raise srcDispatch 0x4702 (t.pieceArg x.2 x.2.reasons)

/-! ### Dark groups -/

/-- A group is to be dark for R200. -/
def State.glassDark (s : State) (n : Nat) : Bool := s.rd (Reg.HMK_GLASS_STAT_FAILED n) != 0 && s.cfg 1 Reg.HMK_CFG_DARK == 1

/-- Darkens or relights the groups at a feed start (R200, R202). A record for a whole group names port 15 (log entry 21). -/
def State.feedDark (s : State) : State :=
  s.forAll (List.range 8) fun t n =>
    let d := t.glassDark n
    if d = t.flag (Reg.HMK_GLASS_GRP_DARK n) then t
    else ((t.wrFlag (Reg.HMK_GLASS_GRP_DARK n) d).showDark n).raise srcDispatch 0x8704 (n * 256 + 15 + (if d then 0 else 4096))

/-! ### Guard reports -/

/-- What a guard report says: state and region of each piece, glass masks, dark groups (R201). -/
def State.guardView (s : State) : List (Nat × Nat) × List Nat × Nat :=
  (s.hmk.guard.map fun g => (g.stateByte, g.entry.region),
   (List.range 8).map fun n => s.rd (Reg.HMK_GLASS_STAT_FAILED n),
   ((List.range 8).filter fun n => s.flag (Reg.HMK_GLASS_GRP_DARK n)).foldl (fun m n => m + 2 ^ n) 0)

/-- The body of a guard report (R201). -/
def State.guardReport (s : State) : Bytes :=
  let (ps, glass, dark) := s.guardView
  leBytes 1 2 ++ leBytes 1 ps.length ++ leBytes 2 (s.rd Reg.SYS_WALL_ADDR) ++ leBytes 4 (s.rd Reg.TFS_SHOW_GEN)
    ++ leBytes 2 (s.rd Reg.HMK_TABLE_VERSION) ++ leBytes 1 dark ++ zeros 5 ++ glass.flatMap (leBytes 2)
    ++ (ps.mapIdx fun i x => leBytes 1 i ++ leBytes 1 x.1 ++ leBytes 1 x.2 ++ zeros 1).flatten

/-- Sends a guard report when something changed since the last one (R201); while no port carries it, the change waits for a later feed start. -/
def State.reportGuard (s : State) : State :=
  let v := s.guardView
  let ports := s.tfs.commitPorts.filter s.canSend
  if v = s.hmk.reported ∨ ports.isEmpty then s
  else ({ s with hmk := { s.hmk with reported := v } }).forAll ports fun t p => t.send p .status (t.destChain 1 p) s.guardReport

/-! ### FEED_START -/

/-- Knee, zone positions and derate of the frame (R297, R301, R331). -/
def State.feedFactors (s : State) : State := ((s.slewZones).forAll ((List.range 8).filter s.groupOn) State.slewKnee).slewDerate

/-- The feed of the frame shown from S starts (R282, R284); `bad` are the lines of the store and of the tables whose
reads were uncorrectable. The groups' grey words are what the drivers hold in their back banks from now on (log entry 22). -/
def State.feedFrame (s : State) (S : Nat) (bad : List Nat) : State :=
  if !s.isTile then s
  else
    let s1 := (((s.feedBuffers S).feedPieces S).feedDark).feedFactors
    let groups := (List.range 8).filter s1.groupOn
    let s2 := s1.noteBadLines bad
    ({ s2 with drv := { s2.drv with fill := s1.fillOrder groups } }.forAll groups fun t n => t.startFeed bad n).reportGuard

/-- FEED_START (R251, R282, R284): the feed start that the count has reached, once for each, while its boundary has not gone by. -/
def doFeedStart (s : State) (bad : List Nat) : State :=
  let S := s.feedBoundary s.now
  if s.isTile && s.due actFeed S (S - s.feedLead) s.now && decide (s.now ≤ S) then (s.perform actFeed S).feedFrame S bad else s

def execFeedStart (bad : List (BitVec 27)) (s : State) : Host.Outcome State Fault Refusal :=
  .next (s.whenAlive fun u => doFeedStart u (bad.map (·.toNat)))

/-! ### GLASS_COMPARE -/

/-- The two values of a port for the frame fed (R199): over the bits sent, and over those that came back, both in the slots of guarded pixels. -/
def State.glassValues (s : State) (n k : Nat) (ret : List (List Bool)) : Nat × Nat :=
  let es := s.guardedEdges n k
  (crc64Bits (es.map fun e => s.sentBit n k e.1 e.2),
   crc64Bits (es.map fun e => retBit ret k (e.1 * 256 * (s.groupCfg n).chain + e.2 + s.returnDelay n)))

/-- One compared frame of a port (R200). -/
def State.glassPort (s : State) (n k : Nat) (equal : Bool) : State :=
  let (bad, good) := Tab.get (s.group n).runs k
  let run := if equal then (0, good + 1) else (bad + 1, 0)
  let failed := s.bit (Reg.HMK_GLASS_STAT_FAILED n) k
  let s1 := (s.setGroup n fun g => { g with runs := Tab.put g.runs k run }).wrBit (Reg.HMK_GLASS_STAT_LAST_MISS n) k (!equal)
  if !failed && decide (s.cfg 1 Reg.HMK_CFG_GLASS_LIMIT ≤ run.1) then
    (s1.wrBit (Reg.HMK_GLASS_STAT_FAILED n) k true).raise srcDispatch 0x8704 (n * 256 + k)
  else if failed && decide (s.cfg 1 Reg.HMK_CFG_RELIGHT ≤ run.2) then
    (s1.wrBit (Reg.HMK_GLASS_STAT_FAILED n) k false).raise srcDispatch 0x8704 (n * 256 + k + 4096)
  else s1

/-- GOOD_RUN: the smallest run of equal frames among the failed ports. -/
def State.goodRun (s : State) (n : Nat) : Nat :=
  match ((List.range 16).filter fun k => s.bit (Reg.HMK_GLASS_STAT_FAILED n) k).map fun k => (Tab.get (s.group n).runs k).2 with
  | [] => 0
  | a :: l => min 255 (l.foldl min a)

/-- GLASS_COMPARE (R199, R200, R322): at the end of the flush, with the bits that each port sampled on RET from the first edge of the frame's row transfers
on; what returns for an edge is sampled D edges later. A frame whose feed was aborted is not compared. -/
def doGlassCompare (s : State) (n : Nat) (ret : List (List Bool)) : State :=
  if s.isTile && s.groupOn n && !(s.group n).aborted then
    let ports := (List.range 16).filter fun k => s.bit (Reg.HMK_GLASS_GRP_GUARDED n) k
    let s1 := s.forAll ports fun t k => t.glassPort n k ((s.glassValues n k ret).1 == (s.glassValues n k ret).2)
    s1.wr (Reg.HMK_GLASS_GRP_GOOD_RUN n) (s1.goodRun n)
  else s

def execGlassCompare (n : Fin 8) (ret : List (List Bool)) (s : State) : Host.Outcome State Fault Refusal :=
  .next (s.whenAlive fun u => doGlassCompare u n ret)

end Sys2Proof.Machine
end

