-- ==== Sys2Proof/Machine/Tally.lean ====
section
/-! DEFINITION. Tally check units (R386 to R399 of spec/13_tally_check_units.md): the unit, the general clusters and the memory-scan engines. -/

namespace Sys2Proof.Machine

/-! ### The unit -/

/-- Parameters of a Tally unit (R386). -/
structure TallyParams where
  width : Nat
  poly : Nat
  init : Nat
  refIn : Bool
  refOut : Bool
  xorOut : Nat
deriving DecidableEq, Repr

/-- A number with its low `w` bits reversed. -/
def reflectBits : Nat → Nat → Nat
  | 0, _ => 0
  | w + 1, v => v % 2 * 2 ^ w + reflectBits w (v / 2)

/-- One pass of the inner loop (R386). -/
def TallyParams.shift (p : TallyParams) (r : Nat) : Nat :=
  if r.testBit (p.width - 1) then (r * 2 ^^^ p.poly) % 2 ^ p.width else r * 2 % 2 ^ p.width

/-- One byte (R386). -/
def TallyParams.feed (p : TallyParams) (r : Nat) (b : Byte) : Nat :=
  let v := if p.refIn then reflectBits 8 b.toNat else b.toNat
  (List.range 8).foldl (fun a _ => p.shift a) (r ^^^ v * 2 ^ (p.width - 8))

/-- One bit, in bit-serial mode (R387). -/
def TallyParams.feedBit (p : TallyParams) (r : Nat) (b : Bool) : Nat := p.shift (r ^^^ b.toNat * 2 ^ (p.width - 1))

/-- The result (R386). -/
def TallyParams.result (p : TallyParams) (r : Nat) : Nat := (if p.refOut then reflectBits p.width r else r) ^^^ p.xorOut

/-- The check value of a message (R386). -/
def TallyParams.check (p : TallyParams) (bs : Bytes) : Nat := p.result (bs.foldl p.feed p.init)

/-- The four profiles (R388). -/
def tallyProfile (n : Nat) : TallyParams :=
  match n with
  | 0 => ⟨32, 0x1EDC6F41, 0xFFFFFFFF, true, true, 0xFFFFFFFF⟩
  | 1 => ⟨32, 0x04C11DB7, 0xFFFFFFFF, true, true, 0xFFFFFFFF⟩
  | 2 => ⟨16, 0x1021, 0xFFFF, false, false, 0⟩
  | _ => ⟨64, 0x42F0E1EBA9EA3693, 2 ^ 64 - 1, false, false, 2 ^ 64 - 1⟩

/-! ### General units -/

/-- The parameters of unit u of cluster c, read through `rd`. -/
def unitParamsBy (rd : Fld → Nat) (c u : Nat) : TallyParams :=
  ⟨rd (Reg.TLY_U_CFG_WIDTH c u), rd (Reg.TLY_U_POLY_LO_V c u) + 2 ^ 32 * rd (Reg.TLY_U_POLY_HI_V c u),
    rd (Reg.TLY_U_INIT_LO_V c u) + 2 ^ 32 * rd (Reg.TLY_U_INIT_HI_V c u), rd (Reg.TLY_U_CFG_REFIN c u) == 1,
    rd (Reg.TLY_U_CFG_REFOUT c u) == 1, rd (Reg.TLY_U_XOR_LO_V c u) + 2 ^ 32 * rd (Reg.TLY_U_XOR_HI_V c u)⟩

def State.unitParams (s : State) (c u : Nat) : TallyParams := unitParamsBy s.ac c u

/-- The register of a unit. -/
def State.unitReg (s : State) (c u : Nat) : Nat := (Tab.find s.tly.units (8 * c + u)).getD (s.unitParams c u).init
def State.setUnit (s : State) (c u v : Nat) : State := { s with tly := { s.tly with units := Tab.put s.tly.units (8 * c + u) v } }

/-- The refusal of one unit's parameters (R393): 1 WIDTH, 2 POLY bit 0, 3 bits above WIDTH; 0 good. -/
def TallyParams.refusal (p : TallyParams) : Nat :=
  if p.width < 8 ∨ 64 < p.width then 1
  else if p.poly % 2 = 0 then 2
  else if 2 ^ p.width ≤ p.poly ∨ 2 ^ p.width ≤ p.init ∨ 2 ^ p.width ≤ p.xorOut then 3
  else 0

/-- The lowest refused unit of a pending cluster, with its reason (R393). -/
def clusterRefusal (s : State) (c : Nat) : Option (Nat × Nat) :=
  if s.rd (Reg.TLY_CL_CFG_CUSTOM c) = 0 then none
  else ((List.range 8).find? fun u => (unitParamsBy s.rd c u).refusal != 0).map fun u => (u, (unitParamsBy s.rd c u).refusal)

/-- Some pending cluster is refused (R393). -/
def tlyRefused (s : State) : Bool := [0, 1, 2, 3].any fun c => (clusterRefusal s c).isSome

/-- Records the refused clusters. -/
def State.noteTlyRefused (s : State) : State :=
  s.forAll [0, 1, 2, 3] fun t c => match clusterRefusal s c with
    | some (u, r) => (t.wr (Reg.TLY_CL_STAT_UNIT c) u).wr (Reg.TLY_CL_STAT_REFUSE c) r
    | none => t

/-- Sets the pending and the active copy of a field. -/
def State.wrBoth (s : State) (f : Fld) (v : Nat) : State :=
  let t := s.wr f v
  { t with act := Tab.put t.act f.addr (setBits (t.actWord f) f.lo f.width v) }

/-- A unit takes the values of a profile, in both copies (R393). -/
def State.loadProfile (s : State) (c u : Nat) (p : TallyParams) : State :=
  ((((((((s.wrBoth (Reg.TLY_U_CFG_WIDTH c u) p.width).wrBoth (Reg.TLY_U_CFG_REFIN c u) p.refIn.toNat).wrBoth (Reg.TLY_U_CFG_REFOUT c u)
    p.refOut.toNat).wrBoth (Reg.TLY_U_POLY_LO_V c u) p.poly).wrBoth (Reg.TLY_U_POLY_HI_V c u) (p.poly / 2 ^ 32)).wrBoth
    (Reg.TLY_U_INIT_LO_V c u) p.init).wrBoth (Reg.TLY_U_INIT_HI_V c u) (p.init / 2 ^ 32)).wrBoth (Reg.TLY_U_XOR_LO_V c u) p.xorOut).wrBoth
    (Reg.TLY_U_XOR_HI_V c u) (p.xorOut / 2 ^ 32)

/-- A unit begins anew (R394). -/
def State.initUnit (s : State) (c u : Nat) (restarted : Bool) : State :=
  ((s.setUnit c u (s.unitParams c u).init).wr (Reg.TLY_U_STAT_COUNT c u) 0).wrFlag (Reg.TLY_U_STAT_RESTARTED c u) restarted

/-- What the general clusters do once their G1 fields are copied (R393, R394). -/
def State.tlyCommitted (s old : State) : State :=
  let units := [0, 1, 2, 3].flatMap fun c => (List.range 8).map fun u => (c, u)
  let s1 := s.forAll units fun t q =>
    t.onlyIf (t.ac (Reg.TLY_CL_CFG_CUSTOM q.1) == 0 && unitParamsBy t.rd q.1 q.2 != tallyProfile (t.ac (Reg.TLY_CL_CFG_PROFILE q.1))
        || t.ac (Reg.TLY_CL_CFG_CUSTOM q.1) == 0 && t.unitParams q.1 q.2 != tallyProfile (t.ac (Reg.TLY_CL_CFG_PROFILE q.1)))
      fun v => v.loadProfile q.1 q.2 (tallyProfile (t.ac (Reg.TLY_CL_CFG_PROFILE q.1)))
  s1.forAll units fun t q => t.onlyIf (t.unitParams q.1 q.2 != old.unitParams q.1 q.2) fun v => v.initUnit q.1 q.2 true

/-- Feeds bytes to a unit (R395). -/
def State.feedUnit (s : State) (c u : Nat) (bs : Bytes) : State :=
  (s.setUnit c u (bs.foldl (s.unitParams c u).feed (s.unitReg c u))).bumpBy (Reg.TLY_U_STAT_COUNT c u) bs.length

/-- A general cluster has power (R509): without a role only cluster 0 has. -/
def State.clusterOn (s : State) (c : Nat) : Bool := s.role != 0 || c == 0

/-- TLY_U_DATA1 (R395): one byte. -/
def doTlyUData1 (s : State) (c u v : Nat) : State := s.onlyIf (s.clusterOn c) fun t => t.feedUnit c u (leBytes 1 v)

def execTlyUData1 (c : Fin 4) (u : Fin 8) (v : Byte) (s : State) : Host.Outcome State Fault Refusal :=
  .next (s.whenAlive fun t => doTlyUData1 t c u v.toNat)

/-- TLY_U_DATA2 (R395): two bytes, [7:0] first. -/
def doTlyUData2 (s : State) (c u v : Nat) : State := s.onlyIf (s.clusterOn c) fun t => t.feedUnit c u (leBytes 2 v)

def execTlyUData2 (c : Fin 4) (u : Fin 8) (v : BitVec 16) (s : State) : Host.Outcome State Fault Refusal :=
  .next (s.whenAlive fun t => doTlyUData2 t c u v.toNat)

/-- TLY_U_DATA4 (R395): four bytes, [7:0] first. -/
def doTlyUData4 (s : State) (c u v : Nat) : State := s.onlyIf (s.clusterOn c) fun t => t.feedUnit c u (leBytes 4 v)

def execTlyUData4 (c : Fin 4) (u : Fin 8) (v : Word) (s : State) : Host.Outcome State Fault Refusal :=
  .next (s.whenAlive fun t => doTlyUData4 t c u v.toNat)

/-- TLY_U_INIT: reg := INIT; COUNT and RESTARTED clear. -/
def doTlyUInit (s : State) (c u : Nat) : State := s.onlyIf (s.clusterOn c) fun t => t.initUnit c u false

def execTlyUInit (c : Fin 4) (u : Fin 8) (s : State) : Host.Outcome State Fault Refusal :=
  .next (s.whenAlive fun t => doTlyUInit t c u)

/-- The result of a unit (R386), low `WIDTH` bits. -/
def State.unitResult (s : State) (c u : Nat) : Nat := (s.unitParams c u).result (s.unitReg c u)

/-! ### Memory-scan engines -/

/-- The control cores are interrupted (R398). -/
def State.tallyIrq (s : State) : Bool :=
  (s.rd Reg.TLY_IRQ_MISMATCH + 16 * s.rd Reg.TLY_IRQ_UE + 256 * s.rd Reg.TLY_IRQ_ERROR) &&& s.rd Reg.TLY_IRQ_EN_EN != 0

/-- Reports MISMATCH, UE or ERROR of an engine (R398). -/
def State.scanReport (s : State) (e : Nat) (stat irq : Fld) : State :=
  ((s.wr stat 1).wrBit irq e true).raise srcTally 0x9001 (e * 2 ^ 30 + s.rd (Reg.TLY_MS_STAT_PASSES e))

/-- A scan ends. -/
def State.endScan (s : State) (e : Nat) : State :=
  { (s.wr (Reg.TLY_MS_CFG_START e) 0) with tly := { s.tly with scans := Tab.del s.tly.scans e } }

/-- A scan stops on a line (R398). -/
def State.stopScan (s : State) (e line : Nat) (ue : Bool) : State :=
  let s1 := (s.endScan e).wr (Reg.TLY_MS_POS_LINE e) line
  if ue then s1.scanReport e (Reg.TLY_MS_STAT_UE e) Reg.TLY_IRQ_UE else s1.scanReport e (Reg.TLY_MS_STAT_ERROR e) Reg.TLY_IRQ_ERROR

/-- The fields that an engine latches at START (R396). -/
def State.scanFields (s : State) (e : Nat) : ScanRec :=
  ⟨s.rd (Reg.TLY_MS_ADDR_LO_ADDR e) + 2 ^ 32 * s.rd (Reg.TLY_MS_ADDR_HI_ADDR e), s.rd (Reg.TLY_MS_LEN_LEN e), s.rd (Reg.TLY_MS_CFG_PROFILE e),
    s.flag (Reg.TLY_MS_CFG_REPEAT e), s.rd (Reg.TLY_MS_EXP_LO_EXPECT e) + 2 ^ 32 * s.rd (Reg.TLY_MS_EXP_HI_EXPECT e)⟩

/-- TLY_MS_START (R396): a write of TLY_MS_CFG with START at 1. With ABORT at 1 too it ends a running scan and starts none. -/
def doTlyMsStart (s : State) (e profile : Nat) (again abort : Bool) : State :=
  if s.role = 0 then s else
  let s1 := (s.wr (Reg.TLY_MS_CFG_PROFILE e) profile).wrFlag (Reg.TLY_MS_CFG_REPEAT e) again
  if abort then s1.endScan e
  else
    let r := s1.scanFields e
    let s2 := (((((s1.wr (Reg.TLY_MS_STAT_DONE e) 0).wr (Reg.TLY_MS_STAT_MISMATCH e) 0).wr (Reg.TLY_MS_STAT_UE e) 0).wr
      (Reg.TLY_MS_STAT_ERROR e) 0).wr (Reg.TLY_MS_STAT_PASSES e) 0).wr (Reg.TLY_MS_POS_LINE e) (r.addr / 64)
    if r.addr % 8 ≠ 0 ∨ r.len % 8 ≠ 0 ∨ r.len = 0 then s2.stopScan e (r.addr / 64) false
    else { (s2.wr (Reg.TLY_MS_CFG_START e) 1) with tly := { s2.tly with scans := Tab.put s2.tly.scans e r } }

def execTlyMsStart (e : Fin 4) (profile : BitVec 2) (again abort : Bool) (s : State) : Host.Outcome State Fault Refusal :=
  .next (s.whenAlive fun u => doTlyMsStart u e profile.toNat again abort)

/-- TLY_MS_ABORT (R396): a write of TLY_MS_CFG with ABORT at 1. -/
def doTlyMsAbort (s : State) (e profile : Nat) (again : Bool) : State :=
  s.onlyIf (s.role != 0) fun t => ((t.wr (Reg.TLY_MS_CFG_PROFILE e) profile).wrFlag (Reg.TLY_MS_CFG_REPEAT e) again).endScan e

def execTlyMsAbort (e : Fin 4) (profile : BitVec 2) (again : Bool) (s : State) : Host.Outcome State Fault Refusal :=
  .next (s.whenAlive fun u => doTlyMsAbort u e profile.toNat again)

/-- The lines of a scan's area, and the first that no window maps. -/
def ScanRec.lastLine (r : ScanRec) : Nat := (r.addr + r.len - 1) / 64
def State.unmappedLine (s : State) (r : ScanRec) : Option Nat :=
  ((List.range (r.lastLine + 1 - r.addr / 64)).map (r.addr / 64 + ·)).find? fun l => (s.windowAt (64 * l)).isNone

/-- SCAN_PASS_END (R398): the pass has read its area; what it read is taken to be what stands there at its end (log entry 23). -/
def doScanPassEnd (s : State) (e : Nat) : State :=
  match Tab.find s.tly.scans e with
  | none => s
  | some r =>
    match s.unmappedLine r with
    | some l => (s.mapFault l).stopScan e l false
    | none =>
      let p := tallyProfile r.profile
      let v := p.check (s.dramRead r.addr r.len)
      let miss := v != r.expect % 2 ^ p.width
      let s1 := (((s.wr (Reg.TLY_MS_RES_LO_RESULT e) v).wr (Reg.TLY_MS_STAT_DONE e) 1).bump (Reg.TLY_MS_STAT_PASSES e)).wr
        (Reg.TLY_MS_POS_LINE e) r.lastLine
      let s2 := ({ s1 with tly := { s1.tly with results := Tab.put s1.tly.results e v } }).wrFlag (Reg.TLY_MS_STAT_MISMATCH e) miss
      let s3 := if miss then s2.scanReport e (Reg.TLY_MS_STAT_MISMATCH e) Reg.TLY_IRQ_MISMATCH else s2
      if r.again then s3 else s3.endScan e

def execScanPassEnd (e : Fin 4) (s : State) : Host.Outcome State Fault Refusal :=
  .next (s.whenAlive fun u => doScanPassEnd u e)

/-- SCAN_STOP (R398): a line of the scan's area that came back uncorrectable, which counts as R367 says, or one that no window maps. -/
def doScanStop (s : State) (e line : Nat) (ue : Bool) : State :=
  match Tab.find s.tly.scans e with
  | none => s
  | some r =>
    if line < r.addr / 64 ∨ r.lastLine < line then s
    else if (s.windowAt (64 * line)).isNone then (s.mapFault line).stopScan e line false
    else if ue then (s.noteUe line).stopScan e line true
    else s

def execScanStop (e : Fin 4) (line : BitVec 27) (ue : Bool) (s : State) : Host.Outcome State Fault Refusal :=
  .next (s.whenAlive fun u => doScanStop u e line.toNat ue)

end Sys2Proof.Machine
end

