-- ==== Sys2Proof/Machine/Commit.lean ====
section
/-! DEFINITION. Commit groups (R56 to R64, R515 of spec/02_charter_image_and_start.md): arming, commit points, refusal, and preset selection (R470 of
spec/16_counter_port_events_and_dump.md), which arms G0 and G1. -/

namespace Sys2Proof.Machine

/-! ### Groups -/

/-- The group is armed. -/
def State.armed (s : State) (g : Nat) : Bool := s.bit Reg.SYS_COMMIT_STAT_ARMED g

/-- The group holds a field in the device's present role (R58). -/
def State.groupHere (s : State) (g : Nat) : Bool :=
  if s.isSender then decide (g < 2) || (decide (12 ≤ g) && decide (g < 15))
  else if s.isTile then decide (1 ≤ g) && decide (g < 14)
  else false

/-- The ports that take a port group's commit one by one: the Weft ports of the role for G12, the intake ports for G14. -/
def State.groupPorts (s : State) (g : Nat) : List Nat := if g = 12 then s.weftPorts else if g = 14 then List.range 8 else []

/-- The count by which a group's region goes (R60, R248): the Frame die's copy, or the Lane die's count for G4 to G14. -/
def State.groupClock (s : State) (g : Nat) : Nat := if g < 4 then s.frameNow else s.now

/-- How long before its commit point a group must be armed (R58), in ns. -/
def armDeadline (g : Nat) : Nat := if g = 0 ∨ g = 1 ∨ g = 13 then 100000 else if 2 ≤ g ∧ g ≤ 11 then 50000 else 0

/-- A group has passed a commit point, or was refused (R57, R59, R62): ARMED clears, DONE sets, LATE and REFUSED set where they apply, and one event
record names the group. DESIGN CHOICE (log entry 117): a later commit on time leaves LATE and REFUSED set until they are written. -/
def State.passGroup (s : State) (g : Nat) (late refused : Bool) : State :=
  let s1 := (s.wrBit Reg.SYS_COMMIT_STAT_ARMED g false).wrBit Reg.SYS_COMMIT_STAT_DONE g true
  let s2 := if refused then s1.wrBit Reg.SYS_COMMIT_ERR_REFUSED g true else if late then s1.wrBit Reg.SYS_COMMIT_ERR_LATE g true else s1
  let s3 := { s2 with sys := { s2.sys with
    armAt := Tab.del s2.sys.armAt g
    missed := s2.sys.missed.filter fun x => x != g
    portsLeft := Tab.del s2.sys.portsLeft g } }
  s3.raise srcControl (if refused then 0x4003 else if late then 0x4002 else 0x0001) g

/-- From now on the group's blocks act on the active copies (R515). -/
def State.startActive (s : State) (g : Nat) : State :=
  if s.sys.committed.contains g then s else { s with sys := { s.sys with committed := g :: s.sys.committed } }

/-! ### The check of a pending set -/

/-- The pending area whose base a group holds breaks R358. -/
def State.areaFails (s : State) (g : Nat) : Bool :=
  if g = 0 then !s.areaOk s.pendingStore.1 s.pendingStore.2
  else if g = 1 then s.isSender && !s.queueAreaOk
  else if g = 2 then !s.areaOk (s.rd Reg.TFS_STORE_BASE * 65536) 9502720
  else if g = 3 then !s.areaOk (s.rd Reg.LMP_TABLE_BASE * 65536) ((s.rd Reg.LMP_CFG_NSM1 + 1) * 8388608)
  else if 4 ≤ g ∧ g ≤ 11 then !s.areaOk (s.rd (Reg.DRV_GRP_LAMP_BASE (g - 4)) * 65536) (groupCfgBy s.rd (g - 4)).tableBytes
  else false

/-- DMC_STAT records an area that broke R358. -/
def State.noteArea (s : State) (g : Nat) : State :=
  s.onlyIf (s.areaFails g) fun t => (t.wr Reg.DMC_STAT_REFUSE 3).wr Reg.DMC_STAT_AREA_GROUP g

/-- Records a refusal code in a block's own status field. -/
def State.noteCode (s : State) (f : Fld) (code : Nat) : State := s.onlyIf (code != 0) fun t => t.wr f code

/-- The pending set of G1 is good in every block of the role; without a role only the memory and Tally regions hold fields of it (R392). -/
def State.goodG1 (s : State) : Bool :=
  (!s.isSender || (dmgRefusal s).isNone) && (s.role == 0 || ((hmkRefusal s).isNone && (spnRefusal s == 0))) && (dmcRefusal s == 0) && !tlyRefused s

/-- Each block of G1 that refuses records its own reason. -/
def State.noteG1 (s : State) : State :=
  let s1 := if s.isSender then (match dmgRefusal s with
    | some f => s.dmgRefused f
    | none => s) else s
  let s2 := match hmkRefusal s with
    | some f => s1.hmkRefused f
    | none => s1
  let s3 := if s.role = 0 then s else s2.noteCode Reg.SPN_STAT_REFUSE (spnRefusal s)
  ((s3.noteCode Reg.DMC_STAT_REFUSE (dmcRefusal s)).onlyIf (tlyRefused s) State.noteTlyRefused)

/-- The pending set of a group is refused (R62). -/
def State.refuses (s : State) (g : Nat) : Bool :=
  s.areaFails g ||
    (if g = 0 then (loomRefusal s).isSome
    else if g = 1 then !s.goodG1
    else if g = 2 then tfsRefusal s != 0
    else if g = 3 then lmpRefusal s != 0
    else if 4 ≤ g ∧ g ≤ 11 then drvRefusal s (g - 4) != 0
    else if g = 13 then whlRefusal s != 0
    else false)

/-- A refused group: the reason stands in the block's own register (R62). -/
def State.noteRefusal (s : State) (g : Nat) : State :=
  let s1 := if g = 0 then (match loomRefusal s with
      | some f => s.loomRefused f
      | none => s)
    else if g = 1 then s.noteG1
    else if g = 2 then s.noteCode Reg.TFS_STAT_REFUSE (tfsRefusal s)
    else if g = 3 then s.noteCode Reg.LMP_STAT_REFUSE (lmpRefusal s)
    else if 4 ≤ g ∧ g ≤ 11 then s.noteCode (Reg.DRV_GRP_STAT_REFUSE (g - 4)) (drvRefusal s (g - 4))
    else s.noteCode Reg.WHL_STAT_REFUSE (whlRefusal s)
  s1.noteArea g

/-! ### Commit points -/

/-- What the blocks do once the fields of a group are copied. -/
def State.afterCopy (s old : State) (g : Nat) : State :=
  if g = 0 then s.loomCommitted old
  else if g = 1 then (if s.isSender then ((s.tlyCommitted old).dmgCommitted old).hmkCommitted old else s.tlyCommitted old)
  else if g = 2 then s.tfsCommitted old
  else if g = 3 then s.lmpCommitted old
  else if 4 ≤ g ∧ g ≤ 11 then s.drvCommitted old (g - 4)
  else if g = 13 then s.whlCommitted old
  else s

/-- The whole set of a group is copied, or refused (R57, R62). A first commit that is refused leaves the reset values active (R515). -/
def State.commitGroup (s : State) (g : Nat) (late : Bool) : State :=
  if s.refuses g then
    let s1 := ((s.noteRefusal g).startActive g).passGroup g late true
    if g = 13 then { s1 with whl := { s1.whl with rate := if s.sys.firstLight then s1.whl.rate else s1.ac Reg.WHL_CFG_RATE } } else s1
  else
    let s1 := (s.copyGroup g fun _ => true).startActive g
    (s1.afterCopy s g).passGroup g late false

/-! ### Arming -/

/-- Arms a group (R57, R58): an armed group stays as it is; one that holds no field in the role passes its commit point at once. Without a
role the Tally region takes a G1 commit at once (R392). -/
def State.armGroup (s : State) (g : Nat) : State :=
  if s.armed g then s
  else
    let s1 := s.wrBit Reg.SYS_COMMIT_STAT_ARMED g true
    if s.role = 0 ∧ g = 1 then s1.commitGroup 1 false
    else if !s.groupHere g then s1.passGroup g false false
    else
      let left := s.groupPorts g
      { s1 with sys := { s1.sys with
        armAt := Tab.put s1.sys.armAt g (s.groupClock g)
        portsLeft := if left.isEmpty then s1.sys.portsLeft else Tab.put s1.sys.portsLeft g left } }

/-- Arms every group of a mask, lowest first. -/
def State.armMask (s : State) (mask : Nat) : State := s.forAll ((List.range 16).filter fun g => mask.testBit g) State.armGroup

/-! ### Ports -/

/-- The cluster of an address (R33). -/
def clusterOf (a : Nat) : Nat := a / 0x40000 % 64

/-- The code with which a port refuses the pending set of G12 or G14; 0 where its fields are good. -/
def State.portRefusal (s : State) (g p : Nat) : Nat := if g = 12 then weftRefusal s p else dpiRefusal s p

/-- The status field in which a port of G12 or G14 leaves its code. -/
def portRefuseField (g p : Nat) : Fld := if g = 12 then Reg.WFT_PORT_STAT_REFUSE p else Reg.DPI_PORT_STAT_REFUSE p

/-- The pending set of G12 or G14, checked as a whole (R62, log entry 36). -/
def State.portsRefuse (s : State) (g : Nat) : Bool := (s.groupPorts g).any fun p => s.portRefusal g p != 0

/-- One port takes its commit of G12 or G14. -/
def State.commitOne (s : State) (g p : Nat) : State :=
  let t := s.copyGroup g fun a => clusterOf a == p
  if g = 12 then t.weftCommitted s p else t.dpiCommitted s p

/-- The commit point of one port (R58): the group has passed once its last port has. A set that is refused is refused as a whole, at the commit point of
the first port (R62): no port copies a field, and each port with a bad field leaves its code. -/
def State.commitPort (s : State) (g p : Nat) : State :=
  let left := Tab.get s.sys.portsLeft g
  if !left.contains p then s
  else if s.portsRefuse g then
    ((s.forAll (s.groupPorts g) fun t q => t.noteCode (portRefuseField g q) (s.portRefusal g q)).startActive g).passGroup g false true
  else
    let s1 := s.commitOne g p
    let rest := left.filter fun x => x != p
    if rest.isEmpty then (s1.startActive g).passGroup g false false
    else { s1 with sys := { s1.sys with portsLeft := Tab.put s1.sys.portsLeft g rest } }

/-! ### Preset selection -/

/-- Writes a word by its fields' access kinds (R11): staged bits go to the pending copy. -/
def State.store (s : State) (a : Nat) (v : Word) : State :=
  match findReg a with
  | some (d, _) => { s with regs := Tab.put s.regs a (d.merge (s.wordAt a) v) }
  | none => s

/-- Writes entries of ADDR and VALUE in order. -/
def State.storeAll (s : State) (es : List (Nat × Word)) : State := s.forAll es fun t e => t.store e.1 e.2

/-- The entries of a preset. -/
def State.preset (s : State) (n : Nat) : Option (List (Nat × Word)) := (s.charter.presets.find? fun x => x.1 == n).map (·.2)

/-- Applies a selection (R62, R470): the entries go to the pending copies, and G0 and G1 are armed together. One that names no PRESET record is
refused. -/
def State.applyPreset (s : State) (n : Nat) (pins : Bool) : State :=
  let arg := n + 256 * pins.toNat
  match s.preset n with
  | none => (s.onlyIf (!pins) fun t => t.wr Reg.CTR_CMD_RESULT 2).raise srcControl 0x4008 arg
  | some es =>
    let s1 := ((s.storeAll es).wr Reg.SYS_PRESET_CURRENT n).wrFlag Reg.SYS_PRESET_SRC !pins
    ((s1.onlyIf (!pins) fun t => t.wr Reg.CTR_CMD_RESULT 0).raise srcControl 0x0007 arg).armMask 3

/-- Makes a selection (R470): one made while G0 or G1 is armed is held, and replaces an older held one; CTR_CMD.RESULT reads 1 while it is held. -/
def State.selectPreset (s : State) (n : Nat) (pins : Bool) : State :=
  if (s.preset n).isSome && (s.armed 0 || s.armed 1) then
    ({ s with ctr := { s.ctr with held := some (n, pins) } } : State).onlyIf (!pins) fun t => t.wr Reg.CTR_CMD_RESULT 1
  else s.applyPreset n pins

/-- A held selection is applied after the later commit point of G0 and G1 (R470). -/
def State.releaseHeld (s : State) : State :=
  match s.ctr.held with
  | some (n, pins) => if s.armed 0 || s.armed 1 then s else
      let s1 := { s with ctr := { s.ctr with held := none } }
      (s1.onlyIf (s1.rd Reg.CTR_CMD_RESULT == 1) fun t => t.wr Reg.CTR_CMD_RESULT 0).applyPreset n pins
  | none => s

/-! ### Commands -/

/-- ARM (R57, R58): a write of SYS_COMMIT that names one group. -/
def doArm (s : State) (g : Nat) : State := s.armGroup g

def execArm (g : BitVec 4) (s : State) : Host.Outcome State Fault Refusal :=
  .next (s.whenAlive fun u => doArm u g.toNat)

/-- The commit point that a group has come to (R58): the boundary that names it, and its wheel time, which for G2 to G11 is the feed start. -/
def State.groupPoint (s : State) (g : Nat) : Nat × Nat :=
  if 2 ≤ g ∧ g ≤ 11 then (s.feedBoundary (s.groupClock g), s.feedBoundary (s.groupClock g) - s.feedLead)
  else (s.lastBoundaryAt (s.groupClock g), s.lastBoundaryAt (s.groupClock g))

/-- The commit point of a group is due (R251), and the group was armed before it. -/
def State.pointDue (s : State) (g : Nat) : Bool :=
  s.due g (s.groupPoint g).1 (s.groupPoint g).2 (s.groupClock g) && decide (Tab.get s.sys.armAt g ≤ (s.groupPoint g).2)

/-- COMMIT_POINT (R57 to R59, R62, R251, R470): the commit point that an armed group has come to, of one port for G12 and G14. A group armed after its
deadline lets this point pass and commits at the next one, late. -/
def doCommitPoint (s : State) (g p : Nat) : State :=
  if !s.armed g then s
  else if g = 12 ∨ g = 14 then s.commitPort g p
  else if !s.pointDue g then s
  else
    let s1 := s.perform g (s.groupPoint g).1
    let late := s.sys.missed.contains g
    if !late && decide ((s.groupPoint g).2 < Tab.get s.sys.armAt g + armDeadline g) then { s1 with sys := { s1.sys with missed := g :: s1.sys.missed } }
    else (s1.commitGroup g late).releaseHeld

def execCommitPoint (g : BitVec 4) (p : Fin 8) (s : State) : Host.Outcome State Fault Refusal :=
  .next (s.whenAlive fun u => doCommitPoint u g.toNat p.val)

end Sys2Proof.Machine
end

