-- ==== Sys2Proof/Machine/Sram.lean ====
section
/-! DEFINITION. The SRAM banks (R375 to R385 of spec/12_memory_system.md): sizes, owners, power modes, accesses, and the
background test. -/

namespace Sys2Proof.Machine

/-- Bytes of a bank (R375). -/
def bankSize (b : Nat) : Nat := [0x200000, 0x40000, 0x200000, 0x100000, 0x100000, 0x1C0000].getD b 0

/-- The owner block of a bank is powered up in a role (R16, R17, R375): the control cores and the trust core always, the
dispatcher in a Sender, the hallmark engines and the Bale codec in either role, the correction pipeline in a Tile. -/
def ownerPowered (role b : Nat) : Bool :=
  if b = 0 ∨ b = 1 then true
  else if b = 2 then role == 1
  else if b = 5 then role == 2
  else role == 1 || role == 2

/-- The mode a cold start gives a bank (R382): 2 On, 0 Off. -/
def bankResetMode (role b : Nat) : Nat :=
  if b = 0 ∨ b = 1 then 2
  else if b = 2 then (if role = 1 then 2 else 0)
  else if b = 5 then (if role = 2 then 2 else 0)
  else if role = 1 ∨ role = 2 then 2 else 0

/-- Every bank takes its role's reset mode, and every bank other than those of `keep` loses its contents: a bank that is On is
zero-filled (R382). -/
def State.resetBanks (s : State) (role : Nat) (keep : List Nat) : State :=
  s.forAll (List.range 6) fun t b =>
    let t1 := (((t.wr (Reg.SRB_PWR_MODE b) (bankResetMode role b)).wr (Reg.SRB_PWR_STATE b) (bankResetMode role b)).wr
      (Reg.SRB_PWR_REFUSED b) 0)
    if keep.contains b then t1 else t1.sramClear b

/-! ### Accesses -/

/-- The bytes of an access. -/
def SramAccess.bytes (a : SramAccess) : Nat := match a.write with
  | some bs => bs.length
  | none => a.size

/-- The masters of a bank's shared port, in the order of its round, but for the background test (R375). -/
def sharedMasters (b : Nat) : List SharedMaster :=
  if b = 0 then [.logWriter, .counterPort] else if b = 1 then [] else if b = 5 then [.driverFeed, .cores] else [.cores]

/-- The accesses of a shared port in the order of the round, which starts at place `t`, and the place at which the next one starts (R375). -/
def roundRobin (ms : List SharedMaster) : Nat → Nat → List (SharedMaster × SramAccess) → List SramAccess × Nat
  | 0, t, _ => ([], t)
  | n + 1, t, l =>
    match (ms.zipIdx.drop t ++ ms.zipIdx.take t).findSome? fun m => (l.find? fun x => x.1 == m.1).map fun x => (x, m.2) with
    | none => ([], t)
    | some (x, k) => let r := roundRobin ms n ((k + 1) % ms.length) (l.erase x); (x.2 :: r.1, r.2)

/-- The pieces of an access, one for each row of 8 bytes that it reaches (R376, R378). -/
def SramAccess.pieces (a : SramAccess) : Nat → List SramAccess
  | 0 => []
  | n + 1 =>
    let k := min (8 - a.offset % 8) (SramAccess.bytes a)
    if k = 0 then []
    else
      { a with size := k, write := a.write.map fun bs => bs.take k } ::
        SramAccess.pieces { offset := a.offset + k, size := a.size - k, write := a.write.map fun bs => bs.drop k } n

/-- The sub-array of a piece's row (R376). -/
def SramAccess.subArray (a : SramAccess) : Nat := a.offset / 8 % 8

/-- A piece is performed: the bytes that it reads. -/
def State.sramPiece (s : State) (b : Nat) (a : SramAccess) : State × Bytes :=
  match a.write with
  | some bs => (s.sramWrite b a.offset bs, [])
  | none => (s, s.sramRead b a.offset a.size)

/-- The cycles of a bank while pieces wait at its ports (R376 to R378), with what was read at the owner port and, by access, at the shared port. Pieces in
different sub-arrays go together. Where both address one, the owner goes first; a shared piece that stalled goes in the next cycle, ahead of an owner piece in its
sub-array. -/
def sramCycles (b : Nat) : Nat → Bool → List SramAccess → List (Nat × SramAccess) → State × Bytes × Tab Bytes → State × Bytes × Tab Bytes
  | 0, _, _, _, r => r
  | n + 1, stalled, own, shr, (s, d, e) =>
    let owner (a : SramAccess) (r : State × Bytes × Tab Bytes) : State × Bytes × Tab Bytes :=
      let x := r.1.sramPiece b a
      (x.1, r.2.1 ++ x.2, r.2.2)
    let shared (a : Nat × SramAccess) (r : State × Bytes × Tab Bytes) : State × Bytes × Tab Bytes :=
      let x := r.1.sramPiece b a.2
      (x.1, r.2.1, Tab.upd r.2.2 a.1 fun y => y ++ x.2)
    match own, shr with
    | [], [] => (s, d, e)
    | o :: os, [] => sramCycles b n false os [] (owner o (s, d, e))
    | [], h :: hs => sramCycles b n false [] hs (shared h (s, d, e))
    | o :: os, h :: hs =>
      if SramAccess.subArray o ≠ SramAccess.subArray h.2 then sramCycles b n false os hs (shared h (owner o (s, d, e)))
      else if stalled then sramCycles b n false (o :: os) hs (shared h (s, d, e))
      else sramCycles b n true os (h :: hs) (owner o (s, d, e))

/-- An access error at a port (R375, R379, R380). -/
def State.sramError (s : State) (owner : Bool) : State :=
  { s with srb := if owner then { s.srb with owner := ([], true) } else { s.srb with shared := [([], true)] } }

/-- An access stays inside its bank; none reaches a byte past its size (R375). -/
def SramAccess.inside (a : SramAccess) (b : Nat) : Bool := decide (a.offset + SramAccess.bytes a ≤ bankSize b)

/-- Every access of a cycle is refused with an access error, and has no effect (R380). -/
def State.refuseCycle (s : State) (c : SramCycle) : State :=
  { s with srb := { s.srb with owner := if c.owner.isSome then ([], true) else s.srb.owner, shared := c.shared.map fun _ => ([], true) } }

/-- The accesses of one cycle at a bank that is On (R375 to R378). A shared port answers only its own masters, and the owner port of a bank only an owner that is
powered up (R381); other accesses get an access error. -/
def State.sramCycle (s : State) (b : Nat) (c : SramCycle) : State :=
  let own := c.owner.filter fun a => ownerPowered s.role b && SramAccess.inside a b
  let (shr, turn) := roundRobin (sharedMasters b) c.shared.length (Tab.get s.srb.turn b) (c.shared.filter fun x => SramAccess.inside x.2 b)
  let pieces (a : SramAccess) : List SramAccess := SramAccess.pieces a (SramAccess.bytes a)
  let op := (own.map pieces).getD []
  let sp := shr.zipIdx.flatMap fun x => (pieces x.1).map fun a => (x.2, a)
  let (t, d, e) := sramCycles b (op.length + sp.length) false op sp (s, [], [])
  let answers : List (Bytes × Bool) := (List.range shr.length).map fun k => (Tab.get e k, false)
  let refused : List (Bytes × Bool) := List.replicate (c.shared.length - shr.length) ([], true)
  { t with srb := { t.srb with
    owner := match c.owner, own with
      | none, _ => t.srb.owner
      | some _, some _ => (d, false)
      | some _, none => ([], true)
    shared := answers ++ refused
    turn := Tab.put t.srb.turn b turn } }

/-! ### Power modes -/

/-- SRB_PWR_MODE (R380, R381): a change out of On while the owner block is powered up is refused; mode 3 has no effect; otherwise
the bank takes the mode. Off loses the contents, and a bank that returns to On wakes (BANK_WAKE_DONE ends the wake). A wake that ends in Off or Retain leaves the
accesses that waited for it an access error. -/
def doSrbPwrMode (s : State) (b mode : Nat) : State :=
  if mode = 3 then s
  else if s.rd (Reg.SRB_PWR_MODE b) = 2 ∧ mode ≠ 2 ∧ ownerPowered s.role b then s.wr (Reg.SRB_PWR_REFUSED b) 1
  else
    let s1 := (s.wr (Reg.SRB_PWR_MODE b) mode).wr (Reg.SRB_PWR_REFUSED b) 0
    if mode = 2 then (if s.rd (Reg.SRB_PWR_STATE b) = 2 then s1 else s1.wr (Reg.SRB_PWR_STATE b) 3)
    else
      let mine := s.srb.held.filter fun x => x.1 == b
      let s2 := ({ s1 with srb := { s1.srb with held := s1.srb.held.filter fun x => x.1 != b } }).forAll mine fun t x => t.refuseCycle x.2
      if mode = 0 then (s2.wr (Reg.SRB_PWR_STATE b) 0).sramClear b else s2.wr (Reg.SRB_PWR_STATE b) 1

def execSrbPwrMode (b : Fin 6) (mode : BitVec 2) (s : State) : Host.Outcome State Fault Refusal :=
  .next (s.whenAlive fun u => doSrbPwrMode u b mode.toNat)

/-- BANK_WAKE_DONE (R380): the bank is On, and the accesses that waited for it complete in order. -/
def doBankWakeDone (s : State) (b : Nat) : State :=
  if s.rd (Reg.SRB_PWR_STATE b) ≠ 3 then s
  else
    let mine := s.srb.held.filter fun x => x.1 == b
    let s1 := s.wr (Reg.SRB_PWR_STATE b) 2
    ({ s1 with srb := { s1.srb with held := s1.srb.held.filter fun x => x.1 != b } }).forAll mine fun t x => t.sramCycle b x.2

def execBankWakeDone (b : Fin 6) (s : State) : Host.Outcome State Fault Refusal :=
  .next (s.whenAlive fun u => doBankWakeDone u b)

/-! ### Background test -/

/-- The banks in the order of the test (R383). -/
def testOrder : List Nat := [0, 2, 3, 4, 5]

/-- A bank takes part in the test: it is named in BANKS and is On (R383). -/
def State.testable (s : State) (b : Nat) : Bool :=
  (b != 1) && s.bit Reg.SRB_TEST_CTRL_BANKS b && (s.rd (Reg.SRB_PWR_STATE b) == 2)

/-- The first testable bank at or after position `i` of the order, wrapping round once; the flag says that it wrapped. -/
def State.nextTestable (s : State) (b : Nat) : Option (Nat × Bool) :=
  match (testOrder.filter fun x => b ≤ x && s.testable x).head? with
  | some x => some (x, false)
  | none => ((testOrder.filter s.testable).head?).map fun x => (x, true)

/-- The bank and window that the test takes next: the one it stands at, or the first window of the next testable bank. -/
def State.testTarget (s : State) : Option (Nat × Nat) :=
  (s.nextTestable s.srb.nextBank).map fun x => if x.1 = s.srb.nextBank ∧ !x.2 then (x.1, s.srb.nextWindow) else (x.1, 0)

/-- PERIOD µs have passed since the last window start (R383), or the count has been stepped back behind it; a PERIOD of 0 acts as 1. -/
def State.windowDue (s : State) : Bool :=
  s.srb.windowAt.all fun t => decide (t + max 1 (s.rd Reg.SRB_TEST_CTRL_PERIOD) * 1000 ≤ s.now) || decide (s.now < t)

/-- TEST_WINDOW_START (R383): with ENABLE 1 and PERIOD over the engine borrows the next window: it saves the 256 bytes and runs its sequence,
which leaves rows of zeros until they are restored. -/
def doTestWindowStart (s : State) : State :=
  if s.rd Reg.SRB_TEST_CTRL_ENABLE = 0 ∨ s.rd Reg.SRB_TEST_POS_HELD = 1 ∨ !s.windowDue then s
  else match s.testTarget with
    | none => s
    | some (b, w) =>
      let s1 := ((s.wr Reg.SRB_TEST_POS_HELD 1).wr Reg.SRB_TEST_POS_BANK b).wr Reg.SRB_TEST_POS_WINDOW w
      let s2 := { s1 with srb := { s1.srb with save := s.sramRead b (w * 256) 256, nextBank := b, nextWindow := w, windowAt := some s.now } }
      s2.sramWrite b (w * 256) (zeros 256)

def execTestWindowStart (s : State) : Host.Outcome State Fault Refusal :=
  .next (s.whenAlive fun u => doTestWindowStart u)

/-- The saved rows go back and the window is released (R383, R384). -/
def State.restoreWindow (s : State) : State :=
  let s1 := s.sramWrite (s.rd Reg.SRB_TEST_POS_BANK) (s.rd Reg.SRB_TEST_POS_WINDOW * 256) s.srb.save
  ({ s1 with srb := { s1.srb with save := [] } }).wr Reg.SRB_TEST_POS_HELD 0

/-- The access touches a byte of the held window of a bank (R384). -/
def State.touchesWindow (s : State) (b : Nat) (a : SramAccess) : Bool :=
  let lo := s.rd Reg.SRB_TEST_POS_WINDOW * 256
  s.flag Reg.SRB_TEST_POS_HELD && (b == s.rd Reg.SRB_TEST_POS_BANK) && decide (a.offset < lo + 256) && decide (lo < a.offset + SramAccess.bytes a)

/-- TEST_YIELD (R375 to R380, R384): the accesses of one cycle at a bank. Where one reaches the held window, the test restores it and counts a yield, all of them wait
for that restore, and they are then performed; the same window is tested again. Accesses to a bank that is Off or in Retain are refused; those to a waking bank wait. -/
def doTestYield (s : State) (b : Nat) (c : SramCycle) : State :=
  if s.rd (Reg.SRB_PWR_STATE b) = 3 then { s with srb := { s.srb with held := s.srb.held ++ [(b, c)] } }
  else if s.rd (Reg.SRB_PWR_STATE b) ≠ 2 then s.refuseCycle c
  else
    let reached := c.owner.any (s.touchesWindow b) || c.shared.any fun x => s.touchesWindow b x.2
    (s.onlyIf reached fun t => t.restoreWindow.bump Reg.SRB_TEST_STAT_YIELDS).sramCycle b c

def execTestYield (x : BankCycle) (s : State) : Host.Outcome State Fault Refusal :=
  .next (s.whenAlive fun u => doTestYield u x.bank x.cycle)

/-- Moves on to the window after the held one; after the last window of the last testable bank a pass is complete. -/
def State.advanceTest (s : State) : State :=
  let b := s.rd Reg.SRB_TEST_POS_BANK
  let w := s.rd Reg.SRB_TEST_POS_WINDOW + 1
  if w * 256 < bankSize b then { s with srb := { s.srb with nextBank := b, nextWindow := w } }
  else match s.nextTestable (b + 1) with
    | some (x, false) => { s with srb := { s.srb with nextBank := x, nextWindow := 0 } }
    | _ => ({ s with srb := { s.srb with nextBank := 0, nextWindow := 0 } }).bump Reg.SRB_TEST_STAT_PASSES

/-- Records a failed window (R385). -/
def State.testFailure (s : State) : State :=
  let b := s.rd Reg.SRB_TEST_POS_BANK
  let w := s.rd Reg.SRB_TEST_POS_WINDOW
  let s1 := (((s.wr Reg.SRB_TEST_FAIL_VALID 1).wr Reg.SRB_TEST_FAIL_BANK b).wr Reg.SRB_TEST_FAIL_WINDOW w).bump Reg.SRB_TEST_STAT_FAILS
  (({ s1 with srb := { s1.srb with failTimes := s.now :: s1.srb.failTimes } }).raise srcSram 0x8F02 (b * 65536 + w)).raiseVerdict 1

/-- TEST_WINDOW_END (R383, R385): the sequence on the held window ends; the rows are restored; a failure is recorded; the engine
moves on. -/
def doTestWindowEnd (s : State) (failed : Bool) : State :=
  if s.rd Reg.SRB_TEST_POS_HELD = 0 then s
  else
    let s1 := s.restoreWindow
    (if failed then s1.testFailure else s1).advanceTest

def execTestWindowEnd (failed : Bool) (s : State) : Host.Outcome State Fault Refusal :=
  .next (s.whenAlive fun u => doTestWindowEnd u failed)

end Sys2Proof.Machine
end

