-- ==== Sys2Proof/Machine/Boot.lean ====
section
/-! DEFINITION. How a start begins (R65 to R70, R73, R74, R494 of spec/02_charter_image_and_start.md and spec/17_balls_electrical_thermal.md): power-on, RESET_N,
restart requests, what a cold start drops and what a warm start keeps. -/

namespace Sys2Proof.Machine

/-! ### Cold -/

/-- What is left of the device when every register returns to reset and the memories lose power or refresh (R65, R74): flash, with the journal that
stands in it, the OTP, and the boundary-scan instruction, whose own reset is TRST_N. The queue, the free-value counter and the records of packets sent and of flash
operations are the model's own. -/
def State.cleared (s : State) : State :=
  { State.reset with
    pending := s.pending
    fresh := s.fresh
    flash := s.flash
    nvm := { State.reset.nvm with ops := s.nvm.ops }
    weft := { State.reset.weft with sent := s.weft.sent, sets := s.weft.sets, beacons := s.weft.beacons }
    trs := { State.reset.trs with otp := s.trs.otp }
    ptr := { State.reset.ptr with journal := s.ptr.journal }
    sys := { State.reset.sys with
      powered := s.sys.powered, detector := s.sys.detector, started := s.sys.started, inReset := s.sys.inReset
      step := none, scan := s.sys.scan } }

/-- A cold start begins at C1 with a cause and the conditions that forced it (R65, R69). -/
def State.coldBegin (s : State) (cause why : Nat) : State :=
  let t := s.cleared
  (({ t with sys := { t.sys with started := true, step := some (false, 1) } } : State).wr Reg.SYS_START_CAUSE cause).wr Reg.SYS_START_COLD_WHY why

/-! ### Warm -/

/-- Registers that a warm start keeps whole (R68): the log's indices, cursors and LOST counts, training results, enrolment state, NONCE and SEQ, the
wall address, the Spindle epoch, and the Assay trims; in a Tile the guard table's version and hatch colours. -/
def keptWord (role a : Nat) : Bool :=
  [RegAddr.SYS_ROLE, RegAddr.SYS_WALL, RegAddr.TRS_NONCE_LO, RegAddr.TRS_NONCE_HI, RegAddr.TRS_SEQ_LO, RegAddr.TRS_SEQ_HI, RegAddr.TRS_WALL_ID,
    RegAddr.TRS_ENROL, RegAddr.SPN_EPOCH, RegAddr.SPN_TILE_EPOCH, RegAddr.EVT_LI, RegAddr.EVT_RLI, RegAddr.EVT_RD_FW, RegAddr.EVT_LOST_FW,
    RegAddr.CTR_EVT_CUR, RegAddr.CTR_EVT_RCUR, RegAddr.CTR_EVT_LOST, RegAddr.DMC_TRAIN, RegAddr.ASY_ADC].contains a
  || (List.range 8).any (fun n => a == RegAddr.ASY_CREF n || a == RegAddr.ASY_DUTY n)
  || (role == 2 && [RegAddr.HMK_TABLE, RegAddr.HMK_HATCH_A, RegAddr.HMK_HATCH_B].contains a)

/-- Fields that a warm start keeps of registers that otherwise return to reset (R68, R76). -/
def keptFields : List Fld :=
  [Reg.SYS_START_BOOT, Reg.SYS_START_LEDGER_NONE, Reg.SYS_START_LEDGER_BANK, Reg.SYS_START_LEDGER_PENDING, Reg.DMC_STAT_DEAD,
    Reg.TFS_STAT_FRONT, Reg.TFS_STAT_BACK, Reg.TFS_STAT_RECEIVE, Reg.ASY_STAT_POINTS, Reg.ASY_STAT_NO_RECORD, Reg.ASY_STAT_RUN]
  ++ (List.range 8).map Reg.DMC_CH_STAT_DEAD_WIRE ++ (List.range 4).map Reg.WFT_PORT_STAT_ABSENT ++ (List.range 16).map Reg.LMP_ZONE_STAT_POS

/-- A port keeps its sequences, its SESSION, its floors and its stored settings (R68, R218, R219, R517). -/
def WeftPort.retained (w : WeftPort) : WeftPort :=
  { (default : WeftPort) with
    entries := w.entries.map fun e => (e.1, { e.2 with synced := false, fails := 0 })
    floors := w.floors, tx := w.tx, syncDue := true, stored := w.stored }

/-- Surfaces are kept in DRAM; one that was being written holds nothing complete and is free (R68, R100). -/
def Surface.retained (x : Surface) : Surface := if x.state = 1 then { x with state := 0 } else x

/-- A Tile's guard table is kept, and every piece must earn a new REAFFIRM (R68, R70, R188). -/
def GuardPiece.retained (g : GuardPiece) : GuardPiece := { g with expiry := 0, why := 2, hatched := false, reasons := 0 }

/-- What a warm start keeps (R68): everything else returns to its reset value. -/
def State.retained (s : State) : State :=
  let c := s.cleared
  let t : State := { c with
    count := s.count
    dram := s.dram
    sram := s.sram
    charter := s.charter
    regs := s.regs.filter fun e => keptWord s.role e.1
    sys := { c.sys with digest := s.sys.digest, litAt := if s.ptr.onTrial then s.sys.litAt else 0 }
    log := { s.log with served := false, b0 := [] }
    weft := { c.weft with ports := s.weft.ports.map fun p => (p.1, p.2.retained) }
    intake := { c.intake with surfaces := s.intake.surfaces.map fun x => (x.1, x.2.retained) }
    hmk := { c.hmk with guard := if s.isTile then s.hmk.guard.map GuardPiece.retained else [], phase := if s.isTile then s.hmk.phase else 0 }
    tfs := { c.tfs with cx := s.tfs.cx, cy := s.tfs.cy, behind := s.tfs.behind, pending := s.tfs.pending }
    drv := { c.drv with groups := s.drv.groups.map fun g => (g.1, { DrvGroup.idle with f := g.2.f }) }
    asy := { c.asy with record := s.asy.record }
    whl := { c.whl with frac := s.whl.frac, rem := s.whl.rem, copy := s.whl.copy, done := s.whl.done, skip := s.whl.skip }
    spn := { c.spn with lastGen := s.spn.lastGen, lastBoundary := s.spn.lastBoundary, resume := s.holdsSpindle }
    trs := { s.trs with keys := [], offers := [], offeredAt := [], answers := [] }
    ptr := { c.ptr with onTrial := s.ptr.onTrial } }
  t.forAll keptFields fun u f => u.wr f (s.rd f)

/-- What reads from the role alone (R15, R110): the banks with B1 kept, the Loom's geometry, the profiles. -/
def State.roleBuilt (s : State) (keep : List Nat) : State :=
  let r := s.role
  let s1 := s.resetBanks r keep
  if r = 1 then
    let wb := (s.charter.width + 31) / 32
    ((s1.wr Reg.LOOM_GEOM_WBM1 (wb - 1)).wr Reg.LOOM_GEOM_HBM1 ((s.charter.height + 15) / 16 - 1)).wr Reg.LOOM_GEOM_SWB ((wb + 15) / 16)
  else if r = 2 then s1.showProfiles else s1

/-- A start ends an Assay run without a trace (R348): in A9 the record and the trims of before the run are in force again. -/
def State.forgetRun (s : State) : State :=
  match s.asy.run with
  | some r => if s.rd Reg.ASY_STAT_STEP = 9 then (s.useRecord r.old).wrFlag Reg.ASY_STAT_NO_RECORD r.old.isNone else s
  | none => s

/-- A warm restart request (R65, R68, R69): a warm start begins at W1, unless the device cannot warm-start at all: it has no retained-state record, or
stands after a fatal error. -/
def State.warmBegin (s : State) : State :=
  if s.sys.fatal.isSome then s.coldBegin 3 0
  else if s.role = 0 ∨ s.sys.digest.isNone then s.coldBegin 3 1
  else
    let t := (s.finishRequests.forgetRun.retained.roleBuilt [1]).selfRefresh
    let u := (t.wr Reg.SYS_START_TYPE 2).wr Reg.SYS_START_CAUSE 3
    let v := u.wr (Reg.SRB_PWR_STATE 1) 1
    { v with sys := { v.sys with step := some (true, 1) } }

/-! ### Commands -/

/-- POWER_ON (R73, R74, R494): VIN rises through 2.5 V. Only an armed detector sees it; while RESET_N is low it starts nothing. -/
def doPowerOn (s : State) : State :=
  if !s.sys.detector then s
  else
    let t : State := { s with sys := { s.sys with powered := true, detector := false } }
    if t.sys.inReset then t else t.coldBegin 0 0

/-- POWER_ON; outside the limits of R4 nothing is defined. -/
def execPowerOn (withinLimits : Bool) (s : State) : Host.Outcome State Fault Refusal :=
  if withinLimits then .next (doPowerOn s) else .fault .outsideLimits

/-- POWER_ON_DETECTOR_ARM (R494): VIN is below 1.0 V: the device loses everything but flash and OTP, and the detector arms. -/
def doPowerOnDetectorArm (s : State) : State :=
  let t := s.cleared
  { t with sys := { t.sys with powered := false, detector := true, started := false, scan := State.reset.sys.scan } }

def execPowerOnDetectorArm (s : State) : Host.Outcome State Fault Refusal := .next (doPowerOnDetectorArm s)

/-- RESET_ASSERT (R74): RESET_N is low: no start runs, every register holds its reset value, and DRAM is not refreshed. -/
def doResetAssert (s : State) : State :=
  let t := s.cleared
  { t with sys := { t.sys with inReset := true } }

def execResetAssert (s : State) : Host.Outcome State Fault Refusal := .next (doResetAssert s)

/-- RESET_RELEASE (R73, R74): a rising edge of RESET_N starts a cold start in a powered device; CAUSE is 1 only after an earlier start since VIN rose. -/
def doResetRelease (s : State) : State :=
  if !s.sys.inReset then s
  else
    let t : State := { s with sys := { s.sys with inReset := false } }
    if t.sys.powered then t.coldBegin (if s.sys.started then 1 else 0) 0 else t

/-- RESET_RELEASE; a pulse shorter than R73 demands, or limits not met, leaves nothing defined. -/
def execResetRelease (withinLimits : Bool) (s : State) : Host.Outcome State Fault Refusal :=
  if withinLimits then .next (doResetRelease s) else .fault .outsideLimits

/-- A write of SYS_RESTART (R65): without the key, or with another TYPE, it has no effect. -/
def State.restart (s : State) (key type : Nat) : State :=
  if key ≠ 0xA5C3 ∨ !s.alive then s else if type = 1 then s.coldBegin 2 0 else if type = 2 then s.warmBegin else s

/-- COLD_RESTART (R65): the key is written with TYPE 1. -/
def doColdRestart (s : State) (key : Nat) : State := s.restart key 1

def execColdRestart (key : BitVec 16) (s : State) : Host.Outcome State Fault Refusal :=
  .next (s.whenAlive fun u => doColdRestart u key.toNat)

/-- WARM_RESTART (R65): the key is written with TYPE 2. -/
def doWarmRestart (s : State) (key : Nat) : State := s.restart key 2

def execWarmRestart (key : BitVec 16) (s : State) : Host.Outcome State Fault Refusal :=
  .next (s.whenAlive fun u => doWarmRestart u key.toNat)

end Sys2Proof.Machine
end

