-- ==== Sys2Proof/Machine/Porter.lean ====
section
/-! DEFINITION. Porter (R440, R452 to R463 of spec/15_trust_keys_and_update.md): transfers, blocks, the staged image, activation, trials, confirmation,
restoring, and the Ledger banks. -/

namespace Sys2Proof.Machine

/-! ### Areas and registers -/

/-- The staging area (R454). -/
def stagingAt : Nat := 0x0C000000

/-- IMAGE_MAX, and the largest Charter and Ledger images (R453, R457, R461); nothing without an accepted directory. -/
def State.imageMax (s : State) : Nat := if s.sys.directory then s.directoryRead.imageMax else 0
def State.charterLimit (s : State) : Nat := s.imageMax - 65536
def State.ledgerLimit (s : State) : Nat := if s.sys.directory then leAt (s.flashRead 0 120) 32 4 - 65536 else 0

def State.setJournal (s : State) (f : Journal → Journal) : State := { s with ptr := { s.ptr with journal := f s.ptr.journal } }
def State.setOp (s : State) (op : PorterOp) : State := { s with ptr := { s.ptr with op := op } }
def State.porterState (s : State) (n : Nat) : State := s.wr Reg.CHT_PORTER_STATE n
def State.porterResult (s : State) (n : Nat) : State := s.wr Reg.CHT_PORTER_RESULT n

/-- The transfer closes (R455): the staging area is ignored from then on. -/
def State.closeTransfer (s : State) : State := (({ s with ptr := { s.ptr with transfer := none } } : State).setOp .idle).porterState 0

/-- The trial that the journal records shows in CHT_TRIAL. -/
def State.showTrial (s : State) : State :=
  let j := s.ptr.journal
  ((s.wrFlag Reg.CHT_TRIAL_ACTIVE s.ptr.onTrial).wr Reg.CHT_TRIAL_TRIALS (if s.ptr.onTrial then j.trials else 0)).wr Reg.CHT_TRIAL_USED
    (if s.ptr.onTrial then j.used else 0)

/-- Blocks of a transfer: their number, and those still missing. -/
def Transfer.blocks (t : Transfer) : Nat := (t.length + 2047) / 2048
def Transfer.missing (t : Transfer) : List Nat := (List.range t.blocks).filter fun i => !t.got.contains i

def State.showBlocks (s : State) (t : Transfer) : State :=
  (s.wr Reg.CHT_BLOCKS_MISSING (min t.missing.length 65535)).wr Reg.CHT_BLOCKS_LOWEST (t.missing.headD 0)

/-! ### Begin and blocks -/

/-- Why a begin is refused (R440, R453); 0 when it is not. -/
def State.beginRefusal (s : State) (t : Transfer) : Nat :=
  let limit := if t.target = 1 then s.charterLimit else if t.target = 2 then s.ledgerLimit else 0
  let runs := s.directoryRead
  let from_ := if s.rd Reg.CHT_STATUS_SLOT = 2 then runs.rescue else runs.charter
  if s.ptr.transfer.isSome ∨ s.ptr.op ≠ .idle ∨ (t.target = 1 ∧ s.ptr.onTrial) then 1
  else if t.length = 0 ∨ t.length % 8 ≠ 0 ∨ limit < t.length ∨ (t.target = 1 ∧ t.newOwner ≠ 0 ∧ s.freeSlot.isNone) then 2
  else if t.target = 1 ∧ s.role ≠ 0 ∧ s.charterLimit < imageLength (s.flashRead from_ 32) then 3
  else 0

/-- Opens a transfer, or records why not (R453). -/
def State.beginTransfer (s : State) (t : Transfer) : State :=
  match s.beginRefusal t with
  | 0 =>
    let s1 := ((({ s with ptr := { s.ptr with transfer := some t } } : State).porterState 1).porterResult 0).wr Reg.CHT_PORTER_DETAIL 0
    ((s1.wr Reg.CHT_PORTER_TARGET t.target).wr Reg.CHT_XFER_TRANSFER t.transfer).showBlocks t
  | r => s.porterResult r

/-- The transfer that takes blocks: open, and with blocks still missing or to be sent again. -/
def State.receiving (s : State) : Option Transfer := if s.rd Reg.CHT_PORTER_STATE = 1 then s.ptr.transfer else none

/-- The range of a block is good (R454): its place lies inside LENGTH, BYTES is a multiple of 8 from 8 to 2,048, and only the last block is short. -/
def Transfer.inRange (t : Transfer) (index bytes : Nat) : Bool :=
  decide (8 ≤ bytes) && decide (bytes ≤ 2048) && (bytes % 8 == 0) && decide (index * 2048 + bytes ≤ t.length)
    && (bytes == 2048 || index * 2048 + bytes == t.length)

/-- One block (R454): a bad CRC discards and counts it; a block of another transfer or out of range counts as foreign; a good one is written into the
staging area. -/
def State.takeBlock (s : State) (transfer index bytes crc : Nat) (data : Bytes) : State :=
  if data.length ≠ bytes ∨ crc32c data ≠ crc then s.bump Reg.CHT_BLOCK_ERR_CRC
  else match s.receiving with
    | some t =>
      if t.transfer = transfer && t.inRange index bytes then
        let u := { t with got := if t.got.contains index then t.got else index :: t.got }
        ({ s.dramWrite (stagingAt + index * 2048) data with ptr := { s.ptr with transfer := some u } } : State).showBlocks u
      else s.bump Reg.CHT_BLOCK_ERR_FOREIGN
    | none => s.bump Reg.CHT_BLOCK_ERR_FOREIGN

/-- The blocks that bytes hold, one after another, at most `n`. -/
def State.takeBlocks (s : State) : Nat → Bytes → State
  | 0, _ => s
  | n + 1, l =>
    if l.length < 16 then s
    else
      let bytes := leAt l 8 2
      (s.takeBlock (leAt l 0 4) (leAt l 4 4) bytes (leAt l 12 4) (slice l 16 bytes)).takeBlocks n (l.drop (16 + bytes))

/-- Handles a string of blocks. -/
def State.data (s : State) (l : Bytes) : State := s.takeBlocks (l.length / 16) l

/-! ### Copies in flash -/

/-- What was written, with the errors that the flash made. -/
def withErrors (bs : Bytes) (errors : List (Nat × Byte)) : Bytes :=
  errors.foldl (fun l e => l.set e.1 (l.getD e.1 0 ^^^ e.2)) bs

/-- The image in an area. -/
def State.areaBytes (s : State) (off : Nat) : Bytes := s.areaImage off s.imageMax

/-- Erases the part of an area that holds an image: the last 64 KiB of the Charter area hold the journal (R457). -/
def State.eraseImage (s : State) (off : Nat) : State := s.flashErase off (s.imageMax - if off = s.directoryRead.charter then 65536 else 0)

/-- Writes an image into an area; the flag says whether its digest reads back right. -/
def State.writeImage (s : State) (off : Nat) (img : Bytes) (errors : List (Nat × Byte)) : State × Bool :=
  let out := withErrors img errors
  (s.flashWrite off out, out == img)

/-- The journal returns to IDLE with a result (R457 to R460). -/
def State.journalIdle (s : State) (result : Nat) : State :=
  ((((s.setJournal fun j => { j with state := 0, result := result }).setOp .idle).porterState 0).porterResult result).showTrial

/-- Porter begins to copy the Rescue area into the Charter area (R456, R458, R460). -/
def State.beginRestore (s : State) (op : PorterOp) : State :=
  (((s.setJournal fun j => { j with state := 7 }).setOp op).porterState 7).eraseImage s.directoryRead.charter

/-- The copy of the Rescue area into the Charter area ends. -/
def State.copyBack (s : State) (errors : List (Nat × Byte)) : State :=
  (s.writeImage s.directoryRead.charter (s.areaBytes s.directoryRead.rescue) errors).1

/-! ### Confirmation -/

/-- An image on trial is confirmed (R439, R440, R459): the owner key rotates where NEW_OWNER is set, the confirmed image is copied to the Rescue area
then, and F rises to the SEQUENCE of the image that the Rescue area holds. -/
def State.confirmImage (s : State) : State :=
  let j := s.ptr.journal
  let d := s.directoryRead
  let s1 := if j.newOwner = 0 then s
    else
      let old := s.ownerSlot
      let t := match s.freeSlot with
        | some i => s.writeSlot i j.newOwner
        | none => s
      let u := match old with
        | some i => t.revokeSlot i
        | none => t
      (u.eraseImage d.rescue).flashWrite d.rescue (s.areaBytes d.charter)
  let s2 := s1.raiseFloor (leAt (s1.flashRead d.rescue 32) 16 4)
  ((({ s2 with ptr := { s2.ptr with onTrial := false } } : State).journalIdle 8)).raise srcControl 0x0101 j.transfer

/-! ### Steps -/

/-- The digest and the staged image are checked (R440, R455). -/
def State.endCheck (s : State) (t : Transfer) : State :=
  let img := s.dramRead stagingAt t.length
  if Config.sha256 img ≠ t.digest then s.closeTransfer.porterResult 4
  else if t.target = 2 then
    let other := s.directoryRead.ledger (1 - s.rd Reg.SYS_START_LEDGER_BANK)
    ((s.setOp .ledger).porterState 8).flashErase other s.ledgerLimit
  else
    let rot := if t.newOwner = 0 then none else some t.newOwner
    match s.checkImage img s.imageMax rot with
    | (s1, some (e, _)) => (s1.closeTransfer.porterResult 5).wr Reg.CHT_PORTER_DETAIL e
    | (s1, none) =>
      let signer := be256 (payloadOf ((imageRecords img s.imageMax).getD []) 0xFF) 0
      if rot.isSome && signer != t.newOwner then (s1.closeTransfer.porterResult 5).wr Reg.CHT_PORTER_DETAIL 0x07
      else (s1.setOp .idle).porterState 3

/-- Activation begins (R456): a device without a role skips A1 and A2. -/
def State.beginActivation (s : State) : State :=
  let s1 := s.porterState 4
  if s.role = 0 then (s1.setOp .a3).porterState 5 else s1.setOp .a1

/-- A2 begins: the Rescue area is erased, unless the running image stands there itself. -/
def State.beginA2 (s : State) (again : Bool) : State :=
  let t := s.setOp (.a2 again)
  if s.rd Reg.CHT_STATUS_SLOT = 2 then t else t.eraseImage s.directoryRead.rescue

/-- A2 ends (R456): a mismatch is retried once; a second one ends the update. -/
def State.porterA2 (s : State) (again : Bool) (errors : List (Nat × Byte)) : State :=
  let d := s.directoryRead
  let from_ := if s.rd Reg.CHT_STATUS_SLOT = 2 then d.rescue else d.charter
  match s.writeImage d.rescue (s.areaBytes from_) errors with
  | (s1, true) => s1.setOp .a3
  | (s1, false) => if again then s1.closeTransfer.journalIdle 6 else s1.beginA2 true

/-- A4 ends (R456): a mismatch makes Porter copy the Rescue area back; otherwise A5 follows, or in a device without a role the start. -/
def State.porterA4 (s : State) (t : Transfer) (errors : List (Nat × Byte)) : State :=
  match s.writeImage s.directoryRead.charter (s.dramRead stagingAt t.length) errors with
  | (s1, true) => if s.role = 0 then (s1.closeTransfer.journalIdle 0).coldBegin 5 0 else s1.setOp .a5
  | (s1, false) => s1.beginRestore .undo

/-- A5 and A6 (R456): journal entry TRIAL, and a cold start into the trial. -/
def State.porterA5 (s : State) (t : Transfer) : State :=
  (s.setJournal fun _ => ⟨6, 0, t.transfer, t.trials, 0, t.trialS, t.confirmBy, t.newOwner⟩).coldBegin 5 0

/-- A Porter operation ends (R455 to R461). -/
def State.endOp (s : State) (errors : List (Nat × Byte)) : State :=
  match s.ptr.op, s.ptr.transfer with
  | .check, some t => s.endCheck t
  | .a1, some t => (s.setJournal fun j => { j with state := 4, transfer := t.transfer }).beginA2 false
  | .a2 again, some _ => s.porterA2 again errors
  | .a3, some t =>
    (((s.setJournal fun j => { j with state := 5, transfer := t.transfer }).setOp .a4).porterState 5).eraseImage s.directoryRead.charter
  | .a4, some t => s.porterA4 t errors
  | .a5, some t => s.porterA5 t
  | .undo, _ => (s.copyBack errors).closeTransfer.journalIdle 6
  | .ledger, some t =>
    let img := s.dramRead stagingAt t.length
    let bank := s.directoryRead.ledger (1 - s.rd Reg.SYS_START_LEDGER_BANK)
    let s1 := (s.flashWrite bank (withErrors img errors)).wr Reg.SYS_START_LEDGER_PENDING 1
    (s1.closeTransfer.porterResult 11).raise srcControl 0x0103 (leAt img 12 4)
  | .restore result cold, _ =>
    let s1 := (({ (s.copyBack errors) with ptr := { s.ptr with onTrial := false } } : State).journalIdle result)
    if cold then (s1.raise srcControl 0x8102 s.ptr.journal.transfer).coldBegin 5 0 else s1
  | .recopy, _ =>
    let d := s.directoryRead
    ((s.writeImage d.rescue (s.areaBytes d.charter) errors).1).journalIdle 10
  | _, _ => s

/-- PORTER_STEP_END: the operation that Porter is at ends. -/
def doPorterStepEnd (s : State) (errors : List (Nat × Byte)) : State := s.endOp errors

def execPorterStepEnd (errors : List (Nat × Byte)) (s : State) : Host.Outcome State Fault Refusal :=
  .next (s.whenAlive fun u => doPorterStepEnd u errors)

/-- TRANSFER_COMPLETE (R455): with every block in, the check of the staged image begins. -/
def doTransferComplete (s : State) : State :=
  match s.receiving with
  | some t => if t.missing.isEmpty && s.ptr.op == .idle then (s.setOp .check).porterState 2 else s
  | none => s

def execTransferComplete (s : State) : Host.Outcome State Fault Refusal :=
  .next (s.whenAlive fun u => doTransferComplete u)

/-- ACTIVATION (R251, R456): the wheel time AT of an accepted activation has come. -/
def doActivation (s : State) : State :=
  match s.ptr.transfer with
  | some t =>
    if (t.due.any fun x => decide (x ≤ s.now)) && s.rd Reg.CHT_PORTER_STATE == 3 then
      ({ s with ptr := { s.ptr with transfer := some { t with due := none } } } : State).beginActivation
    else s
  | none => s

def execActivation (s : State) : Host.Outcome State Fault Refusal :=
  .next (s.whenAlive fun u => doActivation u)

/-- Accepts an activation (R456): one whose AT is 0 or has passed runs at once. -/
def State.activate (s : State) (t : Transfer) (at_ : Nat) : State :=
  let s1 : State := { s with ptr := { s.ptr with transfer := some { t with due := some at_ } } }
  if at_ ≤ s.now then doActivation s1 else s1

/-! ### Trials -/

/-- A trial has failed (R458): another trial where TRIALS permits, otherwise the old image is restored. -/
def State.failTrial (s : State) : State :=
  if s.ptr.journal.used < s.ptr.journal.trials then s.coldBegin 2 0 else s.beginRestore (.restore 9 true)

/-- TRIAL_EXPIRY (R458): the window of the trial that runs has passed without confirmation. -/
def doTrialExpiry (s : State) : State :=
  let passed := s.sys.firstLight && decide (s.sys.litAt + s.ptr.journal.trialS * 1000000000 ≤ s.now)
  if s.ptr.onTrial && s.ptr.op == .idle && passed then s.failTrial else s

def execTrialExpiry (s : State) : Host.Outcome State Fault Refusal :=
  .next (s.whenAlive fun u => doTrialExpiry u)

/-- CHT_CONFIRM (R459): the key confirms an image on trial whose CONFIRM_BY is 0. -/
def doChtConfirm (s : State) (key : Nat) : State :=
  if key = 0x5AC3 ∧ s.ptr.onTrial ∧ s.ptr.journal.confirmBy = 0 then s.confirmImage else s

def execChtConfirm (key : BitVec 16) (s : State) : Host.Outcome State Fault Refusal :=
  .next (s.whenAlive fun u => doChtConfirm u key.toNat)

/-! ### Blocks sent to a Tile -/

/-- MGMT_BLOCK (R452, R454): form 0x40, KIND 2, at a Tile. -/
def doMgmtBlock (s : State) (p : Nat) (a : Arrival) : State :=
  s.onPacket p .mgmt a fun t _ =>
    t.onForm p mgmtForms a.pkt.body 0x40 fun u => if u.isTile ∧ leAt a.pkt.body 1 1 = 2 then u.data (a.pkt.body.drop 4) else u

def execMgmtBlock (p : Port) (a : Arrival) (s : State) : Host.Outcome State Fault Refusal :=
  .next (s.whenAlive fun u => doMgmtBlock u p a)

end Sys2Proof.Machine
end

