-- ==== Sys2Proof/Machine/View.lean ====
section
/-! DEFINITION. What a register reads (R10 to R17 of spec/00_scope.md and spec/01_wall_and_roles.md, R466 of spec/16_counter_port_events_and_dump.md,
R509 to R511 of spec/17_balls_electrical_thermal.md): regions that the role powers down, fields that show what other state holds, and latching pairs. -/

namespace Sys2Proof.Machine

/-! ### Power domains -/

/-- A Weft port's PLL, transmit and receive domains (R510): 0 Off, 1 Low, 2 On, 3 waking. -/
def State.weftDomain (s : State) (p part : Nat) : Nat :=
  let st := s.rd (Reg.WFT_PORT_STAT_STATE p)
  let tx := s.rd (Reg.WFT_PORT_STAT_TX_POWER p)
  if st = 0 ∨ !s.weftPorts.contains p then 0
  else if st = 1 then (if part = 2 then 1 else 0)
  else if part = 0 then 2
  else if part = 1 then (if tx = 0 then 2 else if tx = 1 then 1 else if tx = 2 then 0 else 3)
  else if s.flag (Reg.WFT_PORT_STAT_REMOTE_DORMANT p) then 1 else 2

/-- The array of a DRAM channel and pseudo-rank (R509, R510): Off while the DRAM is off, Low in self-refresh or power-down. -/
def State.dramDomain (s : State) (c r : Nat) : Nat :=
  let st := s.rd Reg.DMC_STAT_STATE
  if st = 0 ∨ st = 4 then 0
  else if st = 3 ∨ s.rd (if r = 0 then Reg.DMC_CH_STAT_PR0 c else Reg.DMC_CH_STAT_PR1 c) ≠ 0 then 1
  else 2

/-- Domains that are never Off (R510). -/
def alwaysOn (d : Nat) : Bool := [0, 1, 8, 17, 80, 81].contains d

/-- The state of power domain `d` (R75, R509, R510); in a hold boot only the always-on domains are not Off. -/
def State.domain (s : State) (d : Nat) : Nat :=
  let on (b : Bool) : Nat := if b then 2 else 0
  if alwaysOn d then 2
  else if s.rd Reg.SYS_START_BOOT = 2 then 0
  else if d < 8 then s.rd (Reg.SRB_PWR_STATE (d - 2))
  else if d < 17 then on (s.isSender || (s.isTile && decide (d < 13)))
  else if d < 51 then on s.isSender
  else if d = 51 then on (s.role != 0)
  else if d < 61 ∨ d = 62 then on s.isSender
  else if d < 66 then on s.isTile
  else if d < 76 then 2
  else if d < 80 then on (s.role != 0)
  else if d < 122 then on s.isSender
  else if d < 134 then s.weftDomain ((d - 122) / 3) ((d - 122) % 3)
  else if d = 142 ∨ d = 151 then 2
  else if d < 151 then on s.isTile
  else s.dramDomain ((d - 152) / 2) ((d - 152) % 2)

/-- SYS_PD_STATE word `i` (R511). -/
def State.domainWord (s : State) (i : Nat) : Nat :=
  ((List.range 16).filter fun j => 16 * i + j < 168).foldl (fun m j => m + s.domain (16 * i + j) * 4 ^ j) 0

/-- The address lies in a region, or a part of one, that the role powers down (R16, R17, R509). -/
def State.poweredDown (s : State) (a : Nat) : Bool :=
  let region := a / 0x1000000
  let inDmg := decide (0x14000000 ≤ a ∧ a < 0x14200000) || decide (0x14FFF000 ≤ a ∧ a < 0x14FFF100)
  if s.isSender then region == 0x15 || region == 0x23
  else if s.isTile then
    region == 0x21 || (region == 0x11 && !decide (0x11800000 ≤ a ∧ a < 0x11840000)) || inDmg || decide (0x22080000 ≤ a ∧ a < 0x22FC0000)
  else
    [0x11, 0x15, 0x21, 0x22, 0x23].contains region || (region == 0x14 && !decide (0x14FFF200 ≤ a ∧ a < 0x14FFF300))
      || decide (0x16040000 ≤ a ∧ a < 0x16140000)

/-! ### Fields that show other state -/

/-- CTR_STAT.MODE (R473): 2 while the dump is written, 3 while ACTION holds the device, 1 without a role once the start is over. -/
def State.portMode (s : State) : Nat :=
  if s.sys.fatal.isSome then (if s.sys.dump = 5 then 3 else 2)
  else if s.role = 0 ∧ s.sys.step.isNone then 1 else 0

/-- The states and pin counts of a port's pool surfaces (R96, R102). -/
def State.poolView (s : State) (p : Nat) : Nat :=
  ((poolOf p).zipIdx).foldl (fun m x => m + s.poolState x.1 * 4 ^ x.2 + min (s.pins x.1) 15 * 2 ^ (8 + 4 * x.2)) 0

def State.poolPins (s : State) (p : Nat) : Nat := ((poolOf p).zipIdx).foldl (fun m x => m + s.pins x.1 % 128 * 256 ^ x.2) 0

/-- Seconds since a time, saturating in a field of `n` bits. -/
def State.secondsSince (s : State) (t n : Nat) : Nat := min ((s.now - t) / 1000000000) (2 ^ n - 1)

/-- Seconds left of a trial's window, once its first light has come (R458). -/
def State.trialLeft (s : State) : Nat :=
  if s.ptr.onTrial then
    (if s.sys.firstLight then s.ptr.journal.trialS - s.secondsSince s.sys.litAt 16 else s.ptr.journal.trialS)
  else 0

/-- The piece number `i` of the Tile's guard table, word `k` of its registers (HMK_PC_RECT to HMK_PC_FLOOR). -/
def State.pieceWord (s : State) (i k : Nat) : Nat :=
  match s.hmk.guard[i]? with
  | none => 0
  | some g =>
    match k with
    | 0 => g.entry.y * 65536 + g.entry.x
    | 1 => g.entry.h * 65536 + g.entry.w
    | 2 => g.entry.region * 2 ^ 24 + g.entry.cls % 4 * 2 ^ 20 + g.entry.deadline % 16384
    | 3 => g.hatched.toNat * 2 ^ 31 + g.reasons % 16 * 2 + 1
    | 4 => g.expiry % 2 ^ 32
    | 5 => g.expiry / 2 ^ 32
    | _ => match g.floor with
      | some f => f.2
      | none => 0

/-- Cells pending copy in both buffers (TFS_STAT.PENDING), saturating. -/
def State.pendingCells (s : State) : Nat := min ((s.tfs.pending.map fun x => x.2.length).sum) 8191


/-- The word a register shows: what it holds, with the fields that other state keeps put in; SYS_PRESET reads 0 in a Tile (R474). `latch` holds the reader's high words (R466). -/
def State.viewWord (s : State) (latch : Tab Nat) (d : RegDesc) (ix : List Nat) (a : Nat) : Word :=
  let w := s.wordAt a
  let i := ix.headD 0
  let j := ix.getD 1 0
  let high := BitVec.ofNat 32 (Tab.get latch a)
  let b := d.base
  if b = RegAddr.WHL_NOW_LO then BitVec.ofNat 32 s.now
  else if b = RegAddr.WHL_NOW_HI ∨ b = RegAddr.TLY_U_RES_HI 0 0 ∨ b = RegAddr.TLY_MS_RES_HI 0 then high
  else if b = RegAddr.TLY_U_RES_LO 0 0 then BitVec.ofNat 32 (s.unitResult i j)
  else if b = RegAddr.TLY_MS_RES_LO 0 then BitVec.ofNat 32 (Tab.get s.tly.results i)
  else if b = RegAddr.SYS_PD_STATE 0 then BitVec.ofNat 32 (s.domainWord i)
  else if b = RegAddr.SYS_PRESET then (if s.isTile then 0 else w)
  else if b = RegAddr.CTR_STAT then setBits w 30 2 s.portMode
  else if b = RegAddr.BAL_POOL 0 then setBits w 0 20 (s.poolView i)
  else if b = RegAddr.BAL_PINS 0 then BitVec.ofNat 32 (s.poolPins i)
  else if b = RegAddr.DPI_TT_STAT 0 0 then setBits w 16 16 (s.msSince (Tab.get s.intake.patches (4 * i + j)).lastQual)
  else if b = RegAddr.WHL_STAT then
    setBits w 16 12 (if s.rd Reg.WHL_STAT_STATE = 2 ∨ s.rd Reg.WHL_STAT_STATE = 3 then 0 else s.secondsSince s.whl.lostAt 12)
  else if b = RegAddr.DRV_GRP_STAT 0 then setBits w 25 1 (s.feedFits i).toNat
  else if b = RegAddr.TFS_STAT then setBits w 19 13 s.pendingCells
  else if b = RegAddr.SPN_STAT then setBits w 16 4 s.partnerMask
  else if b = RegAddr.SPN_TILE_SEEN then BitVec.ofNat 32 (s.msSince s.spn.heartAt * 65536 + s.msSince s.spn.affirmAt)
  else if b = RegAddr.LMP_WALLMIN then
    setBits w 16 16 (match s.drv.wallminAt with
      | some t => s.secondsSince t 16
      | none => 0xFFFF)
  else if b = RegAddr.CHT_TRIAL then setBits w 16 16 s.trialLeft
  else if b = RegAddr.DMC_WIN_BASE 0 then BitVec.ofNat 32 (s.windowWord i 0)
  else if b = RegAddr.DMC_WIN_SIZE 0 then BitVec.ofNat 32 (s.windowWord i 1)
  else if b = RegAddr.DMC_WIN_CFG 0 then BitVec.ofNat 32 (s.windowWord i 2)
  else if b = RegAddr.HMK_PC_RECT 0 then BitVec.ofNat 32 (s.pieceWord i 0)
  else if b = RegAddr.HMK_PC_SIZE 0 then BitVec.ofNat 32 (s.pieceWord i 1)
  else if b = RegAddr.HMK_PC_CFG 0 then BitVec.ofNat 32 (s.pieceWord i 2)
  else if b = RegAddr.HMK_PC_STAT 0 then BitVec.ofNat 32 (s.pieceWord i 3)
  else if b = RegAddr.HMK_PC_EXPIRY_LO 0 then BitVec.ofNat 32 (s.pieceWord i 4)
  else if b = RegAddr.HMK_PC_EXPIRY_HI 0 then BitVec.ofNat 32 (s.pieceWord i 5)
  else if b = RegAddr.HMK_PC_FLOOR 0 then BitVec.ofNat 32 (s.pieceWord i 6)
  else w

/-- The high word that a read of a low word latches, with the address of its register (R395, R397, R466 and WHL_NOW of R247). -/
def State.latched (s : State) (a : Nat) : Option (Nat × Nat) :=
  match findReg a with
  | none => none
  | some (d, ix) =>
    let i := ix.headD 0
    let j := ix.getD 1 0
    if d.base = RegAddr.WHL_NOW_LO then some (RegAddr.WHL_NOW_HI, s.now / 2 ^ 32)
    else if d.base = RegAddr.TLY_U_RES_LO 0 0 then some (RegAddr.TLY_U_RES_HI i j, s.unitResult i j / 2 ^ 32)
    else if d.base = RegAddr.TLY_MS_RES_LO 0 then some (RegAddr.TLY_MS_RES_HI i, Tab.get s.tly.results i / 2 ^ 32)
    else none

/-- What a read at a word address returns (R11, R12): zero where no register stands, in a powered-down region, and for WO fields. -/
def State.readWord (s : State) (latch : Tab Nat) (a : Nat) : Word :=
  match findReg a with
  | none => 0
  | some (d, ix) => if s.poweredDown a then 0 else d.visible (s.viewWord latch d ix a)

end Sys2Proof.Machine
end

