-- ==== Sys2Proof/Machine/Log.lean ====
section
/-! DEFINITION. The event log (R479 to R481 of spec/16_counter_port_events_and_dump.md): the log writer, the readers' cursors, and forwarding from a Tile to its
Sender. -/

namespace Sys2Proof.Machine

/-! ### The rings -/

/-- The rings hold the records numbered from `lo` up. -/
def keepFrom {α : Type} (t : Tab α) (lo : Nat) : Tab α := t.filter fun e => lo ≤ e.1

/-- A record overwritten in a Tile's B0 ring before it was forwarded counts as lost, where it was one to forward (R480). -/
def State.overwrite (s : State) (i : Nat) : State :=
  if s.log.fwdNext ≤ i then
    let due := match Tab.find s.log.b0 i with
      | some r => s.isTile && decide (s.cfg 1 Reg.EVT_CFG_FWD_MIN ≤ codeSeverity r.code)
      | none => false
    { s with log := { s.log with fwdNext := i + 1, fwdLost := if due then min (s.log.fwdLost + 1) 65535 else s.log.fwdLost } }
  else s

/-- Appends a record to the B0 ring and, once DRAM is in service, to the DRAM ring (R479). -/
def State.logRecord (s : State) (r : EventRec) : State :=
  let i := s.rd Reg.EVT_LI_LI
  let s1 := if 256 ≤ i then s.overwrite (i - 256) else s
  let s2 := { s1 with log := { s1.log with
    b0 := keepFrom (Tab.put s1.log.b0 i r) (i + 1 - 256)
    ring := if s1.log.inDram then keepFrom (Tab.put s1.log.ring i r) (i + 1 - 4096) else s1.log.ring } }
  s2.wr Reg.EVT_LI_LI (i + 1)

/-- LOG_WRITE (R479, R481): the log writer takes the record that has waited longest; between W1 and the refill of W7 it takes none. -/
def doLogWrite (s : State) : State :=
  if !s.log.served then s
  else match s.log.queue with
    | [] => s
    | r :: rest => ({ s with log := { s.log with queue := rest } } : State).logRecord r

def execLogWrite (s : State) : Host.Outcome State Fault Refusal :=
  .next (s.whenAlive fun u => doLogWrite u)

/-- DRAM enters service (R479): what the B0 ring still holds goes to its place in the DRAM ring. -/
def State.logToDram (s : State) : State := { s with log := { s.log with ring := s.log.b0, inDram := true } }

/-- The B0 ring is refilled from the latest 256 entries of the DRAM ring, and the logs are served again (R481). -/
def State.logRefill (s : State) : State :=
  { s with log := { s.log with b0 := keepFrom s.log.ring (s.rd Reg.EVT_LI_LI - 256), served := true, inDram := true } }

/-! ### Cursors -/

/-- The records that a reader of the local log finds: the DRAM ring, or the B0 ring until DRAM is in service (R479). -/
def State.localRing (s : State) : Tab EventRec := if s.log.inDram then s.log.ring else s.log.b0

/-- The first entry that a ring holds, its index where it holds none. -/
def oldest {α : Type} (t : Tab α) (index : Nat) : Nat := match t with
  | [] => index
  | e :: _ => e.1

/-- The entries that a cursor has to skip to the oldest entry still held (R481); none where the cursor lies on one, or at the index. -/
def skipped (cur index first : Nat) : Nat :=
  let behind := (index + 2 ^ 32 - cur % 2 ^ 32) % 2 ^ 32
  behind - (index - first)

/-- A reader that has been overtaken is moved to the oldest entry (R481): its LOST count rises, and record 0x5301 is raised. -/
def State.catchUp (s : State) (cur lost : Fld) (index first : Nat) : State :=
  let n := skipped (s.rd cur) index first
  if n = 0 then s else ((s.wr cur first).bumpBy lost n).raise srcControl 0x5301 n

def State.catchUpFw (s : State) : State :=
  s.catchUp Reg.EVT_RD_FW_CUR Reg.EVT_LOST_FW_LOST (s.rd Reg.EVT_LI_LI) (oldest s.localRing (s.rd Reg.EVT_LI_LI))

def State.catchUpPort (s : State) : State :=
  s.catchUp Reg.CTR_EVT_CUR_CUR Reg.CTR_EVT_LOST_LOCAL (s.rd Reg.EVT_LI_LI) (oldest s.localRing (s.rd Reg.EVT_LI_LI))

def State.catchUpRemote (s : State) : State :=
  s.catchUp Reg.CTR_EVT_RCUR_CUR Reg.CTR_EVT_LOST_REMOTE (s.rd Reg.EVT_RLI_RLI) (oldest s.log.remote (s.rd Reg.EVT_RLI_RLI))

/-- The bytes of an entry of the remote ring (R480). -/
def RemoteRec.bytes (r : RemoteRec) : Bytes := leBytes 2 r.addr ++ zeros 6 ++ leBytes 8 r.time ++ r.record.take 16 ++ zeros (16 - r.record.length)

/-- The first `n` bytes of a string, with zeros past its end. -/
def padTo (n : Nat) (l : Bytes) : Bytes := l.take n ++ zeros (n - l.length)

/-! ### Forwarding -/

/-- The interval between forwarding packets, in ns (R480). -/
def State.forwardNs (s : State) : Nat := max 10 (s.cfg 1 Reg.EVT_CFG_FWD_MS) * 1000000

/-- Records in the B0 ring that a Tile has yet to forward, by number (R480). -/
def State.toForward (s : State) : List (Nat × EventRec) :=
  (keepFrom s.log.b0 s.log.fwdNext).filter fun e => s.cfg 1 Reg.EVT_CFG_FWD_MIN ≤ codeSeverity e.2.code

/-- EVENT_FORWARD (R480): a Tile sends at most 32 records out of every port on which it last accepted a COMMIT, at most once every FWD_MS. -/
def doEventForward (s : State) : State :=
  let due := match s.log.fwdTime with
    | some t => decide (t + s.forwardNs ≤ s.now)
    | none => true
  let recs := s.toForward.take 32
  match recs.getLast? with
  | none => s
  | some last =>
    if !s.isTile || !s.log.served || !due || s.tfs.commitPorts.isEmpty then s
    else
      let body := leBytes 1 5 ++ leBytes 1 recs.length ++ leBytes 2 (s.rd Reg.SYS_WALL_ADDR) ++ leBytes 2 s.log.fwdLost ++ zeros 10
        ++ recs.flatMap fun e => e.2.bytes
      ({ s with log := { s.log with fwdNext := last.1 + 1, fwdLost := 0, fwdTime := some s.now } } : State).forAll s.tfs.commitPorts fun t p =>
        t.send p .status (t.destChain 1 p) body

def execEventForward (s : State) : Host.Outcome State Fault Refusal :=
  .next (s.whenAlive fun u => doEventForward u)

/-- Appends an entry to the remote ring (R480). -/
def State.logRemote (s : State) (r : RemoteRec) : State :=
  let i := s.rd Reg.EVT_RLI_RLI
  ({ s with log := { s.log with remote := keepFrom (Tab.put s.log.remote i r) (i + 1 - 4096) } } : State).wr Reg.EVT_RLI_RLI (i + 1)

/-- EVENT_FORWARD_RECEIVE (R480): a Sender stores each forwarded record with its own wheel time of arrival; no SYS_ALERT bit sets (R475). -/
def doEventForwardReceive (s : State) (p : Nat) (a : Arrival) : State :=
  s.onPacket p .status a fun t _ =>
    if !t.isSender then t else t.onForm p statusForms a.pkt.body 5 fun u =>
      let b := a.pkt.body
      let n := leAt b 1 1
      if n = 0 ∨ 32 < n ∨ b.length ≠ 16 + 16 * n then u.badForm p
      else u.forAll (List.range n) fun v i => v.logRemote ⟨leAt b 2 2 % 4096, v.now, slice b (16 + 16 * i) 16⟩

def execEventForwardReceive (p : Port) (a : Arrival) (s : State) : Host.Outcome State Fault Refusal :=
  .next (s.whenAlive fun u => doEventForwardReceive u p a)

end Sys2Proof.Machine
end

