-- ==== Sys2Proof/Machine/Fatal.lean ====
section
/-! DEFINITION. Fatal errors and the dump (R38, R379, R482 to R486 of spec/16_counter_port_events_and_dump.md and the chapters it names): what stops the device,
what it writes, and what it does then. -/

namespace Sys2Proof.Machine

/-! ### The dump -/

/-- The addresses of every instance of a register. -/
def RegDesc.addresses (d : RegDesc) : List Nat :=
  d.dims.foldl (fun l x => l.flatMap fun a => (List.range x.1).map fun i => a + i * x.2) [d.base]

/-- The Lane die cannot be reached: the Skein has failed (R38). -/
def State.laneLost (s : State) : Bool := s.flag (Reg.SYS_SKEIN_FAULT 0)

/-- Section 3 (R484): every register of both dies, RC fields without clearing, those of powered-down regions left out. -/
def State.registerPairs (s : State) : Bytes :=
  let all := (RegTable.all.flatMap RegDesc.addresses).filter fun a => !s.poweredDown a && !(s.laneLost && a / 2 ^ 28 == 2)
  (all.take 131072).flatMap fun a => leBytes 4 a ++ leBytes 4 (s.readWord s.ctr.latchFw a).toNat

/-- A ring of the event log as it stands in memory: entry `i` holds the record whose number is `i` modulo its length (R479). -/
def ringBytes (t : Tab EventRec) (n : Nat) : Bytes :=
  (List.range n).flatMap fun i => match t.find? fun e => e.1 % n == i with
    | some e => e.2.bytes
    | none => zeros 16

/-- The sections of a dump in their order (R484): number and bytes. The state of the cores is not given and is a free value; a bank that is Off holds
nothing to dump. -/
def State.dumpSections (s : State) (flash : Bool) : List (Nat × Bytes) :=
  let banks := if flash then [0] else [0, 2, 3, 4, 5]
  [(1, leBytes 8192 (s.free 65536).toNat), (2, ringBytes s.log.b0 256 ++ ringBytes s.log.ring 4096), (3, s.registerPairs)]
    ++ (banks.filter fun b => b == 0 || s.rd (Reg.SRB_PWR_STATE b) != 0).map fun b => ((if b = 0 then 4 else b + 3), s.sramRead b 0 (bankSize b))

/-- The section table: each section stands behind the one before it, the first at 4,096. -/
def sectionTable : Nat → List (Nat × Bytes) → Bytes
  | _, [] => []
  | o, x :: t => leBytes 2 x.1 ++ zeros 2 ++ leBytes 4 o ++ leBytes 4 x.2.length ++ leBytes 4 (crc32c x.2) ++ sectionTable (o + x.2.length) t

/-- The header of a dump (R484). FLAGS: bit 0 nested, bit 1 complete, bit 2 Lane die unreachable. -/
def State.dumpHeader (s : State) (sections : List (Nat × Bytes)) (nested complete : Bool) : Bytes :=
  let flags := nested.toNat + 2 * complete.toNat + 4 * s.laneLost.toNat
  let h := leBytes 4 0x5044434F ++ leBytes 2 1 ++ leBytes 1 (s.sys.fatal.getD 0) ++ leBytes 1 flags ++ leBytes 8 s.sys.fatalAt
    ++ leBytes 4 (s.wordAt RegAddr.SYS_START).toNat ++ leBytes 4 (s.wordAt RegAddr.SYS_ROLE).toNat ++ leBytes 4 (s.wordAt RegAddr.SYS_WALL).toNat
    ++ leBytes 4 s.charter.version ++ leBytes 4 s.charter.sequence ++ leBytes 4 s.serial ++ leBytes 4 (s.rd Reg.EVT_LI_LI)
    ++ leBytes 4 (if s.sys.fatal = some 5 then s.sys.fatalReason else 0) ++ leBytes 4 sections.length ++ zeros 12 ++ sectionTable 4096 sections
  let l := padTo 4092 h
  l ++ leBytes 4 (crc32c l)

/-- Where the DRAM dump stands (R484). -/
def dumpAt : Nat := 0x08000000

/-- The sections one after another. -/
def sectionBytes (sections : List (Nat × Bytes)) : Bytes := sections.flatMap (·.2)

/-- The header in DRAM gains FLAGS bits, its CRC with them (R485). -/
def State.flagHeader (s : State) (bits : Nat) : State :=
  let l := (s.dramRead dumpAt 4092).set 7 (BitVec.ofNat 8 (leAt (s.dramRead dumpAt 8) 7 1 ||| bits))
  s.dramWrite dumpAt (l ++ leBytes 4 (crc32c l))

/-- The dump step under way. -/
def State.setDump (s : State) (n : Nat) : State := { s with sys := { s.sys with dump := n } }

/-- F3 begins: the header is written first, not yet complete (R485). -/
def State.beginDramDump (s : State) : State := (s.dramWrite dumpAt (s.dumpHeader (s.dumpSections false) false false)).setDump 3

/-- F3 ends: the sections are written, and the header last (R484, R485). -/
def State.endDramDump (s : State) : State :=
  let x := s.dumpSections false
  ((s.dramWrite (dumpAt + 4096) (sectionBytes x)).dramWrite dumpAt (s.dumpHeader x false true)).spend

/-- The flash dump is to be written (R483). -/
def State.flashDump (s : State) : Bool := s.sys.directory && s.directoryRead.dump != 0 && s.ac Reg.SYS_DUMP_CFG_FLASH == 1

/-- F4 begins: the area is erased. -/
def State.beginFlashDump (s : State) : State := (s.flashErase s.directoryRead.dump 0x400000).setDump 4

/-- F4 ends: sections 1 to 4, and the header after them (R484, R485). -/
def State.endFlashDump (s : State) : State :=
  let x := s.dumpSections true
  let o := s.directoryRead.dump
  ((s.flashWrite (o + 4096) (sectionBytes x)).flashWrite o (s.dumpHeader x false true)).spend

/-- F5 (R483): ACTION 0 and 3 start the device cold; 1 and 2 hold it. -/
def State.fatalAction (s : State) : State :=
  let a := s.ac Reg.SYS_DUMP_CFG_ACTION
  if a = 1 ∨ a = 2 then ({ s with sys := { s.sys with haltAt := s.now } } : State).setDump 5 else s.coldBegin 4 0

/-- The step after the DRAM dump. -/
def State.afterDramDump (s : State) : State := if s.flashDump then s.beginFlashDump else s.fatalAction

/-- FATAL_DUMP_STEP_END (R483 to R485): step F2, F3 or F4 ends. -/
def doFatalDumpStepEnd (s : State) : State :=
  if s.sys.fatal.isNone then s
  else if s.sys.dump = 2 then (if s.rd Reg.DMC_STAT_STATE = 2 then s.beginDramDump else s.afterDramDump)
  else if s.sys.dump = 3 then s.endDramDump.afterDramDump
  else if s.sys.dump = 4 then s.endFlashDump.fatalAction
  else s

def execFatalDumpStepEnd (s : State) : Host.Outcome State Fault Refusal :=
  .next (s.whenAlive fun u => doFatalDumpStepEnd u)

/-- DUMP_HOLD_EXPIRY (R483): the halt of ACTION 2 ends after HOLD_S seconds, of which 0 acts as 1, in a cold start. -/
def doDumpHoldExpiry (s : State) : State :=
  if s.sys.fatal.isSome ∧ s.sys.dump = 5 ∧ s.ac Reg.SYS_DUMP_CFG_ACTION = 2 ∧ s.sys.haltAt + max 1 (s.ac Reg.SYS_DUMP_CFG_HOLD_S) * 1000000000 ≤ s.now then
    s.coldBegin 4 0
  else s

def execDumpHoldExpiry (s : State) : Host.Outcome State Fault Refusal :=
  .next (s.whenAlive fun u => doDumpHoldExpiry u)

/-! ### Fatal errors -/

/-- The log writer empties the control region's queue, so that 0xC005 stands in the B0 ring (R483). -/
def State.flushControl (s : State) : State :=
  let mine := s.log.queue.filter fun r => r.src == srcControl
  ({ s with log := { s.log with queue := s.log.queue.filter fun r => r.src != srcControl } } : State).forAll mine State.logRecord

/-- F1 (R483): the cores stop, record 0xC005 stands in the B0 ring, FAULT_N is low, a protected holder yields, no order is originated, and every driver
group is dark. -/
def State.fatalStop (s : State) (cause reason : Nat) : State :=
  let s1 := s.raiseVerdict 4
  let s2 := { s1 with sys := { s1.sys with fatal := some cause, fatalAt := s1.now, fatalReason := reason, dump := 2 } }
  ((s2.forAll (List.range 8) State.showDark).raise srcControl 0xC005 cause).flushControl

/-- A fatal error (R482, R483, R485): one during F2 to F4 ends the dump at once; a header already written gains FLAGS[0]. -/
def State.fatalError (s : State) (cause reason : Nat) : State :=
  if !s.alive then s
  else if s.sys.fatal.isNone then s.fatalStop cause reason
  else if s.sys.dump = 5 then s
  else
    let t : State := { s with sys := { s.sys with nested := true } }
    (if s.rd Reg.DMC_STAT_STATE = 2 ∧ 3 ≤ s.sys.dump then t.flagHeader 1 else t).fatalAction

/-- FATAL_ERROR (R482): one of the six causes. -/
def doFatalError (s : State) (cause : Nat) : State := if 1 ≤ cause ∧ cause ≤ 6 then s.fatalError cause 0 else s

def execFatalError (cause : BitVec 3) (s : State) : Host.Outcome State Fault Refusal :=
  .next (s.whenAlive fun u => doFatalError u cause.toNat)

/-- SYS_FATAL (R482): a write with the key raises fatal error 5. -/
def doSysFatal (s : State) (key reason : Nat) : State := if key = 0x96A5 then s.fatalError 5 reason else s

def execSysFatal (key reason : BitVec 16) (s : State) : Host.Outcome State Fault Refusal :=
  .next (s.whenAlive fun u => doSysFatal u key.toNat reason.toNat)

/-- Firmware runs, and the watchdog with it: from the end of C4 or W4 (R66, R67, R482). -/
def State.firmwareRuns (s : State) : Bool :=
  s.alive && s.role != 0 && s.sys.fatal.isNone && (match s.sys.step with
    | some (_, n) => decide (5 < n)
    | none => true)

/-- WATCHDOG_EXPIRY (R482): SPN_WDOG has not been written with its key for WDOG_MS. -/
def doWatchdogExpiry (s : State) : State :=
  if s.firmwareRuns && decide (s.spn.wdogAt + s.cfg 1 Reg.SPN_CFG2_WDOG_MS * 1000000 ≤ s.now) then s.fatalError 4 0 else s

def execWatchdogExpiry (s : State) : Host.Outcome State Fault Refusal :=
  .next (s.whenAlive fun u => doWatchdogExpiry u)

/-- SKEIN_FLIT_CRC_FAIL (R38): the first failure of a flit is replayed, the second replayed again; the third, or a loss of alignment, is a Skein fault
and a fatal error. -/
def doSkeinFlitCrcFail (s : State) (lane : Bool) (nth : Nat) : State :=
  let d := lane.toNat
  if nth = 0 then s.bump (Reg.SYS_SKEIN_REPLAY d)
  else if nth = 1 then s.bump (Reg.SYS_SKEIN_DOUBLE_REPLAY d)
  else
    let s1 := s.forAll [0, 1] fun t i => (t.wr (Reg.SYS_SKEIN_FAULT i) 1).wr (Reg.SYS_SKEIN_UP i) 0
    (s1.raise srcControl 0xC201 (d + 1)).fatalError 1 0

def execSkeinFlitCrcFail (lane : Bool) (nth : Fin 3) (s : State) : Host.Outcome State Fault Refusal :=
  .next (s.whenAlive fun u => doSkeinFlitCrcFail u lane nth)

/-- SRAM_PARITY_ERROR (R379, R416): the read is refused, at the owner port where the owner made it, and counted; one in B2 to B5 raises the memory
verdict, one that the control cores meet is a fatal error. -/
def doSramParityError (s : State) (b row : Nat) (cores : Bool) : State :=
  let s1 := ((s.sramError (cores == (b == 0))).bump (Reg.SRB_STAT_PARITY b)).wr (Reg.SRB_STAT_LAST_ROW b) row
  let s2 := s1.raise srcSram 0x8F01 (b * 65536 + row % 65536)
  let s3 := if 2 ≤ b then s2.raiseVerdict 1 else s2
  if cores then s3.fatalError 3 0 else s3

def execSramParityError (b : Fin 6) (row : BitVec 18) (cores : Bool) (s : State) : Host.Outcome State Fault Refusal :=
  .next (s.whenAlive fun u => doSramParityError u b row.toNat cores)

end Sys2Proof.Machine
end

