-- ==== Sys2Proof/Machine/Bus.lean ====
section
/-! DEFINITION. Register accesses (R10 to R12, R35, R61, R64 of spec/00_scope.md, spec/01_wall_and_roles.md and spec/02_charter_image_and_start.md): what a write does by
the access kind of each field and by what the register orders, and what a read returns, clears and latches. -/

namespace Sys2Proof.Machine

/-! ### Writes -/

/-- A write of a word to a register that the device does not act on beyond its fields (R11). In a Tile the hatch colours are loaded from GUARD and a
write is ignored. -/
def State.plainWrite (s : State) (d : RegDesc) (a : Nat) (v : Word) : State :=
  if s.isTile && (d.base == RegAddr.HMK_HATCH_A || d.base == RegAddr.HMK_HATCH_B) then s
  else { s with regs := Tab.put s.regs a (d.merge (s.wordAt a) v) }

/-- A write to a register of the Lane die that orders something: Weft port commands and eye scans (R241, R244), Assay runs (R344). -/
def State.orderLane (s : State) (d : RegDesc) (i : Nat) (a : Nat) (v : Word) : State :=
  let b := d.base
  if b = RegAddr.WFT_PORT_CMD 0 then doPortCmd s i (getBits v 0 3)
  else if b = RegAddr.WFT_EYE_CTRL 0 then
    if getBits v 31 1 = 1 then doEyeScanStart s i (getBits v 16 7) (getBits v 8 6) (getBits v 0 4)
    else ((s.wr (Reg.WFT_EYE_CTRL_VOFF i) (getBits v 16 7)).wr (Reg.WFT_EYE_CTRL_PHASE i) (getBits v 8 6)).wr (Reg.WFT_EYE_CTRL_DWELL i) (getBits v 0 4)
  else if b = RegAddr.ASY_RUN then
    if getBits v 30 1 = 1 then doAsyRunAbort s
    else if getBits v 31 1 = 1 then doAsyRunStart s (getBits v 16 8) (getBits v 15 1 == 1) (getBits v 0 12)
    else ((s.wr Reg.ASY_RUN_SWEEP (getBits v 16 8)).wr Reg.ASY_RUN_TS_EN (getBits v 15 1)).wr Reg.ASY_RUN_REF_TEMP (getBits v 0 12)
  else s.plainWrite d a v

/-- A write to a register of the Frame die that orders something, by its register. -/
def State.order (s : State) (d : RegDesc) (i j : Nat) (a : Nat) (v : Word) : State :=
  let b := d.base
  let n := v.toNat
  if b = RegAddr.SYS_COMMIT then s.armMask (n % 65536)
  else if b = RegAddr.SYS_RESTART then s.restart (n / 65536) (n % 4)
  else if b = RegAddr.SYS_FATAL then doSysFatal s (n / 65536) (n % 65536)
  else if b = RegAddr.CHT_CONFIRM then doChtConfirm s (n / 65536)
  else if b = RegAddr.SPN_WDOG then doWatchdogKick s (n / 65536)
  else if b = RegAddr.SPN_DRILL_BACK then { s with spn := { s.spn with drillBack := n } }
  else if b = RegAddr.SPN_DRILL_OUT then doSpnDrillOut s n
  else if b = RegAddr.HMK_STALE then
    if getBits v 16 1 = 1 then doStaleOrder s (getBits v 31 1 == 1) (n % 256)
    else (s.wr Reg.HMK_STALE_ALL (getBits v 31 1)).wr Reg.HMK_STALE_REGION (n % 256)
  else if b = RegAddr.HMK_HOLD 0 then doHmkHold s i n
  else if b = RegAddr.BAL_SURF_CMD then (if getBits v 16 2 = 1 then doRelease s (n % 512) else s)
  else if b = RegAddr.DMG_REPUSH then (if getBits v 31 1 = 1 then doRepushAll s else doRepush s (n / 64 % 4) (n % 64))
  else if b = RegAddr.SRB_PWR 0 then doSrbPwrMode s i (n % 4)
  else if b = RegAddr.TLY_U_DATA1 0 0 then doTlyUData1 s i j (n % 256)
  else if b = RegAddr.TLY_U_DATA2 0 0 then doTlyUData2 s i j (n % 65536)
  else if b = RegAddr.TLY_U_DATA4 0 0 then doTlyUData4 s i j n
  else if b = RegAddr.TLY_U_CTRL 0 0 then (if n % 2 = 1 then doTlyUInit s i j else s)
  else if b = RegAddr.TLY_MS_CFG 0 then
    if getBits v 30 1 = 1 then doTlyMsAbort s i (getBits v 16 2) (getBits v 8 1 == 1)
    else if getBits v 31 1 = 1 then doTlyMsStart s i (getBits v 16 2) (getBits v 8 1 == 1) false
    else (s.wr (Reg.TLY_MS_CFG_PROFILE i) (getBits v 16 2)).wr (Reg.TLY_MS_CFG_REPEAT i) (getBits v 8 1)
  else s.orderLane d i a v

/-- A register holds a staged field of a group that is armed (R61). -/
def State.locked (s : State) (d : RegDesc) (ix : List Nat) : Bool := (d.groups ix).any s.armed

/-- A write of one word; the flag says that it was refused with an access error. Where no register stands, and in a powered-down region, a write has no
effect (R12, R16, R17). -/
def State.writeWord (s : State) (a : Nat) (v : Word) : State × Bool :=
  match findReg a with
  | none => (s, false)
  | some (d, ix) =>
    if s.poweredDown a then (s, false)
    else if s.locked d ix then (s, true)
    else (s.order d (ix.headD 0) (ix.getD 1 0) a v, false)

/-- Writes words in order. -/
def State.writeAll (s : State) (es : List (Nat × Word)) : State := s.forAll es fun t e => (t.writeWord e.1 e.2).1

/-- What an access answers its master. -/
def State.busAnswer (s : State) (data : Word) (err : Bool) : State := { s with bus := ⟨data, err⟩ }

/-- An access that is a whole aligned word (R10). -/
def wholeWord (a size : Nat) : Bool := a % 4 == 0 && size == 4

/-- REGISTER_WRITE (R10 to R12, R61): a write of `size` bytes by firmware. -/
def doRegisterWrite (s : State) (a size : Nat) (v : Word) : State :=
  if !wholeWord a size then s.busAnswer 0 true
  else (s.writeWord a v).1.busAnswer 0 (s.writeWord a v).2

def execRegisterWrite (a : BitVec 32) (size : BitVec 4) (v : Word) (s : State) : Host.Outcome State Fault Refusal :=
  .next (s.whenAlive fun u => doRegisterWrite u a.toNat size.toNat v)

/-! ### Reads -/

/-- What a firmware read leaves behind (R11): RC fields clear. -/
def State.clearRc (s : State) (a : Nat) : State :=
  match findReg a with
  | some (d, _) =>
    if s.poweredDown a || maskWhere d (fun f => f.access == .rc) == 0 then s else { s with regs := Tab.put s.regs a (d.afterRead (s.wordAt a)) }
  | none => s

/-- A low word latches its high word for firmware (R466). -/
def State.latchFw (s : State) (a : Nat) : State :=
  match s.latched a with
  | some (h, v) => { s with ctr := { s.ctr with latchFw := Tab.put s.ctr.latchFw h v } }
  | none => s

/-- REGISTER_READ (R10 to R12, R466, R481): firmware reads a register. A reader of the log that has been overtaken is
moved first, while the logs are served. -/
def doRegisterRead (s : State) (a size : Nat) : State :=
  if !wholeWord a size then s.busAnswer 0 true
  else
    let s1 := s.onlyIf (s.log.served && (a == RegAddr.EVT_RD_FW || a == RegAddr.EVT_LOST_FW)) State.catchUpFw
    ((s1.latchFw a).clearRc a).busAnswer (s1.readWord s1.ctr.latchFw a) false

def execRegisterRead (a : BitVec 32) (size : BitVec 4) (s : State) : Host.Outcome State Fault Refusal :=
  .next (s.whenAlive fun u => doRegisterRead u a.toNat size.toNat)

end Sys2Proof.Machine
end

