-- ==== Sys2Proof/Machine/Command.lean ====
section
/-! DEFINITION. Commands of the Counter port (R449 to R454, R467 to R474 of spec/15_trust_keys_and_update.md and spec/16_counter_port_events_and_dump.md): each command,
what it demands of role and mode, the checks of an envelope, and the command that an envelope runs. -/

namespace Sys2Proof.Machine

/-! ### Which commands run -/

/-- A hold boot has stopped the device after C2 (R75). -/
def State.onHold (s : State) : Bool := s.rd Reg.SYS_START_BOOT == 2

/-- The role and the mode allow a command (R468, R473). -/
def State.allows (s : State) (cmd : Nat) : Bool :=
  if s.sys.fatal.isSome then cmd == 6
  else if s.isSender then [1, 2, 3, 4, 5, 6, 0x10, 0x11, 0x12, 0x13, 0x14, 0x20, 0x21].contains cmd
  else if s.isTile then [3, 5, 6, 0x10, 0x11, 0x12, 0x13, 0x14].contains cmd
  else [6, 0x10, 0x11, 0x12, 0x13, 0x14].contains cmd

/-- CTR_CMD shows a command and its result. -/
def State.setCmd (s : State) (cmd result : Nat) : State := (s.wr Reg.CTR_CMD_COMMAND cmd).wr Reg.CTR_CMD_RESULT result

/-- Runs a command where role and mode allow it, and refuses it with RESULT 4 otherwise (R468). -/
def State.gate (s : State) (cmd : Nat) (act : State → State) : State :=
  if !s.alive || s.onHold then s else if s.allows cmd then act (s.setCmd cmd 0) else s.setCmd cmd 4

/-! ### Selection and configuration -/

/-- SELECT (R470). -/
def doSelect (s : State) (n : Nat) : State := s.gate 1 fun t => t.selectPreset n false

def execSelect (n : BitVec 8) (s : State) : Host.Outcome State Fault Refusal :=
  .next (s.whenAlive fun u => doSelect u n.toNat)

/-- Registers that no LAYOUT or CONFIG entry may name (R469). -/
def forbiddenBases : List Nat :=
  [RegAddr.SYS_COMMIT, RegAddr.SYS_RESTART, RegAddr.SYS_FATAL, RegAddr.CHT_CONFIRM, RegAddr.SPN_WDOG, RegAddr.SPN_DRILL_OUT, RegAddr.SPN_DRILL_BACK,
    RegAddr.ASY_RUN, RegAddr.ASY_REF, RegAddr.TLY_U_DATA1 0 0, RegAddr.TLY_U_DATA2 0 0, RegAddr.TLY_U_DATA4 0 0, RegAddr.TLY_U_CTRL 0 0,
    RegAddr.TRS_OPKEY 0 0]

/-- An entry that R469 refuses with RESULT 2. -/
def entryRefused (a : Nat) : Bool :=
  match findReg a with
  | none => true
  | some (d, _) => forbiddenBases.contains d.base || maskWhere d (fun f => f.access == .rs || f.access == .rw || f.access == .w1c) == 0

/-- An entry that names a staged field of an armed group (R469). -/
def State.entryArmed (s : State) (a : Nat) : Bool :=
  match findReg a with
  | some (d, ix) => s.locked d ix
  | none => false

/-- The RESULT that the check of every entry gives (R469): 2 before 3. -/
def State.entriesResult (s : State) (es : List (Nat × Word)) (allowed : Nat → Bool) : Nat :=
  if es.any fun e => entryRefused e.1 || !allowed e.1 then 2 else if es.any fun e => s.entryArmed e.1 then 3 else 0

/-- Checks every entry, then writes them in order, then arms the groups of a mask (R468, R469). -/
def State.writeEntries (s : State) (es : List (Nat × Word)) (mask : Nat) (allowed : Nat → Bool) : State :=
  match s.entriesResult es allowed with
  | 0 => (s.writeAll es).armMask mask
  | r => s.wr Reg.CTR_CMD_RESULT r

/-- The entries of a command as the table of registers numbers them. -/
def entriesOf (es : List (Word × Word)) : List (Nat × Word) := es.map fun e => (e.1.toNat, e.2)

/-- LAYOUT (R468, R469): every ADDR must name a field of G0 or G1; ARM arms both groups. -/
def doLayout (s : State) (arm : Bool) (es : List (Nat × Word)) : State :=
  s.gate 2 fun t => t.writeEntries es (if arm then 3 else 0) fun a => addrInGroup a 0 || addrInGroup a 1

def execLayout (arm : Bool) (es : List (Word × Word)) (s : State) : Host.Outcome State Fault Refusal :=
  .next (s.whenAlive fun u => doLayout u arm (entriesOf es))

/-- CONFIG (R468, R469). -/
def doConfig (s : State) (arm : Nat) (es : List (Nat × Word)) : State := s.gate 3 fun t => t.writeEntries es arm fun _ => true

def execConfig (arm : Word) (es : List (Word × Word)) (s : State) : Host.Outcome State Fault Refusal :=
  .next (s.whenAlive fun u => doConfig u arm.toNat (entriesOf es))

/-! ### Drill, Assay, restart -/

/-- DRILL (R427, R468): BACK is written, then OUT. -/
def doDrill (s : State) (out back : Nat) : State :=
  s.gate 4 fun t => doSpnDrillOut { t with spn := { t.spn with drillBack := back } } out

def execDrill (out back : Word) (s : State) : Host.Outcome State Fault Refusal :=
  .next (s.whenAlive fun u => doDrill u out.toNat back.toNat)

/-- ASSAY (R344, R468): ASY_REF is written, and ASY_RUN with START 1, or with ABORT 1. -/
def doAssay (s : State) (refUv refTemp sweep : Nat) (tsEn abort : Bool) : State :=
  s.gate 5 fun t =>
    let u := t.wr Reg.ASY_REF_REF_UV refUv
    if abort then doAsyRunAbort u else doAsyRunStart u sweep tsEn (refTemp % 4096)

def execAssay (refUv : Word) (refTemp : BitVec 16) (tsEn abort : Bool) (sweep : BitVec 8) (s : State) : Host.Outcome State Fault Refusal :=
  .next (s.whenAlive fun u => doAssay u refUv.toNat refTemp.toNat sweep.toNat tsEn abort)

/-- RESTART (R65, R468): as SYS_RESTART with its key. -/
def doRestart (s : State) (type : Nat) : State := s.gate 6 fun t => t.restart 0xA5C3 type

def execRestart (type : BitVec 8) (s : State) : Host.Outcome State Fault Refusal :=
  .next (s.whenAlive fun u => doRestart u type.toNat)

/-! ### Porter -/

/-- BEGIN (R453). -/
def doBegin (s : State) (x : Transfer) : State := s.gate 0x10 fun t => t.beginTransfer x

def execBegin (target trials confirmBy : BitVec 8) (length transfer trialS : Word) (digest newOwner : BitVec 256) (s : State) :
    Host.Outcome State Fault Refusal :=
  .next (s.whenAlive fun u => doBegin u ⟨target.toNat, trials.toNat, confirmBy.toNat, length.toNat, transfer.toNat, trialS.toNat, digest, newOwner, [], none⟩)

/-- DATA (R454, R468): blocks one after another. -/
def doData (s : State) (blocks : Bytes) : State := s.gate 0x11 fun t => t.data blocks

def execData (blocks : Bytes) (s : State) : Host.Outcome State Fault Refusal :=
  .next (s.whenAlive fun u => doData u blocks)

/-- ACTIVATE (R456): refused unless the transfer it names is READY. -/
def doActivate (s : State) (transfer at_ : Nat) : State :=
  s.gate 0x12 fun t =>
    match t.ptr.transfer with
    | some x => if t.rd Reg.CHT_PORTER_STATE = 3 ∧ x.transfer = transfer then t.activate x at_ else t.wr Reg.CTR_CMD_RESULT 4
    | none => t.wr Reg.CTR_CMD_RESULT 4

def execActivate (transfer : Word) (at_ : BitVec 64) (s : State) : Host.Outcome State Fault Refusal :=
  .next (s.whenAlive fun u => doActivate u transfer.toNat at_.toNat)

/-- ABORT (R468): closes the open transfer, unless its image is already on its way into flash. -/
def doAbort (s : State) (transfer : Nat) : State :=
  s.gate 0x13 fun t =>
    match t.ptr.transfer with
    | some x =>
      if x.transfer ≠ transfer then t.wr Reg.CTR_CMD_RESULT 2
      else if t.ptr.op = .idle ∨ t.ptr.op = .check then t.closeTransfer.porterResult 7
      else t.wr Reg.CTR_CMD_RESULT 4
    | none => t.wr Reg.CTR_CMD_RESULT 2

def execAbort (transfer : Word) (s : State) : Host.Outcome State Fault Refusal :=
  .next (s.whenAlive fun u => doAbort u transfer.toNat)

/-- CONFIRM (R459): confirms the image on trial whose CONFIRM_BY is 1. -/
def doConfirm (s : State) (transfer : Nat) : State :=
  s.gate 0x14 fun t =>
    if !t.ptr.onTrial || t.ptr.journal.confirmBy != 1 then t.wr Reg.CTR_CMD_RESULT 4
    else if t.ptr.journal.transfer ≠ transfer then t.wr Reg.CTR_CMD_RESULT 2
    else t.confirmImage

def execConfirm (transfer : Word) (s : State) : Host.Outcome State Fault Refusal :=
  .next (s.whenAlive fun u => doConfirm u transfer.toNat)

/-! ### Relay -/

/-- A unicast address of the Sender's own group. -/
def State.ownTile (s : State) (addr : Nat) : Bool :=
  decide (addr < 4096) && (addr / 256 == s.rd Reg.SYS_ROLE_GROUP) && (addr % 64 != 63)

/-- An address that RELAY may name (R471): a Tile enabled in the active map. -/
def State.relayOk (s : State) (addr : Nat) : Bool := s.ownTile addr && s.ac (Reg.DMG_TILE_SIZE_ENABLE (addr / 64 % 4) (addr % 64)) == 1

/-- A MGMT body of form 0x40 (R452). -/
def mgmt40 (kind : Nat) (bs : Bytes) : Bytes := leBytes 1 0x40 ++ leBytes 1 kind ++ zeros 2 ++ bs

/-- Sends a MGMT packet to a Tile of the own group. -/
def State.sendMgmt (s : State) (addr : Nat) (body : Bytes) : State := s.send (addr / 64 % 4) .mgmt addr body

/-- RELAY (R471): the inner envelope goes unchanged to the Tile. -/
def doRelay (s : State) (addr : Nat) (inner : Bytes) : State :=
  s.gate 0x20 fun t =>
    if t.relayOk addr ∧ inner.length ≤ 2332 then t.sendMgmt addr (mgmt40 1 inner) else t.wr Reg.CTR_CMD_RESULT 2

def execRelay (addr : BitVec 16) (inner : Bytes) (s : State) : Host.Outcome State Fault Refusal :=
  .next (s.whenAlive fun u => doRelay u addr.toNat inner)

/-- The blocks that bytes hold, one after another, at most `n` (R454). -/
def blocksOf : Nat → Bytes → List Bytes
  | 0, _ => []
  | n + 1, l => if l.length < 16 then [] else (l.take (16 + leAt l 8 2)) :: blocksOf n (l.drop (16 + leAt l 8 2))

/-- RELAY_DATA (R452, R468): each block goes to the Tile as MGMT 0x40, KIND 2. -/
def doRelayData (s : State) (addr : Nat) (blocks : Bytes) : State :=
  s.gate 0x21 fun t =>
    if t.relayOk addr then
      t.forAll ((blocksOf (blocks.length / 16) blocks).filter fun b => b.length ≤ 2332) fun u b => u.sendMgmt addr (mgmt40 2 b)
    else t.wr Reg.CTR_CMD_RESULT 2

def execRelayData (addr : BitVec 16) (blocks : Bytes) (s : State) : Host.Outcome State Fault Refusal :=
  .next (s.whenAlive fun u => doRelayData u addr.toNat blocks)

/-! ### Envelopes -/

/-- The begin arguments of R453. -/
def transferOf (b : Bytes) : Transfer :=
  ⟨leAt b 0 1, leAt b 1 1, leAt b 2 1, leAt b 4 4, leAt b 8 4, leAt b 12 4, be256 b 16, be256 b 48, [], none⟩

/-- The command that an accepted envelope runs, with its ARGS (R468); one that is not listed is refused. -/
def State.runCommand (s : State) (cmd : Nat) (b : Bytes) : State :=
  match cmd with
  | 0x01 => doSelect s (leAt b 0 1)
  | 0x02 => doLayout s ((leAt b 4 4).testBit 0) (entriesAt b 0 8)
  | 0x03 => doConfig s (leAt b 4 4) (entriesAt b 0 8)
  | 0x04 => doDrill s (leAt b 0 4) (leAt b 4 4)
  | 0x05 => doAssay s (leAt b 0 4) (leAt b 4 2) (leAt b 7 1) ((leAt b 6 1).testBit 0) ((leAt b 6 1).testBit 1)
  | 0x06 => doRestart s (leAt b 0 1)
  | 0x10 => doBegin s (transferOf b)
  | 0x11 => doData s b
  | 0x12 => doActivate s (leAt b 0 4) (leAt b 8 8)
  | 0x13 => doAbort s (leAt b 0 4)
  | 0x14 => doConfirm s (leAt b 0 4)
  | 0x20 => doRelay s (leAt b 0 2) (b.drop 8)
  | 0x21 => doRelayData s (leAt b 0 2) (b.drop 8)
  | _ => s.gate cmd id

/-- TRS_NONCE and TRS_SEQ as numbers of 64 bits. -/
def State.nonce (s : State) : Nat := s.rd Reg.TRS_NONCE_LO_NONCE + 2 ^ 32 * s.rd Reg.TRS_NONCE_HI_NONCE
def State.envFloor (s : State) : Nat := s.rd Reg.TRS_SEQ_LO_SEQ + 2 ^ 32 * s.rd Reg.TRS_SEQ_HI_SEQ

/-- Operator key hash `k`, as in force (R451). -/
def State.opKey (s : State) (k : Nat) : BitVec 256 :=
  be256 ((List.range 8).flatMap fun i => leBytes 4 (s.ac (Reg.TRS_OPKEY_HASH k i))) 0

/-- KEY_HASH may sign a command (R451). -/
def State.signerMay (s : State) (h : BitVec 256) (cmd : Nat) : Bool :=
  !s.claimed || s.ownerHash == some h
    || (h != 0 && ([0, 1, 2, 3].any fun k => s.opKey k == h) && !([0x10, 0x12, 0x13].contains cmd))

/-- Checks 1 to 5 of R450: the first that fails. -/
def State.envelopeFault (s : State) (e : Bytes) : Nat :=
  let len := leAt e 32 2
  if leAt e 0 4 ≠ 0x4E45434F ∨ leAt e 4 2 ≠ 1 ∨ len % 8 ≠ 0 ∨ 65528 < len ∨ leAt e 34 6 ≠ 0 ∨ e.length ≠ 136 + len then 1
  else if slice e 8 8 ≠ (beBytes 32 (Config.sha256 s.idPub).toNat).take 8 then 2
  else if leAt e 16 8 ≠ s.nonce then 3
  else if leAt e 24 8 ≤ s.envFloor then 4
  else if !s.signerMay (be256 e 40) (leAt e 6 2) then 5
  else 0

/-- The six checks of R450, in their order: the state, in which a recovered key may have been kept (R435), and RESULT. -/
def State.checkEnvelope (s : State) (e : Bytes) : State × Nat :=
  match s.envelopeFault e with
  | 0 =>
    let n := 72 + leAt e 32 2
    match s.checkNamed (be256 e 40) (e.take n) (be256 e n) (be256 e (n + 32)) with
    | (t, true) => (t, 0)
    | (t, false) => (t, 6)
  | r => (s, r)

/-- Checks an envelope and runs its command (R450, R467): an accepted one sets the floor first. -/
def State.runEnvelope (s : State) (e : Bytes) : State :=
  let cmd := leAt e 6 2
  let (t, r) := s.checkEnvelope e
  let u := (t.wr Reg.TRS_ENV_STAT_RESULT r).wr Reg.TRS_ENV_STAT_COMMAND cmd
  if r = 0 then
    ((u.wr Reg.TRS_SEQ_LO_SEQ (leAt e 24 4)).wr Reg.TRS_SEQ_HI_SEQ (leAt e 28 4)).runCommand cmd (slice e 72 (leAt e 32 2))
  else u

/-- ENVELOPE_CHECKED (R450, R467): the envelope in the buffer is checked, its command runs or is refused, and ENV_BUSY clears. -/
def doEnvelopeChecked (s : State) : State :=
  match s.ctr.envelope with
  | some e => ((({ s with ctr := { s.ctr with envelope := none } } : State)).wr Reg.CTR_STAT_ENV_BUSY 0).runEnvelope e
  | none => s

def execEnvelopeChecked (s : State) : Host.Outcome State Fault Refusal :=
  .next (s.whenAlive fun u => doEnvelopeChecked u)

/-- MGMT_ENVELOPE (R452): a Tile checks and runs an envelope of form 0x40, KIND 1, against its own NONCE and floor. -/
def doMgmtEnvelope (s : State) (p : Nat) (a : Arrival) : State :=
  s.onPacket p .mgmt a fun t _ =>
    t.onForm p mgmtForms a.pkt.body 0x40 fun u => if u.isTile ∧ leAt a.pkt.body 1 1 = 1 then u.runEnvelope (a.pkt.body.drop 4) else u

def execMgmtEnvelope (p : Port) (a : Arrival) (s : State) : Host.Outcome State Fault Refusal :=
  .next (s.whenAlive fun u => doMgmtEnvelope u p a)

/-! ### PRESET pins -/

/-- The selection of a start has been armed: pin changes select from then on (R474). -/
def State.selecting (s : State) : Bool :=
  match s.sys.step with
  | none => true
  | some (true, n) => decide (10 ≤ n)
  | some (false, n) => decide (12 ≤ n)

/-- PRESET_SAMPLE (R251, R474): the sample of a whole millisecond of the device's own count. A value that eight samples in a row have read becomes the stable value, and a change of that is a selection. -/
def doPresetSample (s : State) (v : Nat) : State :=
  let at_ := s.now / 1000000 * 1000000
  if !s.isSender || s.cfg 1 Reg.SYS_PRESET_PIN_EN != 1 || !s.due actPins at_ at_ s.now then s
  else
    let s0 := s.perform actPins at_
    let run := if s.ctr.sample.1 = v ∧ 0 < s.ctr.sample.2 then min 8 (s.ctr.sample.2 + 1) else 1
    let s1 : State := { s0 with ctr := { s0.ctr with sample := (v, run) } }
    if run < 8 ∨ s.ctr.stable = some v then s1
    else
      let s2 := ({ s1 with ctr := { s1.ctr with stable := some v } } : State).wr Reg.SYS_PRESET_PINS v
      if s2.selecting then s2.selectPreset v true else s2

def execPresetSample (v : BitVec 6) (s : State) : Host.Outcome State Fault Refusal :=
  .next (s.whenAlive fun u => doPresetSample u v.toNat)

end Sys2Proof.Machine
end

