-- ==== Sys2Proof/Machine/Counter.lean ====
section
/-! DEFINITION. Transactions of the Counter port (R464 to R467, R472, R473, R481, R486 of spec/16_counter_port_events_and_dump.md), and the register reads that a Sender
makes in a Tile. -/

namespace Sys2Proof.Machine

/-- What a transaction returns on CTR_SDO. -/
def State.shiftOut (s : State) (bs : Bytes) : State := { s with ctr := { s.ctr with sdo := bs } }

/-- What READ, EVENT and DUMP return (R465): zeros during the D dummy bytes, of which CTR_CFG.DUMMY 0 acts as 1, then the bytes. -/
def State.afterDummy (s : State) (bs : Bytes) : State := s.shiftOut (zeros (max 1 (s.rd Reg.CTR_CFG_DUMMY)) ++ bs)

/-- A low word latches its high word for the Counter port (R466). -/
def State.latchPort (s : State) (a : Nat) : State :=
  match s.latched a with
  | some (h, v) => { s with ctr := { s.ctr with latchPort := Tab.put s.ctr.latchPort h v } }
  | none => s

/-- Reads words as R466 describes, rising from an address: RC fields stay, a word refused with an access error is 0. -/
def State.portRead (s : State) : Nat → Nat → State × Bytes × Bool
  | _, 0 => (s, [], false)
  | a, n + 1 =>
    let s1 := s.latchPort a
    let bad := a % 4 != 0
    let w := if bad then 0 else s1.readWord s1.ctr.latchPort a
    let (t, bs, err) := s1.portRead (a + 4) n
    (t, leBytes 4 w.toNat ++ bs, bad || err)

/-! ### Transactions -/

/-- ENVELOPE (R467): the bytes fill the buffer, and their check begins; ignored while an envelope is being checked, and in a hold boot. -/
def doEnvelope (s : State) (bs : Bytes) : State :=
  if !s.alive || s.onHold || s.flag Reg.CTR_STAT_ENV_BUSY then s
  else ({ s with ctr := { s.ctr with envelope := some bs, sdo := [] } } : State).wr Reg.CTR_STAT_ENV_BUSY 1

def execEnvelope (bs : Bytes) (s : State) : Host.Outcome State Fault Refusal :=
  .next (s.whenAlive fun u => doEnvelope u bs)

/-- Words that were not ready when their first bit was due are returned as 0 (R466). -/
def blankWords (bs : Bytes) (late : List Nat) : Bytes := bs.zipIdx.map fun x => if late.contains (x.2 / 4) then 0 else x.1

/-- READ (R465, R466): `n` words from ADDR, rising by 4 per word; `late` names the words that were not ready. -/
def doRead (s : State) (a n : Nat) (late : List Nat) : State :=
  if !s.alive then s
  else
    let s0 := (s.wr Reg.CTR_STAT_RD_ERR 0).wr Reg.CTR_STAT_UNDERRUN 0
    let (t, bs, err) := s0.portRead a n
    ((t.wrFlag Reg.CTR_STAT_RD_ERR err).wrFlag Reg.CTR_STAT_UNDERRUN (late.any fun i => i < n)).afterDummy (blankWords bs late)

def execRead (a : BitVec 32) (n : Nat) (late : List Nat) (s : State) : Host.Outcome State Fault Refusal :=
  .next (s.whenAlive fun u => doRead u a.toNat n late)

/-- STATUS (R465): CTR_STAT. -/
def doStatus (s : State) : State := if !s.alive then s else s.shiftOut (leBytes 4 (s.readWord s.ctr.latchPort RegAddr.CTR_STAT).toNat)

def execStatus (s : State) : Host.Outcome State Fault Refusal :=
  .next (s.whenAlive fun u => doStatus u)

/-- The entries of a ring from a number up, as bytes. -/
def entriesFrom {α : Type} (t : Tab α) (cur : Nat) (f : α → Bytes) : Bytes := (keepFrom t cur).flatMap fun e => f e.2

/-- EVENT (R465, R481): `n` bytes of the local or the remote log from the port's cursor, zeros past the index; the cursor advances by each whole entry.
While the logs are not served it returns zeros and advances nothing. -/
def doEvent (s : State) (remote : Bool) (n : Nat) : State :=
  if !s.alive || s.onHold then s
  else if !s.log.served then s.afterDummy (zeros n)
  else if remote then
    let t := s.catchUpRemote
    let cur := t.rd Reg.CTR_EVT_RCUR_CUR
    (t.afterDummy (padTo n (entriesFrom t.log.remote cur RemoteRec.bytes))).wr Reg.CTR_EVT_RCUR_CUR (cur + min (n / 32) (t.rd Reg.EVT_RLI_RLI - cur))
  else
    let t := s.catchUpPort
    let cur := t.rd Reg.CTR_EVT_CUR_CUR
    (t.afterDummy (padTo n (entriesFrom t.localRing cur EventRec.bytes))).wr Reg.CTR_EVT_CUR_CUR (cur + min (n / 16) (t.rd Reg.EVT_LI_LI - cur))

def execEvent (remote : Bool) (n : Nat) (s : State) : Host.Outcome State Fault Refusal :=
  .next (s.whenAlive fun u => doEvent u remote n)

/-- The dump that a transaction may read (R486): the DRAM dump from F3 until the cold start, the flash dump at any time. -/
def State.dumpThere (s : State) (flash : Bool) (o n : Nat) : Bool :=
  if flash then s.sys.directory && s.directoryRead.dump != 0 && decide (o + n ≤ 0x400000)
  else s.sys.fatal.isSome && decide (3 ≤ s.sys.dump) && s.rd Reg.DMC_STAT_STATE == 2 && decide (o + n ≤ 0x1000000)

/-- DUMP (R486): `n` bytes of the dump from OFFSET. Where no dump stands, the spec states no bytes, and they are free values. -/
def doDump (s : State) (flash : Bool) (o n : Nat) : State :=
  if !s.alive || s.onHold then s
  else if s.dumpThere flash o n then s.afterDummy (if flash then s.flashRead (s.directoryRead.dump + o) n else s.dramRead (dumpAt + o) n)
  else (s.afterDummy (leBytes n (s.free (8 * n)).toNat)).spend

def execDump (flash : Bool) (o : Word) (n : Nat) (s : State) : Host.Outcome State Fault Refusal :=
  .next (s.whenAlive fun u => doDump u flash o.toNat n)

/-! ### Remote reads -/

/-- CTR_RMT_STAT (R472). -/
def State.setRemote (s : State) (busy result count addr : Nat) : State :=
  (((s.wr Reg.CTR_RMT_STAT_BUSY busy).wr Reg.CTR_RMT_STAT_RESULT result).wr Reg.CTR_RMT_STAT_COUNT count).wr Reg.CTR_RMT_STAT_ADDR addr

/-- REMOTE (R472): one at a time; a bad COUNT or ADDR sends nothing. A device that is not a Sender, or stands after a fatal error, serves none (R473). -/
def doRemote (s : State) (addr reg count : Nat) : State :=
  if !s.alive || !s.isSender || s.sys.fatal.isSome || s.flag Reg.CTR_RMT_STAT_BUSY then s
  else if count = 0 ∨ 16 < count ∨ !s.ownTile addr then s.setRemote 0 3 0 (addr % 4096)
  else
    let id := s.ctr.nextId
    let t : State := { s with ctr := { s.ctr with remote := some ⟨id, addr, reg, count, s.now⟩, nextId := (id + 1) % 0x8000 } }
    (t.setRemote 1 0 0 addr).sendMgmt addr (readRequestBody count id reg)

def execRemote (addr : BitVec 16) (reg : Word) (count : BitVec 8) (s : State) : Host.Outcome State Fault Refusal :=
  .next (s.whenAlive fun u => doRemote u addr.toNat reg.toNat count.toNat)

/-- A response may come until 2 ms after the request was sent (R472). -/
def remoteNs : Nat := 2000000

/-- A response that answers the read in progress, in time, fills CTR_RMT_STAT and CTR_RMT_DATA (R472); one of a standby's query goes to it (R421). -/
def State.takeResponse (s : State) (p : Nat) (b : Bytes) : State :=
  let n := leAt b 1 1
  let id := leAt b 2 2
  if n = 0 ∨ 16 < n ∨ b.length ≠ 12 + 4 * n then s.badForm p
  else if 0x8000 ≤ id then s.queryAnswer id (leAt b 12 4)
  else match s.ctr.remote with
    | some r =>
      if r.id = id ∧ r.count = n ∧ r.addr = leAt b 4 2 % 4096 ∧ r.reg = leAt b 8 4 ∧ s.now < r.sentAt + remoteNs then
        let t := s.forAll (List.range n) fun u i => u.wr (Reg.CTR_RMT_DATA_VALUE i) (leAt b (12 + 4 * i) 4)
        ({ t with ctr := { t.ctr with remote := none } } : State).setRemote 0 (if leAt b 6 1 = 0 then 0 else 1) n r.addr
      else s
    | none => s

/-- REMOTE_RESPONSE (R472): a STATUS of form 0x04. -/
def doRemoteResponse (s : State) (p : Nat) (a : Arrival) : State :=
  s.onPacket p .status a fun t _ => if !t.isSender then t else t.onForm p statusForms a.pkt.body 4 fun u => u.takeResponse p a.pkt.body

def execRemoteResponse (p : Port) (a : Arrival) (s : State) : Host.Outcome State Fault Refusal :=
  .next (s.whenAlive fun u => doRemoteResponse u p a)

/-- REMOTE_TIMEOUT (R472): no response 2 ms after the request. -/
def doRemoteTimeout (s : State) : State :=
  match s.ctr.remote with
  | some r => if s.now < r.sentAt + remoteNs then s else ({ s with ctr := { s.ctr with remote := none } } : State).setRemote 0 2 0 r.addr
  | none => s

def execRemoteTimeout (s : State) : Host.Outcome State Fault Refusal :=
  .next (s.whenAlive fun u => doRemoteTimeout u)

/-- A Tile's answer to a register read (R472). -/
def State.answerRead (s : State) (p : Nat) (b : Bytes) : State :=
  let n := leAt b 1 1
  let reg := leAt b 4 4
  if n = 0 ∨ 16 < n ∨ b.length ≠ 8 then s.badForm p
  else
    let (t, words, err) := s.portRead reg n
    let body := leBytes 1 4 ++ leBytes 1 n ++ leBytes 2 (leAt b 2 2) ++ leBytes 2 (t.rd Reg.SYS_WALL_ADDR) ++ leBytes 1 err.toNat ++ zeros 1
      ++ leBytes 4 reg ++ words
    t.send p .status (t.destChain 1 p) body

/-- REGISTER_READ_REQUEST (R472): a Tile answers MGMT form 0x30 out of the port of arrival. -/
def doRegisterReadRequest (s : State) (p : Nat) (a : Arrival) : State :=
  s.onPacket p .mgmt a fun t _ => if !t.isTile then t else t.onForm p mgmtForms a.pkt.body 0x30 fun u => u.answerRead p a.pkt.body

def execRegisterReadRequest (p : Port) (a : Arrival) (s : State) : Host.Outcome State Fault Refusal :=
  .next (s.whenAlive fun u => doRegisterReadRequest u p a)

end Sys2Proof.Machine
end

