-- ==== Sys2Proof/Machine/Start.lean ====
section
/-! DEFINITION. The steps of a start (R48 to R55, R65 to R76, R438, R458, R460, R463, R515, R516 of spec/02_charter_image_and_start.md and
spec/15_trust_keys_and_update.md): what each step from C1 to C12 and from W1 to W10 does, and what ends it. -/

namespace Sys2Proof.Machine

/-! ### Moving through the steps -/

/-- The start goes on with step `n`. -/
def State.toStep (s : State) (warm : Bool) (n : Nat) : State := { s with sys := { s.sys with step := some (warm, n) } }

/-- The start ends (R72, R476): record 0x0004 with the value of SYS_START; without a role FAULT_N is low from then on. -/
def State.endStart (s : State) : State :=
  let t : State := { s with sys := { s.sys with step := none, digest := if s.role = 0 then none else some s.charter.digest } }
  (if t.role = 0 then t.faultPin else t).raise srcControl 0x0004 (t.wordAt RegAddr.SYS_START).toNat

/-! ### C2 and W2 -/

/-- Every port takes a SESSION (R218). -/
def State.setSession (s : State) (f : Nat → Nat) : State :=
  s.forAll [0, 1, 2, 3] fun t p => t.setPort p fun w => { w with tx := [0, 1].map fun d => (d, ((Tab.get w.tx d).1, f (Tab.get w.tx d).2)) }

/-- The trust core draws NONCE and SESSION at a cold start (R218, R450); a failed draw leaves the device without a role (R432). -/
def State.drawSession (s : State) : State :=
  if !s.canDraw then { s with sys := { s.sys with noSession := true } }
  else
    let n := (s.free 64).toNat
    let t := ((s.wr Reg.TRS_NONCE_LO_NONCE (n % 2 ^ 32)).wr Reg.TRS_NONCE_HI_NONCE (n / 2 ^ 32)).spend
    (t.setSession fun _ => (t.free 32).toNat).spend

/-- C2 ends (R66, R75): the fuses are read; a hold boot stops here. -/
def State.endC2 (s : State) : State :=
  let t := s.showOtp.drawSession
  if t.rd Reg.SYS_START_BOOT = 2 then t.endStart else (t.wr Reg.CHT_STATUS_STATE 1).toStep false 3

/-! ### C3 and W3 -/

/-- What the read of the directory finds (R48 to R50): 2 a silent flash, 1 a directory that is not accepted, 0 one that is. -/
def State.directoryError (s : State) (x : StartIn) : Nat := if x.silent then 2 else if !s.directoryOk then 1 else 0

/-- The flash is reset and its directory read in 1S-1S-1S (R48). -/
def State.flashReset (s : State) : State :=
  ({ s with nvm := { s.nvm with octal := false } } : State).nvmDo [.reset, .read false 0x13 0 25 0 120]

/-- The directory that has been accepted is used (R50): each ENTRY element after a write enable, then the Charter header in 8D-8D-8D; where that read fails
the flash is reset and the rest of the start is read in 1S-1S-1S. -/
def State.enterOctal (s : State) (slow : Bool) : State :=
  let d := s.directoryRead
  let t := s.nvmDo (d.entries.flatMap fun e => [.writeEnable false, .entry e.cmd e.addr e.data])
  let u := ({ t with nvm := { t.nvm with octal := true, cmd := d.readCmd, dummy := d.dummy, mhz := d.freq } } : State).nvmRead d.charter 32
  (if slow then ({ u with nvm := { u.nvm with octal := false } } : State).nvmDo [.reset] else u).wrFlag Reg.CHT_STATUS_SLOW slow

/-- No image is accepted: record 0xC006 with CHT_STATUS (R76). -/
def State.noImage (s : State) : State :=
  let t := s.wr Reg.CHT_STATUS_STATE 5
  t.raise srcControl 0xC006 (t.wordAt RegAddr.CHT_STATUS).toNat

/-- The flash gives no image: its directory is rejected, or it does not answer (R76): ERR says which, and the device holds no role. -/
def State.noFlash (s : State) (e : Nat) : State := ((s.wr Reg.CHT_STATUS_ERR e).wr Reg.CHT_STATUS_RECORD 0xFFFF).noImage

/-- C3 ends: a directory that is rejected, or a silent flash, leaves the device without a role (R76). -/
def State.endC3 (s : State) (x : StartIn) : State :=
  let e := s.directoryError x
  let t := (({ s.flashReset with sys := { s.sys with directory := e == 0 } } : State)).toStep false 4
  if e = 0 then (t.enterOctal x.slow).wr Reg.CHT_STATUS_STATE 2 else t.noFlash e

/-! ### C4 and W4 -/

/-- The new owner key hash that a trial admits (R437). -/
def State.trialKey (s : State) : Option (BitVec 256) :=
  if s.ptr.journal.state = 6 ∧ s.ptr.journal.newOwner ≠ 0 then some s.ptr.journal.newOwner else none

/-- What the device keeps of an image that it accepts from an area (R14, R52, R55). -/
def State.takeImage (s : State) (img : Bytes) (slot : Nat) : State :=
  let rs := (imageRecords img s.imageMax).getD []
  let t := ({ s with charter := charterOf img rs } : State).takeRole (payloadOf rs 1)
  ((t.roleBuilt []).wr Reg.CHT_STATUS_SLOT slot).wr Reg.CHT_STATUS_STATE 4

/-- The failure of the Charter area's image (R55). -/
def State.noteFault (s : State) (f : Nat × Nat) : State := (s.wr Reg.CHT_STATUS_ERR f.1).wr Reg.CHT_STATUS_RECORD f.2

/-- The loader (R55, R76): the Charter area first, then the Rescue area. -/
def State.loadImage (s : State) : State :=
  let d := s.directoryRead
  let a := s.areaBytes d.charter
  match (s.nvmRead d.charter a.length).checkImage a s.imageMax s.trialKey with
  | (s1, none) => s1.takeImage a 1
  | (s1, some f) =>
    let b := s1.areaBytes d.rescue
    let t := (s1.noteFault f).nvmRead d.rescue b.length
    match t.checkImage b t.imageMax t.trialKey with
    | (t1, none) =>
      let u := t1.takeImage b 2
      u.raise srcControl 0x8105 (u.wordAt RegAddr.CHT_STATUS).toNat
    | (t1, some _) => t1.noImage

/-- The first claim (R438): an unclaimed device that starts normally and has accepted the Charter area's image. -/
def State.firstClaim (s : State) : State :=
  if s.claimed || s.rd Reg.CHT_STATUS_SLOT != 1 || s.rd Reg.SYS_START_BOOT != 0 then s
  else
    let img := s.areaBytes s.directoryRead.charter
    let h := be256 (payloadOf ((imageRecords img s.imageMax).getD []) 0xFF) 0
    (((s.writeSlot 0 h).otpSet 170 [1]).showOtp).raise srcTrust 0x5201 0

/-- The registers of Porter show what the journal holds (R457). -/
def State.showJournal (s : State) : State :=
  (((s.porterState s.ptr.journal.state).porterResult s.ptr.journal.result).wr Reg.CHT_XFER_TRANSFER s.ptr.journal.transfer).showTrial

/-- A start that finds an unfinished journal state (R458, R460): a trial counts another use and runs; a copy is made again. A warm start goes on with
the trial that runs. -/
def State.resumeJournal (s : State) (warm : Bool) : State :=
  let j := s.ptr.journal
  let slot := s.rd Reg.CHT_STATUS_SLOT
  match j.state with
  | 4 => if slot = 1 then ((s.setOp .recopy).showJournal).eraseImage s.directoryRead.rescue else s.showJournal
  | 5 => if slot = 2 then s.showJournal.beginRestore (.restore 10 false) else s.showJournal
  | 7 => if slot = 0 then s.showJournal else s.showJournal.beginRestore (.restore 9 false)
  | 6 =>
    let t := if warm then s else s.setJournal fun x => { x with used := x.used + 1 }
    ({ t with ptr := { t.ptr with onTrial := slot == 1 } } : State).showJournal
  | _ => s.showJournal

/-- The last trial has failed (R458): Porter restores the Rescue image and starts the device cold. -/
def State.restoreNow (s : State) : State :=
  let t := ((s.beginRestore (.restore 9 true)).copyBack []).journalIdle 9
  (t.raise srcControl 0x8102 s.ptr.journal.transfer).coldBegin 5 0

/-- The device accepts no image at all in this start: it has no directory, a boot strap says so, or SESSION could not be drawn (R75, R76, R432). -/
def State.noLoader (s : State) : Bool := !s.sys.directory || s.rd Reg.SYS_START_BOOT != 0 || s.sys.noSession

/-- C4 ends; a flash that falls silent in it leaves the device without a role (R76). -/
def State.endC4 (s : State) (x : StartIn) : State :=
  if s.noLoader then (s.wr Reg.CHT_STATUS_STATE 5).toStep false 5
  else if x.silent then (s.noFlash 2).toStep false 5
  else if s.ptr.journal.state = 6 ∧ s.ptr.journal.trials ≤ s.ptr.journal.used then s.restoreNow
  else
    let t := s.loadImage
    ((if t.role = 0 then t else t.firstClaim).resumeJournal false).toStep false 5

/-- W3 ends: in a cold start when the directory is rejected or the flash is silent (R69). -/
def State.endW3 (s : State) (x : StartIn) : State :=
  if s.directoryError x ≠ 0 then s.flashReset.coldBegin 3 4
  else ((({ s.flashReset with sys := { s.sys with directory := true } } : State).enterOctal x.slow).wr Reg.CHT_STATUS_STATE 2).toStep true 4

/-- W4 ends: in a cold start when the flash is silent, or the Charter area's image or its digest is not as the last cold start had it (R69). -/
def State.endW4 (s : State) (x : StartIn) : State :=
  if x.silent then s.coldBegin 3 4
  else
    let img := s.areaBytes s.directoryRead.charter
    match (s.nvmRead s.directoryRead.charter img.length).checkImage img s.imageMax s.trialKey with
    | (t, none) =>
      if some (Config.sha256 (img.take (imageLength img))) ≠ t.sys.digest then t.coldBegin 3 4
      else (((t.wr Reg.CHT_STATUS_SLOT 1).wr Reg.CHT_STATUS_STATE 4).resumeJournal true).toStep true 5
    | (t, some _) => t.coldBegin 3 4

/-! ### C5 and W5 -/

/-- SYS_DUMP_STAT shows the header of the flash dump (R486). -/
def State.showDump (s : State) : State :=
  let o := s.directoryRead.dump
  let h := s.flashRead o 4096
  let there := s.sys.directory && o != 0
  let ok := there && (leAt h 0 4 == 0x5044434F) && (crc32c (h.take 4092) == leAt h 4092 4)
  ((s.onlyIf there fun t => t.nvmRead o 4096).wrFlag Reg.SYS_DUMP_STAT_FLASH_VALID ok).wr Reg.SYS_DUMP_STAT_CAUSE (if ok then leAt h 6 1 else 0)

/-- A Sender that will hold the Spindle without house sync is FREE (R266). -/
def State.freeRunning (s : State) : State :=
  if s.isSender && s.rd Reg.WHL_CFG_SYNC == 0 && (!s.flag Reg.SYS_ROLE_PROTECTED || s.rd Reg.SYS_ROLE_RANK == 0 || s.spn.resume) then s.setLock 0 else s

/-- Firmware starts (R66, R67, R515): DEFAULTS go to the pending copies, RATE places the boundaries, and the watchdog runs. -/
def State.startFirmware (s : State) : State :=
  let t := s.showDump
  if t.role = 0 then t
  else
    let u := t.forAll t.charter.defaults fun v r => v.writeAll r.2
    let rate := u.rd Reg.WHL_CFG_RATE
    (({ u with
      whl := { u.whl with rate := if rate = 0 then u.whl.rate else rate }
      spn := { u.spn with wdogAt := u.now } } : State).freeRunning).showSource

/-! ### C6 to C8, W6 and W7 -/

/-- The device holds no role (R15, R76): SYS_ROLE reads 0. -/
def State.dropRole (s : State) : State := ({ s with regs := Tab.put s.regs RegAddr.SYS_ROLE 0 } : State).roleBuilt [0, 1]

/-- The die temperature of a start rule: the thermal-sense reading plus TS_OFF of the record in force (R336). -/
def State.startTemp (s : State) (x : StartIn) : Int := signedOf 16 x.temp.toNat + s.tsOff

/-- C6 ends (R76, R369, R373): a channel that fails twice, as one with more than one dead wire does, leaves the device without a role; otherwise DRAM enters service, with its dead wires and the
training temperature. A device without a role ends its start here. -/
def State.endC6 (s : State) (x : StartIn) : State :=
  let twice := (x.wires.find? fun w => 2 ≤ ((x.wires.filter fun v => v.1 == w.1).map fun v => v.2).dedup.length).map fun w => w.1
  let t := match x.untrained.or twice with
    | some c => ((s.raise srcMemory 0xCE04 c.val).wr Reg.DMC_STAT_STATE 4).dropRole
    | none =>
      let u := s.forAll x.wires fun v w =>
        ((v.wr (Reg.DMC_CH_STAT_DEAD_WIRE w.1.val) w.2.toNat).wrBit Reg.DMC_STAT_DEAD w.1.val true).raise srcMemory 0x8E03 w.1.val
      ((u.wr Reg.DMC_TRAIN_TEMP (unsignedOf 16 (s.startTemp x))).wr Reg.DMC_STAT_STATE 2).logToDram
  if t.role = 0 then t.endStart else t.toStep false 7

/-- A Ledger bank is valid (R463): the bytes of its image. -/
def State.ledgerImage (s : State) (b : Nat) : Option Bytes :=
  let o := s.directoryRead.ledger b
  let h := s.flashRead o 32
  let n := leAt h 8 4
  let sets := leAt h 6 2
  if leAt h 0 4 ≠ 0x474C434F ∨ leAt h 4 2 ≠ 1 ∨ s.ledgerLimit < n ∨ n ≠ 128 + 16 * sets * leAt h 16 2 * leAt h 18 2 ∨ sets = 0 ∨ 4 < sets then none
  else if leAt h 20 4 ≠ s.serial ∨ leAt h 16 2 ≠ s.storeW ∨ leAt h 18 2 ≠ s.storeH ∨ sets < s.cfg 3 Reg.LMP_CFG_NSM1 + 1 then none
  else
    let img := s.flashRead o n
    if s.ownerHash = some (be256 img (n - 96))
        ∧ (s.checkNamed (be256 img (n - 96)) (img.take (n - 96)) (be256 img (n - 64)) (be256 img (n - 32))).2 then some img
    else none

/-- The sets of a Ledger image go to the correction tables (R288, R463). -/
def State.loadLedger (s : State) (img : Bytes) : State :=
  let size := 16 * leAt img 16 2 * leAt img 18 2
  s.forAll (List.range (leAt img 6 2)) fun t k => t.dramWrite (s.cfg 3 Reg.LMP_TABLE_BASE * 65536 + k * 8388608) (slice img (32 + k * size) size)

/-- Both Ledger banks are read: their headers, and the images as long as LENGTH says, at most a bank (R463). -/
def State.readLedgers (s : State) : State :=
  s.forAll (if s.sys.directory then [0, 1] else []) fun t b =>
    let o := s.directoryRead.ledger b
    (t.nvmRead o 32).nvmRead o (min (leAt (s.flashRead o 32) 8 4) s.directoryRead.ledgerMax)

/-- The Ledger check (R463, R76): the valid bank with the higher LSEQ, bank 0 on a tie; with none, identity correction. -/
def State.checkLedger (s : State) : State :=
  let take (b : Nat) (img : Bytes) : State := (s.readLedgers.loadLedger img).wr Reg.SYS_START_LEDGER_BANK b
  match (if s.sys.directory then s.ledgerImage 0 else none), (if s.sys.directory then s.ledgerImage 1 else none) with
  | some a, some b => if leAt a 12 4 < leAt b 12 4 then take 1 b else take 0 a
  | some a, none => take 0 a
  | none, some b => take 1 b
  | none, none => (s.readLedgers.wr Reg.SYS_START_LEDGER_NONE 1).raise srcControl 0x8104 0

/-- C7 ends (R277, R293 to R297, R323, R349, R463). -/
def State.endC7 (s : State) (x : StartIn) : State :=
  let t := if s.isTile then
      (((s.clearStore.checkLedger).scanSensors x.sensors).settleZones).forAll (List.range 8) State.resetLamps
    else s
  t.loadAssay.toStep false 8

/-- The pixels of a SURFACE record, by row (R52). -/
def StillImage.rows (x : StillImage) : List (List Pixel) :=
  (List.range x.height).map fun r => (List.range x.width).map fun c => leAt x.pixels (5 * (r * x.width + c)) 5 % 2 ^ 36

/-- Encodes the bales of a still surface, packed: the number of sectors used so far goes along (R98). -/
def State.encodeBales (s : State) (x : StillImage) : List Nat → Nat → State
  | [], _ => s
  | i :: rest, sector =>
    let ps := balePixels x.rows x.width x.height (i % balesAcross x.width) (i / balesAcross x.width)
    (s.storeBale x.id i sector ps true).encodeBales x rest (sector + (encodeBale ps).sectors)

/-- Sectors that a still surface takes. -/
def StillImage.sectors (x : StillImage) : Nat :=
  ((List.range (balesAcross x.width * balesDown x.height)).map fun i =>
    (encodeBale (balePixels x.rows x.width x.height (i % balesAcross x.width) (i / balesAcross x.width))).sectors).sum

/-- Encodes one still surface at an address; the address after its bales, its bale table and its change bitmap goes along (R357). -/
def State.encodeStill (s : State) (x : StillImage) (at_ : Nat) : State × Nat :=
  let n := balesAcross x.width * balesDown x.height
  let table := at_ + 64 * x.sectors
  let t : State := { s with intake := { s.intake with surfaces := Tab.put s.intake.surfaces x.id ⟨2, x.width, x.height, at_, table, 0, s.now⟩ } }
  (t.encodeBales x (List.range n) 0, (table + 16 * n + (n + 7) / 8 + 63) / 64 * 64)

/-- SURFACE records are encoded into the surface store from W1 BASE + 2,432 MiB (R357). -/
def State.encodeStills (s : State) : State :=
  (s.charter.surfaces.foldl (fun x r => x.1.encodeStill r x.2) (s, 0x10000000 + 2432 * 1048576)).1

/-- The start of C9 and W8 (R516): G12 and G14 are armed, and every port passes its commit point at once. -/
def State.armPorts (s : State) : State :=
  let t := (s.armGroup 12).armGroup 14
  (t.forAll (t.groupPorts 12) fun u p => u.commitPort 12 p).forAll (t.groupPorts 14) fun u p => u.commitPort 14 p

/-- C8 ends, and C9 begins. -/
def State.endC8 (s : State) : State := ((if s.isSender then s.encodeStills else s).toStep false 9).armPorts

/-- W6 ends (R69; of several conditions at once the first one tested is recorded, log entry 119): a die that is more than 25 °C from its training temperature turns the start cold; otherwise DRAM is in service again. -/
def State.endW6 (s : State) (x : StartIn) : State :=
  let d := s.startTemp x - s.rdInt Reg.DMC_TRAIN_TEMP
  if x.overran then s.coldBegin 3 32
  else if d < -400 ∨ 400 < d then s.coldBegin 3 8
  else s.leaveSelfRefresh.toStep true 7

/-- W7 ends (R69, R481). Of several conditions of R69 that hold at one step the model records the one it tests first (DESIGN CHOICE, log entry 119): the retained state is checked, the log is refilled, and W8 begins. -/
def State.endW7 (s : State) (x : StartIn) : State :=
  if x.recordBad then s.coldBegin 3 1
  else if x.scanBad then s.coldBegin 3 16
  else if x.overran then s.coldBegin 3 32
  else (s.logRefill.toStep true 8).armPorts

/-! ### C9 to C12, W8 to W10 -/

/-- C10 begins (R441): an unprotected Sender, and one of rank 0 that has heard no holder, draws a wall key. -/
def State.beginC10 (s : State) : State :=
  let t := s.toStep false 10
  if s.isSender && (!s.flag Reg.SYS_ROLE_PROTECTED || (s.rd Reg.SYS_ROLE_RANK == 0 && !s.spn.holderHeard)) then t.drawWallKey else t

/-- C11 ends (R266, R271): a Sender that has seen an edge tracks, one that has seen none is FREE. -/
def State.endLock (s : State) : State :=
  if s.isSender && s.rd Reg.WHL_STAT_STATE == 1 then (if s.whl.edgeSeen then s.enterTrack (some (s.rdInt Reg.WHL_ERR_PHASE)) else s.setLock 0) else s

/-- The selection of a start (R470, R474): the stable value of the pins, or INITIAL. CTR_CMD keeps what the Counter port's commands left. -/
def State.startPreset (s : State) : State :=
  if !s.isSender then s
  else if s.rd Reg.SYS_PRESET_PIN_EN = 1 then s.selectPreset (s.rd Reg.SYS_PRESET_PINS) true
  else (s.selectPreset (s.rd Reg.SYS_PRESET_INITIAL) false).wr Reg.CTR_CMD_RESULT (s.rd Reg.CTR_CMD_RESULT)

/-- The last step begins (R66, R404): all groups other than G12 and G14 are armed. -/
def State.armRest (s : State) : State := s.startPreset.armMask 0xAFFF

/-- C11 ends, and C12 begins: every slice has run its quick self-test before the first pass (R143). A Tile is in TRACK or LOCKED by then (R271): one that
has not had its first TIME exchange goes on waiting (log entry 98). -/
def State.endC11 (s : State) (x : StartIn) : State :=
  if s.isTile && s.rd Reg.WHL_STAT_STATE < 2 then s
  else
  let t := (s.endLock.quickTest x.testFail).toStep false 12
  (if t.isSender then t.claimSpindle else t).armRest

/-- W9 ends (R69, R271): a Sender tracks; a Tile whose first offset was not within 1 ms starts cold. -/
def State.endW9 (s : State) (x : StartIn) : State :=
  if x.overran ∨ (s.isTile ∧ s.rd Reg.WHL_STAT_STATE = 1) then s.coldBegin 3 32
  else
    let t := ((if s.isSender && s.rd Reg.WHL_STAT_STATE == 1 then s.enterTrack (some (s.rdInt Reg.WHL_ERR_PHASE)) else s).quickTest x.testFail).toStep true 10
    (if t.spn.resume then (t.wr Reg.SPN_STAT_STATE 1).showSource else t).armRest

/-- The last step ends with first light (R66, R67). -/
def State.endLast (s : State) : State := if s.sys.firstLight then s.endStart else s

/-! ### Commands -/

/-- The end of a step of a cold start. -/
def State.endCold (s : State) (n : Nat) (x : StartIn) : State :=
  match n with
  | 1 => (s.wr Reg.SYS_START_BOOT x.boot.toNat).toStep false 2
  | 2 => s.endC2
  | 3 => s.endC3 x
  | 4 => s.endC4 x
  | 5 => s.startFirmware.toStep false 6
  | 6 => s.endC6 x
  | 7 => s.endC7 x
  | 8 => s.endC8
  | 9 => s.beginC10
  | 10 => s.toStep false 11
  | 11 => s.endC11 x
  | _ => s.endLast

/-- W8 goes on until every port that fast-retrains has entered service or failed its fast retrain (R517). -/
def State.fastPending (s : State) : Bool :=
  [0, 1, 2, 3].any fun p => (s.port p).fast && [3, 4, 5].contains (s.rd (Reg.WFT_PORT_STAT_STATE p))

/-- The end of a step of a warm start. -/
def State.endWarm (s : State) (n : Nat) (x : StartIn) : State :=
  match n with
  | 1 => if x.unconfirmed then s.coldBegin 3 2 else (s.wr (Reg.SRB_PWR_STATE 1) 2).toStep true 2
  | 2 => ((if s.canDraw then s.showOtp else s.showOtp.setSession fun n => (n + 1) % 2 ^ 32).wr Reg.CHT_STATUS_STATE 1).toStep true 3
  | 3 => s.endW3 x
  | 4 => s.endW4 x
  | 5 => (let t := s.startFirmware; if t.isTile then t.markBehind else t).toStep true 6
  | 6 => s.endW6 x
  | 7 => s.endW7 x
  | 8 => if x.overran then s.coldBegin 3 32 else if s.fastPending then s else s.toStep true 9
  | 9 => s.endW9 x
  | _ => s.endLast

/-- START_STEP_END (R66, R67): the step of the start under way ends, and the next begins. A fatal error has ended the start (R483). -/
def doStartStepEnd (s : State) (x : StartIn) : State :=
  if !s.alive || s.sys.fatal.isSome then s
  else match s.sys.step with
    | some (false, n) => s.endCold n x
    | some (true, n) => s.endWarm n x
    | none => s

def execStartStepEnd (x : StartIn) (s : State) : Host.Outcome State Fault Refusal :=
  .next (s.whenAlive fun u => doStartStepEnd u x)

/-- The armed groups pass their commit points, on time. -/
def State.commitArmed (s : State) : State :=
  s.forAll ((List.range 16).filter s.armed) fun t g => if t.armed g ∧ g ≠ 12 ∧ g ≠ 14 then (t.commitGroup g false).releaseHeld else t

/-- First light (R66, R70): the Sender's first composition pass; a Tile's first feed and the swap of every enabled group. -/
def State.showFirst (s : State) : State :=
  if s.sys.firstLight then s
  else if s.isSender then (s.perform actPass (s.lastBoundaryAt s.frameNow)).beginPass (s.lastBoundaryAt s.frameNow)
  else
    let S := nextBoundary s.whl.rate s.now
    ((s.perform actFeed S).feedFrame S []).forAll (List.range 8) fun t n => if t.groupOn n then (t.perform (actSwap n) S).swapBank n else t

/-- The steps of one kind of start, one after another, `n` of them at most; in the last one the groups commit and first light comes. -/
def State.runSteps (s : State) (warm : Bool) (x : StartIn) : Nat → State
  | 0 => s
  | n + 1 =>
    match s.sys.step with
    | some (w, k) =>
      if w ≠ warm then s
      else
        let t := if k = (if warm then 10 else 12) then s.commitArmed.showFirst else s
        (doStartStepEnd t x).runSteps warm x n
    | none => s

/-- COLD_START (R66): the cold start under way runs to its end. -/
def doColdStart (s : State) (x : StartIn) : State := s.runSteps false x 12

def execColdStart (x : StartIn) (s : State) : Host.Outcome State Fault Refusal :=
  .next (s.whenAlive fun u => doColdStart u x)

/-- WARM_START (R67, R69): the warm start under way runs to its end, or turns cold. -/
def doWarmStart (s : State) (x : StartIn) : State := s.runSteps true x 10

def execWarmStart (x : StartIn) (s : State) : Host.Outcome State Fault Refusal :=
  .next (s.whenAlive fun u => doWarmStart u x)

/-! ### Boundary scan -/

/-- Codes that the boundary-scan port supports in every state of LOCK (R508). -/
def scanDescribed (code : Nat) : Bool := [0xFF, 0x02, 0x00, 0x01].contains code

/-- BOUNDARY_SCAN_INSTRUCTION (R438, R508): the instruction register takes the code. BYPASS, SAMPLE/PRELOAD, EXTEST and IDCODE are there in every state
of LOCK; any other code acts as BYPASS while LOCK[0] is set, and is not described otherwise. -/
def execBoundaryScanInstruction (code : BitVec 8) (s : State) : Host.Outcome State Fault Refusal :=
  if scanDescribed code.toNat || s.debugLocked then .next { s with sys := { s.sys with scan := code } } else .refused .undocumentedScanCode

end Sys2Proof.Machine
end

