-- ==== Sys2Proof/Machine/Trust.lean ====
section
/-! DEFINITION. Enrolment and the wall key (R441 to R448, R518 of spec/15_trust_keys_and_update.md), and the TRNG's health (R432). -/

namespace Sys2Proof.Machine

/-- TRNG_FAIL (R432): the flag stands until the next start. -/
def doTrngFail (s : State) : State := (s.wr Reg.TRS_STAT_TRNG_FAIL 1).raise srcTrust 0xD202 0

def execTrngFail (s : State) : Host.Outcome State Fault Refusal :=
  .next (s.whenAlive fun u => doTrngFail u)

/-! ### Bodies (R443) -/

/-- The first eight bytes of every ENROL BODY: STAGE and WALL_ID. -/
def stageHead (stage wallId : Nat) : Bytes := leBytes 1 stage ++ zeros 3 ++ leBytes 4 wallId

/-- ID_PUB, SERIAL, CERT_KEY and CERT, as stages 1 and 2 carry them. -/
def State.identity (s : State) : Bytes := s.idPub ++ leBytes 4 s.serial ++ leBytes 1 s.certKey ++ zeros 3 ++ s.ownCert

/-- Stage 1 up to SIG. -/
def State.helloFields (s : State) (wallId : Nat) (ns : BitVec 128) (es : Bytes) : Bytes :=
  stageHead 1 wallId ++ beBytes 32 (s.ownerHash.getD 0).toNat ++ beBytes 16 ns.toNat ++ es ++ s.identity

/-- Stage 2 up to SIG. -/
def State.keyFields (s : State) (wallId : Nat) (nt : BitVec 128) (et : Bytes) : Bytes :=
  stageHead 2 wallId ++ beBytes 16 nt.toNat ++ et ++ s.identity

/-- CERT verifies under a vendor key that is not revoked: the fields of `identity` stand at offset `o` (R445, first test). -/
def State.certOk (s : State) (body : Bytes) (o : Nat) : Bool :=
  let k := leAt body (o + 68) 1
  s.vendorUsable k && Config.ecdsaVerify (Config.vendorKey k) (slice body o 68) (be256 body (o + 72)) (be256 body (o + 104))

/-- SIG verifies under ID_PUB (R445, second test). -/
def sigOk (pub msg body : Bytes) (o : Nat) : Bool := Config.ecdsaVerify pub msg (be256 body o) (be256 body (o + 32))

/-- What the tests of stage 1 find (R445): 0 good, 1 certificate, 2 signature, 3 owner. An unclaimed answerer takes any OWNER. -/
def State.helloReason (s : State) (hello : Bytes) : Nat :=
  if !s.certOk hello 120 then 1
  else if !sigOk (slice hello 120 64) (hello.take 256) hello 256 then 2
  else match s.ownerHash with
    | none => 0
    | some h => if be256 hello 8 = h then 0 else 3

/-- What the tests of stage 2 find (R445). -/
def State.keyReason (s : State) (hello key : Bytes) : Nat :=
  if !s.certOk key 88 then 1 else if !sigOk (slice key 88 64) (hello ++ key.take 224) key 224 then 2 else 0

/-- The ASCII string of the key derivation (R446). -/
def wallKeyInfo : Bytes := ("OCU7720 wall key".toList.map fun c => BitVec.ofNat 8 c.toNat)

/-- The 44 bytes that both ends derive (R446): salt NS and NT, the shared secret, and the answerer's wall address with WALL_ID. -/
def wallKdf (hello key : Bytes) (z : BitVec 256) (addr wallId : Nat) : Bytes :=
  Config.hkdf (slice hello 40 16 ++ slice key 8 16) (beBytes 32 z.toNat) (wallKeyInfo ++ leBytes 2 addr ++ leBytes 4 wallId) 44

/-- The key-encryption key and the IV of derived bytes (R446). -/
def kekOf (d : Bytes) : BitVec 256 := be256 d 0
def kekIv (d : Bytes) : Bytes := slice d 32 12

/-- The digest of stages 1 and 2 (R446, log entry 25). -/
def stagesDigest (hello key : Bytes) : Bytes := beBytes 32 (Config.sha256 (hello ++ key)).toNat

/-- Adds the key stream of AES-256-GCM to bytes (R446). -/
def gcmXor (key : BitVec 256) (iv bs : Bytes) : Bytes := bs.zipWith (· ^^^ ·) (Config.gcmStream key iv bs.length)

/-- The wrapped wall key: CT and TAG (R443, R446). -/
def wrapKey (d : Bytes) (wall : BitVec 256) (aad : Bytes) : Bytes :=
  let ct := gcmXor (kekOf d) (kekIv d) (beBytes 32 wall.toNat)
  ct ++ beBytes 16 (Config.gcmTag (kekOf d) (kekIv d) aad ct).toNat

/-- Unwraps CT and TAG; none where TAG is wrong. -/
def unwrapKey (d ct : Bytes) (tag : BitVec 128) (aad : Bytes) : Option (BitVec 256) :=
  if Config.gcmTag (kekOf d) (kekIv d) aad ct = tag then some (be256 (gcmXor (kekOf d) (kekIv d) ct) 0) else none

/-- CONF of stage 4 (R443). -/
def confOf (wall : BitVec 256) (hello key : Bytes) : BitVec 128 := Config.gcmTag wall (zeros 12) (stagesDigest hello key) []

/-! ### The Sender that offers -/

/-- A Sender that offers (R441, R444): the holder, and from step C10 to first light the Sender that is to claim the Spindle. -/
def State.offering (s : State) : Bool :=
  s.isSender && (s.holdsSpindle || ((match s.sys.step with
    | some (false, k) => decide (10 ≤ k)
    | _ => false) && !s.sys.firstLight && (!s.flag Reg.SYS_ROLE_PROTECTED || (s.rd Reg.SYS_ROLE_RANK == 0 && !s.spn.holderHeard))))

/-- Positions of a chain with an enabled entry in the map in force (R444, R515). -/
def State.mapTiles (s : State) (c : Nat) : List Nat := positions.filter fun p => s.cfg 1 (Reg.DMG_TILE_SIZE_ENABLE c p) == 1

/-- Some enabled Tile, or the partner, has yet to enrol with this Sender (R444). -/
def State.unenrolled (s : State) : Bool :=
  ([0, 1, 2, 3].any fun c => (s.mapTiles c).any fun p => !s.trs.enrolled.contains (tileKey c p))
    || (s.flag Reg.SYS_ROLE_PROTECTED && !s.trs.partner)

/-- The group and chain of a port of a Sender, as ADDR has them. -/
def State.portAddr (s : State) (p : Nat) : Nat := s.rd Reg.SYS_ROLE_GROUP * 256 + p * 64

/-- An exchange that was dropped under R445 or R518: it counts, and a record tells why. -/
def State.enrolFailed (s : State) (reason : Nat) : State :=
  ((s.bump Reg.TRS_ENROL_FAIL).wr Reg.TRS_ENROL_LAST_REASON reason).raise srcTrust 0x5204 reason

/-- Forms and sends a stage 1 offer (R443, R444). -/
def State.offer (s : State) (p : Nat) : State :=
  let form := if s.rd Reg.SYS_ROLE_RANK = 0 then 1 else 3
  let ns := s.free 128
  let s1 := s.spend
  let eph := s1.free 256
  let f := s.helloFields (s.rd Reg.TRS_WALL_ID_WALL_ID) ns (Config.ecdhPublic eph)
  let (s2, sg) := s1.spend.sign f
  let s3 := s2.send p .enrol (enrolDest (s.portAddr p)) (enrolBody form 0 (s.portAddr p) (f ++ sg))
  { s3 with trs := { s3.trs with
    offers := Tab.put s3.trs.offers p ⟨1, s.now, form, f ++ sg, eph, [], 0⟩, offeredAt := Tab.put s3.trs.offeredAt p s.now } }

/-- An offer on a port is due (R444): its exchange has ended, or 100 ms have passed since the offer before. -/
def State.offerDue (s : State) (p : Nat) : Bool :=
  match Tab.find s.trs.offeredAt p with
  | some t => decide (t + 100000000 ≤ s.now)
  | none => true

/-- ENROL_OFFER (R432, R441, R444): on an active port on which no exchange is half done, when the next offer is due. -/
def doEnrolOffer (s : State) (p : Nat) : State :=
  let busy := (Tab.find s.trs.offers p).any fun x => x.stage != 1
  if !s.offering || !s.unenrolled || !s.canSend p || busy || !s.canDraw || !s.offerDue p then s else s.needWallKey.offer p

def execEnrolOffer (p : Port) (s : State) : Host.Outcome State Fault Refusal :=
  .next (s.whenAlive fun u => doEnrolOffer u p)

/-! ### Relays and the answerer -/

/-- The device is enrolled under the WALL_ID that an ENROL BODY names (R444). -/
def State.sameWall (s : State) (body : Bytes) : Bool := s.trs.wallKey.isSome && s.rd Reg.TRS_WALL_ID_WALL_ID == leAt body 12 4

/-- A Tile relays an ENROL body out of its other port (R231, R444). -/
def State.relay (s : State) (p : Nat) (body : Bytes) : State :=
  if s.isTile ∧ p < 2 then s.send (1 - p) .enrol (enrolDest (leAt body 2 2 / 64 % 64 * 64)) body else s

/-- An offer relayed with HOPS + 1, which may not exceed 63 (R231). -/
def State.relayOffer (s : State) (p : Nat) (body : Bytes) : State :=
  if leAt body 1 1 + 1 ≤ 63 then s.relay p (body.take 1 ++ leBytes 1 (leAt body 1 1 + 1) ++ body.drop 2) else s

/-- The device answers an offer that arrives on a port (R231, R444): a Sender that does not offer any, a Tile one of form 0x01 on port A or of form 0x03
on port B with HOPS below 63. -/
def State.answers (s : State) (p : Nat) (body : Bytes) : Bool :=
  let form := leAt body 0 1
  if s.isSender then !s.offering
  else s.isTile && ((form == 1 && p == 0) || (form == 3 && p == 1)) && decide (leAt body 1 1 < 63)

/-- Forms the stage 2 answer to a stage 1 offer, and sends it, waking the direction where it is Dormant (R442, R443). -/
def State.answer (s : State) (p : Nat) (body : Bytes) : State :=
  let hello := body.drop 8
  let nt := s.free 128
  let s1 := s.spend
  let eph := s1.free 256
  let f := s.keyFields (leAt body 12 4) nt (Config.ecdhPublic eph)
  let sg := Config.ecdsaSign s.idPriv (hello ++ f) (s1.spend.free 256).toNat
  let key := f ++ beBytes 32 sg.1.toNat ++ beBytes 32 sg.2.toNat
  let s2 := s1.spend.spend
  let woke := !s.canSend p
  let s3 := { s2 with trs := { s2.trs with
    answers := Tab.put s2.trs.answers p
      ⟨s.now, leAt body 0 1, leAt body 1 1, leAt body 2 2 / 64 % 64 * 64, hello, key, eph, false, woke⟩ } }
  if woke then doTransmitWake s3 p else s3.sendAnswer p

/-- ENROL_OFFER_RECEIVE (R231, R442, R444, R445). -/
def doEnrolOfferReceive (s : State) (p : Nat) (a : Arrival) : State :=
  s.onPacket p .enrol a fun t _ =>
    let body := a.pkt.body
    if leAt body 8 1 ≠ 1 then t
    else if t.sameWall body then t.relayOffer p body
    else if !t.answers p body || !t.canDraw then t
    else match t.helloReason (body.drop 8) with
      | 0 => t.answer p body
      | r => t.enrolFailed r

def execEnrolOfferReceive (p : Port) (a : Arrival) (s : State) : Host.Outcome State Fault Refusal :=
  .next (s.whenAlive fun u => doEnrolOfferReceive u p a)

/-! ### The grant -/

/-- The position for which a Sender makes its grant (R446, R518); none where the claimed position fails the check. -/
def State.grantPosition (s : State) (p form claimed : Nat) : Option Nat :=
  if claimed = 63 then some 63
  else if form = 1 then
    match positions.find? fun x => !s.trs.enrolled.contains (tileKey p x) with
    | some x => if claimed = x then some x else none
    | none => none
  else match (s.mapTiles p).getLast? with
    | some h => if claimed ≤ h ∧ h - claimed ≤ 62 then some (h - claimed) else none
    | none => none

/-- The stage 3 BODY (R443, R446). -/
def State.grantBody (s : State) (r : OfferRec) (key : Bytes) (p pos : Nat) (wall : BitVec 256) : Bytes :=
  let wid := s.rd Reg.TRS_WALL_ID_WALL_ID
  let d := wallKdf r.hello key (Config.ecdhShared r.eph (slice key 24 64)) (s.portAddr p + pos) wid
  stageHead 3 wid ++ leBytes 1 (if r.form = 3 then pos else 0) ++ zeros 3 ++ leBytes 4 s.ownEpoch ++ wrapKey d wall (stagesDigest r.hello key)

/-- Checks a stage 2 answer and sends the grant (R445, R518). -/
def State.takeAnswer (s : State) (p : Nat) (r : OfferRec) (body : Bytes) : State :=
  let key := body.drop 8
  match s.keyReason r.hello key with
  | 0 =>
    (match s.grantPosition p r.form (leAt body 2 2 % 64), s.trs.wallKey with
      | some pos, some wall =>
        let s1 := s.send p .enrol (enrolDest (s.portAddr p)) (enrolBody r.form 0 (s.portAddr p) (s.grantBody r key p pos wall))
        { s1 with trs := { s1.trs with offers := Tab.put s1.trs.offers p { r with stage := 3, at_ := s.now, key := key, target := pos } } }
      | _, _ => (s.dropOffer p).enrolFailed 7)
  | n => (s.dropOffer p).enrolFailed n

/-- ENROL_ANSWER_RECEIVE (R444, R445, R518): at the Sender that waits for it; an enrolled Tile relays it. -/
def doEnrolAnswerReceive (s : State) (p : Nat) (a : Arrival) : State :=
  s.onPacket p .enrol a fun t _ =>
    let body := a.pkt.body
    if leAt body 8 1 ≠ 2 then t
    else match Tab.find t.trs.offers p with
      | some r => if t.isSender && r.stage == 1 && t.sameWall body then t.takeAnswer p r body else t
      | none => if t.sameWall body then t.relay p body else t

def execEnrolAnswerReceive (p : Port) (a : Arrival) (s : State) : Host.Outcome State Fault Refusal :=
  .next (s.whenAlive fun u => doEnrolAnswerReceive u p a)

/-- The sequence floors of an originator are reset on every port (R219, R447). -/
def State.resetFloors (s : State) (o : Nat) : State :=
  s.forAll [0, 1, 2, 3] fun t p => t.setPort p fun w => { w with floors := Tab.del w.floors o }

/-- The wall address that the answerer takes (R27, R231, R446). -/
def State.ownPlace (s : State) (r : AnswerRec) (body : Bytes) : Nat :=
  r.place + (if s.isSender then 63 else if r.form = 3 then leAt body 16 1 % 64 else r.hops)

/-- A direction that was woken for an exchange returns to Dormant when that ends; when a Sender's first enrolment is complete, every direction that it kept awake for
it does (R243, R442). -/
def State.restAfter (s : State) (p : Nat) (woke first : Bool) : State :=
  if !s.isSender then s else if first then s.forAll s.sendPorts State.restPort else if woke then s.restPort p else s

/-- What a device installs on completion of its enrolment (R27, R447): key and WALL_ID; a Tile its address and group, after discarding its guard table. -/
def State.install (s : State) (wall : BitVec 256) (wid place form : Nat) : State :=
  let s1 := ({ s with trs := { s.trs with wallKey := some wall } }.wr Reg.TRS_WALL_ID_WALL_ID wid).wr Reg.TRS_ENROL_KEY_VALID 1
  let s2 := if s.isTile then
      (({ s1 with hmk := { s1.hmk with guard := [], held := [], hashed := [] } }.wr Reg.SYS_WALL_VALID 1).wr Reg.SYS_WALL_ADDR place).wr
        Reg.SYS_ROLE_GROUP (place / 256)
    else s1
  (s2.resetFloors (if form = 1 then 63 else 64)).raise srcTrust 0x1203 place

/-- Unwraps a grant, sends stage 4 and completes the enrolment (R446, R447). -/
def State.takeGrant (s : State) (p : Nat) (r : AnswerRec) (body : Bytes) : State :=
  let wid := leAt body 12 4
  let place := s.ownPlace r body
  let d := wallKdf r.hello r.key (Config.ecdhShared r.eph (slice r.hello 56 64)) place wid
  let s0 := s.dropAnswer p
  match unwrapKey d (slice body 24 32) (BitVec.ofNat 128 (beNat (slice body 56 16))) (stagesDigest r.hello r.key) with
  | none => (s0.enrolFailed 4).restAfter p r.woke false
  | some wall =>
    let pos := if s.isSender then 63 else r.hops
    let s1 := s0.send p .enrol (enrolDest r.place)
      (enrolBody 2 0 (r.place + pos) (stageHead 4 wid ++ beBytes 16 (confOf wall r.hello r.key).toNat))
    (s1.install wall wid place r.form).restAfter p r.woke s.trs.wallKey.isNone

/-- ENROL_GRANT_RECEIVE (R444, R446, R447): at the device whose exchange it ends; an enrolled Tile relays it. -/
def doEnrolGrantReceive (s : State) (p : Nat) (a : Arrival) : State :=
  s.onPacket p .enrol a fun t _ =>
    let body := a.pkt.body
    if leAt body 8 1 ≠ 3 then t
    else if t.sameWall body then t.relay p body
    else match Tab.find t.trs.answers p with
      | some r => if r.answered && leAt r.hello 4 4 == leAt body 12 4 then t.takeGrant p r body else t
      | none => t

def execEnrolGrantReceive (p : Port) (a : Arrival) (s : State) : Host.Outcome State Fault Refusal :=
  .next (s.whenAlive fun u => doEnrolGrantReceive u p a)

/-- The Sender's end of an enrolment (R299, R447): floors, full re-push and GUARD of the Tile. -/
def State.enrolDone (s : State) (p pos : Nat) : State :=
  let s1 := (s.bump Reg.TRS_ENROL_ENROLLED).raise srcTrust 0x1203 (s.portAddr p + pos)
  if pos = 63 then ({ s1 with trs := { s1.trs with partner := true } }).resetFloors (64 - s.rd Reg.SYS_ROLE_RANK)
  else
    let k := tileKey p pos
    let s2 := { s1 with
      trs := { s1.trs with enrolled := k :: s1.trs.enrolled.filter fun x => x != k }
      dmg := { s1.dmg with derateSince := Tab.put s1.dmg.derateSince k s.now } }
    (s2.resetFloors pos).fullRepush p pos s.now

/-- ENROL_DONE_RECEIVE (R444, R447): CONF is checked at the Sender; an enrolled Tile relays the answer. -/
def doEnrolDoneReceive (s : State) (p : Nat) (a : Arrival) : State :=
  s.onPacket p .enrol a fun t _ =>
    let body := a.pkt.body
    if leAt body 8 1 ≠ 4 then t
    else match Tab.find t.trs.offers p with
      | some r =>
        (match t.trs.wallKey with
          | some wall =>
            if !t.isSender || r.stage != 3 || !t.sameWall body then t
            else if BitVec.ofNat 128 (beNat (slice body 16 16)) = confOf wall r.hello r.key then (t.dropOffer p).enrolDone p r.target
            else (t.dropOffer p).enrolFailed 5
          | none => t)
      | none => if t.sameWall body then t.relay p body else t

def execEnrolDoneReceive (p : Port) (a : Arrival) (s : State) : Host.Outcome State Fault Refusal :=
  .next (s.whenAlive fun u => doEnrolDoneReceive u p a)

/-- ENROL_TIMEOUT (R445): an offer without an answer ends its wait after 50 ms, and a half-done exchange is dropped and counted 100 ms after its last
packet. -/
def doEnrolTimeout (s : State) (p : Nat) : State :=
  let s1 := match Tab.find s.trs.offers p with
    | some r =>
      if r.stage = 1 then s.onlyIf (decide (r.at_ + 50000000 ≤ s.now)) fun t => t.unanswered p
      else s.onlyIf (decide (r.at_ + 100000000 ≤ s.now)) fun t => (t.dropOffer p).enrolFailed 6
    | none => s
  match Tab.find s.trs.answers p with
  | some r => s1.onlyIf (decide (r.at_ + 100000000 ≤ s.now)) fun t => ((t.dropAnswer p).enrolFailed 6).restAfter p r.woke false
  | none => s1

def execEnrolTimeout (p : Port) (s : State) : Host.Outcome State Fault Refusal :=
  .next (s.whenAlive fun u => doEnrolTimeout u p)

end Sys2Proof.Machine
end

