-- ==== Sys2Proof/Machine/Dispatch.lean ====
section
/-! DEFINITION. What each command does: one arm for each constructor of Instr, each a direct call of its meaning. -/

namespace Sys2Proof.Machine

def exec (i : Instr) (s : State) : Host.Outcome State Fault Refusal :=
  match i with
  | .powerOn withinLimits => Sys2Proof.Machine.execPowerOn withinLimits s
  | .resetAssert => Sys2Proof.Machine.execResetAssert s
  | .resetRelease withinLimits => Sys2Proof.Machine.execResetRelease withinLimits s
  | .coldStart x => Sys2Proof.Machine.execColdStart x s
  | .warmStart x => Sys2Proof.Machine.execWarmStart x s
  | .coldRestart key => Sys2Proof.Machine.execColdRestart key s
  | .warmRestart key => Sys2Proof.Machine.execWarmRestart key s
  | .registerWrite a size v => Sys2Proof.Machine.execRegisterWrite a size v s
  | .arm g => Sys2Proof.Machine.execArm g s
  | .commitPoint g p => Sys2Proof.Machine.execCommitPoint g p s
  | .skeinFlitCrcFail lane nth => Sys2Proof.Machine.execSkeinFlitCrcFail lane nth s
  | .dpLinkTraining p r => Sys2Proof.Machine.execDpLinkTraining p r s
  | .edidRead p blk => Sys2Proof.Machine.execEdidRead p blk s
  | .dpcdAccess p a write => Sys2Proof.Machine.execDpcdAccess p a write s
  | .linkLoss p => Sys2Proof.Machine.execLinkLoss p s
  | .videoStart p m => Sys2Proof.Machine.execVideoStart p m s
  | .videoStop p => Sys2Proof.Machine.execVideoStop p s
  | .timingChange p m => Sys2Proof.Machine.execTimingChange p m s
  | .sourceFrameStart p f => Sys2Proof.Machine.execSourceFrameStart p f s
  | .baleWrite p b => Sys2Proof.Machine.execBaleWrite p b s
  | .sourceFrameEnd p => Sys2Proof.Machine.execSourceFrameEnd p s
  | .surfacePublish p => Sys2Proof.Machine.execSurfacePublish p s
  | .patchDeadline p t => Sys2Proof.Machine.execPatchDeadline p t s
  | .release n => Sys2Proof.Machine.execRelease n s
  | .releaseDone n => Sys2Proof.Machine.execReleaseDone n s
  | .compositionPass => Sys2Proof.Machine.execCompositionPass s
  | .blockEncoded b ue => Sys2Proof.Machine.execBlockEncoded b ue s
  | .cutoff started => Sys2Proof.Machine.execCutoff started s
  | .passEnd => Sys2Proof.Machine.execPassEnd s
  | .bistFragment n failed => Sys2Proof.Machine.execBistFragment n failed s
  | .sliceParityError n b => Sys2Proof.Machine.execSliceParityError n b s
  | .hallmarkCompute bad => Sys2Proof.Machine.execHallmarkCompute bad s
  | .commitSend => Sys2Proof.Machine.execCommitSend s
  | .pushSend c => Sys2Proof.Machine.execPushSend c s
  | .repush c p => Sys2Proof.Machine.execRepush c p s
  | .repushAll => Sys2Proof.Machine.execRepushAll s
  | .commitReportReceive p a => Sys2Proof.Machine.execCommitReportReceive p a s
  | .reportDeadline => Sys2Proof.Machine.execReportDeadline s
  | .pushReceive p a => Sys2Proof.Machine.execPushReceive p a s
  | .commitReceive p a => Sys2Proof.Machine.execCommitReceive p a s
  | .prepareReceive p a => Sys2Proof.Machine.execPrepareReceive p a s
  | .goReceive p a => Sys2Proof.Machine.execGoReceive p a s
  | .abortReceive p a => Sys2Proof.Machine.execAbortReceive p a s
  | .goTimeout => Sys2Proof.Machine.execGoTimeout s
  | .cellCopy b col row => Sys2Proof.Machine.execCellCopy b col row s
  | .feedStart bad => Sys2Proof.Machine.execFeedStart bad s
  | .reaffirmReceive p a => Sys2Proof.Machine.execReaffirmReceive p a s
  | .reaffirmEvaluate => Sys2Proof.Machine.execReaffirmEvaluate s
  | .tileHallmark bad => Sys2Proof.Machine.execTileHallmark bad s
  | .guardReceive p a => Sys2Proof.Machine.execGuardReceive p a s
  | .staleOrder all region => Sys2Proof.Machine.execStaleOrder all region s
  | .hmkHold n v => Sys2Proof.Machine.execHmkHold n v s
  | .staleSend p => Sys2Proof.Machine.execStaleSend p s
  | .staleReceive p a => Sys2Proof.Machine.execStaleReceive p a s
  | .guardReportReceive p a => Sys2Proof.Machine.execGuardReportReceive p a s
  | .glassCompare n ret => Sys2Proof.Machine.execGlassCompare n ret s
  | .packetForward p a => Sys2Proof.Machine.execPacketForward p a s
  | .wheelMarkerSend => Sys2Proof.Machine.execWheelMarkerSend s
  | .wheelMarkerReceive p => Sys2Proof.Machine.execWheelMarkerReceive p s
  | .timeRequestSend => Sys2Proof.Machine.execTimeRequestSend s
  | .timeRequestReceive p a => Sys2Proof.Machine.execTimeRequestReceive p a s
  | .timeResponseReceive p a => Sys2Proof.Machine.execTimeResponseReceive p a s
  | .timeVerdict => Sys2Proof.Machine.execTimeVerdict s
  | .ts1Receive x => Sys2Proof.Machine.execTs1Receive x s
  | .backoffExpiry p => Sys2Proof.Machine.execBackoffExpiry p s
  | .energyDetected p => Sys2Proof.Machine.execEnergyDetected p s
  | .beacon p => Sys2Proof.Machine.execBeacon p s
  | .trainingPhaseEnd p r => Sys2Proof.Machine.execTrainingPhaseEnd p r s
  | .trainingTimeout p r => Sys2Proof.Machine.execTrainingTimeout p r s
  | .laneFault p l cause n => Sys2Proof.Machine.execLaneFault p l cause n s
  | .degradeReceive p set => Sys2Proof.Machine.execDegradeReceive p set s
  | .degradeTimeout p => Sys2Proof.Machine.execDegradeTimeout p s
  | .idleHoldEntry p => Sys2Proof.Machine.execIdleHoldEntry p s
  | .sleepReceive x => Sys2Proof.Machine.execSleepReceive x s
  | .wakeTimeout p => Sys2Proof.Machine.execWakeTimeout p s
  | .fullRetrain p => Sys2Proof.Machine.execFullRetrain p s
  | .fastRetrain p => Sys2Proof.Machine.execFastRetrain p s
  | .transmitDormant p => Sys2Proof.Machine.execTransmitDormant p s
  | .transmitWake p => Sys2Proof.Machine.execTransmitWake p s
  | .portDormant p => Sys2Proof.Machine.execPortDormant p s
  | .settingsSave p => Sys2Proof.Machine.execSettingsSave p s
  | .eyeScanStart p voff phase dwell => Sys2Proof.Machine.execEyeScanStart p voff phase dwell s
  | .eyeScanDone p count => Sys2Proof.Machine.execEyeScanDone p count s
  | .countCopyRefresh => Sys2Proof.Machine.execCountCopyRefresh s
  | .wsyncEdge long => Sys2Proof.Machine.execWsyncEdge long s
  | .syncLoss => Sys2Proof.Machine.execSyncLoss s
  | .holdoverExpiry => Sys2Proof.Machine.execHoldoverExpiry s
  | .markerTimeout => Sys2Proof.Machine.execMarkerTimeout s
  | .countStep => Sys2Proof.Machine.execCountStep s
  | .rateSwitch => Sys2Proof.Machine.execRateSwitch s
  | .wsyncOutEdge => Sys2Proof.Machine.execWsyncOutEdge s
  | .sensorScan readings => Sys2Proof.Machine.execSensorScan readings s
  | .derateReportSend => Sys2Proof.Machine.execDerateReportSend s
  | .derateReportReceive p a => Sys2Proof.Machine.execDerateReportReceive p a s
  | .wallDerate => Sys2Proof.Machine.execWallDerate s
  | .wallminReceive p a => Sys2Proof.Machine.execWallminReceive p a s
  | .bankSwap n => Sys2Proof.Machine.execBankSwap n s
  | .underrun n row => Sys2Proof.Machine.execUnderrun n row s
  | .lateFeed n => Sys2Proof.Machine.execLateFeed n s
  | .gainTransfer n => Sys2Proof.Machine.execGainTransfer n s
  | .refreshCycle n => Sys2Proof.Machine.execRefreshCycle n s
  | .lampRead n ret => Sys2Proof.Machine.execLampRead n ret s
  | .lampProbe n ret => Sys2Proof.Machine.execLampProbe n ret s
  | .crefSlew => Sys2Proof.Machine.execCrefSlew s
  | .trimUpdate raw => Sys2Proof.Machine.execTrimUpdate raw s
  | .asyRunStart sweep tsEn refTemp => Sys2Proof.Machine.execAsyRunStart sweep tsEn refTemp s
  | .asyRunAbort => Sys2Proof.Machine.execAsyRunAbort s
  | .dramRead a x => Sys2Proof.Machine.execDramRead a x s
  | .dramWrite a x => Sys2Proof.Machine.execDramWrite a x s
  | .requestPromotion chan x => Sys2Proof.Machine.execRequestPromotion chan x s
  | .dramRefresh chan rank bank => Sys2Proof.Machine.execDramRefresh chan rank bank s
  | .dramPowerDown chan rank => Sys2Proof.Machine.execDramPowerDown chan rank s
  | .patrolScrub x => Sys2Proof.Machine.execPatrolScrub x s
  | .readRecentre chan => Sys2Proof.Machine.execReadRecentre chan s
  | .srbPwrMode b mode => Sys2Proof.Machine.execSrbPwrMode b mode s
  | .bankWakeDone b => Sys2Proof.Machine.execBankWakeDone b s
  | .sramParityError b row cores => Sys2Proof.Machine.execSramParityError b row cores s
  | .testWindowStart => Sys2Proof.Machine.execTestWindowStart s
  | .testYield x => Sys2Proof.Machine.execTestYield x s
  | .tlyUData1 c u v => Sys2Proof.Machine.execTlyUData1 c u v s
  | .tlyUData2 c u v => Sys2Proof.Machine.execTlyUData2 c u v s
  | .tlyUData4 c u v => Sys2Proof.Machine.execTlyUData4 c u v s
  | .tlyUInit c u => Sys2Proof.Machine.execTlyUInit c u s
  | .tlyMsStart e profile again abort => Sys2Proof.Machine.execTlyMsStart e profile again abort s
  | .tlyMsAbort e profile again => Sys2Proof.Machine.execTlyMsAbort e profile again s
  | .scanPassEnd e => Sys2Proof.Machine.execScanPassEnd e s
  | .scanStop e line ue => Sys2Proof.Machine.execScanStop e line ue s
  | .heartSend => Sys2Proof.Machine.execHeartSend s
  | .heartReceive p a => Sys2Proof.Machine.execHeartReceive p a s
  | .partnerHeartReceive p a => Sys2Proof.Machine.execPartnerHeartReceive p a s
  | .masterLapse => Sys2Proof.Machine.execMasterLapse s
  | .heartbeatLoss p => Sys2Proof.Machine.execHeartbeatLoss p s
  | .queryComplete p => Sys2Proof.Machine.execQueryComplete p s
  | .yieldReceive p a => Sys2Proof.Machine.execYieldReceive p a s
  | .yieldTimeout => Sys2Proof.Machine.execYieldTimeout s
  | .verdict code => Sys2Proof.Machine.execVerdict code s
  | .shadowCompare p a => Sys2Proof.Machine.execShadowCompare p a s
  | .genOffsetSync p a => Sys2Proof.Machine.execGenOffsetSync p a s
  | .spnDrillOut out => Sys2Proof.Machine.execSpnDrillOut out s
  | .drillYield => Sys2Proof.Machine.execDrillYield s
  | .drillRelease => Sys2Proof.Machine.execDrillRelease s
  | .drillTake => Sys2Proof.Machine.execDrillTake s
  | .watchdogKick key => Sys2Proof.Machine.execWatchdogKick key s
  | .watchdogExpiry => Sys2Proof.Machine.execWatchdogExpiry s
  | .trngFail => Sys2Proof.Machine.execTrngFail s
  | .enrolOffer p => Sys2Proof.Machine.execEnrolOffer p s
  | .enrolOfferReceive p a => Sys2Proof.Machine.execEnrolOfferReceive p a s
  | .enrolAnswerReceive p a => Sys2Proof.Machine.execEnrolAnswerReceive p a s
  | .enrolGrantReceive p a => Sys2Proof.Machine.execEnrolGrantReceive p a s
  | .enrolDoneReceive p a => Sys2Proof.Machine.execEnrolDoneReceive p a s
  | .enrolTimeout p => Sys2Proof.Machine.execEnrolTimeout p s
  | .envelope bs => Sys2Proof.Machine.execEnvelope bs s
  | .read a n late => Sys2Proof.Machine.execRead a n late s
  | .status => Sys2Proof.Machine.execStatus s
  | .event remote n => Sys2Proof.Machine.execEvent remote n s
  | .dump flash o n => Sys2Proof.Machine.execDump flash o n s
  | .remote addr reg count => Sys2Proof.Machine.execRemote addr reg count s
  | .remoteResponse p a => Sys2Proof.Machine.execRemoteResponse p a s
  | .remoteTimeout => Sys2Proof.Machine.execRemoteTimeout s
  | .registerReadRequest p a => Sys2Proof.Machine.execRegisterReadRequest p a s
  | .select n => Sys2Proof.Machine.execSelect n s
  | .layout arm es => Sys2Proof.Machine.execLayout arm es s
  | .config arm es => Sys2Proof.Machine.execConfig arm es s
  | .drill out back => Sys2Proof.Machine.execDrill out back s
  | .assay refUv refTemp tsEn abort sweep => Sys2Proof.Machine.execAssay refUv refTemp tsEn abort sweep s
  | .restart type => Sys2Proof.Machine.execRestart type s
  | .begin target trials confirmBy length transfer trialS digest newOwner => Sys2Proof.Machine.execBegin target trials confirmBy length transfer trialS digest newOwner s
  | .data blocks => Sys2Proof.Machine.execData blocks s
  | .activate transfer at_ => Sys2Proof.Machine.execActivate transfer at_ s
  | .abort transfer => Sys2Proof.Machine.execAbort transfer s
  | .confirm transfer => Sys2Proof.Machine.execConfirm transfer s
  | .relay addr inner => Sys2Proof.Machine.execRelay addr inner s
  | .relayData addr blocks => Sys2Proof.Machine.execRelayData addr blocks s
  | .mgmtEnvelope p a => Sys2Proof.Machine.execMgmtEnvelope p a s
  | .mgmtBlock p a => Sys2Proof.Machine.execMgmtBlock p a s
  | .chtConfirm key => Sys2Proof.Machine.execChtConfirm key s
  | .transferComplete => Sys2Proof.Machine.execTransferComplete s
  | .activation => Sys2Proof.Machine.execActivation s
  | .trialExpiry => Sys2Proof.Machine.execTrialExpiry s
  | .presetSample v => Sys2Proof.Machine.execPresetSample v s
  | .logWrite => Sys2Proof.Machine.execLogWrite s
  | .eventForward => Sys2Proof.Machine.execEventForward s
  | .eventForwardReceive p a => Sys2Proof.Machine.execEventForwardReceive p a s
  | .sysFatal key reason => Sys2Proof.Machine.execSysFatal key reason s
  | .fatalError cause => Sys2Proof.Machine.execFatalError cause s
  | .dumpHoldExpiry => Sys2Proof.Machine.execDumpHoldExpiry s
  | .registerRead a size => Sys2Proof.Machine.execRegisterRead a size s
  | .powerOnDetectorArm => Sys2Proof.Machine.execPowerOnDetectorArm s
  | .startStepEnd x => Sys2Proof.Machine.execStartStepEnd x s
  | .assayStepEnd m => Sys2Proof.Machine.execAssayStepEnd m s
  | .fatalDumpStepEnd => Sys2Proof.Machine.execFatalDumpStepEnd s
  | .porterStepEnd errors => Sys2Proof.Machine.execPorterStepEnd errors s
  | .testWindowEnd failed => Sys2Proof.Machine.execTestWindowEnd failed s
  | .envelopeChecked => Sys2Proof.Machine.execEnvelopeChecked s
  | .dramTemperatureRead temp => Sys2Proof.Machine.execDramTemperatureRead temp s
  | .boundaryScanInstruction code => Sys2Proof.Machine.execBoundaryScanInstruction code s

end Sys2Proof.Machine
end

