-- ==== Sys2Proof/Machine/Tick.lean ====
section
/-! DEFINITION. What happens while no command waits (R226, R238, R247, R416): the wheel-time count runs, packets that wait to be forwarded leave, and with each
millisecond the lanes in service adapt. -/

namespace Sys2Proof.Machine

/-- How far the count moves in one nanosecond of REFCLK, in units of which 2^16 × 10^8 make a nanosecond: by 1 and the frequency correction that
WHL_ERR.FREQ holds, in units of 0.01 ppm (R247, log entry 1). -/
def State.tickUnits (s : State) : Nat := (100000000 + s.rdInt Reg.WHL_ERR_FREQ).toNat * 65536

/-- The count and the Frame die's copy of it move on by one nanosecond of REFCLK. -/
def State.advance (s : State) : State :=
  let u := s.whl.rem + s.tickUnits
  let t := s.count.toNat * 65536 + s.whl.frac + u / 100000000
  { s with
    count := BitVec.ofNat 64 (t / 65536)
    whl := { s.whl with frac := t % 65536, rem := u % 100000000, copy := s.whl.copy + (BitVec.ofNat 64 (t / 65536) - s.count) } }

/-- One nanosecond passes (log entry 1): the count moves on, the clocks of the verdicts run (R416), packets that wait in a forward buffer leave when their output accepts them (R226), and with
each new millisecond the lanes in service adapt (R238). In a device without power, or in reset, nothing runs. -/
def State.tick (s : State) : State :=
  if !s.alive then s
  else
    let t := s.watch.advance.drainAll
    t.onlyIf (s.now / 1000000 != t.now / 1000000) State.adaptPorts

end Sys2Proof.Machine
end

