-- ==== Sys2Proof/Safety.lean ====
section
/-! DEFINITION. What counts as a safe state and a safe run, and how a statement says that a command runs, that a packet is accepted, and what stays as it
was. -/

namespace Sys2Proof.Machine

/-- The three memories stand in their canonical form: addresses strictly rising, and no entry equal to what an unlisted address reads as. -/
def Memory.wf (s : State) : Bool := Cells.wf 0 s.dram && Cells.wf 0 s.sram && Cells.wf 0xFF s.flash

/-- A step that neither faults nor is refused. -/
def Completes (o : Host.Outcome State Fault Refusal) : Prop := ∃ s, o = .next s

/-- The command completes in a state of which `P` holds. -/
def Runs (c : Instr) (s : State) (P : State → Prop) : Prop := ∃ t, exec c s = .next t ∧ P t

/-- In a device that has power and is not held in reset (R74, R494), the command completes in a state of which `P` holds. -/
def Works (c : Instr) (s : State) (P : State → Prop) : Prop := s.alive = true → Runs c s P

/-- In a device that has power and is not held in reset, the command completes in the state `t`. -/
def Leads (c : Instr) (s t : State) : Prop := s.alive = true → exec c s = .next t

/-- The commands that act whether or not the device has power and is out of reset: the supply, the two edges of RESET_N, and the boundary-scan port. -/
def actsAlways : Instr → Bool
  | .powerOn _ | .powerOnDetectorArm | .resetAssert | .resetRelease _ | .boundaryScanInstruction _ => true
  | _ => false

/-- The spec defines what the command does: outside the supply and reset limits it defines nothing (R4, R73), and no more for an instruction code of the
boundary-scan port that R508 does not describe, in a device whose LOCK[0] is clear. -/
def specDefined (s : State) : Instr → Bool
  | .powerOn ok | .resetRelease ok => ok
  | .boundaryScanInstruction code => scanDescribed code.toNat || s.debugLocked
  | _ => true

/-- States that a number of steps reach from a state. -/
inductive Reaches : State → State → Prop
  | refl (s : State) : Reaches s s
  | step {s t u : State} : Reaches s t → Sys2Proof.Machine.step t = .next u → Reaches s u

/-- An arriving packet passes every check of R221 for its type at this consumer; the checks leave the state `u`. -/
def Accepted (s : State) (p : Port) (t : PType) (a : Arrival) (u : State) : Prop := ∃ q, s.consume p.val t a = (u, some q)

/-- Every byte of DRAM, of the SRAM banks and of flash reads as before. -/
def SameBytes (s t : State) : Prop :=
  (∀ a, t.dramByte a = s.dramByte a) ∧ (∀ b o, t.sramByte b o = s.sramByte b o) ∧ (∀ a, t.flashByte a = s.flashByte a)

/-- Every register word is as before but those at the addresses that `touched` names, and every active copy is. -/
def SameRegs (s t : State) (touched : Nat → Bool) : Prop :=
  (∀ a, touched a = false → t.wordAt a = s.wordAt a) ∧ ∀ a, t.actWordAt a = s.actWordAt a

/-- An address in one of the regions (R34: address bits 31 to 24). -/
def inRegions (rs : List Nat) (a : Nat) : Bool := rs.contains (a / 0x1000000)

end Sys2Proof.Machine
end

