-- ==== Sys2Proof/Certificates/Slice0/Obligations.lean ====
section
/-! DEFINITION. The statements about the machine, one definition each. A statement holds for every state and every operand that meets its hypotheses. `Works`
says that exec completes on a command, at a state of a device that has power and is out of reset, in a state of which a predicate holds; `Leads`, that it
completes there in one given state. -/

open Sys2Proof Sys2Proof.Machine

/-- A step runs the command at the front of the queue (spec/00_scope.md): For every command c and state s, a step of s with c at the front of its queue is
exec of c on s with the rest of the queue. The queue is the block model's own. -/
def Obligations.StepRunsFrontCommand : Prop :=
  ∀ (c : Instr) (rest : List Instr) (s : State), Sys2Proof.Machine.step { s with pending := c :: rest } = exec c { s with pending := rest }

/-- While no command waits, one nanosecond passes (R247, R416): The model's choice of log entry 1: with an empty queue, in a device with power and out of
reset whose frequency correction is 0, a step advances the wheel-time count, with its 16 bits of fraction, by one nanosecond, and changes no memory
and no active copy; with nothing in a forward buffer, and within one millisecond, it changes nothing but the count with its fraction and Frame die
copy, and the clocks of verdicts 5 and 6. A device without power or in reset stays as it is. -/
def Obligations.IdleStepAdvancesTheCount : Prop :=
  ∀ s : State, s.pending = [] →
    (s.alive = true → s.rd Reg.WHL_ERR_FREQ = 0 → s.whl.rem < 100000000 → ∃ t, Sys2Proof.Machine.step s = .next t ∧
      (t.count.toNat * 65536 + t.whl.frac) % 2 ^ 80 = (s.count.toNat * 65536 + s.whl.frac + 65536) % 2 ^ 80 ∧
      SameBytes s t ∧ (∀ a, t.actWordAt a = s.actWordAt a) ∧
      ((∀ p < 4, (s.port p).fwd = []) → t.now / 1000000 = s.now / 1000000 →
        { t with
          count := s.count
          whl := { t.whl with frac := s.whl.frac, rem := s.whl.rem, copy := s.whl.copy }
          spn := { t.spn with hotSince := s.spn.hotSince, downSince := s.spn.downSince } } = s)) ∧
    (s.alive = false → Sys2Proof.Machine.step s = .next s)

/-- What the state after reset holds (R13, R66, R382): State.reset stands at step C1 of a cold start in a powered device, with an empty queue, every
register at its reset word but the power words of banks B0 and B1, which read On as without a role, every active copy at its reset word, nothing in
any memory, and FAULT_N high. That the state after reset is the one at C1 after power-on is the model's choice (log entry 32). -/
def Obligations.ResetStateIsAtC1 : Prop :=
  State.reset.sys.step = some (false, 1) ∧ State.reset.sys.powered = true ∧ State.reset.sys.faultLow = false ∧ State.reset.pending = [] ∧
    (∀ a, a ≠ RegAddr.SRB_PWR 0 → a ≠ RegAddr.SRB_PWR 1 → State.reset.wordAt a = resetWordAt a) ∧
    (∀ a, State.reset.actWordAt a = resetWordAt a) ∧
    State.reset.rd (Reg.SRB_PWR_STATE 0) = 2 ∧ State.reset.rd (Reg.SRB_PWR_STATE 1) = 2 ∧ State.reset.role = 0 ∧
    (∀ a, State.reset.dramByte a = 0) ∧ (∀ b o, State.reset.sramByte b o = 0) ∧ ∀ a, State.reset.flashByte a = 0xFF

/-- The memories of the state after reset have their canonical form (spec/12_memory_system.md): Memory.wf holds of State.reset: DRAM, SRAM and flash are
lists with rising addresses that hold no byte equal to what an unlisted address reads as. -/
def Obligations.MemoryCanonicalAtReset : Prop := Memory.wf State.reset = true

/-- Every step keeps the canonical form of the memories (spec/12_memory_system.md): For every state whose DRAM, SRAM and flash have their canonical form,
a step that answers a next state answers one whose memories have it, whatever command stands at the front of the queue. -/
def Obligations.MemoryCanonicalKept : Prop :=
  ∀ s t : State, Memory.wf s = true → Sys2Proof.Machine.step s = .next t → Memory.wf t = true

/-- No step clears a bit of the OTP (R434): For every state whose OTP has its 336 bytes, after a step that answers a next state the OTP has 336 bytes, and
every bit that was set is set, through every start, reset and loss of power. It is the first sentence of R434. -/
def Obligations.OtpBitsAreNeverCleared : Prop :=
  ∀ s t : State, s.trs.otp.length = 336 → Sys2Proof.Machine.step s = .next t → t.trs.otp.length = 336 ∧
    ∀ i k : Nat, (s.trs.otp.getD i 0).getLsbD k = true → (t.trs.otp.getD i 0).getLsbD k = true

/-- Every command completes, no command changes the queue, and a step takes one command from it (R4, R73, R438, R508, spec/00_scope.md): Every command of
the table, with whatever operands and in whatever state, completes: exec answers a next state, whose queue is that of the state before. The only
commands that do not are POWER_ON and RESET_RELEASE outside the limits of R4 and R73, and a BOUNDARY_SCAN_INSTRUCTION of a code that R508 does not
describe while LOCK[0] is clear; those never complete. Whatever the command at the front is, a step that answers a next state leaves exactly the rest
of the queue. The queue is the block model's own. -/
def Obligations.CommandsLeaveTheQueue : Prop :=
  (∀ (c : Instr) (s : State), specDefined s c = true → ∃ t, exec c s = .next t ∧ t.pending = s.pending) ∧
  (∀ (c : Instr) (s t : State), specDefined s c = false → exec c s ≠ .next t) ∧
  ∀ (c : Instr) (rest : List Instr) (s t : State), s.pending = c :: rest → Sys2Proof.Machine.step s = .next t → t.pending = rest

/-- Registers are word-aligned, and an access that is no whole aligned word is refused (R10): In a device with power and out of reset: every register of
the map stands at a word-aligned address. A read or write of firmware whose size is not four bytes or whose address is not a multiple of four
completes with an access error and with no data, and everything but the answer of the access is as it was. -/
def Obligations.RegisterAccessWholeWord : Prop :=
  (∀ a d ix, findReg a = some (d, ix) → a % 4 = 0) ∧
  ∀ (a : BitVec 32) (size : BitVec 4) (v : Word) (s : State), (a.toNat % 4 ≠ 0 ∨ size.toNat ≠ 4) →
    Works (.registerWrite a size v) s (fun t => t.bus.err = true ∧ { t with bus := s.bus } = s) ∧
    Works (.registerRead a size) s (fun t => t.bus.err = true ∧ t.bus.data = 0 ∧ { t with bus := s.bus } = s)

/-- What a write of firmware to a register does (R11, R12, R16, R17, R61): In a device with power and out of reset: a whole-word write to an address with
no register, or in a region that the role powers down, has no effect and no error. A write to a word with a staged field of an armed group is refused
with an access error. Any other write to a register that orders nothing changes that word alone: RW and RS bits take the value, W1C bits written 1
clear, every other bit stays; in a Tile the hatch colours stay. -/
def Obligations.RegisterWriteActsByAccessKind : Prop :=
  (∀ (a : BitVec 32) (v : Word) (s : State), a.toNat % 4 = 0 → (findReg a.toNat = none ∨ s.poweredDown a.toNat = true) →
    Works (.registerWrite a 4 v) s fun t => t.bus.err = false ∧ { t with bus := s.bus } = s) ∧
  (∀ (a : BitVec 32) (v : Word) (s : State) d ix, findReg a.toNat = some (d, ix) → s.poweredDown a.toNat = false → s.locked d ix = true →
    Works (.registerWrite a 4 v) s fun t => t.bus.err = true ∧ { t with bus := s.bus } = s) ∧
  (∀ (a : BitVec 32) (v : Word) (s : State) d ix, findReg a.toNat = some (d, ix) → s.poweredDown a.toNat = false → s.locked d ix = false →
    ¬ (s.isTile = true ∧ (d.base = RegAddr.HMK_HATCH_A ∨ d.base = RegAddr.HMK_HATCH_B)) →
    d.base ∉ [RegAddr.SYS_COMMIT, RegAddr.SYS_RESTART, RegAddr.SYS_FATAL, RegAddr.CHT_CONFIRM, RegAddr.SPN_WDOG, RegAddr.SPN_DRILL_BACK,
      RegAddr.SPN_DRILL_OUT, RegAddr.HMK_STALE, RegAddr.HMK_HOLD 0, RegAddr.BAL_SURF_CMD, RegAddr.DMG_REPUSH, RegAddr.SRB_PWR 0,
      RegAddr.TLY_U_DATA1 0 0, RegAddr.TLY_U_DATA2 0 0, RegAddr.TLY_U_DATA4 0 0, RegAddr.TLY_U_CTRL 0 0, RegAddr.TLY_MS_CFG 0,
      RegAddr.WFT_PORT_CMD 0, RegAddr.WFT_EYE_CTRL 0, RegAddr.ASY_RUN] →
    Works (.registerWrite a 4 v) s fun t => t.bus.err = false ∧ { t with bus := s.bus, regs := s.regs } = s ∧
      (∀ x, x ≠ a.toNat → t.wordAt x = s.wordAt x) ∧
      ∀ i < 32, (t.wordAt a.toNat).getLsbD i =
        (if d.fields.any (fun f => decide (f.lo ≤ i ∧ i < f.lo + f.width) && (f.access == .rw || f.access == .rs)) then v.getLsbD i
        else if d.fields.any (fun f => decide (f.lo ≤ i ∧ i < f.lo + f.width) && f.access == .w1c) then (s.wordAt a.toNat).getLsbD i && !v.getLsbD i
        else (s.wordAt a.toNat).getLsbD i))

/-- What a read of firmware from a register returns and leaves behind (R11, R12): In a device with power and out of reset: a whole-word read of an address
with no register, or in a powered-down region, answers 0. Any other read, but those of the firmware cursor of the log, answers what the register
shows, with WO bits 0, and without an error; RC bits of the word are 0 afterwards and every other bit and word is as it was. The latch of a low word
that has a high word aside, nothing else changes. -/
def Obligations.RegisterReadAnswersAndClears : Prop :=
  (∀ (a : BitVec 32) (s : State), a.toNat % 4 = 0 → (findReg a.toNat = none ∨ s.poweredDown a.toNat = true) →
    a.toNat ≠ RegAddr.EVT_RD_FW → a.toNat ≠ RegAddr.EVT_LOST_FW → Works (.registerRead a 4) s fun t => t.bus.err = false ∧ t.bus.data = 0 ∧ t.regs = s.regs) ∧
  (∀ (a : BitVec 32) (s : State) d ix, findReg a.toNat = some (d, ix) → s.poweredDown a.toNat = false → a.toNat ≠ RegAddr.EVT_RD_FW →
    a.toNat ≠ RegAddr.EVT_LOST_FW →
    Works (.registerRead a 4) s fun t => t.bus.err = false ∧ t.bus.data = d.visible (s.viewWord s.ctr.latchFw d ix a.toNat) ∧
      { t with bus := s.bus, regs := s.regs, ctr := { t.ctr with latchFw := s.ctr.latchFw } } = s ∧ (∀ x, x ≠ a.toNat → t.wordAt x = s.wordAt x) ∧
      ∀ i < 32, (t.wordAt a.toNat).getLsbD i =
        (!(d.fields.any fun f => decide (f.lo ≤ i ∧ i < f.lo + f.width) && f.access == .rc) && (s.wordAt a.toNat).getLsbD i))

/-- Power-on, the detector, and the two edges of RESET_N (R4, R65, R66, R73, R74, R494): An armed detector that sees VIN rise, with RESET_N high, begins a
cold start at C1 with CAUSE power-on; an unarmed one sees nothing. VIN below 1.0 V clears all but flash and OTP and arms the detector. RESET_N low
ends any start and every register reads its reset word; its rise begins a cold start with CAUSE 1, or 0 where no start has begun since VIN rose. DRAM
and SRAM hold nothing afterwards; flash and OTP stay. Outside their limits both commands stop, since R4 defines nothing there. In a device without
power or in reset every command but these four and that of the boundary-scan port changes nothing. -/
def Obligations.PowerAndResetBeginAndClear : Prop := ∀ s : State,
  (s.sys.detector = true → s.sys.inReset = false → Runs (.powerOn true) s fun t => t.sys.powered = true ∧ t.sys.detector = false ∧
    t.sys.step = some (false, 1) ∧ t.rd Reg.SYS_START_CAUSE = 0 ∧ t.flash = s.flash ∧ t.trs.otp = s.trs.otp ∧ t.dram = [] ∧ t.sram = []) ∧
  (s.sys.detector = false → exec (.powerOn true) s = .next s) ∧
  (Runs .powerOnDetectorArm s fun t => t.sys.powered = false ∧ t.sys.detector = true ∧ t.sys.step = none ∧ t.flash = s.flash ∧
    t.trs.otp = s.trs.otp ∧ t.dram = [] ∧ t.sram = [] ∧ ∀ a, t.wordAt a = State.reset.wordAt a) ∧
  (Runs .resetAssert s fun t => t.sys.inReset = true ∧ t.sys.step = none ∧ t.flash = s.flash ∧ t.trs.otp = s.trs.otp ∧ t.dram = [] ∧
    t.sram = [] ∧ (∀ a, t.wordAt a = State.reset.wordAt a) ∧ ∀ a, t.actWordAt a = resetWordAt a) ∧
  (s.sys.inReset = true → s.sys.powered = true → Runs (.resetRelease true) s fun t => t.sys.inReset = false ∧ t.sys.step = some (false, 1) ∧
    t.rd Reg.SYS_START_CAUSE = (if s.sys.started then 1 else 0) ∧ t.flash = s.flash ∧ t.trs.otp = s.trs.otp ∧ t.dram = [] ∧ t.sram = []) ∧
  exec (.powerOn false) s = .fault .outsideLimits ∧ exec (.resetRelease false) s = .fault .outsideLimits ∧
  ∀ c : Instr, s.alive = false → actsAlways c = false → exec c s = .next s

/-- Restart requests by the key (R65, R68, R69): In a device with power and out of reset: a request without the key 0xA5C3, or to a device without power
or in reset, does nothing. With the key a cold request begins a cold start with CAUSE 2 and no COLD_WHY. A warm request of a device with a role, a
retained-state record and no fatal error begins step W1 with TYPE 2 and CAUSE 3, and keeps DRAM, as the requests that were under way leave it, flash,
OTP, the count and the role. After a fatal error it begins a cold start with CAUSE 3, and without a role or record one with COLD_WHY bit 0. -/
def Obligations.RestartRequestsNeedTheKey : Prop := ∀ (key : BitVec 16) (s : State),
  ((key.toNat ≠ 0xA5C3 ∨ s.alive = false) → exec (.coldRestart key) s = .next s ∧ exec (.warmRestart key) s = .next s) ∧
  (key.toNat = 0xA5C3 → s.alive = true →
    (Works (.coldRestart key) s fun t => t.sys.step = some (false, 1) ∧ t.rd Reg.SYS_START_CAUSE = 2 ∧ t.rd Reg.SYS_START_COLD_WHY = 0 ∧
      t.flash = s.flash ∧ t.trs.otp = s.trs.otp ∧ t.dram = []) ∧
    (s.sys.fatal = none → s.role ≠ 0 → s.sys.digest ≠ none → Works (.warmRestart key) s fun t => t.sys.step = some (true, 1) ∧
      t.rd Reg.SYS_START_TYPE = 2 ∧ t.rd Reg.SYS_START_CAUSE = 3 ∧ t.dram = s.finishRequests.dram ∧ t.flash = s.flash ∧ t.trs.otp = s.trs.otp ∧
      t.count = s.count ∧ t.role = s.role) ∧
    (s.sys.fatal ≠ none → Works (.warmRestart key) s fun t => t.sys.step = some (false, 1) ∧ t.rd Reg.SYS_START_CAUSE = 3 ∧ t.dram = []) ∧
    (s.sys.fatal = none → (s.role = 0 ∨ s.sys.digest = none) → Works (.warmRestart key) s fun t => t.sys.step = some (false, 1) ∧
      t.rd Reg.SYS_START_CAUSE = 3 ∧ t.rd Reg.SYS_START_COLD_WHY = 1))

/-- What ends a step of a start and what the next one is (R49, R66, R67, R69, R72, R75, R76, R483): In a device with power and out of reset: In a running
device without a fatal error: C1 takes the straps into BOOT and leads to C2; C3 judges the directory, records a silent flash as error 2 and a bad
directory as error 1 with STATE 5, and leads to C4; C10 leads to C11; W1 leads to W2, or without a confirmed self-refresh to a cold start with
COLD_WHY 2; W8 leads to W9 once no port is in a fast retrain, or after its time to a cold start with COLD_WHY 32; the last step ends the start at
first light. A device that runs no start, or stands after a fatal error, has no step to end. -/
def Obligations.StartStepsFollowOneAnother : Prop := ∀ (x : StartIn) (s : State),
  ((s.sys.step = none ∨ s.sys.fatal ≠ none ∨ s.alive = false) → exec (.startStepEnd x) s = .next s) ∧
  (s.alive = true → s.sys.fatal = none →
    (s.sys.step = some (false, 1) → Works (.startStepEnd x) s fun t => t.sys.step = some (false, 2) ∧ t.rd Reg.SYS_START_BOOT = x.boot.toNat) ∧
    (s.sys.step = some (false, 3) → Works (.startStepEnd x) s fun t => t.sys.step = some (false, 4) ∧
      (x.silent = true → t.rd Reg.CHT_STATUS_STATE = 5 ∧ t.rd Reg.CHT_STATUS_ERR = 2 ∧ t.sys.directory = false) ∧
      (x.silent = false → s.directoryOk = false → t.rd Reg.CHT_STATUS_STATE = 5 ∧ t.rd Reg.CHT_STATUS_ERR = 1 ∧ t.sys.directory = false) ∧
      (x.silent = false → s.directoryOk = true → t.rd Reg.CHT_STATUS_STATE = 2 ∧ t.sys.directory = true ∧
        t.flag Reg.CHT_STATUS_SLOW = x.slow)) ∧
    (s.sys.step = some (false, 10) → Leads (.startStepEnd x) s { s with sys := { s.sys with step := some (false, 11) } }) ∧
    (s.sys.step = some (true, 1) →
      (x.unconfirmed = false → Works (.startStepEnd x) s fun t => t.sys.step = some (true, 2) ∧ t.rd (Reg.SRB_PWR_STATE 1) = 2) ∧
      (x.unconfirmed = true → Works (.startStepEnd x) s fun t => t.sys.step = some (false, 1) ∧ t.rd Reg.SYS_START_CAUSE = 3 ∧
        t.rd Reg.SYS_START_COLD_WHY = 2)) ∧
    (s.sys.step = some (true, 8) →
      (x.overran = false → s.fastPending = false → Leads (.startStepEnd x) s { s with sys := { s.sys with step := some (true, 9) } }) ∧
      (x.overran = false → s.fastPending = true → exec (.startStepEnd x) s = .next s) ∧
      (x.overran = true → Works (.startStepEnd x) s fun t => t.sys.step = some (false, 1) ∧ t.rd Reg.SYS_START_COLD_WHY = 32)) ∧
    ((s.sys.step = some (false, 12) ∨ s.sys.step = some (true, 10)) → s.sys.firstLight = true → Works (.startStepEnd x) s fun t =>
      t.sys.step = none ∧ t.sys.digest = (if s.role = 0 then none else some s.charter.digest) ∧ (s.role = 0 → t.sys.faultLow = true)))

/-- COLD_START and WARM_START run the steps to their end (R66, R67, R69, R72, R75, R76): In a device with power and out of reset: For a running device
without a fatal error: a cold start at C1 with BOOT 2 stops after C2 and ends there; one whose flash is silent, in a device without a role, runs
through C6 and ends without a role, with CHT_STATUS error 2 and FAULT_N low; the last step of a cold or a warm start, with first light reached and no
group armed, ends the start; a warm start whose self-refresh entry is not confirmed turns cold with COLD_WHY 2. Where no start runs, neither command
does anything. -/
def Obligations.StartsRunToTheirEnd : Prop := ∀ (x : StartIn) (s : State),
  (s.sys.step = none → exec (.coldStart x) s = .next s ∧ exec (.warmStart x) s = .next s) ∧
  (s.alive = true → s.sys.fatal = none →
    (s.sys.step = some (false, 1) → x.boot = 2 → Works (.coldStart x) s fun t => t.sys.step = none ∧ t.rd Reg.SYS_START_BOOT = 2) ∧
    (s.sys.step = some (false, 1) → x.boot ≠ 2 → x.silent = true → s.role = 0 → Works (.coldStart x) s fun t => t.sys.step = none ∧
      t.role = 0 ∧ t.sys.faultLow = true ∧ t.rd Reg.CHT_STATUS_STATE = 5 ∧ t.rd Reg.CHT_STATUS_ERR = 2) ∧
    (s.sys.step = some (false, 12) → s.sys.firstLight = true → s.rd Reg.SYS_COMMIT_STAT_ARMED = 0 → Works (.coldStart x) s fun t =>
      t.sys.step = none ∧ t.sys.digest = if s.role = 0 then none else some s.charter.digest) ∧
    (s.sys.step = some (true, 10) → s.sys.firstLight = true → s.rd Reg.SYS_COMMIT_STAT_ARMED = 0 → Works (.warmStart x) s fun t =>
      t.sys.step = none ∧ t.sys.digest = if s.role = 0 then none else some s.charter.digest) ∧
    (s.sys.step = some (true, 1) → x.unconfirmed = true → Works (.warmStart x) s fun t => t.sys.step = some (false, 1) ∧
      t.rd Reg.SYS_START_CAUSE = 3 ∧ t.rd Reg.SYS_START_COLD_WHY = 2))

/-- The boundary-scan port (R438, R508): BYPASS 0xFF, SAMPLE/PRELOAD 0x02, EXTEST 0x00 and IDCODE 0x01 are taken in every device, and any code in a device
whose debug lock is set; nothing else changes. A code of none of these in a device whose lock is not set is refused: the spec does not describe it. -/
def Obligations.BoundaryScanTakesDescribedCodes : Prop := ∀ (code : BitVec 8) (s : State),
  ((code ∈ [0xFF#8, 0x02#8, 0x00#8, 0x01#8] ∨ s.debugLocked = true) →
    exec (.boundaryScanInstruction code) s = .next { s with sys := { s.sys with scan := code } }) ∧
  (code ∉ [0xFF#8, 0x02#8, 0x00#8, 0x01#8] → s.debugLocked = false → exec (.boundaryScanInstruction code) s = .refused .undocumentedScanCode)

/-- Arming a commit group (R57, R58, R392): In a device with power and out of reset: an armed group stays as it is. A group that is not armed and holds a
field in the role reads ARMED, with the time of arming, by its region's count, kept. One that holds no field in the role reads DONE at once and not
ARMED. Active copies, memories and every register but SYS_COMMIT_STAT, SYS_COMMIT_ERR and SYS_ALERT stay. Without a role G1 commits at once (R392): it
reads DONE and not ARMED, and a set that is not refused is copied. -/
def Obligations.ArmMarksTheGroup : Prop := ∀ (g : BitVec 4) (s : State),
  (s.armed g.toNat = true → exec (.arm g) s = .next s) ∧
  (s.armed g.toNat = false → (s.role ≠ 0 ∨ g.toNat ≠ 1) → Works (.arm g) s fun t =>
    (s.groupHere g.toNat = true → t.armed g.toNat = true ∧ Tab.get t.sys.armAt g.toNat = s.groupClock g.toNat ∧
      t.bit Reg.SYS_COMMIT_STAT_DONE g.toNat = s.bit Reg.SYS_COMMIT_STAT_DONE g.toNat) ∧
    (s.groupHere g.toNat = false → t.armed g.toNat = false ∧ t.bit Reg.SYS_COMMIT_STAT_DONE g.toNat = true) ∧
    SameBytes s t ∧ SameRegs s t fun a => [RegAddr.SYS_COMMIT_STAT, RegAddr.SYS_COMMIT_ERR, RegAddr.SYS_ALERT].contains a) ∧
  (s.armed g.toNat = false → s.role = 0 → g.toNat = 1 → Works (.arm g) s fun t => t.armed 1 = false ∧ t.bit Reg.SYS_COMMIT_STAT_DONE 1 = true ∧
    SameBytes s t ∧ ((s.wrBit Reg.SYS_COMMIT_STAT_ARMED 1 true).refuses 1 = false → ∀ a d ix, findReg a = some (d, ix) → a / 0x1000000 ≠ 0x16 →
      t.actWordAt a = (s.actWordAt a &&& ~~~(d.groupMask ix 1)) ||| (s.wordAt a &&& d.groupMask ix 1)))

/-- What a commit point does with an armed group (R57, R58, R59, R62, R251, R515, R516): In a device with power and out of reset: a commit point of a
group that is not armed, or has not come, or was performed already, does nothing. For an armed group other than G12 and G14, with no selection held:
one armed after its deadline lets the point pass; a refused set clears ARMED, sets DONE and REFUSED, and leaves every active copy; a set that is not
refused clears ARMED, sets DONE, leaves REFUSED as it was, and gives every register's active copy the pending bits of that group, the Tally units' own
parameters aside. A port of G12 or G14 that has taken its commit takes no other; a set of one with a bad port is refused whole; a good one has passed
with its last port. -/
def Obligations.CommitPointCopiesOrRefuses : Prop := ∀ (g : BitVec 4) (p : Fin 8) (s : State),
  let point := (s.groupPoint g.toNat).2
  let left := Tab.get s.sys.portsLeft g.toNat
  (s.armed g.toNat = false → exec (.commitPoint g p) s = .next s) ∧
  (s.armed g.toNat = true → g.toNat ≠ 12 → g.toNat ≠ 14 → s.pointDue g.toNat = false → exec (.commitPoint g p) s = .next s) ∧
  (s.armed g.toNat = true → g.toNat ≠ 12 → g.toNat ≠ 14 → s.ctr.held = none → s.pointDue g.toNat = true →
    (s.sys.missed.contains g.toNat = false → point < Tab.get s.sys.armAt g.toNat + armDeadline g.toNat → Works (.commitPoint g p) s fun t =>
      t.sys.missed = g.toNat :: s.sys.missed ∧ { t with sys := { t.sys with missed := s.sys.missed }, whl := { t.whl with done := s.whl.done } } = s) ∧
    ((s.sys.missed.contains g.toNat = true ∨ Tab.get s.sys.armAt g.toNat + armDeadline g.toNat ≤ point) →
      (s.refuses g.toNat = true → Works (.commitPoint g p) s fun t => t.armed g.toNat = false ∧ t.bit Reg.SYS_COMMIT_STAT_DONE g.toNat = true ∧
        t.bit Reg.SYS_COMMIT_ERR_REFUSED g.toNat = true ∧ t.act = s.act) ∧
      (s.refuses g.toNat = false → Works (.commitPoint g p) s fun t => t.armed g.toNat = false ∧ t.bit Reg.SYS_COMMIT_STAT_DONE g.toNat = true ∧
        t.rd Reg.SYS_COMMIT_ERR_REFUSED = s.rd Reg.SYS_COMMIT_ERR_REFUSED ∧
        ∀ a d ix, findReg a = some (d, ix) → a / 0x1000000 ≠ 0x16 →
          t.actWordAt a = (s.actWordAt a &&& ~~~(d.groupMask ix g.toNat)) ||| (s.wordAt a &&& d.groupMask ix g.toNat)))) ∧
  (s.armed g.toNat = true → (g.toNat = 12 ∨ g.toNat = 14) →
    (left.contains p.val = false → exec (.commitPoint g p) s = .next s) ∧
    (left.contains p.val = true → s.portsRefuse g.toNat = true → Works (.commitPoint g p) s fun t => t.armed g.toNat = false ∧
      t.bit Reg.SYS_COMMIT_STAT_DONE g.toNat = true ∧ t.bit Reg.SYS_COMMIT_ERR_REFUSED g.toNat = true ∧ t.act = s.act) ∧
    (left.contains p.val = true → s.portsRefuse g.toNat = false → left.filter (· != p.val) = [] → Works (.commitPoint g p) s fun t =>
      t.armed g.toNat = false ∧ t.bit Reg.SYS_COMMIT_STAT_DONE g.toNat = true))

/-- What raises a fatal error, and its first step (R38, R482, R483): In a device with power and out of reset: In a running device without a fatal error,
each of the six causes, the keyed write of SYS_FATAL (cause 5, with its REASON), a watchdog that has not been kicked for WDOG_MS while firmware runs
(cause 4), and the third failure of a Skein flit (cause 1) leave the device with that cause, its wheel time, dump step F2 and FAULT_N low. A first or
second failure of a flit only counts a replay. Another key, another cause, or a watchdog kicked in time does nothing; the kick with its key restarts
the watchdog. -/
def Obligations.FatalErrorsStopTheDevice : Prop := ∀ s : State,
  (s.alive = true → s.sys.fatal = none →
    (∀ c : BitVec 3, 1 ≤ c.toNat → c.toNat ≤ 6 → Works (.fatalError c) s fun t => t.sys.fatal = some c.toNat ∧ t.sys.fatalAt = s.now ∧
      t.sys.dump = 2 ∧ t.sys.faultLow = true ∧ SameBytes s t) ∧
    (∀ reason : BitVec 16, Works (.sysFatal 0x96A5 reason) s fun t => t.sys.fatal = some 5 ∧ t.sys.fatalReason = reason.toNat ∧
      t.sys.fatalAt = s.now ∧ t.sys.dump = 2 ∧ t.sys.faultLow = true) ∧
    (s.firmwareRuns = true → s.spn.wdogAt + s.cfg 1 Reg.SPN_CFG2_WDOG_MS * 1000000 ≤ s.now → Works .watchdogExpiry s fun t =>
      t.sys.fatal = some 4 ∧ t.sys.dump = 2 ∧ t.sys.faultLow = true) ∧
    ∀ lane : Bool, Works (.skeinFlitCrcFail lane 2) s fun t => t.sys.fatal = some 1 ∧ t.sys.dump = 2 ∧ t.sys.faultLow = true ∧
      ∀ i < 2, t.flag (Reg.SYS_SKEIN_FAULT i) = true ∧ t.rd (Reg.SYS_SKEIN_UP i) = 0) ∧
  exec (.fatalError 0) s = .next s ∧ exec (.fatalError 7) s = .next s ∧
  (∀ key reason : BitVec 16, key.toNat ≠ 0x96A5 → exec (.sysFatal key reason) s = .next s) ∧
  ((s.firmwareRuns = false ∨ s.now < s.spn.wdogAt + s.cfg 1 Reg.SPN_CFG2_WDOG_MS * 1000000) → exec .watchdogExpiry s = .next s) ∧
  (∀ lane : Bool,
    (Works (.skeinFlitCrcFail lane 0) s fun t => t.rd (Reg.SYS_SKEIN_REPLAY lane.toNat) =
      min (s.rd (Reg.SYS_SKEIN_REPLAY lane.toNat) + 1) (2 ^ (Reg.SYS_SKEIN_REPLAY lane.toNat).width - 1) ∧ { t with regs := s.regs } = s) ∧
    Works (.skeinFlitCrcFail lane 1) s fun t => t.rd (Reg.SYS_SKEIN_DOUBLE_REPLAY lane.toNat) =
      min (s.rd (Reg.SYS_SKEIN_DOUBLE_REPLAY lane.toNat) + 1) (2 ^ (Reg.SYS_SKEIN_DOUBLE_REPLAY lane.toNat).width - 1) ∧
      { t with regs := s.regs } = s) ∧
  Leads (.watchdogKick 0x3C96) s { s with spn := { s.spn with wdogAt := s.now } } ∧
  ∀ key : BitVec 16, key.toNat ≠ 0x3C96 → exec (.watchdogKick key) s = .next s

/-- The steps of a dump, the action after it, and reading a dump (R483, R484, R485, R486): In a device with power and out of reset: After a fatal error
with DRAM in service, F2 leads to F3 with the header in DRAM not yet complete (byte 7 bit 1 clear). F3 ends with the header complete, and where no
flash dump is due ACTION 1 or 2 holds the device (step 5), and 0 or 3 starts it cold with CAUSE 4. F4 likewise, with the complete header in flash. The
hold of ACTION 2 ends in a cold start, once HOLD_S seconds have passed, of which 0 acts as 1. Without a fatal error these commands do nothing. Behind
its dummy bytes of zero DUMP returns the bytes of a dump that stands; where none stands the spec states no bytes, and the model returns as many bytes
as asked from a free value (log entries 4 and 104). -/
def Obligations.DumpStepsWriteAndActionFollows : Prop := ∀ s : State,
  (s.sys.fatal = none → exec .fatalDumpStepEnd s = .next s ∧ exec .dumpHoldExpiry s = .next s) ∧
  (s.sys.fatal ≠ none →
    (s.sys.dump = 2 → s.rd Reg.DMC_STAT_STATE = 2 → Works .fatalDumpStepEnd s fun t => t.sys.dump = 3 ∧
      t.dramRead dumpAt 4 = leBytes 4 0x5044434F ∧ (t.dramByte (dumpAt + 7)).getLsbD 1 = false) ∧
    (s.sys.dump = 3 → s.flashDump = false → (s.ac Reg.SYS_DUMP_CFG_ACTION = 1 ∨ s.ac Reg.SYS_DUMP_CFG_ACTION = 2) →
      Works .fatalDumpStepEnd s fun t => t.sys.dump = 5 ∧ t.sys.haltAt = s.now ∧ t.dramRead dumpAt 4 = leBytes 4 0x5044434F ∧
        (t.dramByte (dumpAt + 7)).getLsbD 1 = true) ∧
    (s.sys.dump = 4 → (s.ac Reg.SYS_DUMP_CFG_ACTION = 1 ∨ s.ac Reg.SYS_DUMP_CFG_ACTION = 2) → Works .fatalDumpStepEnd s fun t =>
      t.sys.dump = 5 ∧ t.sys.haltAt = s.now ∧ t.flashRead s.directoryRead.dump 4 = leBytes 4 0x5044434F ∧ (t.flashByte (s.directoryRead.dump + 7)).getLsbD 1 = true) ∧
    (s.sys.dump = 4 → (s.ac Reg.SYS_DUMP_CFG_ACTION = 0 ∨ s.ac Reg.SYS_DUMP_CFG_ACTION = 3) → Works .fatalDumpStepEnd s fun t =>
      t.sys.step = some (false, 1) ∧ t.sys.fatal = none ∧ t.rd Reg.SYS_START_CAUSE = 4) ∧
    (s.sys.dump = 5 → s.ac Reg.SYS_DUMP_CFG_ACTION = 2 →
      let held := s.sys.haltAt + max 1 (s.ac Reg.SYS_DUMP_CFG_HOLD_S) * 1000000000
      (s.now < held → exec .dumpHoldExpiry s = .next s) ∧ (held ≤ s.now → Works .dumpHoldExpiry s fun t =>
        t.sys.step = some (false, 1) ∧ t.sys.fatal = none ∧ t.rd Reg.SYS_START_CAUSE = 4))) ∧
  ∀ (flash : Bool) (o : Word) (n : Nat), s.alive = true → s.onHold = false →
    (s.dumpThere flash o.toNat n = true → Works (.dump flash o n) s fun t =>
      t.ctr.sdo = zeros (max 1 (s.rd Reg.CTR_CFG_DUMMY)) ++
        (if flash then s.flashRead (s.directoryRead.dump + o.toNat) n else s.dramRead (dumpAt + o.toNat) n) ∧
      { t with ctr := { t.ctr with sdo := s.ctr.sdo } } = s) ∧
    (s.dumpThere flash o.toNat n = false → Works (.dump flash o n) s fun t => t.ctr.sdo.length = max 1 (s.rd Reg.CTR_CFG_DUMMY) + n ∧
      { t with ctr := { t.ctr with sdo := s.ctr.sdo }, fresh := s.fresh } = s)

/-- The log writer, forwarding from a Tile, and the Sender's remote ring (R475, R479, R480, R481): In a device with power and out of reset: While the logs
are served, the log writer moves the record that has waited longest into the B0 ring, and into the DRAM ring once DRAM is in service, at the index,
which rises by 1; with no record or no service it does nothing. A Tile with records to forward, whose interval has passed and which last accepted a
COMMIT on one port, sends them there in one STATUS of form 5, at most 32, behind the transit packets that leave the forward buffer first, and goes on
behind the last. A Sender that accepts such a STATUS stores each record with its own wheel time at the next number of its remote ring, in order, and
no other register changes. -/
def Obligations.LogWriterAndForwarding : Prop :=
  (∀ s : State, (s.log.served = false ∨ s.log.queue = []) → exec .logWrite s = .next s) ∧
  (∀ (s : State) r rest, s.log.served = true → s.log.queue = r :: rest → Works .logWrite s fun t => t.log.queue = rest ∧
    Tab.find t.log.b0 (s.rd Reg.EVT_LI_LI) = some r ∧ (s.log.inDram = true → Tab.find t.log.ring (s.rd Reg.EVT_LI_LI) = some r) ∧
    t.rd Reg.EVT_LI_LI = (s.rd Reg.EVT_LI_LI + 1) % 2 ^ 32 ∧ SameBytes s t ∧ SameRegs s t fun a => a == RegAddr.EVT_LI) ∧
  (∀ (s : State) (p : Port) last, s.isTile = true → s.log.served = true →
    (s.log.fwdTime = none ∨ ∃ w, s.log.fwdTime = some w ∧ w + s.forwardNs ≤ s.now) → s.tfs.commitPorts = [p.val] → s.canSend p.val = true →
    s.trs.wallKey ≠ none → (s.toForward.take 32).getLast? = some last → Works .eventForward s fun t =>
      t.log.fwdNext = last.1 + 1 ∧ t.log.fwdLost = 0 ∧ t.log.fwdTime = some s.now ∧
      t.weft.sent = s.weft.sent ++ s.leaving p.val ++ [⟨p.val, s.formPacket p.val .status (s.destChain 1 p.val) (leBytes 1 5 ++ leBytes 1 (s.toForward.take 32).length ++
        leBytes 2 (s.rd Reg.SYS_WALL_ADDR) ++ leBytes 2 s.log.fwdLost ++ zeros 10 ++ (s.toForward.take 32).flatMap fun e => e.2.bytes), true, none⟩]) ∧
  ∀ (s u : State) (p : Port) (a : Arrival), Accepted s p .status a u → u.isSender = true → leAt a.pkt.body 0 1 = 5 →
    1 ≤ leAt a.pkt.body 1 1 → leAt a.pkt.body 1 1 ≤ 32 → a.pkt.body.length = 16 + 16 * leAt a.pkt.body 1 1 →
    Works (.eventForwardReceive p a) s fun t => t.rd Reg.EVT_RLI_RLI = (u.rd Reg.EVT_RLI_RLI + leAt a.pkt.body 1 1) % 2 ^ 32 ∧
      (∀ k < leAt a.pkt.body 1 1, Tab.find t.log.remote ((u.rd Reg.EVT_RLI_RLI + k) % 2 ^ 32) =
        some ⟨leAt a.pkt.body 2 2 % 4096, u.now, slice a.pkt.body (16 + 16 * k) 16⟩) ∧ SameRegs u t fun x => x == RegAddr.EVT_RLI

/-- STATUS, READ and EVENT on the Counter port (R465, R466, R481): In a device with power and out of reset STATUS returns CTR_STAT and changes nothing
else. READ and EVENT return their bytes behind the dummy bytes of zero, as many as CTR_CFG.DUMMY says and at least one. READ returns the words from
ADDR up, 0 for a word that was not ready or is not word-aligned, shows both cases in RD_ERR and UNDERRUN, and changes no other register. Outside a
hold boot EVENT returns zeros and moves nothing while the logs are not served; otherwise it returns the local entries from the cursor, with zeros
behind, moves the cursor by each whole entry, and first moves a cursor that was overtaken to the oldest entry and adds what it skipped to LOST. -/
def Obligations.PortReadsReturnTheLogAndRegisters : Prop := ∀ s : State,
  (s.alive = false → exec .status s = .next s ∧ (∀ a n l, exec (.read a n l) s = .next s) ∧ ∀ r n, exec (.event r n) s = .next s) ∧
  let dummy := max 1 (s.rd Reg.CTR_CFG_DUMMY)
  (s.alive = true →
    (Works .status s fun t => t.ctr.sdo = leBytes 4 (s.readWord s.ctr.latchPort RegAddr.CTR_STAT).toNat ∧
      { t with ctr := { t.ctr with sdo := s.ctr.sdo } } = s) ∧
    (∀ (a : BitVec 32) (n : Nat) (late : List Nat), Works (.read a n late) s fun t => t.ctr.sdo.length = dummy + 4 * n ∧ t.ctr.sdo.take dummy = zeros dummy ∧
      t.flag Reg.CTR_STAT_RD_ERR = (decide (0 < n) && a.toNat % 4 != 0) ∧ t.flag Reg.CTR_STAT_UNDERRUN = (late.any fun i => decide (i < n)) ∧
      (∀ k, (late.contains (k / 4) = true ∨ a.toNat % 4 ≠ 0) → t.ctr.sdo.getD (dummy + k) 0 = 0) ∧ SameBytes s t ∧
      SameRegs s t fun x => x == RegAddr.CTR_STAT) ∧
    (∀ a : BitVec 32, a.toNat % 4 = 0 → Works (.read a 1 []) s fun t =>
      let u := ((s.wr Reg.CTR_STAT_RD_ERR 0).wr Reg.CTR_STAT_UNDERRUN 0).latchPort a.toNat
      t.ctr.sdo = zeros dummy ++ leBytes 4 (u.readWord u.ctr.latchPort a.toNat).toNat) ∧
    (s.onHold = false → s.log.served = false → ∀ r n, Works (.event r n) s fun t => t.ctr.sdo = zeros dummy ++ zeros n ∧
      { t with ctr := { t.ctr with sdo := s.ctr.sdo } } = s) ∧
    (s.onHold = false → s.log.served = true → ∀ n : Nat,
      let first := oldest s.localRing (s.rd Reg.EVT_LI_LI)
      let gone := skipped (s.rd Reg.CTR_EVT_CUR_CUR) (s.rd Reg.EVT_LI_LI) first
      let cur := if gone = 0 then s.rd Reg.CTR_EVT_CUR_CUR else first % 2 ^ 32
      Works (.event false n) s fun t => t.ctr.sdo = zeros dummy ++ padTo n (entriesFrom s.localRing cur EventRec.bytes) ∧
        t.rd Reg.CTR_EVT_CUR_CUR = (cur + min (n / 16) (s.rd Reg.EVT_LI_LI - cur)) % 2 ^ 32 ∧
        t.rd Reg.CTR_EVT_LOST_LOCAL = min (s.rd Reg.CTR_EVT_LOST_LOCAL + gone) 65535))

/-- An envelope on the Counter port, and its check (R75, R449, R450, R467): In a device with power and out of reset: an envelope fills the buffer and sets
ENV_BUSY; while one is being checked, in a hold boot, or without power it is ignored. The check empties the buffer and clears ENV_BUSY. An envelope
that fails one of checks 1 to 5 shows that check in RESULT with the command, and the floor stays. One that passes them shows RESULT 0 or, for a bad
signature, 6; with 0 the floor becomes the envelope's sequence number before its command runs: SELECT as the example, and a command that the role or
mode does not allow ends with CTR_CMD.RESULT 4. -/
def Obligations.EnvelopesAreCheckedBeforeTheyRun : Prop := ∀ s : State,
  (∀ bs, s.alive = true → s.onHold = false → s.flag Reg.CTR_STAT_ENV_BUSY = false → Works (.envelope bs) s fun t =>
    t.ctr.envelope = some bs ∧ t.flag Reg.CTR_STAT_ENV_BUSY = true ∧ SameBytes s t ∧ SameRegs s t fun x => x == RegAddr.CTR_STAT) ∧
  (∀ bs, (s.alive = false ∨ s.onHold = true ∨ s.flag Reg.CTR_STAT_ENV_BUSY = true) → exec (.envelope bs) s = .next s) ∧
  (s.ctr.envelope = none → exec .envelopeChecked s = .next s) ∧
  ∀ e, s.ctr.envelope = some e →
    (s.envelopeFault e ≠ 0 → Works .envelopeChecked s fun t => t.ctr.envelope = none ∧ t.flag Reg.CTR_STAT_ENV_BUSY = false ∧
      t.rd Reg.TRS_ENV_STAT_RESULT = s.envelopeFault e ∧ t.rd Reg.TRS_ENV_STAT_COMMAND = leAt e 6 2 ∧ t.envFloor = s.envFloor ∧
      SameRegs s t fun x => x == RegAddr.CTR_STAT || x == RegAddr.TRS_ENV_STAT) ∧
    (s.envelopeFault e = 0 → s.alive = true → s.onHold = false → s.allows (leAt e 6 2) = false → Works .envelopeChecked s fun t =>
      t.ctr.envelope = none ∧ t.flag Reg.CTR_STAT_ENV_BUSY = false ∧ t.rd Reg.TRS_ENV_STAT_COMMAND = leAt e 6 2 ∧
      ((t.rd Reg.TRS_ENV_STAT_RESULT = 6 ∧ t.envFloor = s.envFloor) ∨
        (t.rd Reg.TRS_ENV_STAT_RESULT = 0 ∧ t.envFloor = leAt e 24 8 ∧ t.rd Reg.CTR_CMD_RESULT = 4))) ∧
    (s.envelopeFault e = 0 → leAt e 6 2 = 1 → Works .envelopeChecked s fun t =>
      (t.rd Reg.TRS_ENV_STAT_RESULT = 6 ∧ t.envFloor = s.envFloor) ∨
      ∃ v, v.rd Reg.TRS_ENV_STAT_RESULT = 0 ∧ v.envFloor = leAt e 24 8 ∧
        exec (.select (BitVec.ofNat 8 (leAt (slice e 72 (leAt e 32 2)) 0 1))) v = .next t)

/-- A register read in a Tile, from the Counter port and back (R229, R472, R473): In a device with power and out of reset: REMOTE in a Sender with no read
in progress and no fatal error sends the MGMT read of form 0x30 to a Tile of its own group, on that Tile's chain, and reads BUSY; a COUNT outside 1 to
16 or another address gives RESULT 3 and sends nothing. The Tile answers out of the port of arrival with the STATUS of form 4 that repeats count,
number and register and holds the words. A response within 2 ms that matches in number, count, address and register fills the data words and ends the
read with RESULT 0, or 1 on an access error. Without one the read ends with RESULT 2 after 2 ms, and not before. -/
def Obligations.RemoteReadsGoToATileAndBack : Prop :=
  (∀ (addr : BitVec 16) (reg : Word) (count : BitVec 8) (s : State), s.alive = true → s.isSender = true → s.sys.fatal = none →
    s.flag Reg.CTR_RMT_STAT_BUSY = false →
    (1 ≤ count.toNat → count.toNat ≤ 16 → s.ownTile addr.toNat = true → s.canSend (addr.toNat / 64 % 4) = true → s.trs.wallKey ≠ none →
      Works (.remote addr reg count) s fun t => t.ctr.remote = some ⟨s.ctr.nextId, addr.toNat, reg.toNat, count.toNat, s.now⟩ ∧
        t.flag Reg.CTR_RMT_STAT_BUSY = true ∧ t.rd Reg.CTR_RMT_STAT_ADDR = addr.toNat ∧
        t.weft.sent = s.weft.sent ++ s.leaving (addr.toNat / 64 % 4) ++ [⟨addr.toNat / 64 % 4, s.formPacket (addr.toNat / 64 % 4) .mgmt addr.toNat
          (leBytes 1 0x30 ++ leBytes 1 count.toNat ++ leBytes 2 s.ctr.nextId ++ leBytes 4 reg.toNat), true, none⟩]) ∧
    ((count.toNat = 0 ∨ 16 < count.toNat ∨ s.ownTile addr.toNat = false) → Works (.remote addr reg count) s fun t =>
      t.rd Reg.CTR_RMT_STAT_RESULT = 3 ∧ t.flag Reg.CTR_RMT_STAT_BUSY = false ∧ t.rd Reg.CTR_RMT_STAT_ADDR = addr.toNat % 4096 ∧
      { t with regs := s.regs } = s)) ∧
  (∀ (s u : State) (p : Port) (a : Arrival), Accepted s p .mgmt a u → u.isTile = true → leAt a.pkt.body 0 1 = 0x30 → a.pkt.body.length = 8 →
    leAt a.pkt.body 1 1 = 1 → leAt a.pkt.body 4 4 % 4 = 0 → u.canSend p.val = true → u.trs.wallKey ≠ none →
    Works (.registerReadRequest p a) s fun t =>
      let v := u.latchPort (leAt a.pkt.body 4 4)
      ∃ k, t.weft.sent = u.weft.sent ++ u.leaving p.val ++ [⟨p.val, k, true, none⟩] ∧ k.type = 6 ∧
        k.body = leBytes 1 4 ++ leBytes 1 1 ++ leBytes 2 (leAt a.pkt.body 2 2) ++ leBytes 2 (u.rd Reg.SYS_WALL_ADDR) ++ zeros 2 ++
          leBytes 4 (leAt a.pkt.body 4 4) ++ leBytes 4 (v.readWord v.ctr.latchPort (leAt a.pkt.body 4 4)).toNat) ∧
  (∀ (s u : State) (p : Port) (a : Arrival) (r : RemoteRead), Accepted s p .status a u → u.isSender = true → leAt a.pkt.body 0 1 = 4 →
    u.ctr.remote = some r → 1 ≤ r.count → r.count ≤ 16 → a.pkt.body.length = 12 + 4 * r.count → leAt a.pkt.body 1 1 = r.count →
    leAt a.pkt.body 2 2 = r.id → r.id < 0x8000 → leAt a.pkt.body 4 2 % 4096 = r.addr → leAt a.pkt.body 8 4 = r.reg → u.now < r.sentAt + remoteNs →
    Works (.remoteResponse p a) s fun t => t.ctr.remote = none ∧ t.flag Reg.CTR_RMT_STAT_BUSY = false ∧
      t.rd Reg.CTR_RMT_STAT_RESULT = (if leAt a.pkt.body 6 1 = 0 then 0 else 1) ∧ t.rd Reg.CTR_RMT_STAT_COUNT = r.count ∧
      ∀ i < r.count, t.rd (Reg.CTR_RMT_DATA_VALUE i) = leAt a.pkt.body (12 + 4 * i) 4) ∧
  ∀ s : State, (s.ctr.remote = none → exec .remoteTimeout s = .next s) ∧
    ∀ r, s.ctr.remote = some r → (s.now < r.sentAt + remoteNs → exec .remoteTimeout s = .next s) ∧
      (r.sentAt + remoteNs ≤ s.now → Works .remoteTimeout s fun t => t.ctr.remote = none ∧ t.flag Reg.CTR_RMT_STAT_BUSY = false ∧
      t.rd Reg.CTR_RMT_STAT_RESULT = 2 ∧ SameBytes s t ∧ SameRegs s t fun x => x == RegAddr.CTR_RMT_STAT)

/-- A command that the role or mode does not allow changes CTR_CMD alone (R75, R468, R473): In a device with power and out of reset: each of the thirteen
commands of an envelope does nothing in a device without power, in reset or in a hold boot. Where the role or the mode does not allow it, it leaves
its number and RESULT 4 in CTR_CMD and changes nothing else. -/
def Obligations.PortCommandsNeedRoleAndMode : Prop := ∀ (s : State) (n b8 c8 d8 : BitVec 8) (a16 : BitVec 16) (w v x : Word) (d : BitVec 64)
    (h k : BitVec 256) (f g : Bool) (es : List (Word × Word)) (bs : Bytes),
  ∀ c ∈ [(1, Instr.select n), (2, .layout f es), (3, .config w es), (4, .drill w v), (5, .assay w a16 f g n), (6, .restart n),
      (0x10, .begin b8 c8 d8 w v x h k), (0x11, .data bs), (0x12, .activate w d), (0x13, .abort w), (0x14, .confirm w), (0x20, .relay a16 bs),
      (0x21, .relayData a16 bs)],
    ((s.alive = false ∨ s.onHold = true) → exec c.2 s = .next s) ∧
    (s.alive = true → s.onHold = false → s.allows c.1 = false → Works c.2 s fun t => t.rd Reg.CTR_CMD_COMMAND = c.1 ∧
      t.rd Reg.CTR_CMD_RESULT = 4 ∧ { t with regs := s.regs } = s ∧ ∀ y, y ≠ RegAddr.CTR_CMD → t.wordAt y = s.wordAt y)

/-- SELECT, LAYOUT, CONFIG and the PRESET pins (R62, R468, R469, R470, R474): In a device with power and out of reset: SELECT of a number without a PRESET
record gives RESULT 2 and arms nothing; one with a record while G0 and G1 are not armed becomes CURRENT with SRC 1 and arms both; while one of them is
armed it is held with RESULT 1. LAYOUT and CONFIG with a bad entry give RESULT 2 or 3 and change nothing else; a good single entry is written as a
register write is; ARM arms the groups it names. In a Sender with PIN_EN 1 the sample of a whole millisecond is taken once: the eighth in a row that
reads a new value makes it the stable value, shown in PINS; a first one only counts; elsewhere, or a second time in that millisecond, the pins do
nothing. -/
def Obligations.SelectionsAndEntriesReachTheGroups : Prop :=
  (∀ (n : BitVec 8) (s : State), s.alive = true → s.onHold = false → s.allows 1 = true →
    (s.preset n.toNat = none → Works (.select n) s fun t => t.rd Reg.CTR_CMD_RESULT = 2 ∧ t.ctr.held = s.ctr.held ∧
      SameRegs s t fun x => x == RegAddr.CTR_CMD || x == RegAddr.SYS_ALERT) ∧
    (s.preset n.toNat ≠ none → s.armed 0 = false → s.armed 1 = false → Works (.select n) s fun t =>
      t.rd Reg.SYS_PRESET_CURRENT = n.toNat % 64 ∧ t.flag Reg.SYS_PRESET_SRC = true ∧ t.armed 0 = true ∧ t.armed 1 = true) ∧
    (s.preset n.toNat ≠ none → (s.armed 0 = true ∨ s.armed 1 = true) → Works (.select n) s fun t => t.ctr.held = some (n.toNat, false) ∧
      t.rd Reg.CTR_CMD_RESULT = 1 ∧ SameRegs s t fun x => x == RegAddr.CTR_CMD)) ∧
  (∀ (f : Bool) (es : List (Word × Word)) (s : State), s.alive = true → s.onHold = false → s.allows 2 = true →
    let bad := s.entriesResult (entriesOf es) fun a => addrInGroup a 0 || addrInGroup a 1
    (bad ≠ 0 → Works (.layout f es) s fun t => t.rd Reg.CTR_CMD_RESULT = bad ∧ { t with regs := s.regs } = s ∧
      SameRegs s t fun x => x == RegAddr.CTR_CMD) ∧
    (bad = 0 → f = false → ∀ e, es = [e] → Works (.layout f es) s fun t => ∃ v, exec (.registerWrite e.1 4 e.2) (s.setCmd 2 0) = .next v ∧
      t = { v with bus := t.bus }) ∧
    (f = true → es = [] → Works (.layout f es) s fun t => t.armed 0 = true ∧ t.armed 1 = true)) ∧
  (∀ (w : Word) (es : List (Word × Word)) (s : State), s.alive = true → s.onHold = false → s.allows 3 = true →
    let bad := s.entriesResult (entriesOf es) fun _ => true
    (bad ≠ 0 → Works (.config w es) s fun t => t.rd Reg.CTR_CMD_RESULT = bad ∧ { t with regs := s.regs } = s ∧
      SameRegs s t fun x => x == RegAddr.CTR_CMD) ∧
    (bad = 0 → w = 0 → ∀ e, es = [e] → Works (.config w es) s fun t => ∃ v, exec (.registerWrite e.1 4 e.2) (s.setCmd 3 0) = .next v ∧
      t = { v with bus := t.bus }) ∧
    (es = [] → ∀ g < 16, w.toNat = 2 ^ g → s.groupHere g = true → Works (.config w es) s fun t => t.armed g = true)) ∧
  ∀ (v : BitVec 6) (s : State),
    let whole := s.now / 1000000 * 1000000
    ((s.isSender = false ∨ s.cfg 1 Reg.SYS_PRESET_PIN_EN ≠ 1 ∨ s.due actPins whole whole s.now = false) → exec (.presetSample v) s = .next s) ∧
    (s.isSender = true → s.cfg 1 Reg.SYS_PRESET_PIN_EN = 1 → s.due actPins whole whole s.now = true →
      (s.ctr.sample.1 ≠ v.toNat → Leads (.presetSample v) s { s.perform actPins whole with ctr := { s.ctr with sample := (v.toNat, 1) } }) ∧
      (s.ctr.sample = (v.toNat, 7) → s.ctr.stable ≠ some v.toNat → s.selecting = false → Works (.presetSample v) s fun t =>
        t.ctr.stable = some v.toNat ∧ t.rd Reg.SYS_PRESET_PINS = v.toNat ∧ SameRegs s t fun x => x == RegAddr.SYS_PRESET) ∧
      (s.ctr.sample = (v.toNat, 7) → s.ctr.stable ≠ some v.toNat → s.selecting = true → s.preset v.toNat ≠ none →
        (s.armed 0 = true ∨ s.armed 1 = true) → Works (.presetSample v) s fun t => t.ctr.stable = some v.toNat ∧
          t.rd Reg.SYS_PRESET_PINS = v.toNat ∧ t.ctr.held = some (v.toNat, true)))

/-- DRILL, ASSAY, RESTART, RELAY and RELAY_DATA (R65, R344, R348, R427, R468, R471): In a device with power and out of reset: Where role and mode allow
them: DRILL keeps BACK and orders the drill at OUT when the device is a protected holder, OUT is at least 4 generations ahead and BACK is 0. ASSAY
writes ASY_REF and starts a run at step 1 where none is in progress, or with ABORT ends one before A8 with REASON 6. RESTART of type 1 begins a cold
start with CAUSE 2, and of type 2 a warm one. RELAY sends the envelope, and RELAY_DATA each block, unchanged to an enabled Tile of the own group as
MGMT 0x40, kind 1 and kind 2; to another address they give RESULT 2 and send nothing. -/
def Obligations.DrillsRestartsAndRelaysByCommand : Prop := ∀ s : State, s.alive = true → s.onHold = false →
  (∀ out : Word, s.allows 4 = true → s.isSender = true → s.holdsSpindle = true → s.flag Reg.SYS_ROLE_PROTECTED = true →
    4 ≤ genAfter out.toNat (s.rd Reg.DMG_GEN_GEN) → Works (.drill out 0) s fun t => t.spn.drill = some ⟨out.toNat, 0, 1, 0, false⟩ ∧
      t.flag Reg.SPN_STAT_DRILL = true ∧ t.spn.drillBack = 0) ∧
  (∀ (uv : Word) (temp : BitVec 16) (ts : Bool) (sweep : BitVec 8), s.allows 5 = true → s.asy.run = none →
    Works (.assay uv temp ts false sweep) s fun t => t.rd Reg.ASY_STAT_STEP = 1 ∧ t.flag Reg.ASY_RUN_START = true ∧ t.rd Reg.ASY_STAT_REASON = 0 ∧
      ∃ r, t.asy.run = some r ∧ r.refUv = uv.toNat % 2 ^ (Reg.ASY_REF_REF_UV).width ∧ r.tsEn = ts) ∧
  (∀ (uv : Word) (temp : BitVec 16) (ts : Bool) (sweep : BitVec 8), s.allows 5 = true → s.asy.run ≠ none → s.rd Reg.ASY_STAT_STEP < 8 →
    Works (.assay uv temp ts true sweep) s fun t => t.asy.run = none ∧ t.rd Reg.ASY_STAT_STEP = 0 ∧ t.rd Reg.ASY_STAT_REASON = 6) ∧
  (s.allows 6 = true → (Works (.restart 1) s fun t => t.sys.step = some (false, 1) ∧ t.rd Reg.SYS_START_CAUSE = 2) ∧
    (s.sys.fatal = none → s.role ≠ 0 → s.sys.digest ≠ none → Works (.restart 2) s fun t => t.sys.step = some (true, 1) ∧
      t.rd Reg.SYS_START_TYPE = 2 ∧ t.dram = s.finishRequests.dram)) ∧
  (∀ (addr : BitVec 16) (bs : Bytes), s.allows 0x20 = true →
    (s.relayOk addr.toNat = true → bs.length ≤ 2332 → s.canSend (addr.toNat / 64 % 4) = true → s.trs.wallKey ≠ none →
      Works (.relay addr bs) s fun t => t.rd Reg.CTR_CMD_RESULT = 0 ∧ t.weft.sent = s.weft.sent ++ s.leaving (addr.toNat / 64 % 4) ++ [⟨addr.toNat / 64 % 4,
        s.formPacket (addr.toNat / 64 % 4) .mgmt addr.toNat (leBytes 1 0x40 ++ leBytes 1 1 ++ zeros 2 ++ bs), true, none⟩]) ∧
    ((s.relayOk addr.toNat = false ∨ 2332 < bs.length) → Works (.relay addr bs) s fun t => t.rd Reg.CTR_CMD_RESULT = 2 ∧ t.weft = s.weft)) ∧
  ∀ (addr : BitVec 16) (bs : Bytes), s.allows 0x21 = true →
    (∀ b, blocksOf (bs.length / 16) bs = [b] → s.relayOk addr.toNat = true → b.length ≤ 2332 → s.canSend (addr.toNat / 64 % 4) = true →
      s.trs.wallKey ≠ none → Works (.relayData addr bs) s fun t => t.rd Reg.CTR_CMD_RESULT = 0 ∧ t.weft.sent = s.weft.sent ++ s.leaving (addr.toNat / 64 % 4) ++
        [⟨addr.toNat / 64 % 4, s.formPacket (addr.toNat / 64 % 4) .mgmt addr.toNat (leBytes 1 0x40 ++ leBytes 1 2 ++ zeros 2 ++ b), true, none⟩]) ∧
    (s.relayOk addr.toNat = false → Works (.relayData addr bs) s fun t => t.rd Reg.CTR_CMD_RESULT = 2 ∧ t.weft = s.weft)

/-- BEGIN, DATA, ACTIVATE, ABORT and CONFIRM (R453, R454, R455, R456, R459, R468): In a device with power and out of reset: Where role and mode allow
them: BEGIN opens the transfer at PORTER_STATE 1, or leaves its refusal in PORTER_RESULT and no transfer opens. A single good block of the open
transfer lands in the staging area at its place and nowhere else; one with a bad CRC is counted and stored nowhere. ACTIVATE of a ready transfer waits
for AT, or begins at once where AT has passed; otherwise it gives RESULT 4. ABORT closes the open transfer with PORTER_RESULT 7, and gives RESULT 2
for another one. CONFIRM ends the trial it names with journal state 0 and result 8, and gives RESULT 4 without one. -/
def Obligations.PorterTakesATransfer : Prop := ∀ s : State, s.alive = true → s.onHold = false →
  (∀ (g r b : BitVec 8) (len tr ts : Word) (d o : BitVec 256), s.allows 0x10 = true →
    let x : Transfer := ⟨g.toNat, r.toNat, b.toNat, len.toNat, tr.toNat, ts.toNat, d, o, [], none⟩
    (s.beginRefusal x = 0 → Works (.begin g r b len tr ts d o) s fun t => t.ptr.transfer = some x ∧ t.rd Reg.CHT_PORTER_STATE = 1 ∧
      t.rd Reg.CHT_PORTER_RESULT = 0 ∧ t.rd Reg.CHT_XFER_TRANSFER = tr.toNat ∧ t.rd Reg.CHT_BLOCKS_MISSING = min x.blocks 65535 ∧
      t.rd Reg.CHT_BLOCKS_LOWEST = 0) ∧
    (s.beginRefusal x ≠ 0 → Works (.begin g r b len tr ts d o) s fun t => t.ptr = s.ptr ∧ t.rd Reg.CHT_PORTER_RESULT = s.beginRefusal x ∧
      SameRegs s t fun y => y == RegAddr.CTR_CMD || y == RegAddr.CHT_PORTER)) ∧
  (∀ (bs : Bytes) (x : Transfer), s.allows 0x11 = true → s.receiving = some x → 16 ≤ bs.length → leAt bs 8 2 = bs.length - 16 →
    (leAt bs 12 4 = crc32c (bs.drop 16) → leAt bs 0 4 = x.transfer → x.inRange (leAt bs 4 4) (leAt bs 8 2) = true →
      Works (.data bs) s fun t => t.dramRead (stagingAt + leAt bs 4 4 * 2048) (leAt bs 8 2) = bs.drop 16 ∧
        (∀ a, (a < stagingAt + leAt bs 4 4 * 2048 ∨ stagingAt + leAt bs 4 4 * 2048 + leAt bs 8 2 ≤ a) → t.dramByte a = s.dramByte a) ∧
        ∃ y, t.ptr.transfer = some y ∧ leAt bs 4 4 ∈ y.got ∧ ∀ i, i ∈ x.got → i ∈ y.got) ∧
    (leAt bs 12 4 ≠ crc32c (bs.drop 16) → Works (.data bs) s fun t =>
      t.rd Reg.CHT_BLOCK_ERR_CRC = min (s.rd Reg.CHT_BLOCK_ERR_CRC + 1) 65535 ∧ t.ptr = s.ptr ∧ SameBytes s t)) ∧
  (∀ (w : Word) (at_ : BitVec 64), s.allows 0x12 = true →
    (∀ x, s.ptr.transfer = some x → x.transfer = w.toNat → s.rd Reg.CHT_PORTER_STATE = 3 →
      (s.now < at_.toNat → Works (.activate w at_) s fun t => t.ptr.transfer = some { x with due := some at_.toNat } ∧
        t.rd Reg.CHT_PORTER_STATE = 3 ∧ t.rd Reg.CTR_CMD_RESULT = 0) ∧
      (at_.toNat ≤ s.now → s.role ≠ 0 → Works (.activate w at_) s fun t => t.ptr.transfer = some { x with due := none } ∧ t.ptr.op = .a1 ∧
        t.rd Reg.CHT_PORTER_STATE = 4)) ∧
    (s.rd Reg.CHT_PORTER_STATE ≠ 3 → Works (.activate w at_) s fun t => t.rd Reg.CTR_CMD_RESULT = 4 ∧ t.ptr = s.ptr)) ∧
  (∀ w : Word, s.allows 0x13 = true →
    (∀ x, s.ptr.transfer = some x → x.transfer = w.toNat → (s.ptr.op = .idle ∨ s.ptr.op = .check) → Works (.abort w) s fun t =>
      t.ptr.transfer = none ∧ t.ptr.op = .idle ∧ t.rd Reg.CHT_PORTER_STATE = 0 ∧ t.rd Reg.CHT_PORTER_RESULT = 7) ∧
    ((∀ x, s.ptr.transfer = some x → x.transfer ≠ w.toNat) → Works (.abort w) s fun t => t.rd Reg.CTR_CMD_RESULT = 2 ∧ t.ptr = s.ptr)) ∧
  ∀ w : Word, s.allows 0x14 = true →
    (s.ptr.onTrial = true → s.ptr.journal.confirmBy = 1 → s.ptr.journal.transfer = w.toNat → Works (.confirm w) s fun t =>
      t.ptr.onTrial = false ∧ t.ptr.journal.state = 0 ∧ t.ptr.journal.result = 8 ∧ t.rd Reg.CHT_PORTER_RESULT = 8 ∧
      t.rd Reg.CTR_CMD_RESULT = 0) ∧
    (s.ptr.onTrial = false → Works (.confirm w) s fun t => t.rd Reg.CTR_CMD_RESULT = 4 ∧ t.ptr = s.ptr ∧ t.trs = s.trs)

/-- The steps of Porter, activation, and the end of a trial (R455, R456, R457, R458, R459, R461): In a device with power and out of reset: With every
block in, the check begins at PORTER_STATE 2. A wrong digest closes the transfer with PORTER_RESULT 4; the right one of a Ledger image begins its
write. At AT, and not before, a ready transfer begins A1, or A3 without a role. A1 leads to A2 with the journal at COPYING, A3 to A4 with the journal
at WRITING and the Charter area erased, A5 to journal TRIAL and a cold start with CAUSE 5, and the Ledger write to LEDGER_PENDING and PORTER_RESULT
11. A trial expires TRIAL_S seconds after first light: another begins with a cold start while TRIALS permits, and otherwise the old image is restored.
The keyed write of CHT_CONFIRM ends a trial whose CONFIRM_BY is 0 with result 8. None of these does anything without what it ends. -/
def Obligations.PorterStepsAndTrials : Prop := ∀ s : State,
  (s.receiving = none → exec .transferComplete s = .next s) ∧
  (∀ x, s.receiving = some x → x.missing = [] → s.ptr.op = .idle → Works .transferComplete s fun t => t.ptr.op = .check ∧
    t.rd Reg.CHT_PORTER_STATE = 2 ∧ t.ptr.transfer = s.ptr.transfer ∧ SameRegs s t fun a => a == RegAddr.CHT_PORTER) ∧
  (s.ptr.transfer = none → exec .activation s = .next s) ∧
  (∀ x d, s.ptr.transfer = some x → x.due = some d →
    (s.now < d → exec .activation s = .next s) ∧
    (d ≤ s.now → s.rd Reg.CHT_PORTER_STATE = 3 → Works .activation s fun t =>
      t.ptr.transfer = some { x with due := none } ∧ t.ptr.op = (if s.role = 0 then .a3 else .a1) ∧
      t.rd Reg.CHT_PORTER_STATE = if s.role = 0 then 5 else 4)) ∧
  let window := s.sys.litAt + s.ptr.journal.trialS * 1000000000
  ((s.ptr.onTrial = false ∨ s.ptr.op ≠ .idle ∨ s.sys.firstLight = false ∨ s.now < window) → exec .trialExpiry s = .next s) ∧
  (s.ptr.onTrial = true → s.ptr.op = .idle → s.sys.firstLight = true → window ≤ s.now →
    (s.ptr.journal.used < s.ptr.journal.trials → Works .trialExpiry s fun t => t.sys.step = some (false, 1) ∧ t.ptr.journal = s.ptr.journal) ∧
    (s.ptr.journal.trials ≤ s.ptr.journal.used → Works .trialExpiry s fun t => t.ptr.op = .restore 9 true ∧ t.ptr.journal.state = 7 ∧
      t.rd Reg.CHT_PORTER_STATE = 7)) ∧
  (∀ key : BitVec 16, (key.toNat ≠ 0x5AC3 ∨ s.ptr.onTrial = false ∨ s.ptr.journal.confirmBy ≠ 0) → exec (.chtConfirm key) s = .next s) ∧
  (s.ptr.onTrial = true → s.ptr.journal.confirmBy = 0 → Works (.chtConfirm 0x5AC3) s fun t => t.ptr.onTrial = false ∧
    t.ptr.journal.state = 0 ∧ t.ptr.journal.result = 8 ∧ t.rd Reg.CHT_PORTER_RESULT = 8) ∧
  ∀ errs : List (Nat × Byte),
    (s.ptr.op = .idle → exec (.porterStepEnd errs) s = .next s) ∧
    ∀ x, s.ptr.transfer = some x →
      (s.ptr.op = .check → Config.sha256 (s.dramRead stagingAt x.length) ≠ x.digest → Works (.porterStepEnd errs) s fun t =>
        t.ptr.transfer = none ∧ t.ptr.op = .idle ∧ t.rd Reg.CHT_PORTER_STATE = 0 ∧ t.rd Reg.CHT_PORTER_RESULT = 4 ∧ SameBytes s t) ∧
      (s.ptr.op = .check → x.target = 2 → Config.sha256 (s.dramRead stagingAt x.length) = x.digest → Works (.porterStepEnd errs) s fun t =>
        t.ptr.op = .ledger ∧ t.rd Reg.CHT_PORTER_STATE = 8) ∧
      (s.ptr.op = .a1 → Works (.porterStepEnd errs) s fun t => t.ptr.op = .a2 false ∧ t.ptr.journal.state = 4 ∧
        t.ptr.journal.transfer = x.transfer) ∧
      (s.ptr.op = .a3 → Works (.porterStepEnd errs) s fun t => t.ptr.op = .a4 ∧ t.ptr.journal.state = 5 ∧ t.rd Reg.CHT_PORTER_STATE = 5 ∧
        ∀ a, s.directoryRead.charter ≤ a → a < s.directoryRead.charter + (s.imageMax - 65536) → t.flashByte a = 0xFF) ∧
      (s.ptr.op = .a5 → Works (.porterStepEnd errs) s fun t => t.sys.step = some (false, 1) ∧ t.rd Reg.SYS_START_CAUSE = 5 ∧
        t.ptr.journal = ⟨6, 0, x.transfer, x.trials, 0, x.trialS, x.confirmBy, x.newOwner⟩) ∧
      (s.ptr.op = .ledger → Works (.porterStepEnd errs) s fun t => t.ptr.transfer = none ∧ t.flag Reg.SYS_START_LEDGER_PENDING = true ∧
        t.rd Reg.CHT_PORTER_RESULT = 11)

/-- MGMT form 0x40 at a Tile (R229, R450, R452, R454): In a device with power and out of reset: a Tile that accepts a MGMT packet of form 0x40 checks an
envelope of kind 1: one that fails one of checks 1 to 5 shows that check and its command, and leaves the floor. A good block of kind 2 lands in the
staging area at its place and nowhere else. A body whose form the type does not list counts as malformed and does nothing else. -/
def Obligations.TilesTakeEnvelopesAndBlocks : Prop := ∀ (s u : State) (p : Port) (a : Arrival), Accepted s p .mgmt a u → u.isTile = true →
  (leAt a.pkt.body 0 1 = 0x40 → leAt a.pkt.body 1 1 = 1 → u.envelopeFault (a.pkt.body.drop 4) ≠ 0 → Works (.mgmtEnvelope p a) s fun t =>
    t.rd Reg.TRS_ENV_STAT_RESULT = u.envelopeFault (a.pkt.body.drop 4) ∧ t.rd Reg.TRS_ENV_STAT_COMMAND = leAt (a.pkt.body.drop 4) 6 2 ∧
    t.envFloor = u.envFloor ∧ SameRegs u t fun x => x == RegAddr.TRS_ENV_STAT) ∧
  (∀ x, leAt a.pkt.body 0 1 = 0x40 → leAt a.pkt.body 1 1 = 2 → u.receiving = some x → a.pkt.body.length = 20 + leAt a.pkt.body 12 2 →
    leAt a.pkt.body 16 4 = crc32c (a.pkt.body.drop 20) → leAt a.pkt.body 4 4 = x.transfer →
    x.inRange (leAt a.pkt.body 8 4) (leAt a.pkt.body 12 2) = true → Works (.mgmtBlock p a) s fun t =>
      t.dramRead (stagingAt + leAt a.pkt.body 8 4 * 2048) (leAt a.pkt.body 12 2) = a.pkt.body.drop 20 ∧
      ∀ b, (b < stagingAt + leAt a.pkt.body 8 4 * 2048 ∨ stagingAt + leAt a.pkt.body 8 4 * 2048 + leAt a.pkt.body 12 2 ≤ b) →
        t.dramByte b = u.dramByte b) ∧
  (leAt a.pkt.body 0 1 ∉ mgmtForms → Leads (.mgmtEnvelope p a) s (u.bump (Reg.WFT_PORT_ERR_D_MALFORMED p.val)) ∧
    Leads (.mgmtBlock p a) s (u.bump (Reg.WFT_PORT_ERR_D_MALFORMED p.val)))

/-- Assay runs and the trims they bring into force (R336, R338, R340, R341, R344, R345, R348, R349): In a device with power and out of reset: a device
without a role starts no run. START with no run in progress begins one at step 1 with the values of ASY_REF and the write; with one it only sets
REASON 1. ABORT before A8 ends a run with REASON 6. A1 with REF_UV outside 1.24 to 1.26 V ends the run with REASON 2; A2 leads to A3; A3 leads to A4,
or ends the run with REASON 4 where OFF lies outside its range; a failed write at A9 ends it with REASON 7 and WRITE_FAIL. Without a run its commands
do nothing. A sample of the thermal sense shows in RAW and, with TS_OFF, in TEMP, and counts in the mean of a run. -/
def Obligations.AssayRunsStepByStep : Prop := ∀ s : State,
  (∀ (sweep : BitVec 8) (ts : Bool) (temp : BitVec 12),
    (s.role = 0 → exec (.asyRunStart sweep ts temp) s = .next s) ∧
    (s.role ≠ 0 → s.asy.run = none → Works (.asyRunStart sweep ts temp) s fun t => t.rd Reg.ASY_STAT_STEP = 1 ∧ t.rd Reg.ASY_STAT_REASON = 0 ∧
      t.flag Reg.ASY_RUN_START = true ∧ t.rd Reg.ASY_RUN_SWEEP = sweep.toNat ∧ t.rd Reg.ASY_RUN_REF_TEMP = temp.toNat ∧
      ∃ r, t.asy.run = some r ∧ r.refUv = s.rd Reg.ASY_REF_REF_UV ∧ r.tsEn = ts ∧ r.refTemp = temp.toInt) ∧
    (s.role ≠ 0 → s.asy.run ≠ none → Works (.asyRunStart sweep ts temp) s fun t => t.rd Reg.ASY_STAT_REASON = 1 ∧ t.asy = s.asy ∧
      t.rd Reg.ASY_STAT_STEP = s.rd Reg.ASY_STAT_STEP)) ∧
  (s.asy.run ≠ none → s.rd Reg.ASY_STAT_STEP < 8 → Works .asyRunAbort s fun t => t.asy.run = none ∧ t.asy.record = s.asy.record ∧
    t.rd Reg.ASY_STAT_STEP = 0 ∧ t.rd Reg.ASY_STAT_REASON = 6) ∧
  ((s.asy.run = none ∨ 8 ≤ s.rd Reg.ASY_STAT_STEP) → exec .asyRunAbort s = .next s) ∧
  (∀ m : AsyMeasure,
    (s.asy.run = none → exec (.assayStepEnd m) s = .next s) ∧
    ∀ r, s.asy.run = some r →
      (s.rd Reg.ASY_STAT_STEP = 1 → (r.refUv < 1240000 ∨ 1260000 < r.refUv) → Works (.assayStepEnd m) s fun t => t.asy.run = none ∧
        t.rd Reg.ASY_STAT_REASON = 2) ∧
      (s.rd Reg.ASY_STAT_STEP = 2 → Works (.assayStepEnd m) s fun t => t.rd Reg.ASY_STAT_STEP = 3 ∧ t.asy = s.asy) ∧
      (s.rd Reg.ASY_STAT_STEP = 3 → inTrim (roundDiv m.total 16384 - 2048) 512 = true → Works (.assayStepEnd m) s fun t =>
        t.rd Reg.ASY_STAT_STEP = 4 ∧ t.asy.run = some { r with off := roundDiv m.total 16384 - 2048 }) ∧
      (s.rd Reg.ASY_STAT_STEP = 3 → inTrim (roundDiv m.total 16384 - 2048) 512 = false → Works (.assayStepEnd m) s fun t =>
        t.rd Reg.ASY_STAT_REASON = 4 ∧ t.rd Reg.ASY_STAT_STEP = 0 ∧ t.asy.run = none ∧ t.asy.record = s.asy.record) ∧
      (s.rd Reg.ASY_STAT_STEP = 9 → s.asy.record ≠ none → m.flashOk = false → Works (.assayStepEnd m) s fun t => t.asy.run = none ∧
        t.rd Reg.ASY_STAT_REASON = 7 ∧ t.flag Reg.ASY_STAT_WRITE_FAIL = true ∧ t.flash = s.flash)) ∧
  ∀ raw : BitVec 16, Works (.trimUpdate raw) s fun t => t.rd Reg.ASY_TEMP_RAW = raw.toNat ∧
    t.rd Reg.ASY_TEMP_TEMP = unsignedOf 16 (raw.toInt + s.tsOff) ∧ t.asy.record = s.asy.record ∧
    ∀ r, s.asy.run = some r → t.asy.run = some { r with temps := (r.temps.1 + t.rdInt Reg.ASY_TEMP_TEMP, r.temps.2 + 1) }

/-- Power modes of the SRAM banks, accesses, wakes and parity errors (R375, R376, R377, R378, R379, R380, R381, R384): In a device with power and out of
reset: a change out of On of a bank whose owner is powered up sets REFUSED and nothing else; mode 3 does nothing; Off loses the contents, and Off and
Retain leave no access waiting; a bank that returns to On wakes. The accesses of a cycle are refused, with no effect, at a bank that is Off or in
Retain, and wait at a waking one. At a bank that is On, where they do not reach a held test window: an access past the end of the bank, at the owner
port of an owner without power, or by a master that the shared port does not serve is refused; another one reads or stores its bytes and nothing else.
Where both ports address one row in a cycle, the owner acts first and the shared access after it. The end of a wake leaves the bank On and no access
to it waiting. A parity error that is no second fatal error refuses the read and shows its row; it is counted, and where the cores meet it it is fatal
error 3. -/
def Obligations.SramBanksByMode : Prop := ∀ s : State,
  (∀ b : Fin 6, exec (.srbPwrMode b 3) s = .next s ∧
    ((s.rd (Reg.SRB_PWR_MODE b) = 2 → ownerPowered s.role b = true → ∀ m : BitVec 2, m.toNat < 2 → Works (.srbPwrMode b m) s fun t =>
      t.flag (Reg.SRB_PWR_REFUSED b) = true ∧ t.rd (Reg.SRB_PWR_MODE b) = 2 ∧ SameBytes s t ∧ SameRegs s t fun a => a == RegAddr.SRB_PWR b)) ∧
    ((s.rd (Reg.SRB_PWR_MODE b) ≠ 2 ∨ ownerPowered s.role b = false) →
      (Works (.srbPwrMode b 0) s fun t => t.rd (Reg.SRB_PWR_MODE b) = 0 ∧ t.rd (Reg.SRB_PWR_STATE b) = 0 ∧
        t.srb.held = s.srb.held.filter (fun x => x.1 != b.val) ∧
        (∀ o < 0x1000000, t.sramByte b o = 0) ∧ ∀ c : Fin 6, c ≠ b → ∀ o < 0x1000000, t.sramByte c o = s.sramByte c o) ∧
      (Works (.srbPwrMode b 1) s fun t => t.rd (Reg.SRB_PWR_MODE b) = 1 ∧ t.rd (Reg.SRB_PWR_STATE b) = 1 ∧
        t.srb.held = s.srb.held.filter (fun x => x.1 != b.val) ∧ SameBytes s t) ∧
      Works (.srbPwrMode b 2) s fun t => t.rd (Reg.SRB_PWR_MODE b) = 2 ∧ SameBytes s t ∧
        t.rd (Reg.SRB_PWR_STATE b) = if s.rd (Reg.SRB_PWR_STATE b) = 2 then 2 else 3)) ∧
  (∀ b : Fin 6,
    (s.rd (Reg.SRB_PWR_STATE b) ≠ 3 → exec (.bankWakeDone b) s = .next s) ∧
    (s.rd (Reg.SRB_PWR_STATE b) = 3 → Works (.bankWakeDone b) s fun t => t.rd (Reg.SRB_PWR_STATE b) = 2 ∧
      t.srb.held = s.srb.held.filter (fun x => x.1 != b.val) ∧ SameRegs s t fun a => a == RegAddr.SRB_PWR b)) ∧
  (∀ (b : Fin 6) (c : SramCycle),
    (s.rd (Reg.SRB_PWR_STATE b) < 2 → Works (.testYield ⟨b, c⟩) s fun t => (c.owner.isSome = true → t.srb.owner = ([], true)) ∧
      t.srb.shared = c.shared.map (fun _ => ([], true)) ∧ SameBytes s t) ∧
    (s.rd (Reg.SRB_PWR_STATE b) = 3 → Leads (.testYield ⟨b, c⟩) s { s with srb := { s.srb with held := s.srb.held ++ [(b.val, c)] } })) ∧
  (∀ (b : Fin 6) (x y : SramAccess) (m : SharedMaster), s.rd (Reg.SRB_PWR_STATE b) = 2 → s.touchesWindow b x = false → s.touchesWindow b y = false →
    ((ownerPowered s.role b = false ∨ SramAccess.inside x b = false) → Works (.testYield ⟨b, ⟨some x, []⟩⟩) s fun t =>
      t.srb.owner = ([], true) ∧ SameBytes s t) ∧
    ((m ∉ sharedMasters b ∨ SramAccess.inside y b = false) → Works (.testYield ⟨b, ⟨none, [(m, y)]⟩⟩) s fun t =>
      t.srb.shared = [([], true)] ∧ SameBytes s t) ∧
    (ownerPowered s.role b = true → SramAccess.inside x b = true → Works (.testYield ⟨b, ⟨some x, []⟩⟩) s fun t =>
      t.srb.owner = ((s.sramPiece b x).2, false) ∧ SameBytes (s.sramPiece b x).1 t) ∧
    (m ∈ sharedMasters b → SramAccess.inside y b = true → Works (.testYield ⟨b, ⟨none, [(m, y)]⟩⟩) s fun t =>
      t.srb.shared = [((s.sramPiece b y).2, false)] ∧ SameBytes (s.sramPiece b y).1 t) ∧
    (ownerPowered s.role b = true → m ∈ sharedMasters b → SramAccess.inside x b = true → SramAccess.inside y b = true →
      x.offset / 8 = y.offset / 8 → x.offset % 8 + SramAccess.bytes x ≤ 8 → y.offset % 8 + SramAccess.bytes y ≤ 8 →
      Works (.testYield ⟨b, ⟨some x, [(m, y)]⟩⟩) s fun t => t.srb.owner = ((s.sramPiece b x).2, false) ∧
        t.srb.shared = [(((s.sramPiece b x).1.sramPiece b y).2, false)] ∧ SameBytes ((s.sramPiece b x).1.sramPiece b y).1 t)) ∧
  ∀ (b : Fin 6) (row : BitVec 18) (cores : Bool), Works (.sramParityError b row cores) s fun t =>
    ((cores = false ∨ s.sys.fatal = none) → t.rd (Reg.SRB_STAT_LAST_ROW b) = row.toNat ∧
      if cores = (b.val == 0) then t.srb.owner = ([], true) else t.srb.shared = [([], true)]) ∧
    (cores = false → t.rd (Reg.SRB_STAT_PARITY b) = min (s.rd (Reg.SRB_STAT_PARITY b) + 1) 16383) ∧
    (cores = true → s.sys.fatal = none → t.sys.fatal = some 3)

/-- The background test of the SRAM banks (R383, R384, R385, R416): In a device with power and out of reset: With ENABLE 1, no window held and PERIOD over
since the last window start, the test holds the next window of the next testable bank, keeps its 256 bytes and leaves zeros there; with ENABLE 0, a
window held, or before PERIOD is over, it does nothing. The end of a good window puts the kept bytes back and releases it; a failed one also shows the
bank and window and counts the failure. An access of the owner that touches the held window makes the test give it back first, counts a yield, and
then stores its bytes. No byte outside the window and the access changes. -/
def Obligations.TestWindowsAreBorrowedAndRestored : Prop := ∀ s : State,
  ((s.rd Reg.SRB_TEST_CTRL_ENABLE = 0 ∨ s.rd Reg.SRB_TEST_POS_HELD = 1 ∨
    (∃ w, s.srb.windowAt = some w ∧ w ≤ s.now ∧ s.now < w + max 1 (s.rd Reg.SRB_TEST_CTRL_PERIOD) * 1000)) → exec .testWindowStart s = .next s) ∧
  (∀ b w, s.rd Reg.SRB_TEST_CTRL_ENABLE = 1 → s.rd Reg.SRB_TEST_POS_HELD = 0 → s.windowDue = true → s.testTarget = some (b, w) →
    Works .testWindowStart s fun t =>
    t.flag Reg.SRB_TEST_POS_HELD = true ∧ t.rd Reg.SRB_TEST_POS_BANK = b ∧ t.srb.save = s.sramRead b (w * 256) 256 ∧ t.srb.windowAt = some s.now ∧
    t.sramRead b (w * 256) 256 = zeros 256 ∧
    ∀ c o, (sramKey c o < sramKey b (w * 256) ∨ sramKey b (w * 256) + 256 ≤ sramKey c o) → t.sramByte c o = s.sramByte c o) ∧
  (s.rd Reg.SRB_TEST_POS_HELD = 0 → ∀ f, exec (.testWindowEnd f) s = .next s) ∧
  (s.rd Reg.SRB_TEST_POS_HELD = 1 → s.srb.save.length = 256 →
    let b := s.rd Reg.SRB_TEST_POS_BANK
    let o := s.rd Reg.SRB_TEST_POS_WINDOW * 256
    let outside (c k : Nat) : Prop := sramKey c k < sramKey b o ∨ sramKey b o + 256 ≤ sramKey c k
    (∀ f, Works (.testWindowEnd f) s fun t => t.flag Reg.SRB_TEST_POS_HELD = false ∧ t.sramRead b o 256 = s.srb.save ∧
      (∀ c k, outside c k → t.sramByte c k = s.sramByte c k) ∧
      (f = true → t.flag Reg.SRB_TEST_FAIL_VALID = true ∧ t.rd Reg.SRB_TEST_FAIL_BANK = b ∧ t.rd Reg.SRB_TEST_FAIL_WINDOW * 256 = o ∧
        t.rd Reg.SRB_TEST_STAT_FAILS = min (s.rd Reg.SRB_TEST_STAT_FAILS + 1) 255)) ∧
    ∀ (d : Fin 6) (x : SramAccess) (bs : Bytes), x.write = some bs → ownerPowered s.role d = true → SramAccess.inside x d = true →
      s.rd (Reg.SRB_PWR_STATE d) = 2 → s.touchesWindow d x = true → Works (.testYield ⟨d, ⟨some x, []⟩⟩) s fun t =>
        t.flag Reg.SRB_TEST_POS_HELD = false ∧ t.rd Reg.SRB_TEST_STAT_YIELDS = min (s.rd Reg.SRB_TEST_STAT_YIELDS + 1) 65535 ∧
        t.srb.owner = ([], false) ∧ t.sramRead d x.offset bs.length = bs ∧
        ∀ c k, outside c k → (sramKey c k < sramKey d x.offset ∨ sramKey d x.offset + bs.length ≤ sramKey c k) →
          t.sramByte c k = s.sramByte c k)

/-- The general Tally units (R386, R394, R395, R509): In a device with power and out of reset: In a cluster that has power, as without a role only cluster
0 has, a write of DATA1, DATA2 or DATA4 feeds its one, two or four bytes, the lowest first, to the register of its unit by the active parameters and
counts them; no other unit's register changes. INIT loads the register with INIT and clears COUNT and RESTARTED. The memories, the active copies and
every register but the unit's own TLY_U_STAT stay. In a cluster without power these commands do nothing. -/
def Obligations.TallyUnitsTakeBytes : Prop := ∀ (c : Fin 4) (u : Fin 8) (s : State),
  (s.clusterOn c = false → (∀ v, exec (.tlyUData1 c u v) s = .next s) ∧ (∀ v, exec (.tlyUData2 c u v) s = .next s) ∧
    (∀ v, exec (.tlyUData4 c u v) s = .next s) ∧ exec (.tlyUInit c u) s = .next s) ∧
  (s.clusterOn c = true → (∀ (i : Instr) (bs : Bytes), (∃ v : Byte, i = .tlyUData1 c u v ∧ bs = leBytes 1 v.toNat) ∨
      (∃ v : BitVec 16, i = .tlyUData2 c u v ∧ bs = leBytes 2 v.toNat) ∨ (∃ v : Word, i = .tlyUData4 c u v ∧ bs = leBytes 4 v.toNat) →
    Works i s fun t => t.unitReg c u = bs.foldl (s.unitParams c u).feed (s.unitReg c u) ∧
      t.rd (Reg.TLY_U_STAT_COUNT c u) = min (s.rd (Reg.TLY_U_STAT_COUNT c u) + bs.length) (2 ^ 31 - 1) ∧
      (∀ (d : Fin 4) (w : Fin 8), (d, w) ≠ (c, u) → t.unitReg d w = s.unitReg d w) ∧ SameBytes s t ∧
      SameRegs s t fun a => a == RegAddr.TLY_U_STAT c u) ∧
  Works (.tlyUInit c u) s fun t => t.unitReg c u = (s.unitParams c u).init ∧ t.rd (Reg.TLY_U_STAT_COUNT c u) = 0 ∧
    t.flag (Reg.TLY_U_STAT_RESTARTED c u) = false ∧ (∀ (d : Fin 4) (w : Fin 8), (d, w) ≠ (c, u) → t.unitReg d w = s.unitReg d w) ∧
    SameBytes s t ∧ SameRegs s t fun a => a == RegAddr.TLY_U_STAT c u)

/-- The memory-scan engines (R388, R396, R398): In a device with power and out of reset: a device without a role runs no scan. START with a range whose
address and length are multiples of 8 and whose length is not 0 latches the fields and runs; another range ends at once with ERROR and its IRQ bit.
ABORT ends a scan. At the end of a pass of a mapped area the result is the check value of the bytes there, DONE sets, PASSES counts, and MISMATCH says
whether the result differs from EXPECT cut to the profile's width; without REPEAT the scan is over. An uncorrectable line of its area ends it with UE,
and one that no window maps with ERROR; a line outside the area does not. Where no scan runs, the end of a pass and a stop do nothing. The memories
stay. -/
def Obligations.MemoryScansStartAndEnd : Prop := ∀ (e : Fin 4) (s : State),
  (s.role = 0 → ∀ f g, (∀ h, exec (.tlyMsStart e f g h) s = .next s) ∧ exec (.tlyMsAbort e f g) s = .next s) ∧
  (s.role ≠ 0 → ∀ (f : BitVec 2) (g : Bool),
    let r := ((s.wr (Reg.TLY_MS_CFG_PROFILE e) f.toNat).wrFlag (Reg.TLY_MS_CFG_REPEAT e) g).scanFields e
    (r.addr % 8 = 0 → r.len % 8 = 0 → r.len ≠ 0 → Works (.tlyMsStart e f g false) s fun t => Tab.find t.tly.scans e = some r ∧
      r.profile = f.toNat ∧ r.again = g ∧ t.flag (Reg.TLY_MS_CFG_START e) = true ∧ t.rd (Reg.TLY_MS_STAT_PASSES e) = 0 ∧
      t.flag (Reg.TLY_MS_STAT_DONE e) = false ∧ SameBytes s t) ∧
    ((r.addr % 8 ≠ 0 ∨ r.len % 8 ≠ 0 ∨ r.len = 0) → Works (.tlyMsStart e f g false) s fun t => Tab.find t.tly.scans e = none ∧
      t.flag (Reg.TLY_MS_STAT_ERROR e) = true ∧ t.bit Reg.TLY_IRQ_ERROR e = true ∧ t.flag (Reg.TLY_MS_CFG_START e) = false ∧ SameBytes s t) ∧
    ∀ i ∈ [Instr.tlyMsStart e f g true, .tlyMsAbort e f g], Works i s fun t => Tab.find t.tly.scans e = none ∧
      t.flag (Reg.TLY_MS_CFG_START e) = false ∧ t.rd (Reg.TLY_MS_CFG_PROFILE e) = f.toNat ∧ SameBytes s t) ∧
  (Tab.find s.tly.scans e = none → exec (.scanPassEnd e) s = .next s ∧ ∀ l b, exec (.scanStop e l b) s = .next s) ∧
  ∀ r, Tab.find s.tly.scans e = some r →
    (s.unmappedLine r = none →
      let v := (tallyProfile r.profile).check (s.dramRead r.addr r.len)
      let miss := v != r.expect % 2 ^ (tallyProfile r.profile).width
      Works (.scanPassEnd e) s fun t => Tab.get t.tly.results e = v ∧ t.flag (Reg.TLY_MS_STAT_DONE e) = true ∧
        t.rd (Reg.TLY_MS_STAT_PASSES e) = min (s.rd (Reg.TLY_MS_STAT_PASSES e) + 1) 65535 ∧ t.flag (Reg.TLY_MS_STAT_MISMATCH e) = miss ∧
        (miss = true → t.bit Reg.TLY_IRQ_MISMATCH e = true) ∧ Tab.find t.tly.scans e = (if r.again then some r else none) ∧ SameBytes s t) ∧
    ∀ l : BitVec 27,
      ((l.toNat < r.addr / 64 ∨ r.lastLine < l.toNat) → ∀ ue, exec (.scanStop e l ue) s = .next s) ∧
      (r.addr / 64 ≤ l.toNat → l.toNat ≤ r.lastLine →
        (s.windowAt (64 * l.toNat) = none → ∀ ue, Works (.scanStop e l ue) s fun t => Tab.find t.tly.scans e = none ∧
          t.flag (Reg.TLY_MS_STAT_ERROR e) = true ∧ t.bit Reg.TLY_IRQ_ERROR e = true ∧ t.rd (Reg.TLY_MS_POS_LINE e) = l.toNat ∧ SameBytes s t) ∧
        (s.windowAt (64 * l.toNat) ≠ none → Works (.scanStop e l true) s fun t => Tab.find t.tly.scans e = none ∧
          t.flag (Reg.TLY_MS_STAT_UE e) = true ∧ t.bit Reg.TLY_IRQ_UE e = true ∧ t.rd (Reg.TLY_MS_POS_LINE e) = l.toNat ∧ SameBytes s t))

/-- Reads and writes of a DRAM line (R359, R360, R363, R364, R365, R366, R367): In a device with power and out of reset: a read or write inside a window
with no turn of the channel waits there in the class of its use, and changes no byte. Issued at a controller where nothing else waits, and with at
most two wrong symbols: a write stores its bytes, as far as the line reaches, and no other byte; a read answers the 64 bytes of the line, not flagged,
with their check bytes, and changes no byte, and where a symbol was wrong and no wire is dead it counts one corrected line, shows that line, and
leaves its write-back waiting in class C3; a read then gives what a write of the whole line stored. Outside every window a read answers zeros flagged
as bad, a write is discarded, and each counts a map fault. -/
def Obligations.DramReadsAndWrites : Prop := ∀ (a : BitVec 33) (m : DramMaster) (s : State),
  let few (pat : List (Nat × Byte)) : Prop := ((realErrors pat).map (·.1)).dedup.length ≤ 2
  (s.windowAt a.toNat ≠ none → ∀ pat,
    (∀ bs, Works (.dramWrite a ⟨bs, m, pat, 0⟩) s fun t => SameBytes s t ∧
      ∃ p ∈ t.dmc.waiting, p.addr = a.toNat ∧ p.op = .write (bs.take (64 - a.toNat % 64)) ∧ p.cls = DramUse.cls m.use ∧ p.arrived = s.now) ∧
    Works (.dramRead a ⟨m, pat, 0⟩) s fun t => SameBytes s t ∧ t.dmc.result = s.dmc.result ∧
      ∃ p ∈ t.dmc.waiting, p.addr = a.toNat ∧ p.op = .read ∧ p.cls = DramUse.cls m.use ∧ p.arrived = s.now) ∧
  (s.windowAt a.toNat ≠ none → s.dmc.waiting = [] → ∀ (n : Nat) (pat : List (Nat × Byte)), 1 ≤ n → few pat →
    (∀ bs : Bytes, Works (.dramWrite a ⟨bs, m, pat, n⟩) s fun t =>
      (∀ b, (b < a.toNat ∨ a.toNat + min bs.length (64 - a.toNat % 64) ≤ b) → t.dramByte b = s.dramByte b) ∧
      t.dramRead a.toNat (min bs.length (64 - a.toNat % 64)) = bs.take (64 - a.toNat % 64)) ∧
    Works (.dramRead a ⟨m, pat, n⟩) s fun t => SameBytes s t ∧
      t.dmc.result = ⟨s.dramRead (a.toNat / 64 * 64) 64, rsCheck (s.dramRead (a.toNat / 64 * 64) 64), false, a.toNat⟩ ∧
      (realErrors pat ≠ [] → 144 ≤ s.rd (Reg.DMC_CH_STAT_DEAD_WIRE (s.dramPlace a.toNat).1) →
        t.rd Reg.DMC_ECC_CNT_CE = min (s.rd Reg.DMC_ECC_CNT_CE + 1) (2 ^ (Reg.DMC_ECC_CNT_CE).width - 1) ∧
        t.rd Reg.DMC_ECC_LAST_LINE = a.toNat / 64 ∧ t.flag Reg.DMC_ECC_LAST_UE = false ∧
        (n = 1 → t.dmc.waiting.map (fun q => (q.line, q.cls)) = [(a.toNat / 64, 3)]))) ∧
  (∀ bs pat, s.windowAt a.toNat ≠ none → s.dmc.waiting = [] → a.toNat % 64 = 0 → bs.length = 64 → few pat →
    Works (.dramWrite a ⟨bs, m, pat, 1⟩) s fun t => Works (.dramRead a ⟨m, pat, 1⟩) t fun v => v.dmc.result = ⟨bs, rsCheck bs, false, a.toNat⟩) ∧
  (s.windowAt a.toNat = none → ∀ (n : Nat) (pat : List (Nat × Byte)),
    (Works (.dramRead a ⟨m, pat, n⟩) s fun t => t.dmc.result = ⟨zeros 64, rsCheck (zeros 64), true, a.toNat⟩ ∧ SameBytes s t ∧
      t.rd Reg.DMC_MAPERR_COUNT = min (s.rd Reg.DMC_MAPERR_COUNT + 1) (2 ^ (Reg.DMC_MAPERR_COUNT).width - 1)) ∧
    ∀ bs, Works (.dramWrite a ⟨bs, m, pat, n⟩) s fun t => SameBytes s t ∧
      t.rd Reg.DMC_MAPERR_COUNT = min (s.rd Reg.DMC_MAPERR_COUNT + 1) (2 ^ (Reg.DMC_MAPERR_COUNT).width - 1))

/-- Promotion, the order of issue, refresh, power-down, scrub, re-centring and die temperature (R361, R362, R368, R370, R371, R374): In a device with
power and out of reset: the requests that wait for a line of a channel and have reached the age limit of their class become promoted as of that time,
and are counted; no other request changes. The channel then issues the oldest promoted read first, and without a promoted one the read of the lowest
class where it stands alone there, and answers it. A refresh and a re-centring note their time, and a refresh closes the row. A pseudo-rank with no
request queued enters power-down where PD_TIMER is not 0 and DRAM is in service, and otherwise nothing happens. A patrol scrub queues a read of the
line it stands at in class C3 and moves on by one, or does nothing where it is off or DRAM not in service. The die temperature shows in every channel
and sets the refresh interval to 32 ms up to 85 °C, 16 ms up to 100 °C and 8 ms above. Without a turn of a channel none of these changes a byte of
memory. -/
def Obligations.DramControllerUpkeep : Prop := ∀ s : State,
  (∀ (c : Fin 8) (l : BitVec 27),
    let due (p : DramRequest) : Bool := (p.chan == c.val) && (p.line == l.toNat) && s.promotable p
    (Works (.requestPromotion c ⟨l, 0⟩) s fun t =>
      t.dmc.waiting = (s.dmc.waiting.map fun p => if due p then { p with promoted := some (p.arrived + s.ageLimit p.cls) } else p) ∧
      t.rd (Reg.DMC_CH_CLASS_PROMOTED c) = min (s.rd (Reg.DMC_CH_CLASS_PROMOTED c) + (s.dmc.waiting.filter due).length)
        (2 ^ (Reg.DMC_CH_CLASS_PROMOTED c).width - 1) ∧
      SameBytes s t ∧ SameRegs s t fun a => a == RegAddr.DMC_CH_CLASS c) ∧
    let v := (s.promote c.val fun p => p.line == l.toNat).promote c.val fun _ => true
    (∀ p, (v.issuable c.val).find? (fun q => q.promoted.isSome) = some p → p.op = .read → Works (.requestPromotion c ⟨l, 1⟩) s fun t =>
      t.dmc.result.addr = p.addr) ∧
    ∀ p, p ∈ v.issuable c.val → p.op = .read → p.promoted = none → p.cls < 4 →
      (∀ q ∈ v.issuable c.val, q = p ∨ (q.promoted = none ∧ p.cls < q.cls)) → Works (.requestPromotion c ⟨l, 1⟩) s fun t => t.dmc.result.addr = p.addr) ∧
  (∀ (c : Fin 8) (r : Fin 2) (b : Fin 16), Works (.dramRefresh c r b) s fun t =>
    Tab.get t.dmc.refreshed (c.val * 32 + r.val * 16 + b.val) = s.now ∧ Tab.get t.dmc.openRow (c.val * 32 + r.val * 16 + b.val) = 0 ∧
    SameBytes s t ∧ SameRegs s t fun _ => false) ∧
  (∀ c : Fin 8, Works (.readRecentre c) s fun t => Tab.get t.dmc.recentred c = s.now ∧ SameBytes s t ∧ SameRegs s t fun _ => false) ∧
  (∀ (c : Fin 8) (r : Fin 2),
    let queued := s.dmc.waiting.any fun p => (p.chan == c.val) && (chanRank (s.dramPlace p.addr).2 == r.val)
    ((s.ac Reg.DMC_CFG_PD_TIMER = 0 ∨ s.rd Reg.DMC_STAT_STATE ≠ 2 ∨ queued = true) → exec (.dramPowerDown c r) s = .next s) ∧
    (s.ac Reg.DMC_CFG_PD_TIMER ≠ 0 → s.rd Reg.DMC_STAT_STATE = 2 → queued = false → Works (.dramPowerDown c r) s fun t =>
      t.rd (if r = 0 then Reg.DMC_CH_STAT_PR0 c else Reg.DMC_CH_STAT_PR1 c) = 1 ∧ SameBytes s t ∧
      SameRegs s t fun a => a == RegAddr.DMC_CH_STAT c)) ∧
  (∀ pat n, ((s.ac Reg.DMC_CFG_SCRUB_H = 0 ∨ s.rd Reg.DMC_STAT_STATE ≠ 2) → exec (.patrolScrub ⟨pat, n⟩) s = .next s) ∧
    (s.ac Reg.DMC_CFG_SCRUB_H ≠ 0 → s.rd Reg.DMC_STAT_STATE = 2 → Works (.patrolScrub ⟨pat, n⟩) s fun t =>
      t.rd Reg.DMC_SCRUB_POS = (s.rd Reg.DMC_SCRUB_POS + 1) % 2 ^ (Reg.DMC_SCRUB_POS).width ∧
      (n = 0 → SameBytes s t ∧ ∃ p ∈ t.dmc.waiting, p.addr = s.rd Reg.DMC_SCRUB_POS * 64 ∧ p.op = .scrub ∧ p.cls = 3))) ∧
  ∀ temp : BitVec 8, Works (.dramTemperatureRead temp) s fun t =>
    t.dmc.refreshMs = (if temp.toInt ≤ 85 then 32 else if temp.toInt ≤ 100 then 16 else 8) ∧
    (∀ c < 8, t.rd (Reg.DMC_CH_STAT_DTEMP c) = temp.toNat) ∧ SameBytes s t

/-- Markers and TIME exchanges (R222, R255, R259, R260, R261, R262, R268): In a device with power and out of reset: once for each multiple of 131,072 ns
that the count reaches, a marker goes out on every transmit direction that can carry it, which is Active then; none other counts. A marker on the time
port of a device that follows the chain, LOCKED or TRACK, shows its error in PHASE inside 1 µs and counts as OUTSIDE beyond; a Tile in HOLDOVER or
FREE with an offset inside 1 ms tracks and slews, with a larger one it waits to step at the next boundary; without the source, on another port, or in
ACQUIRE a marker does nothing. A Tile that can send on its time port, with or without a wall key, sends a request with its T1. A request that passes
the link check is answered with T1, T2 and a T3 at least 1.5 µs later, and awaits the verdict with T2; a response to the request under way awaits it
with T4. A response that passes the verdict gives the hop delay and the offset. How far past 1.5 µs T3 lies is a free value (log entry 11). -/
def Obligations.TimeExchangesAndMarkers : Prop :=
  (∀ s : State,
    let m := s.now / 131072 * 131072
    (s.due actMarker m m s.now = false → exec .wheelMarkerSend s = .next s) ∧
    (s.due actMarker m m s.now = true → Works .wheelMarkerSend s fun t => t.whl.markers = s.whl.markers + s.sendPorts.length ∧
      t.weft.sets = s.weft.sets ++ s.sendPorts.map (fun p => s.ordSet p 5 1 0 false) ∧ ∀ p ∈ s.sendPorts, t.rd (Reg.WFT_PORT_STAT_TX_POWER p) = 0)) ∧
  (∀ (s : State) (p : Port),
    ((p.val ≠ s.timePort ∨ (s.source ≠ 2 ∧ (s.isTile = false ∨ s.syncCfg ≠ 2)) ∨ (s.source = 2 ∧ s.rd Reg.WHL_STAT_STATE = 1)) → exec (.wheelMarkerReceive p) s = .next s) ∧
    (p.val = s.timePort → s.source = 2 →
      ((s.rd Reg.WHL_STAT_STATE = 2 ∨ s.rd Reg.WHL_STAT_STATE = 3) → within (s.markerError p) 1000 = true → Works (.wheelMarkerReceive p) s fun t =>
        t.rd Reg.WHL_ERR_PHASE = phase16 (s.markerError p) ∧ t.whl.badRun = 0 ∧ s.rd Reg.WHL_STAT_STATE ≤ t.rd Reg.WHL_STAT_STATE) ∧
      ((s.rd Reg.WHL_STAT_STATE = 2 ∨ s.rd Reg.WHL_STAT_STATE = 3) → within (s.markerError p) 1000 = false → Works (.wheelMarkerReceive p) s fun t =>
        t.rd Reg.WHL_CNT_OUTSIDE = min (s.rd Reg.WHL_CNT_OUTSIDE + 1) (2 ^ (Reg.WHL_CNT_OUTSIDE).width - 1)) ∧
      (s.rd Reg.WHL_STAT_STATE = 4 → s.isTile = true → ∀ o, s.whl.offset = some o →
        (within o 1000000 = true → Works (.wheelMarkerReceive p) s fun t => t.rd Reg.WHL_STAT_STATE = 2 ∧ t.flag Reg.WHL_STAT_SLEWING = true) ∧
        (within o 1000000 = false → s.whl.stepPending = none → Works (.wheelMarkerReceive p) s fun t => t.whl.stepPending = some o ∧
          t.whl.stepAt = nextBoundary s.whl.rate s.now ∧ t.regs = s.regs) ∧
        (within o 1000000 = false → s.whl.stepPending ≠ none → exec (.wheelMarkerReceive p) s = .next s)))) ∧
  (∀ s : State,
    ((s.isTile = false ∨ s.canSend s.timePort = false) → exec .timeRequestSend s = .next s) ∧
    (s.isTile = true → s.canSend s.timePort = true → Works .timeRequestSend s fun t =>
      t.whl.request = some (s.timePort, s.whl.nextId, s.count16 % 2 ^ 64) ∧ t.weft.sent = s.weft.sent ++ [⟨s.timePort,
        s.formPacket s.timePort .time (s.destChain 2 s.timePort) (timeRequestBody s.whl.nextId (s.count16 % 2 ^ 64)), true, none⟩])) ∧
  (∀ (s : State) (p : Port) (a : Arrival) (q : Nat), s.linkVerdict p a = .good q → a.pkt.type = 0x10 → (a.pkt.body.headD 0).toNat = 1 →
    (s.arrive p a).canSend p = true → Works (.timeRequestReceive p a) s fun t =>
      t.whl.waiting = s.whl.waiting ++ [⟨p.val, a.pkt, q, s.count16 % 2 ^ 64⟩] ∧
      ∃ k, t.weft.sent = (s.arrive p a).weft.sent ++ [⟨p.val, k, true, none⟩] ∧ k.type = 0x10 ∧ leAt k.body 0 1 = 2 ∧
        leAt k.body 4 4 = leAt a.pkt.body 4 4 ∧ leAt k.body 8 8 = leAt a.pkt.body 8 8 ∧ leAt k.body 16 8 = s.count16 % 2 ^ 64 ∧
        ∃ d < 32, leAt k.body 24 8 = (s.count16 + 24000 + d) % 2 ^ 64) ∧
  (∀ (s : State) (p : Port) (a : Arrival) (q id t1 : Nat), s.linkVerdict p a = .good q → a.pkt.type = 0x10 → (a.pkt.body.headD 0).toNat = 2 →
    s.whl.request = some (p.val, id, t1) → leAt a.pkt.body 4 4 = id → s.count16 % 2 ^ 64 ≤ t1 + 1600000 → Works (.timeResponseReceive p a) s fun t =>
      t.whl.waiting = s.whl.waiting ++ [⟨p.val, a.pkt, q, s.count16 % 2 ^ 64⟩] ∧ t.whl.request = none) ∧
  ∀ s : State, (s.whl.waiting = [] → exec .timeVerdict s = .next s) ∧
    ∀ w rest, s.whl.waiting = w :: rest → w.port < 4 →
      (∀ u, State.frameChecks { s with whl := { s.whl with waiting := rest } } w.port .time w.pkt w.seq = (u, false) →
        Leads .timeVerdict s u) ∧
      ∀ u, State.frameChecks { s with whl := { s.whl with waiting := rest } } w.port .time w.pkt w.seq = (u, true) →
        (w.pkt.body.headD 0).toNat = 2 →
        let x := exchangeOf (leAt w.pkt.body 8 8) (leAt w.pkt.body 16 8) (leAt w.pkt.body 24 8) w.stamp
        let m := meanDelay (((x.1.toNat, x.2.1.toNat) :: Tab.get u.whl.exchanges w.port).take 16)
        Works .timeVerdict s fun t => t.whl.waiting = rest ∧ t.whl.offset = some x.2.2 ∧ t.rd (Reg.WHL_HOP_DELAY w.port) = m.1 % 2 ^ 20 ∧
          t.rd (Reg.WHL_HOP_VALID w.port) = m.2

/-- Edges, losses, steps and the rate of the wheel (R248, R249, R250, R256, R258, R266, R268, R269, R273): In a device with power and out of reset: a
short pulse on WSYNC_IN does nothing. At a Sender that follows house sync an edge, on a boundary at which no commit changed SYNC, counts the frames
without one since the last edge as MISSED; where there is none, one within 1 µs in TRACK or LOCKED shows its error in PHASE, and the first in ACQUIRE
at a holder sets the count to the next boundary. Four missing frames take TRACK or LOCKED to HOLDOVER there, and a Tile with local sync to the chain
as its source; an edge brings the pin back as its source and shows DIFF. Holdover expires to FREE. A Tile without markers counts seven missed, and
goes to HOLDOVER where it follows the chain. A pending step, once its boundary has come, moves the count by the offset, counts, zeroes every expiry
and tracks. A pending rate comes into force at its second. WSYNC_OUT gives an edge with OUT 1 or 2 only, once for each boundary or whole second. The
Frame die's copy takes the count. Where its condition is absent, each does nothing. -/
def Obligations.LockStatesFollowTheSource : Prop := ∀ s : State,
  exec (.wsyncEdge false) s = .next s ∧
  let n := nearestIndex s.whl.rate s.count16
  (s.isSender = true → s.source = 1 → (∀ x, s.whl.oldSync = some x → x.1 ≠ boundary s.whl.rate n) →
    (Works (.wsyncEdge true) s fun t => t.rd Reg.WHL_CNT_MISSED = min (s.rd Reg.WHL_CNT_MISSED + (match s.whl.lastEdge with
      | some m => n - m - 1
      | none => 0)) 255) ∧
    ((∀ m, s.whl.lastEdge = some m → n ≤ m + 1) →
    ((s.rd Reg.WHL_STAT_STATE = 2 ∨ s.rd Reg.WHL_STAT_STATE = 3) → within s.edgeError 1000 = true → Works (.wsyncEdge true) s fun t =>
      t.rd Reg.WHL_ERR_PHASE = phase16 s.edgeError ∧ t.whl.badRun = 0 ∧ t.count = s.count) ∧
    (s.rd Reg.WHL_STAT_STATE = 1 → s.warmStart = false → s.whl.edgeSeen = false → s.holdsSpindle = true → Works (.wsyncEdge true) s fun t =>
      t.count = BitVec.ofNat 64 (nextBoundary s.whl.rate s.now) ∧ t.whl.edgeSeen = true ∧ t.regs = s.regs)) ∧
    ((s.rd Reg.WHL_STAT_STATE = 2 ∨ s.rd Reg.WHL_STAT_STATE = 3) → Works .syncLoss s fun t => t.rd Reg.WHL_STAT_STATE = 4 ∧
      t.rd Reg.WHL_CNT_MISSED = min (s.rd Reg.WHL_CNT_MISSED + (4 - min s.whl.badRun 4)) 255)) ∧
  (s.isTile = true → s.syncCfg = 2 → s.whl.localLost = false → Works .syncLoss s fun t => t.whl.localLost = true ∧ t.source = 2 ∧
    t.rd Reg.WHL_STAT_SOURCE = 2) ∧
  (s.isTile = true → s.syncCfg = 2 → (∀ x, s.whl.oldSync = some x → x.1 ≠ boundary s.whl.rate n) → Works (.wsyncEdge true) s fun t =>
    t.whl.localLost = false ∧ t.source = 3 ∧ t.rd Reg.WHL_STAT_SOURCE = 3 ∧
    t.rd Reg.WHL_LOCAL_DIFF = unsignedOf 32 (clampInt (-2147483648) 2147483647 s.chainDiff)) ∧
  (s.isTile = false → s.source ≠ 1 → exec .syncLoss s = .next s) ∧
  (s.rd Reg.WHL_STAT_STATE = 4 → Works .holdoverExpiry s fun t => t.rd Reg.WHL_STAT_STATE = 0 ∧ t.whl.offset = none) ∧
  (s.rd Reg.WHL_STAT_STATE ≠ 4 → exec .holdoverExpiry s = .next s) ∧
  (s.isTile = false → exec .markerTimeout s = .next s) ∧
  (s.isTile = true → Works .markerTimeout s fun t => t.rd Reg.WHL_CNT_MISSED = min (s.rd Reg.WHL_CNT_MISSED + 7) 255 ∧
    (s.source = 2 → (s.rd Reg.WHL_STAT_STATE = 2 ∨ s.rd Reg.WHL_STAT_STATE = 3) → t.rd Reg.WHL_STAT_STATE = 4)) ∧
  (s.whl.stepPending = none → exec .countStep s = .next s) ∧
  (∀ o, s.whl.stepPending = some o → s.now < s.whl.stepAt → exec .countStep s = .next s) ∧
  (∀ o, s.whl.stepPending = some o → s.whl.stepAt ≤ s.now → Works .countStep s fun t => t.count = BitVec.ofNat 64 (((s.count16 : Int) - o).toNat / 16) ∧
    t.whl.stepPending = none ∧ t.rd Reg.WHL_STAT_STATE = 2 ∧ t.flag Reg.WHL_STAT_SLEWING = true ∧
    t.rd Reg.WHL_CNT_STEPS = min (s.rd Reg.WHL_CNT_STEPS + 1) 255 ∧ ∀ g ∈ t.hmk.guard, g.expiry = 0) ∧
  (∀ r sec, s.whl.pendingRate = some (r, sec) → s.now < sec * 1000000000 → exec .rateSwitch s = .next s) ∧
  (∀ r sec, s.whl.pendingRate = some (r, sec) → sec * 1000000000 ≤ s.now → Works .rateSwitch s fun t => t.whl.rate = r ∧ t.whl.pendingRate = none ∧
    t.flag Reg.WHL_STAT_RATE_PENDING = false) ∧
  (∀ at_, ((s.cfg 13 Reg.WHL_CFG_OUT = 1 ∧ at_ = s.lastBoundaryAt s.now) ∨ (s.cfg 13 Reg.WHL_CFG_OUT = 2 ∧ at_ = s.now / 1000000000 * 1000000000)) →
    (s.due actOut at_ at_ s.now = false → exec .wsyncOutEdge s = .next s) ∧
    (s.due actOut at_ at_ s.now = true → Works .wsyncOutEdge s fun t => t.whl.outEdges = s.whl.outEdges + 1 ∧ t.whl.outAt = some at_ ∧
      t.wsyncOut = decide (s.now < at_ + 1000) ∧ { t with whl := s.whl } = s)) ∧
  (s.cfg 13 Reg.WHL_CFG_OUT ≠ 1 → s.cfg 13 Reg.WHL_CFG_OUT ≠ 2 → exec .wsyncOutEdge s = .next s) ∧
  Leads .countCopyRefresh s { s with whl := { s.whl with copy := s.count } }

/-- Training of a Weft port, its failures and its restarts (R232, R233, R235, R236, R237, R243): In a device with power and out of reset: DETECT with
energy leads to LOCK, LOCK with a locked lane to EQ, EQ with a qualifying lane to CONFIG and TS2 sets with the mask of the good lanes, and CONFIG with
a width for the partner's mask into service. A wake ends Active at a Tile. A full attempt that finds no energy is Dormant and absent with FAIL 1; one
with energy and no lock waits its back-off with FAIL 2; a failed fast retrain begins a full attempt. Good TS1 sets restart a port in service, which
resets its back-off, or one that waits, and others do nothing; the end of the wait starts an attempt; energy restarts a Dormant port, present again.
An absent port that is not Dormant by command drives a beacon. In another state each of these does nothing. -/
def Obligations.PortsTrainPhaseByPhase : Prop := ∀ (p : Port) (r : LaneResult) (s : State),
  (s.rd (Reg.WFT_PORT_STAT_STATE p) = 2 → r.mask ≠ 0 → Works (.trainingPhaseEnd p r) s fun t => t.rd (Reg.WFT_PORT_STAT_STATE p) = 3 ∧
    ∀ l < 4, t.flag (Reg.WFT_LANE_STAT_ENERGY p l) = laneBit r.mask l) ∧
  (s.rd (Reg.WFT_PORT_STAT_STATE p) = 3 → r.mask ≠ 0 → ∀ i ∈ [Instr.trainingPhaseEnd p r, .trainingTimeout p r], Works i s fun t =>
    t.rd (Reg.WFT_PORT_STAT_STATE p) = 4 ∧ ∀ l < 4, t.flag (Reg.WFT_LANE_STAT_LOCK p l) = laneBit r.mask l) ∧
  (s.rd (Reg.WFT_PORT_STAT_STATE p) = 4 → s.goodLanes p r ≠ 0 → ∀ i ∈ [Instr.trainingPhaseEnd p r, .trainingTimeout p r],
    Works i s fun t => t.rd (Reg.WFT_PORT_STAT_STATE p) = 5 ∧ t.goodMask p = s.goodLanes p r ∧
      ∃ o, t.weft.sets = s.weft.sets ++ [o] ∧ o.port = p.val ∧ o.id = 2 ∧ o.mask = s.goodLanes p r) ∧
  (s.rd (Reg.WFT_PORT_STAT_STATE p) = 5 → lanesFor r.partner.toNat (s.ac (Reg.WFT_PORT_CFG_MAX_WIDTH p)) ≠ [] →
    Works (.trainingPhaseEnd p r) s fun t => t.inService p = true ∧ t.rd (Reg.WFT_PORT_STAT_RX_GOOD p) = s.goodMask p ∧
      t.rd (Reg.WFT_PORT_STAT_TX_GOOD p) = r.partner.toNat ∧ (t.port p).k = 0 ∧ (t.port p).syncDue = true) ∧
  (s.inService p = true → s.isSender = false → s.rd (Reg.WFT_PORT_STAT_TX_POWER p) = 3 → Works (.trainingPhaseEnd p r) s fun t =>
    t.rd (Reg.WFT_PORT_STAT_TX_POWER p) = 0 ∧ (t.port p).syncDue = true) ∧
  ((s.port p).fast = false → s.rd (Reg.WFT_PORT_STAT_STATE p) = 2 → Works (.trainingTimeout p r) s fun t =>
    t.rd (Reg.WFT_PORT_STAT_STATE p) = 1 ∧ t.flag (Reg.WFT_PORT_STAT_ABSENT p) = true ∧ t.rd (Reg.WFT_PORT_STAT_FAIL p) = 1) ∧
  ((s.port p).fast = false → s.rd (Reg.WFT_PORT_STAT_STATE p) = 3 → r.mask = 0 → r.energy = true → Works (.trainingTimeout p r) s fun t =>
    t.rd (Reg.WFT_PORT_STAT_STATE p) = 6 ∧ t.rd (Reg.WFT_PORT_STAT_FAIL p) = 2 ∧ (t.port p).k = (s.port p).k + 1 ∧
    t.rd (Reg.WFT_PORT_STAT_BACKOFF p) = min (s.port p).k 10) ∧
  ((s.port p).fast = true → s.rd (Reg.WFT_PORT_STAT_STATE p) = 3 → r.mask = 0 → Works (.trainingTimeout p r) s fun t =>
    t.rd (Reg.WFT_PORT_STAT_STATE p) = 2 ∧ (t.port p).fast = false) ∧
  (∀ set, setIs 1 set = false → exec (.ts1Receive ⟨p, set⟩) s = .next s) ∧
  (s.inService p = true → ∀ set, setIs 1 set = true → Works (.ts1Receive ⟨p, set⟩) s fun t => t.rd (Reg.WFT_PORT_STAT_STATE p) = 2 ∧ (t.port p).k = 0 ∧
    t.rd (Reg.WFT_PORT_STAT_BACKOFF p) = 0) ∧
  (s.rd (Reg.WFT_PORT_STAT_STATE p) = 6 → ∀ set, setIs 1 set = true → ∀ i ∈ [Instr.ts1Receive ⟨p, set⟩, .backoffExpiry p], Works i s fun t =>
    t.rd (Reg.WFT_PORT_STAT_STATE p) = 2 ∧ (t.port p).k = (s.port p).k) ∧
  (s.rd (Reg.WFT_PORT_STAT_STATE p) ≠ 6 → exec (.backoffExpiry p) s = .next s) ∧
  (s.rd (Reg.WFT_PORT_STAT_STATE p) = 1 → Works (.energyDetected p) s fun t => t.rd (Reg.WFT_PORT_STAT_STATE p) = 2 ∧
    t.flag (Reg.WFT_PORT_STAT_ABSENT p) = false ∧ (t.port p).k = 0) ∧
  (s.rd (Reg.WFT_PORT_STAT_STATE p) ≠ 1 → exec (.energyDetected p) s = .next s ∧ exec (.beacon p) s = .next s) ∧
  (s.rd (Reg.WFT_PORT_STAT_STATE p) = 1 → s.flag (Reg.WFT_PORT_STAT_ABSENT p) = true → (s.port p).commanded = false →
    Leads (.beacon p) s { s with weft := { s.weft with beacons := s.weft.beacons + 1 } })

/-- Lane faults and degraded widths (R205, R239, R246): In a device with power and out of reset: a fault of a lane in use (lost lock that the partner's
sleep does not excuse, more than 255 violations in its millisecond, a figure of merit below FOM_MIN for 100 ms, or skew) counts its violations, leaves
the lane not good and sends four DEGRADE sets with the mask of the good lanes; with none left the port leaves service into a full attempt, otherwise
it stays in service and waits for its partner. Where no lane in use has such a fault the violations only count. A good DEGRADE set with a mask that
allows a width sets the transmit width and mask; one with a mask that allows none, or a partner that does not answer a fault, takes the port out of
service into a full attempt. Out of service these do nothing. -/
def Obligations.LanesDegradeAndWidthsFollow : Prop := ∀ (p : Port) (s : State),
  (∀ (l : Fin 4) (cause : LaneCause) (cv disp : BitVec 16),
    (s.laneFaulty p l cause (cv.toNat + disp.toNat) = true → Works (.laneFault p l cause ⟨cv, disp⟩) s fun t =>
      t.flag (Reg.WFT_LANE_STAT_GOOD p l) = false ∧
      (t.goodMask p ≠ 0 → t.weft.sets = s.weft.sets ++ if s.canSend p then [s.ordSet p 4 4 (t.goodMask p) false] else []) ∧
      (t.goodMask p = 0 → t.rd (Reg.WFT_PORT_STAT_STATE p) = 2) ∧
      (t.goodMask p ≠ 0 → t.inService p = true ∧ (t.port p).degrading = true ∧ t.rd (Reg.WFT_PORT_STAT_RX_GOOD p) = t.goodMask p) ∧
      t.rd (Reg.WFT_LANE_ERR_CV p l) = min (s.rd (Reg.WFT_LANE_ERR_CV p l) + cv.toNat) 65535 ∧
      t.rd (Reg.WFT_LANE_ERR_DISP p l) = min (s.rd (Reg.WFT_LANE_ERR_DISP p l) + disp.toNat) 65535) ∧
    (s.laneFaulty p l cause (cv.toNat + disp.toNat) = false → Works (.laneFault p l cause ⟨cv, disp⟩) s fun t =>
      t.rd (Reg.WFT_LANE_ERR_CV p l) = min (s.rd (Reg.WFT_LANE_ERR_CV p l) + cv.toNat) 65535 ∧
      t.rd (Reg.WFT_LANE_ERR_DISP p l) = min (s.rd (Reg.WFT_LANE_ERR_DISP p l) + disp.toNat) 65535 ∧ { t with regs := s.regs } = s ∧
      SameRegs s t fun a => a == RegAddr.WFT_LANE_ERR p l)) ∧
  (∀ l, s.laneFaulty p l .lock 0 = (s.inService p && s.flag (Reg.WFT_LANE_STAT_LOGICAL p l) && !s.flag (Reg.WFT_PORT_STAT_REMOTE_DORMANT p))) ∧
  (∀ l n, s.laneFaulty p l .errors n = (s.inService p && s.flag (Reg.WFT_LANE_STAT_LOGICAL p l) && decide (255 < n))) ∧
  (∀ set : Bytes,
    let m := setMask set
    ((s.inService p = false ∨ setIs 4 set = false) → exec (.degradeReceive p set) s = .next s) ∧
    (s.inService p = true → setIs 4 set = true → lanesFor m (s.ac (Reg.WFT_PORT_CFG_MAX_WIDTH p)) ≠ [] → Works (.degradeReceive p set) s fun t =>
      t.inService p = true ∧ t.rd (Reg.WFT_PORT_STAT_TX_GOOD p) = m ∧
      t.rd (Reg.WFT_PORT_STAT_TX_WIDTH p) = widthCode (lanesFor m (s.ac (Reg.WFT_PORT_CFG_MAX_WIDTH p))) ∧ { t with regs := s.regs } = s ∧
      SameRegs s t fun a => a == RegAddr.WFT_PORT_STAT p) ∧
    (s.inService p = true → setIs 4 set = true → lanesFor m (s.ac (Reg.WFT_PORT_CFG_MAX_WIDTH p)) = [] → Works (.degradeReceive p set) s fun t =>
      t.rd (Reg.WFT_PORT_STAT_STATE p) = 2 ∧ t.rd (Reg.WFT_PORT_STAT_TX_WIDTH p) = 0)) ∧
  (s.inService p = true → (s.port p).degrading = true → Works (.degradeTimeout p) s fun t => t.rd (Reg.WFT_PORT_STAT_STATE p) = 2 ∧
    (t.port p).degrading = false) ∧
  ((s.inService p = false ∨ (s.port p).degrading = false) → exec (.degradeTimeout p) s = .next s)

/-- Idle-hold, Dormant, wakes, retrains and stored settings (R241, R242, R243, R246, R517): In a device with power and out of reset: an Active direction
of a port in service with IDLE_HOLD, whose transmit queue has been empty for IDLE_AFTER, enters Idle-hold. A partner's good SLEEP set shows in
REMOTE_DORMANT. On a port in service op 3 sends SLEEP sets and leaves the transmit direction Dormant, and op 4 wakes a Dormant one with TS2 sets; a
wake without ACK leaves service with FAIL 5 into a full attempt. On a port that is on, op 1 starts a full attempt, op 2 a fast one from stored
settings or else a full one, and op 5 leaves the whole port Dormant by command. A port in service stores the settings of its lanes. In any other state
each of these does nothing. -/
def Obligations.PortPowerStatesAndRetrains : Prop := ∀ (p : Port) (s : State),
  (s.inService p = true → s.acFlag (Reg.WFT_PORT_CFG_IDLE_HOLD p) = true → s.rd (Reg.WFT_PORT_STAT_TX_POWER p) = 0 →
    s.txEmpty p = true → Works (.idleHoldEntry p) s fun t => t.rd (Reg.WFT_PORT_STAT_TX_POWER p) = 1 ∧ t.inService p = true ∧ { t with regs := s.regs } = s) ∧
  ((s.inService p = false ∨ s.acFlag (Reg.WFT_PORT_CFG_IDLE_HOLD p) = false ∨ s.rd (Reg.WFT_PORT_STAT_TX_POWER p) ≠ 0 ∨ s.txEmpty p = false) →
    exec (.idleHoldEntry p) s = .next s) ∧
  (∀ set, setIs 3 set = false → exec (.sleepReceive ⟨p, set⟩) s = .next s) ∧
  (∀ set, setIs 3 set = true → Works (.sleepReceive ⟨p, set⟩) s fun t => t.flag (Reg.WFT_PORT_STAT_REMOTE_DORMANT p) = true ∧ { t with regs := s.regs } = s ∧
    SameRegs s t fun a => a == RegAddr.WFT_PORT_STAT p) ∧
  (s.inService p = true → Works (.transmitDormant p) s fun t => t.rd (Reg.WFT_PORT_STAT_TX_POWER p) = 2 ∧ t.inService p = true ∧
    t.weft.sets = s.weft.sets ++ if s.canSend p then [s.ordSet p 3 16 0 false] else []) ∧
  (s.inService p = true → s.rd (Reg.WFT_PORT_STAT_TX_POWER p) = 2 → Works (.transmitWake p) s fun t =>
    t.rd (Reg.WFT_PORT_STAT_TX_POWER p) = 3 ∧ t.weft.sets = s.weft.sets ++ [s.ordSet p 2 0 (s.goodMask p) false]) ∧
  (s.inService p = true → s.rd (Reg.WFT_PORT_STAT_TX_POWER p) = 3 → Works (.wakeTimeout p) s fun t => t.rd (Reg.WFT_PORT_STAT_STATE p) = 2 ∧
    t.rd (Reg.WFT_PORT_STAT_FAIL p) = 5 ∧ Tab.find t.trs.answers p = none) ∧
  (s.inService p = false → exec (.transmitDormant p) s = .next s ∧ exec (.transmitWake p) s = .next s ∧ exec (.wakeTimeout p) s = .next s ∧
    exec (.settingsSave p) s = .next s) ∧
  (s.portOn p = false → exec (.fullRetrain p) s = .next s ∧ exec (.fastRetrain p) s = .next s ∧ exec (.portDormant p) s = .next s) ∧
  (s.portOn p = true →
    (Works (.fullRetrain p) s fun t => t.rd (Reg.WFT_PORT_STAT_STATE p) = 2 ∧ (t.port p).fast = false) ∧
    (Works (.fastRetrain p) s fun t => t.rd (Reg.WFT_PORT_STAT_STATE p) = (if (s.port p).stored = none then 2 else 3) ∧
      (t.port p).fast = (s.port p).stored.isSome) ∧
    Works (.portDormant p) s fun t => t.rd (Reg.WFT_PORT_STAT_STATE p) = 1 ∧ t.rd (Reg.WFT_PORT_STAT_TX_POWER p) = 2 ∧
      (t.port p).commanded = true) ∧
  (s.inService p = true → Works (.settingsSave p) s fun t => (t.port p).stored = some (s.laneSettings p) ∧ t.regs = s.regs)

/-- Eye scans on lane 0 of a port (R240): In a device with power and out of reset: START takes its fields; on a lane in service with no scan under way it
runs with DONE 0, and on another lane it ends at once with a count of all ones. During a scan START changes the fields alone. The end of the dwell
leaves the count and DONE, and does nothing without a scan. No register but WFT_EYE_CTRL and WFT_EYE_ERR of the port changes, and no memory. -/
def Obligations.EyeScansRunAndEnd : Prop := ∀ (p : Port) (s : State),
  (∀ (v : BitVec 7) (f : BitVec 6) (d : BitVec 4), Works (.eyeScanStart p v f d) s fun t => t.rd (Reg.WFT_EYE_CTRL_VOFF p) = v.toNat ∧
    t.rd (Reg.WFT_EYE_CTRL_PHASE p) = f.toNat ∧ t.rd (Reg.WFT_EYE_CTRL_DWELL p) = d.toNat ∧ { t with regs := s.regs } = s ∧
    (SameRegs s t fun a => a == RegAddr.WFT_EYE_CTRL p || a == RegAddr.WFT_EYE_ERR p) ∧
    (s.flag (Reg.WFT_EYE_CTRL_START p) = true → t.flag (Reg.WFT_EYE_CTRL_START p) = true ∧
      t.flag (Reg.WFT_EYE_CTRL_DONE p) = s.flag (Reg.WFT_EYE_CTRL_DONE p) ∧ t.rd (Reg.WFT_EYE_ERR_COUNT p) = s.rd (Reg.WFT_EYE_ERR_COUNT p)) ∧
    (s.flag (Reg.WFT_EYE_CTRL_START p) = false → s.inService p = true → s.flag (Reg.WFT_LANE_STAT_LOGICAL p 0) = true →
      t.flag (Reg.WFT_EYE_CTRL_START p) = true ∧ t.flag (Reg.WFT_EYE_CTRL_DONE p) = false) ∧
    (s.flag (Reg.WFT_EYE_CTRL_START p) = false → (s.inService p = false ∨ s.flag (Reg.WFT_LANE_STAT_LOGICAL p 0) = false) →
      t.flag (Reg.WFT_EYE_CTRL_START p) = false ∧ t.flag (Reg.WFT_EYE_CTRL_DONE p) = true ∧ t.rd (Reg.WFT_EYE_ERR_COUNT p) = 0xFFFFFFFF)) ∧
  ∀ n : Word,
    (s.flag (Reg.WFT_EYE_CTRL_START p) = true → Works (.eyeScanDone p n) s fun t => t.flag (Reg.WFT_EYE_CTRL_START p) = false ∧
      t.flag (Reg.WFT_EYE_CTRL_DONE p) = true ∧ t.rd (Reg.WFT_EYE_ERR_COUNT p) = n.toNat ∧ { t with regs := s.regs } = s) ∧
    (s.flag (Reg.WFT_EYE_CTRL_START p) = false → exec (.eyeScanDone p n) s = .next s)

/-- The offer and the answer of an enrolment, and a failed TRNG (R231, R432, R442, R443, R444, R445, R518): In a device with power and out of reset: a
Sender that offers, has someone left to enrol, can send, can draw and whose next offer is due sends a stage 1 offer on a port with no exchange half
done, in form 1 or 3 by its rank, with its WALL_ID. An enrolled Tile relays an offer of its own wall out of its other port with HOPS one higher. An
unenrolled device that answers there and can draw keeps an exchange with that offer where its tests pass, and otherwise counts the failure with its
reason. The Sender that waits for stage 2 sends the grant for the checked position, or drops the exchange with the reason. A failed TRNG test sets
TRNG_FAIL and drives FAULT_N low; without a draw no offer goes out. -/
def Obligations.EnrolmentOffersAndAnswers : Prop :=
  (∀ s : State, Works .trngFail s fun t => t.flag Reg.TRS_STAT_TRNG_FAIL = true ∧ t.canDraw = false ∧ t.sys.faultLow = true ∧ SameBytes s t ∧
    SameRegs s t fun a => a == RegAddr.TRS_STAT || a == RegAddr.SYS_ALERT) ∧
  (∀ (s : State) (p : Port),
    ((s.offering = false ∨ s.unenrolled = false ∨ s.canSend p = false ∨ s.canDraw = false ∨ s.offerDue p = false) → exec (.enrolOffer p) s = .next s) ∧
    (s.offering = true → s.unenrolled = true → s.canSend p = true → s.canDraw = true → s.offerDue p = true → (∀ x, Tab.find s.trs.offers p = some x → x.stage = 1) →
      Works (.enrolOffer p) s fun t => ∃ r k, Tab.find t.trs.offers p = some r ∧ r.stage = 1 ∧ r.at_ = s.now ∧
        r.form = (if s.rd Reg.SYS_ROLE_RANK = 0 then 1 else 3) ∧ leAt r.hello 0 1 = 1 ∧ leAt r.hello 4 4 = t.rd Reg.TRS_WALL_ID_WALL_ID ∧
        t.weft.sent = s.weft.sent ++ s.leaving p ++ [⟨p.val, k, true, none⟩] ∧ k.type = 0x13 ∧ k.body = enrolBody r.form 0 (s.portAddr p) r.hello)) ∧
  (∀ (s u : State) (p : Port) (a : Arrival), Accepted s p .enrol a u → leAt a.pkt.body 8 1 = 1 →
    (u.sameWall a.pkt.body = true → u.isTile = true → p.val < 2 → leAt a.pkt.body 1 1 < 63 → u.canSend (1 - p.val) = true →
      Works (.enrolOfferReceive p a) s fun t => ∃ k, t.weft.sent = u.weft.sent ++ u.leaving (1 - p.val) ++ [⟨1 - p.val, k, true, none⟩] ∧ k.type = 0x13 ∧
        k.body = a.pkt.body.take 1 ++ leBytes 1 (leAt a.pkt.body 1 1 + 1) ++ a.pkt.body.drop 2) ∧
    (u.sameWall a.pkt.body = false → u.answers p a.pkt.body = true → u.canDraw = true → Works (.enrolOfferReceive p a) s fun t =>
      (u.helloReason (a.pkt.body.drop 8) = 0 → ∃ r, Tab.find t.trs.answers p = some r ∧ r.hello = a.pkt.body.drop 8 ∧
        r.form = leAt a.pkt.body 0 1 ∧ r.hops = leAt a.pkt.body 1 1) ∧
      (u.helloReason (a.pkt.body.drop 8) ≠ 0 → t.rd Reg.TRS_ENROL_LAST_REASON = u.helloReason (a.pkt.body.drop 8) ∧
        t.rd Reg.TRS_ENROL_FAIL = min (u.rd Reg.TRS_ENROL_FAIL + 1) 255 ∧ t.trs = u.trs))) ∧
  ∀ (s u : State) (p : Port) (a : Arrival) (r : OfferRec), Accepted s p .enrol a u → leAt a.pkt.body 8 1 = 2 → u.isSender = true →
    Tab.find u.trs.offers p = some r → r.stage = 1 → u.sameWall a.pkt.body = true → Works (.enrolAnswerReceive p a) s fun t =>
      (u.keyReason r.hello (a.pkt.body.drop 8) ≠ 0 → Tab.find t.trs.offers p = none ∧
        t.rd Reg.TRS_ENROL_LAST_REASON = u.keyReason r.hello (a.pkt.body.drop 8)) ∧
      (u.keyReason r.hello (a.pkt.body.drop 8) = 0 → u.grantPosition p r.form (leAt a.pkt.body 2 2 % 64) = none →
        Tab.find t.trs.offers p = none ∧ t.rd Reg.TRS_ENROL_LAST_REASON = 7) ∧
      ∀ pos, u.keyReason r.hello (a.pkt.body.drop 8) = 0 → u.grantPosition p r.form (leAt a.pkt.body 2 2 % 64) = some pos →
        Tab.find t.trs.offers p = some { r with stage := 3, at_ := u.now, key := a.pkt.body.drop 8, target := pos }

/-- The grant, its confirmation, and the end of an exchange (R231, R441, R444, R445, R446, R447, R448): In a device with power and out of reset: a device
whose exchange awaits its grant drops it: where TAG verifies it takes the wall key and the WALL_ID and shows KEY_VALID, a Tile also its wall address,
and it counts no failure; otherwise the failure has reason 4 and the key stays. An enrolled Tile relays a grant of its wall. The Sender whose grant is
confirmed ends the exchange and counts the device: a Tile as enrolled, the partner as partner; a wrong CONF counts as failure with reason 5. A half-
done exchange is dropped and counted with reason 6 after 100 ms, and an offer without an answer only ends after 50 ms; before that nothing happens. -/
def Obligations.EnrolmentGrantsAndEnds : Prop :=
  (∀ (s u : State) (p : Port) (a : Arrival), Accepted s p .enrol a u → leAt a.pkt.body 8 1 = 3 →
    (u.sameWall a.pkt.body = true → u.isTile = true → p.val < 2 → u.canSend (1 - p.val) = true → Works (.enrolGrantReceive p a) s fun t =>
      ∃ k, t.weft.sent = u.weft.sent ++ u.leaving (1 - p.val) ++ [⟨1 - p.val, k, true, none⟩] ∧ k.type = 0x13 ∧ k.body = a.pkt.body) ∧
    ∀ r, u.sameWall a.pkt.body = false → u.isTile = true → Tab.find u.trs.answers p = some r → r.answered = true →
      leAt r.hello 4 4 = leAt a.pkt.body 12 4 →
      let got := unwrapKey (wallKdf r.hello r.key (Config.ecdhShared r.eph (slice r.hello 56 64)) (u.ownPlace r a.pkt.body) (leAt a.pkt.body 12 4))
        (slice a.pkt.body 24 32) (BitVec.ofNat 128 (beNat (slice a.pkt.body 56 16))) (stagesDigest r.hello r.key)
      Works (.enrolGrantReceive p a) s fun t => Tab.find t.trs.answers p = none ∧
        (got = none → t.trs.wallKey = u.trs.wallKey ∧ t.rd Reg.TRS_ENROL_LAST_REASON = 4) ∧
        ∀ k, got = some k → t.trs.wallKey = some k ∧ t.rd Reg.TRS_WALL_ID_WALL_ID = leAt a.pkt.body 12 4 ∧
          t.flag Reg.TRS_ENROL_KEY_VALID = true ∧ t.flag Reg.SYS_WALL_VALID = true ∧
          t.rd Reg.SYS_WALL_ADDR = u.ownPlace r a.pkt.body % 2 ^ (Reg.SYS_WALL_ADDR).width ∧ t.hmk.guard = [] ∧
          t.rd Reg.TRS_ENROL_FAIL = u.rd Reg.TRS_ENROL_FAIL) ∧
  (∀ (s u : State) (p : Port) (a : Arrival) (r : OfferRec) (wall : BitVec 256), Accepted s p .enrol a u → leAt a.pkt.body 8 1 = 4 →
    u.isSender = true → Tab.find u.trs.offers p = some r → r.stage = 3 → u.trs.wallKey = some wall → u.sameWall a.pkt.body = true →
    Works (.enrolDoneReceive p a) s fun t => Tab.find t.trs.offers p = none ∧
      (BitVec.ofNat 128 (beNat (slice a.pkt.body 16 16)) ≠ confOf wall r.hello r.key → t.rd Reg.TRS_ENROL_LAST_REASON = 5) ∧
      (BitVec.ofNat 128 (beNat (slice a.pkt.body 16 16)) = confOf wall r.hello r.key →
        t.rd Reg.TRS_ENROL_ENROLLED = min (u.rd Reg.TRS_ENROL_ENROLLED + 1) 127 ∧ (r.target = 63 → t.trs.partner = true) ∧
        (r.target ≠ 63 → tileKey p r.target ∈ t.trs.enrolled))) ∧
  ∀ (s : State) (p : Port),
    (Tab.find s.trs.offers p = none → Tab.find s.trs.answers p = none → exec (.enrolTimeout p) s = .next s) ∧
    (∀ r, Tab.find s.trs.offers p = some r → Tab.find s.trs.answers p = none →
      let wait := r.at_ + if r.stage = 1 then 50000000 else 100000000
      (s.now < wait → exec (.enrolTimeout p) s = .next s) ∧
      (wait ≤ s.now → Works (.enrolTimeout p) s fun t =>
        Tab.find t.trs.offers p = none ∧ (r.stage = 1 → t.regs = s.regs) ∧ (r.stage ≠ 1 → t.rd Reg.TRS_ENROL_LAST_REASON = 6))) ∧
    (s.isSender = false → ∀ r, Tab.find s.trs.answers p = some r → Tab.find s.trs.offers p = none →
      (s.now < r.at_ + 100000000 → exec (.enrolTimeout p) s = .next s) ∧
      (r.at_ + 100000000 ≤ s.now → Works (.enrolTimeout p) s fun t => Tab.find t.trs.answers p = none ∧
        t.rd Reg.TRS_ENROL_LAST_REASON = 6))

/-- HEART packets: sending, a Tile's master, and what a Sender learns of its partner (R255, R402, R406, R409, R410, R411, R423, R426): In a device with
power and out of reset: once at each whole millisecond a Sender with a wall key and no drill sends one HEART on every transmit direction that can
carry it, behind the transit packets that leave first, and its number rises by 1; another device sends none. A Tile with the wall key that accepts a
HEART with STATE[0] or STATE[2] takes its Sender as master if it has none, or if the standing is the same or better; of a lower standing it takes
nothing. A Tile without the key only moves its time port, for an epoch no lower than heard before. A change to a higher epoch clears the floors, one
to a lower epoch marks every cell of both other buffers behind. LOSS_MS without a HEART drops the master. A Sender that accepts a HEART of its own
rank sets RANK_CLASH if it has the wall key; one of its partner is kept with its time, and the holder's epoch shows in SPN_EPOCH; a holder that hears
a better standing gives up the Spindle; a port in split-ring service leaves it. -/
def Obligations.HeartbeatsSetTheMaster : Prop :=
  (∀ s : State, 
    let at_ := s.frameNow / 1000000 * 1000000
    ((s.isSender = false ∨ s.due actHeart at_ at_ s.frameNow = false) → exec .heartSend s = .next s) ∧
    (s.isSender = true → s.due actHeart at_ at_ s.frameNow = true → s.spn.drill = none → s.trs.wallKey ≠ none → Works .heartSend s fun t =>
      t.spn.hearts = (s.spn.hearts + 1) % 2 ^ 32 ∧ (s.spn.sleepAfter = true → t.spn.sleepAfter = false) ∧
      t.weft.sent = s.weft.sent ++ s.sendPorts.flatMap fun p => s.leaving p ++
        [⟨p, s.formPacket p .heart (s.destChain 3 p) (heartBody s.spn.hearts s.now (s.heartFlags p)), true, none⟩])) ∧
  (∀ (s u : State) (p : Port) (a : Arrival), Accepted s p .heart a u →
    let st := leAt a.pkt.body 12 4
    let e := a.pkt.epoch.toNat
    let held := u.flag Reg.SPN_TILE_MASTER_VALID
    let old := u.rd Reg.SPN_TILE_EPOCH_EPOCH
    let same := old == e && u.rd Reg.SPN_TILE_MASTER_RANK == a.pkt.rank
    let better := betterStanding e a.pkt.rank old (u.rd Reg.SPN_TILE_MASTER_RANK)
    (u.isTile = true → (st.testBit 0 || st.testBit 2) = false → Leads (.heartReceive p a) s u) ∧
    (u.isTile = true → u.trs.wallKey ≠ none → held = true → same = false → better = false → Leads (.heartReceive p a) s u) ∧
    (u.isTile = true → u.trs.wallKey = none → (st.testBit 0 || st.testBit 2) = true → Works (.heartReceive p a) s fun t =>
      t.flag Reg.SPN_TILE_MASTER_VALID = held ∧ t.rd Reg.SPN_TILE_EPOCH_EPOCH = old ∧ t.hmk = u.hmk ∧
      (s.spn.maxEpoch ≤ e → t.rd Reg.WHL_STAT_TPORT = p.val)) ∧
    (u.isTile = true → u.trs.wallKey ≠ none → (st.testBit 0 || st.testBit 2) = true → (held = false ∨ same = true ∨ better = true) → Works (.heartReceive p a) s fun t =>
      t.flag Reg.SPN_TILE_MASTER_VALID = true ∧ t.rd Reg.SPN_TILE_MASTER_PORT = p.val ∧ t.rd Reg.SPN_TILE_MASTER_RANK = a.pkt.rank ∧
      t.rd Reg.SPN_TILE_EPOCH_EPOCH = e ∧ t.rd Reg.WHL_STAT_TPORT = p.val ∧ t.spn.heartAt = some u.now ∧
      t.spn.affirmAt = (if same then u.spn.affirmAt else none) ∧ (old < e → ∀ g ∈ t.hmk.guard, g.floor = none) ∧
      (e < old → t.tfs.behind = u.otherBufs.map fun b => (b, u.allCells)))) ∧
  (∀ s : State, (s.isTile = false → exec .masterLapse s = .next s) ∧
    (∀ h, s.spn.heartAt = some h → s.now < h + s.lossNs → exec .masterLapse s = .next s) ∧
    (s.isTile = true → (∀ h, s.spn.heartAt = some h → h + s.lossNs ≤ s.now) → Leads .masterLapse s (s.wr Reg.SPN_TILE_MASTER_VALID 0))) ∧
  ∀ (s u : State) (p : Port) (a : Arrival), Accepted s p .heart a u →
    let st := leAt a.pkt.body 12 4
    let e := a.pkt.epoch.toNat
    let better := betterStanding e a.pkt.rank (u.rd Reg.SPN_EPOCH_EPOCH) (u.rd Reg.SYS_ROLE_RANK)
    (u.isSender = true → u.trs.wallKey = none → Works (.partnerHeartReceive p a) s fun t =>
      t.spn.holderHeard = (u.spn.holderHeard || st.testBit 0) ∧ t.rd Reg.SPN_STAT_STATE = u.rd Reg.SPN_STAT_STATE ∧
      t.flag Reg.SPN_STAT_RANK_CLASH = u.flag Reg.SPN_STAT_RANK_CLASH ∧ t.spn.heard = u.spn.heard) ∧
    (u.isSender = true → u.trs.wallKey ≠ none → a.pkt.rank = u.rd Reg.SYS_ROLE_RANK → Works (.partnerHeartReceive p a) s fun t =>
      t.flag Reg.SPN_STAT_RANK_CLASH = true ∧ t.spn = u.spn) ∧
    (u.isSender = true → u.trs.wallKey ≠ none → a.pkt.rank ≠ u.rd Reg.SYS_ROLE_RANK → Works (.partnerHeartReceive p a) s fun t =>
      Tab.find t.spn.heard p.val = some ⟨u.now, leAt a.pkt.body 4 8, st, e, a.pkt.rank⟩ ∧ t.spn.yieldBar = 0 ∧
      (better = false → t.query p.val = none) ∧
      t.spn.holderHeard = (u.spn.holderHeard || st.testBit 0) ∧
      (u.holdsSpindle = true → better = true → t.rd Reg.SPN_STAT_STATE = 0 ∧ t.rd Reg.SPN_EPOCH_EPOCH = e ∧ t.spn.sleepAfter = true ∧
        t.rd Reg.SPN_GEN_OFS_OFFSET = u.rd Reg.SPN_GEN_OFS_OFFSET) ∧
      (u.holdsSpindle = true → u.spn.drill = none → u.spn.yielded = none → better = false → t.regs = u.regs) ∧
      (u.holdsSpindle = false → u.spn.yielded = none → u.spn.drill = none → st.testBit 0 = true → t.rd Reg.SPN_EPOCH_EPOCH = e ∧
        t.splitPort p.val = false ∧ (u.splitPort p.val = true → ∀ k ∈ t.spn.served, k / 64 ≠ p.val)))

/-- Loss of the heartbeat, its query, YIELD, and verdicts (R414, R416, R417, R418, R419, R420, R421, R423, R424, R426): In a device with power and out of
reset: a protected Sender without the Spindle that loses its partner on a port in service sends HEART and reads every Tile of the chain's map, or
wakes the port for it. A query is over when every Tile has answered, 2 ms after its last read, or with the port out of service. Then the partner's
return ends it; a whole loss with every answering Tile abandoned and no verdict takes the Spindle: holder, next epoch, one takeover counted. With a
loss that is not whole, abandoned Tiles put the port into split-ring service, and none ends the query. A YIELD of the partner for a verdict, of an
epoch not below its own, is taken by a Sender that may take it, one of a drill is kept for its WHEN. A yielder that heard nobody resumes after 100 ms.
A verdict stands and its first code shows; a protected holder sends YIELD and stops ordering, except for code 8 and one it may not yield for again. -/
def Obligations.LossesYieldsAndVerdicts : Prop :=
  (∀ (s : State) (p : Port),
    (s.isSender = false ∨ s.holdsSpindle = true ∨ s.flag Reg.SYS_ROLE_PROTECTED = false ∨ s.inService p = false ∨ s.splitPort p = true ∨
      s.partnerHeard p = true ∨ s.query p ≠ none → exec (.heartbeatLoss p) s = .next s) ∧
    (s.isSender = true → s.holdsSpindle = false → s.flag Reg.SYS_ROLE_PROTECTED = true → s.inService p = true → s.splitPort p = false →
      s.partnerHeard p = false → s.query p = none → s.trs.wallKey ≠ none →
      (s.canSend p = true → Works (.heartbeatLoss p) s fun t => t.query p = some ⟨some s.now, false, []⟩ ∧ t.spn.hearts = (s.spn.hearts + 1) % 2 ^ 32 ∧
        ∃ l, t.weft.sent = s.weft.sent ++ s.leaving p ++
            ⟨p.val, s.formPacket p .heart (s.destChain 3 p) (heartBody s.spn.hearts s.now (s.heartFlags p)), true, none⟩ :: l ∧
          l.length = (s.chainTiles p).length ∧ ∀ x ∈ l, x.port = p.val ∧ leAt x.pkt.body 0 1 = 0x30 ∧ leAt x.pkt.body 4 4 = RegAddr.SPN_TILE_SEEN) ∧
      (s.rd (Reg.WFT_PORT_STAT_TX_POWER p) = 2 → Works (.heartbeatLoss p) s fun t => t.rd (Reg.WFT_PORT_STAT_TX_POWER p) = 3 ∧
        t.query p = some ⟨none, false, []⟩))) ∧
  (∀ (s : State) (p : Port), (s.query p = none → exec (.queryComplete p) s = .next s) ∧
    ∀ q, s.query p = some q →
      (s.queryOver p q = false → exec (.queryComplete p) s = .next s) ∧
      (s.queryOver p q = true →
      let s1 := s.setQuery p { q with ended := true }
      let qs := s1.spn.queries
      let left := (qs.map fun x => (s1.abandoned x.2).length).sum
      (s.partnerHeard p = true → Works (.queryComplete p) s fun t => t.query p = none ∧ t.rd Reg.SPN_STAT_STATE = s.rd Reg.SPN_STAT_STATE) ∧
      (s.partnerHeard p = false → s.lossWhole = false → s.abandoned q = [] → Works (.queryComplete p) s fun t => t.query p = none ∧
        t.rd Reg.SPN_STAT_STATE = s.rd Reg.SPN_STAT_STATE) ∧
      (s.partnerHeard p = false → s.lossWhole = false → s.abandoned q ≠ [] → Works (.queryComplete p) s fun t => t.query p = none ∧
        t.rd Reg.SPN_STAT_STATE = 2 ∧ t.bit Reg.SPN_STAT_SPLIT p = true ∧ t.rd Reg.SPN_CNT_SPLITS = min (s.rd Reg.SPN_CNT_SPLITS + 1) 255 ∧
        t.spn.served = s.spn.served ++ (s.abandoned q).map fun x => tileKey p x) ∧
      (s.partnerHeard p = false → s.lossWhole = true → (∀ x ∈ qs, x.2.ended = true) → (qs.map fun x => x.2.answers.length).sum = left → 0 < left →
        s.mayTake = true → s.spn.verdicts = [] → Works (.queryComplete p) s fun t => t.rd Reg.SPN_STAT_STATE = 1 ∧
          t.rd Reg.SPN_EPOCH_EPOCH = (s.rd Reg.SPN_EPOCH_EPOCH + 1) % 2 ^ 32 ∧ t.spn.queries = [] ∧
          t.rd Reg.SPN_CNT_TAKEOVERS = min (s.rd Reg.SPN_CNT_TAKEOVERS + 1) 255))) ∧
  (∀ (s u : State) (p : Port) (a : Arrival), Accepted s p .yield a u → u.isSender = true → u.holdsSpindle = false →
    a.pkt.rank ≠ u.rd Reg.SYS_ROLE_RANK →
    let reason := leAt a.pkt.body 0 4
    let e := max (u.rd Reg.SPN_EPOCH_EPOCH) a.pkt.epoch.toNat
    (reason = 7 → Works (.yieldReceive p a) s fun t => t.spn.partnerYield = some ⟨7, leAt a.pkt.body 4 4, leAt a.pkt.body 8 8, 0⟩ ∧
      t.rd Reg.SPN_EPOCH_EPOCH = e ∧ t.rd Reg.SPN_STAT_STATE = u.rd Reg.SPN_STAT_STATE) ∧
    (1 ≤ reason → reason ≤ 6 → u.rd Reg.SPN_EPOCH_EPOCH ≤ a.pkt.epoch.toNat → u.mayTake = true → u.ownVerdict = false → Works (.yieldReceive p a) s fun t => t.rd Reg.SPN_STAT_STATE = 1 ∧
      t.rd Reg.SPN_EPOCH_EPOCH = (e + 1) % 2 ^ 32 ∧ t.rd Reg.SPN_CNT_TAKEOVERS = min (u.rd Reg.SPN_CNT_TAKEOVERS + 1) 255) ∧
    (reason ≠ 7 → (reason = 0 ∨ 7 < reason ∨ a.pkt.epoch.toNat < u.rd Reg.SPN_EPOCH_EPOCH ∨ u.mayTake = false ∨ u.ownVerdict = true) → Works (.yieldReceive p a) s fun t =>
      t.rd Reg.SPN_EPOCH_EPOCH = e ∧ t.rd Reg.SPN_STAT_STATE = u.rd Reg.SPN_STAT_STATE)) ∧
  (∀ s : State, (s.spn.yielded = none → exec .yieldTimeout s = .next s) ∧
    ∀ code at_, s.spn.yielded = some (code, at_) → (s.now < at_ + 100000000 → exec .yieldTimeout s = .next s) ∧
      (at_ + 100000000 ≤ s.now → Works .yieldTimeout s fun t => t.rd Reg.SPN_STAT_STATE = 1 ∧ t.spn.yielded = none ∧
        t.spn.yieldBar = code ∧ t.rd Reg.SPN_EPOCH_EPOCH = s.rd Reg.SPN_EPOCH_EPOCH)) ∧
  ∀ (s : State) (code : BitVec 4), ((s.isSender = false ∨ s.verdictDue code.toNat = false) → exec (.verdict code) s = .next s) ∧
    (s.isSender = true → s.verdictDue code.toNat = true → Works (.verdict code) s fun t => code.toNat ∈ t.spn.verdicts ∧
      (s.rd Reg.SPN_STAT_VERDICT = 0 → s.spn.verdicts = [] → t.rd Reg.SPN_STAT_VERDICT = code.toNat) ∧
      (s.rd Reg.SPN_STAT_VERDICT ≠ 0 → t.rd Reg.SPN_STAT_VERDICT = s.rd Reg.SPN_STAT_VERDICT) ∧
      (s.holdsSpindle = true → s.flag Reg.SYS_ROLE_PROTECTED = true → code.toNat ≠ 8 → s.spn.yieldBar ≠ code.toNat → s.trs.wallKey ≠ none →
        t.rd Reg.SPN_STAT_STATE = 0 ∧ t.spn.yielded = some (code.toNat, s.now) ∧ t.weft.sent = s.weft.sent ++ s.sendPorts.flatMap fun p => s.leaving p ++
          [⟨p, s.formPacket p .yield (s.destChain 3 p) (yieldBody code.toNat (s.rd Reg.DMG_GEN_GEN) s.now), true, none⟩]) ∧
      ((s.flag Reg.SYS_ROLE_PROTECTED = false ∨ code.toNat = 8 ∨ s.spn.yieldBar = code.toNat ∨ s.holdsSpindle = false) →
        t.rd Reg.SPN_STAT_STATE = s.rd Reg.SPN_STAT_STATE ∧ t.spn.yielded = s.spn.yielded ∧ t.weft.sent = s.weft.sent))

/-- Swap drills, the shadow comparison, and the generation offset (R405, R413, R414, R420, R427, R428): In a device with power and out of reset: a holder
of a protected pair takes a drill whose OUT lies at least 4 generations on, and whose BACK is 0 or at least 64 later; any other order is refused with
RESULT 3. At COMMIT OUT − 3 it sends YIELD with REASON 7; at OUT − 1 it releases the Spindle if the partner is heard on every port with Tiles, or ends
the drill with RESULT 4 and the silent ports in MISSING. The partner takes it at WHEN, and not before, if it has followed the last generation and
heard the release; else it goes on as it was. A holder that nobody followed holds on with RESULT 5. A Sender without the Spindle compares a REAFFIRM
of the holder with its own hallmarks while the table is the same, counts what differs, and raises verdict 8 at SHADOW_LIMIT; a COMMIT or PREPARE of
the holder teaches it OFFSET. -/
def Obligations.DrillsShadowAndOffset : Prop :=
  (∀ (s : State) (out : Word), (s.isSender = false → exec (.spnDrillOut out) s = .next s) ∧
    let back := s.spn.drillBack
    let good := s.holdsSpindle = true ∧ s.flag Reg.SYS_ROLE_PROTECTED = true ∧ 4 ≤ genAfter out.toNat (s.rd Reg.DMG_GEN_GEN) ∧
      (back = 0 ∨ 64 ≤ genAfter back out.toNat)
    (s.isSender = true → good → Works (.spnDrillOut out) s fun t => t.spn.drill = some ⟨out.toNat, back, 1, 0, false⟩ ∧
      t.rd Reg.SPN_STAT_DRILL = 1 ∧ t.rd Reg.SPN_DRILL_STAT_RESULT = 0 ∧ t.rd Reg.SPN_DRILL_STAT_MISSING = 0) ∧
    (s.isSender = true → ¬ good → Works (.spnDrillOut out) s fun t => t.rd Reg.SPN_DRILL_STAT_RESULT = 3 ∧ t.spn = s.spn)) ∧
  (∀ s : State, s.spn.drill = none → ∀ i ∈ [Instr.drillYield, .drillRelease], exec i s = .next s) ∧
  (∀ (s : State) (d : DrillRec), s.spn.drill = some d → s.holdsSpindle = true →
    (d.stage = 1 → s.rd Reg.DMG_GEN_GEN = (d.out + 2 ^ 32 - 3) % 2 ^ 32 → s.trs.wallKey ≠ none → Works .drillYield s fun t =>
      ∃ at_, t.spn.drill = some { d with stage := 2, at_ := at_ } ∧
        at_ = s.boundAfter ((s.dmg.window + 2 ^ 32 - 1) % 2 ^ 32) 3 + s.commitOffset + 2000000 ∧
        t.weft.sent = s.weft.sent ++ s.sendPorts.flatMap fun p => s.leaving p ++
          [⟨p, s.formPacket p .yield (s.destChain 3 p) (yieldBody 7 ((d.out + 2 ^ 32 - 1) % 2 ^ 32) at_), true, none⟩]) ∧
    (d.stage = 2 → s.rd Reg.DMG_GEN_GEN = (d.out + 2 ^ 32 - 1) % 2 ^ 32 →
      (s.silentPorts = [] → Works .drillRelease s fun t => t.rd Reg.SPN_STAT_STATE = 0 ∧ t.spn.drill = some { d with stage := 3 }) ∧
      (s.silentPorts ≠ [] → Works .drillRelease s fun t => t.rd Reg.SPN_DRILL_STAT_RESULT = 4 ∧ t.spn.drill = none ∧ t.rd Reg.SPN_STAT_STATE = 1 ∧
        t.rd Reg.SPN_STAT_DRILL = 0 ∧ ∀ p < 4, t.bit Reg.SPN_DRILL_STAT_MISSING p = s.silentPorts.contains p))) ∧
  (∀ (s : State) (d : DrillRec), s.isSender = true → s.spn.drill = some d → d.stage = 4 →
    s.due actHeart (s.frameNow / 1000000 * 1000000) (s.frameNow / 1000000 * 1000000) s.frameNow = true → Works .heartSend s fun t =>
    t.rd Reg.SPN_STAT_STATE = 1 ∧ t.rd Reg.SPN_DRILL_STAT_RESULT = 5 ∧ t.rd Reg.SPN_STAT_DRILL = 0 ∧ t.spn.drill = none) ∧
  (∀ s : State, (s.spn.partnerYield = none → exec .drillTake s = .next s) ∧
    ∀ y, s.spn.partnerYield = some y →
      (s.now < y.when_ → exec .drillTake s = .next s) ∧
      (y.when_ ≤ s.now →
      let may := s.mayTake = true ∧ s.ownVerdict = false ∧ s.spn.holderGen = some y.lastGen ∧ s.heardReleased (y.when_ - 2000000) = true
      (may → Works .drillTake s fun t => t.rd Reg.SPN_STAT_STATE = 1 ∧ t.rd Reg.SPN_EPOCH_EPOCH = (s.rd Reg.SPN_EPOCH_EPOCH + 1) % 2 ^ 32 ∧
        t.spn.partnerYield = none ∧ (s.spn.drillBack ≠ 0 → t.spn.drill = some ⟨s.spn.drillBack, 0, 1, 0, true⟩ ∧ t.rd Reg.SPN_STAT_DRILL = 1)) ∧
      (¬ may → Works .drillTake s fun t => t.spn.partnerYield = none ∧ t.rd Reg.SPN_STAT_STATE = s.rd Reg.SPN_STAT_STATE ∧
        t.rd Reg.SPN_EPOCH_EPOCH = s.rd Reg.SPN_EPOCH_EPOCH))) ∧
  (∀ (s u : State) (p : Port) (a : Arrival), Accepted s p .reaffirm a u →
    let c := a.pkt.addr / 64 % 4
    let pos := a.pkt.addr % 64
    let g := u.ownGen (leAt a.pkt.body 0 4)
    let tbl := u.tableFor g
    let same := Tab.find u.hmk.holderGuard (tileKey c pos) = some (tbl.guardEntries c pos)
    (u.isSender = false ∨ u.holdsSpindle = true ∨ ¬ same → Leads (.shadowCompare p a) s u) ∧
    (u.isSender = true → u.holdsSpindle = false → same → ∀ n h x v, reaffirmEntries a.pkt.body = [(n, h)] →
      (tbl.pieces.find? fun x => x.chain == c && x.pos == pos && x.num == n) = some x → u.readyMark tbl g x = some v →
      (v = h → Leads (.shadowCompare p a) s { u with spn := { u.spn with unequal := Tab.put u.spn.unequal x.key 0 } }) ∧
      (v ≠ h → Works (.shadowCompare p a) s fun t => Tab.get t.spn.unequal x.key = Tab.get u.spn.unequal x.key + 1 ∧
        t.rd Reg.SPN_CNT_SHADOW_MISMATCH = min (u.rd Reg.SPN_CNT_SHADOW_MISMATCH + 1) 255 ∧
        (u.cfg 1 Reg.SPN_CFG_SHADOW_LIMIT ≤ Tab.get u.spn.unequal x.key + 1 → 8 ∈ t.spn.verdicts)))) ∧
  ∀ (s u : State) (p : Port) (a : Arrival), Accepted s p .commit a u →
    let body := a.pkt.body
    let k := boundaryIndex u.whl.rate (leAt body 4 8) - (if leAt body 12 1 = 0 then 2 else 3)
    (u.isSender = false ∨ u.holdsSpindle = true ∨ 2 ≤ leAt body 12 1 → Leads (.genOffsetSync p a) s u) ∧
    (u.isSender = true → u.holdsSpindle = false → leAt body 12 1 < 2 → Works (.genOffsetSync p a) s fun t =>
      t.spn.holderGen = some (leAt body 0 4) ∧
      ∀ b, (u.dmg.bounds.find? fun b => b.2 == boundary u.whl.rate k) = some b →
        t.rd Reg.SPN_GEN_OFS_OFFSET = (leAt body 0 4 + 2 ^ 32 - b.1 % 2 ^ 32) % 2 ^ 32 ∧ t.rd Reg.SPN_STAT_GEN_SYNC = 1 ∧ t.spn.offsetSet = true)

/-- Forwarding of an arriving packet, and the checks of R221 (R212, R216, R217, R219, R221, R223, R225, R226, R244, R404, R407, R412): In a device with
power and out of reset: a Tile sends an arriving packet out of its other port, its end symbol poisoned where it came bad; nothing goes out when that
port is not in service; a bad one is dropped where the ports differ; while the output is busy, Dormant or waking, a wheel marker would cut into it, or
others still wait, it waits in the forward buffer, or is dropped whole and counted where it does not fit; what waited leaves first, once the output is
free. A copy ends where the packet is cut. Packets to the neighbour alone, and any at a Sender, are not forwarded. The sequence entry follows the CRC.
A packet that is malformed, not above its floor, of a bad tag, or no order of the master's is counted in its own counter and not accepted; one that
passes raises the highest epoch heard, and its originator's floor but for an ENROL packet of another session. A consumer's command does nothing more
on a packet that is not accepted. -/
def Obligations.PacketsAreCheckedAndForwarded : Prop :=
  (∀ (s : State) (p : Port) (a : Arrival),
    let out := 1 - p.val
    let bad := s.poisons p a
    let gone := if a.outBusy || !s.canSend out then [] else s.leaving out
    let rest := (s.port out).fwd.drop gone.length
    let full := 8192 < (rest.map fun f => f.pkt.size).sum + a.pkt.size
    let waits := a.outBusy = true ∨ s.canSend out = false ∨ s.acrossMarker out a.pkt.size = true ∨ rest ≠ []
    ((s.isTile = false ∨ a.pkt.hop = true ∨ 1 < p.val) → Works (.packetForward p a) s fun t => t.weft.sent = s.weft.sent) ∧
    (s.isTile = true → a.pkt.hop = false → p.val ≤ 1 →
      (s.inService out = false → Works (.packetForward p a) s fun t => t.weft.sent = s.weft.sent) ∧
      (s.inService out = true → (bad && s.storesWhole p out) = true → Works (.packetForward p a) s fun t => t.weft.sent = s.weft.sent ++ gone ∧
        (t.port out).fwd = rest) ∧
      (s.inService out = true → (bad && s.storesWhole p out) = false →
        (¬ waits → Works (.packetForward p a) s fun t => t.weft.sent = s.weft.sent ++ gone ++ [⟨out, a.pkt, !bad, cutAt a⟩] ∧
          (t.port out).fwd = [] ∧
          t.rd (Reg.WFT_PORT_ERR_C_POISON_TX out) = min (s.rd (Reg.WFT_PORT_ERR_C_POISON_TX out) + (bad && a.endGood).toNat) 65535) ∧
        (waits → ¬ full → Works (.packetForward p a) s fun t => t.weft.sent = s.weft.sent ++ gone ∧
          (t.port out).fwd = rest ++ [⟨out, a.pkt, !bad, cutAt a⟩]) ∧
        (waits → full → Works (.packetForward p a) s fun t => t.weft.sent = s.weft.sent ++ gone ∧ (t.port out).fwd = rest ∧
          t.rd (Reg.WFT_PORT_ERR_C_FWD_OVF out) = min (s.rd (Reg.WFT_PORT_ERR_C_FWD_OVF out) + 1) 255))) ∧
    Works (.packetForward p a) s fun t =>
      (∀ q, s.linkVerdict p a = .good q → t.rxEntry p a.pkt.originator = ⟨q, true, 0⟩) ∧
      (s.linkVerdict p a = .crcBad → t.rxEntry p a.pkt.originator = (s.rxEntry p a.pkt.originator).fail ∧
        t.rd (Reg.WFT_PORT_ERR_A_CRC p) = min (s.rd (Reg.WFT_PORT_ERR_A_CRC p) + 1) 65535) ∧
      (s.linkVerdict p a = .poisoned →
        (∀ q, a.placed = true → a.cut = none → s.crcVerdict p a.pkt = .good q → t.rxEntry p a.pkt.originator = ⟨q, true, 0⟩) ∧
        ((a.placed = false ∨ a.cut ≠ none ∨ ∀ q, s.crcVerdict p a.pkt ≠ .good q) → t.rxEntry p a.pkt.originator = s.rxEntry p a.pkt.originator) ∧
        t.rd (Reg.WFT_PORT_ERR_A_POISON_RX p) = min (s.rd (Reg.WFT_PORT_ERR_A_POISON_RX p) + 1) 65535) ∧
      (s.linkVerdict p a = .unchecked ∨ s.linkVerdict p a = .misplaced → t.rxEntry p a.pkt.originator = s.rxEntry p a.pkt.originator)) ∧
  (∀ (s : State) (p : Port) (k : PType) (a : Arrival) (q : Nat), s.linkVerdict p a = .good q → a.pkt.type.toNat = k.code →
    s.addressed p a.pkt = true →
    let s1 := s.arrive p a
    (a.pkt.wellFormed = false → s.consume p k a = (s1.bump (Reg.WFT_PORT_ERR_D_MALFORMED p), none)) ∧
    (a.pkt.wellFormed = true → s1.aboveFloor p k a.pkt q = false → s.consume p k a = (s1.bump (Reg.WFT_PORT_ERR_B_SEQ p), none)) ∧
    (a.pkt.wellFormed = true → s1.aboveFloor p k a.pkt q = true → s1.tagOk p k a.pkt q = false → ∃ u, s.consume p k a = (u, none) ∧
      u.rd (Reg.WFT_PORT_ERR_B_TAG p) = min (s1.rd (Reg.WFT_PORT_ERR_B_TAG p) + 1) 65535) ∧
    (a.pkt.wellFormed = true → s1.aboveFloor p k a.pkt q = true → s1.tagOk p k a.pkt q = true → s1.orderAdmitted k a.pkt = false →
      ∃ u, s.consume p k a = (u, none) ∧ u.rd Reg.SPN_TILE_LOSER_DROPPED = min (s1.rd Reg.SPN_TILE_LOSER_DROPPED + 1) 65535) ∧
    (a.pkt.wellFormed = true → s1.aboveFloor p k a.pkt q = true → s1.tagOk p k a.pkt q = true → s1.orderAdmitted k a.pkt = true →
      ∃ u, Accepted s p k a u ∧
        (s1.enrolsAnew p k a.pkt = false → Tab.find (u.port p).floors a.pkt.originator = some (countOf a.pkt q)) ∧
        u.spn.maxEpoch = max s.spn.maxEpoch a.pkt.epoch.toNat ∧ u.regs = s1.regs)) ∧
  ∀ (s u : State) (p : Port) (a : Arrival),
    ∀ x ∈ [(Instr.pushReceive p a, PType.push), (.commitReceive p a, .commit), (.prepareReceive p a, .commit), (.goReceive p a, .commit),
      (.abortReceive p a, .commit), (.reaffirmReceive p a, .reaffirm), (.shadowCompare p a, .reaffirm), (.genOffsetSync p a, .commit),
      (.staleReceive p a, .stale), (.guardReceive p a, .mgmt), (.wallminReceive p a, .mgmt), (.mgmtEnvelope p a, .mgmt), (.mgmtBlock p a, .mgmt),
      (.registerReadRequest p a, .mgmt), (.commitReportReceive p a, .status), (.guardReportReceive p a, .status), (.derateReportReceive p a, .status),
      (.remoteResponse p a, .status), (.eventForwardReceive p a, .status), (.heartReceive p a, .heart), (.partnerHeartReceive p a, .heart),
      (.yieldReceive p a, .yield)],
      s.consume p x.2 a = (u, none) → Leads x.1 s u

/-- A Sender's hallmarks, STALE orders, holds, and guard reports (R180, R181, R182, R183, R184, R195, R196, R198, R201, R202): In a device with power and
out of reset: every piece of the table in force that has changed, and whose blocks the pass has written, gets the hallmark of its canvas for this
generation; the second engine's second disagreement in a row is verdict 3 with a STALE order for every region. A STALE order sets the floor of each
region that it names to the pass's generation, and waits for each port with a piece of such a region. A rise of a hold bit orders likewise for its
region. A port's next order enters it as one STALE packet and no longer waits there; ORDER reads 0 when none waits. A guard report of a Tile of the
group is kept, with its mismatches counted and the hatched regions shown. Another device sends no order and computes nothing. -/
def Obligations.HallmarksAndStaleOrders : Prop :=
  (∀ (s : State) (bad : Bool), (s.isSender = false → exec (.hallmarkCompute bad) s = .next s) ∧
    (s.isSender = true →
      let g := s.rd Reg.LOOM_PASS_GEN
      let tbl := s.tableFor g
      (((tbl.pieces.map PieceRec.key).Nodup → Works (.hallmarkCompute bad) s fun t => ∀ x ∈ tbl.pieces, s.pieceTodo tbl x ≠ [] →
        s.pieceWritten x = true → (∀ y ∈ s.pieceTodo tbl x, later32 y g = false) → (t.tableFor g).mark x g = some (s.pieceHallmark x))) ∧
      (s.acFlag Reg.HMK_CFG_SELFCHECK = true → tbl.pieces ≠ [] → s.hmk.checkedGen ≠ some g → Works (.hallmarkCompute bad) s fun t =>
        t.hmk.checkedGen = some g ∧ t.hmk.checkRun = (if bad then s.hmk.checkRun + 1 else 0) ∧
        (bad = true → s.hmk.checkRun = 1 → 3 ∈ t.spn.verdicts ∧ ∀ r < 256, Tab.find t.hmk.floors r = some g)))) ∧
  (∀ (s : State) (all : Bool) (region : BitVec 8),
    let ports := s.stalePorts (if all then List.range 256 else [region.toNat])
    (s.isSender = true → Works (.staleOrder all region) s fun t => t.flag Reg.HMK_STALE_ALL = all ∧ t.rd Reg.HMK_STALE_REGION = region.toNat ∧
      (∀ r < 256, all = true ∨ r = region.toNat → Tab.find t.hmk.floors r = some (s.rd Reg.LOOM_PASS_GEN)) ∧
      (ports ≠ [] → t.rd Reg.HMK_STALE_ORDER = 1 ∧ t.hmk.orders = s.hmk.orders.filter (fun o => !o.ports.isEmpty) ++
        [⟨s.rd Reg.LOOM_PASS_GEN, s.rd Reg.HMK_TABLE_VERSION, all, [region.toNat], ports⟩]) ∧
      (ports = [] → s.hmk.orders = [] → t.rd Reg.HMK_STALE_ORDER = 0 ∧ t.hmk.orders = [])) ∧
    (s.isSender = false → Works (.staleOrder all region) s fun t => t.hmk = s.hmk ∧ t.weft = s.weft)) ∧
  (∀ (s : State) (i : Fin 8) (v : Word), Works (.hmkHold i v) s fun t => t.rd (Reg.HMK_HOLD_HOLD i) = v.toNat ∧
    (s.isSender = true → ∀ b < 32, v.toNat.testBit b = true → (s.rd (Reg.HMK_HOLD_HOLD i)).testBit b = false →
      Tab.find t.hmk.floors (32 * i.val + b) = some (s.rd Reg.LOOM_PASS_GEN)) ∧
    ((s.isSender = false ∨ ∀ b < 32, v.toNat.testBit b = true → (s.rd (Reg.HMK_HOLD_HOLD i)).testBit b = true) → t.hmk = s.hmk)) ∧
  (∀ (s : State) (p : Port), ((∀ o ∈ s.hmk.orders, o.ports.contains p.val = false) → exec (.staleSend p) s = .next s) ∧
    ∀ o, (s.hmk.orders.find? fun o => o.ports.contains p.val) = some o → s.ordersPort p = true → s.sys.fatal = none → s.canSend p = true →
      s.trs.wallKey ≠ none → Works (.staleSend p) s fun t =>
        t.weft.sent = s.weft.sent ++ s.leaving p ++ [⟨p, s.formPacket p .stale (s.chainAll p) (s.staleBody o), true, none⟩] ∧
        t.hmk.orders = (s.hmk.orders.map fun x => if x = o then { x with ports := x.ports.filter (· != p.val) } else x).filter
          (fun x => !x.ports.isEmpty) ∧
        (t.hmk.orders = [] → t.rd Reg.HMK_STALE_ORDER = 0)) ∧
  ∀ (s u : State) (p : Port) (a : Arrival), Accepted s p .status a u → leAt a.pkt.body 0 1 = 2 →
    let body := a.pkt.body
    let addr := leAt body 2 2 % 4096
    let k := tileKey (addr / 64 % 4) (addr % 64)
    let es := reportEntries body
    (addr / 256 ≠ u.rd Reg.SYS_ROLE_GROUP ∨ addr % 64 = 63 → Leads (.guardReportReceive p a) s u) ∧
    (addr / 256 = u.rd Reg.SYS_ROLE_GROUP → addr % 64 ≠ 63 → Works (.guardReportReceive p a) s fun t =>
      Tab.find t.hmk.tileStates k = some es ∧ Tab.find t.hmk.tileGlass k = some ((List.range 8).map fun n => leAt body (16 + 2 * n) 2) ∧
      Tab.find t.hmk.tileDark k = some (leAt body 10 1) ∧
      t.rd Reg.HMK_COUNT_MISMATCH = min (u.rd Reg.HMK_COUNT_MISMATCH + (es.filter fun e => e.2.testBit 4).length) 65535 ∧
      ∀ e ∈ es, t.flag (Reg.HMK_REG_STAT_TILE_HATCH (e.1 / 64) (e.1 % 64)) = t.tileHatch e.1)

/-- PUSH and the four phases of COMMIT at a Tile (R158, R165, R168, R170, R173, R276, R278, R280, R281, R285): In a device with power and out of reset: a
push that decodes and matches its CRC is counted as accepted and written: every pixel of its block inside the store reads back in the receive buffer;
any other push is counted as dropped and changes no memory. A COMMIT that is whole, not skipped and not overtaken binds the back buffer from the
boundary that it can still meet; one that is not whole, or skipped, leaves it and counts a miss. A PREPARE waits for GO, unless its entry has ALONE.
GO in time confirms, and ABORT and the commit deadline passed without GO cancel; a generation to be shown before it keeps the back buffer, and the
newer one waits beside it. Each COMMIT and PREPARE is answered with a report of its result out of its port. A copy makes the pixels of a pending cell
those of the receive buffer. A GO_TIMEOUT or CELL_COPY with nothing to do changes nothing. -/
def Obligations.TileTakesPushesAndCommits : Prop :=
  (∀ (s u : State) (p : Port) (a : Arrival), Accepted s p .push a u → u.isTile = true →
    let body := a.pkt.body
    let e := a.pkt.epoch.toNat
    let gen := leAt body 0 4
    let px := pushPixels (leAt body 8 1) (leAt body 10 2) (body.drop 24)
    ((px = none ∨ ∃ ps, px = some ps ∧ crc64Pixels ps ≠ leAt body 16 8) → Works (.pushReceive p a) s fun t => SameBytes u t ∧
      t.pushCount e gen = ((u.pushCount e gen).1, (u.pushCount e gen).2 + 1)) ∧
    (∀ ps, px = some ps → crc64Pixels ps = leAt body 16 8 → Memory.wf u = true → Works (.pushReceive p a) s fun t =>
      t.pushCount e gen = ((u.pushCount e gen).1 + 1, (u.pushCount e gen).2) ∧
      ∀ (i c x y : Nat), ps[i]? = some c → signedOf 16 (leAt body 4 2) + (i % 32 : Nat) = (x : Int) → signedOf 16 (leAt body 6 2) + (i / 32 : Nat) = (y : Int) →
        x < u.storeW → y < u.storeH → t.storedPixel u.receiveBuf x y = c % 2 ^ 36)) ∧
  (∀ (s u : State) (p : Port) (a : Arrival), Accepted s p .commit a u → u.isTile = true → u.canSend p = true → u.trs.wallKey ≠ none →
    let body := a.pkt.body
    let e := a.pkt.epoch.toNat
    let gen := leAt body 0 4
    let entry := u.ownEntry body
    let whole := (u.pushCount e gen).1 == entry % 65536
    let good := whole && !entry.testBit 16 && u.flag Reg.HMK_TABLE_VALID && !u.overtaken e gen
    let b := u.showFrom (leAt body 4 8)
    let beside := u.backBound ∧ u.tfs.boundShow < b.1 ∧ u.now + u.feedLead ≤ u.tfs.boundShow
    let reported (t : State) (result : Nat) : Prop := ∃ k, t.weft.sent = u.weft.sent ++ u.leaving p.val ++ [⟨p.val, k, true, none⟩] ∧ k.type = 6 ∧ leAt k.body 0 1 = 1 ∧
      leAt k.body 1 1 = result ∧ leAt k.body 4 4 = gen
    let asCommit (i : Instr) : Prop :=
      (good = true → Works i s fun t =>
        (¬ beside → t.rd Reg.TFS_STAT_BACK_STATE = 1 ∧ t.rd Reg.TFS_BACK_GEN = gen ∧ t.tfs.boundShow = b.1 ∧ t.tfs.boundLate = b.2) ∧
        (beside → t.rd Reg.TFS_STAT_BACK_STATE = 1 ∧ t.rd Reg.TFS_BACK_GEN = u.rd Reg.TFS_BACK_GEN ∧ t.tfs.boundShow = u.tfs.boundShow ∧
          ∃ n, t.tfs.next = some n ∧ n.gen = gen ∧ n.show_ = b.1 ∧ n.late = b.2 ∧ n.waits = false) ∧ t.tfs.commitEpoch = some e ∧ t.tfs.commitGen = gen ∧ p.val ∈ t.tfs.commitPorts ∧
        reported t (if b.2 then 2 else 0) ∧ t.rd Reg.TFS_CNT_LATE = min (u.rd Reg.TFS_CNT_LATE + b.2.toNat) 65535) ∧
      ((whole = false ∨ entry.testBit 16 = true) → Works i s fun t => t.rd Reg.TFS_STAT_BACK_STATE = u.rd Reg.TFS_STAT_BACK_STATE ∧
        t.rd Reg.TFS_CNT_MISS = min (u.rd Reg.TFS_CNT_MISS + (u.flag Reg.HMK_TABLE_VALID).toNat) 65535 ∧ reported t (if whole then 3 else 1))
    (leAt body 12 1 = 0 → asCommit (.commitReceive p a)) ∧
    (leAt body 12 1 = 1 → entry.testBit 17 = true → asCommit (.prepareReceive p a)) ∧
    (leAt body 12 1 = 1 → entry.testBit 17 = false → good = true → u.backBound = false → Works (.prepareReceive p a) s fun t =>
      t.rd Reg.TFS_STAT_BACK_STATE = 2 ∧ t.rd Reg.TFS_BACK_GEN = gen ∧ t.tfs.boundShow = boundaryFrom u.whl.rate (leAt body 4 8) ∧ reported t 0) ∧
    (leAt body 12 1 = 2 → u.awaits gen = true → u.inTime u.tfs.boundShow = true → Works (.goReceive p a) s fun t =>
      t.rd Reg.TFS_STAT_BACK_STATE = 1 ∧ t.rd Reg.TFS_BACK_GEN = gen) ∧
    (leAt body 12 1 = 2 → (u.awaits gen && u.inTime u.tfs.boundShow) = false → Works (.goReceive p a) s fun t =>
      t.rd Reg.TFS_STAT_BACK_STATE = u.rd Reg.TFS_STAT_BACK_STATE) ∧
    (leAt body 12 1 = 3 → u.awaits gen = true → Works (.abortReceive p a) s fun t => t.rd Reg.TFS_STAT_BACK_STATE = 0)) ∧
  (∀ s : State, (s.isTile = true → s.backWaits = true → s.inTime s.tfs.boundShow = false →
      Leads .goTimeout s (s.wr Reg.TFS_STAT_BACK_STATE 0)) ∧
    (s.isTile = false ∨ s.backWaits = false ∨ s.inTime s.tfs.boundShow = true → exec .goTimeout s = .next s)) ∧
  ∀ (s : State) (b : Fin 3) (col row : BitVec 7),
    let c := row.toNat * 128 + col.toNat
    ((s.isTile = false ∨ (s.pendingOf b).contains c = false) → exec (.cellCopy b col row) s = .next s) ∧
    (s.isTile = true → (s.pendingOf b).contains c = true → Memory.wf s = true → b.val ≠ s.receiveBuf → 6 * (s.storeW * s.storeH) ≤ 3145728 →
      Works (.cellCopy b col row) s fun t => t.pendingOf b = (s.pendingOf b).filter (· != c) ∧
        ∀ q ∈ s.cellPixels c, t.storedPixel b q.1 q.2 = s.storedPixel s.receiveBuf q.1 q.2 ∧
          t.storedPixel s.receiveBuf q.1 q.2 = s.storedPixel s.receiveBuf q.1 q.2)

/-- GUARD, STALE, REAFFIRM, the hatch and feed starts at a Tile (R187, R188, R190, R191, R192, R197, R199, R200, R229, R282, R298, R301): In a device with
power and out of reset: a GUARD message replaces a Tile's guard table, in the 64 KiB after its buffers too, and the hatch colours, an equal piece
keeping its expiry; a Sender without the Spindle keeps it for the comparison. STALE ends the expiry of each piece it names and sets its floor. A
REAFFIRM is held until the Tile has decided what it shows and has its hallmarks; then an equal entry that no floor bars carries the piece to SHOW plus
its deadline, an unequal one of the generation shown ends it and counts, and in ACQUIRE and FREE all are dropped. At a feed start that the count has
reached, once for each, the bound buffers swap, every piece is hatched exactly when its expiry is not after SHOW, and the derate moves to its next
value. A glass comparison counts each guarded port's runs and fails or relights it. MGMT and STATUS bodies of another listed form do nothing, and of
an unlisted one count as malformed. -/
def Obligations.GuardTablesAndFeedStarts : Prop :=
  (∀ (s u : State) (p : Port) (a : Arrival), Accepted s p .mgmt a u → leAt a.pkt.body 0 1 = 0x10 →
    let body := a.pkt.body
    (u.isTile = true → Works (.guardReceive p a) s fun t => t.dramRead u.guardPlace (guardBytes body).length = guardBytes body ∧
      (∀ x, x < u.guardPlace ∨ u.guardPlace + (guardBytes body).length ≤ x → t.dramByte x = u.dramByte x) ∧ t.flag Reg.HMK_TABLE_VALID = true ∧ t.rd Reg.HMK_TABLE_VERSION = leAt body 2 2 ∧
      t.hmk.guard = (guardEntriesOf body).map (keepPiece u.hmk.guard) ∧ t.hmk.phase = leAt body 12 1 % 8 ∧
      t.rd Reg.HMK_HATCH_A_C0 = leAt body 4 4 % 1024 ∧ t.rd Reg.HMK_HATCH_A_C1 = leAt body 4 4 / 1024 % 1024 ∧
      t.rd Reg.HMK_HATCH_B_C0 = leAt body 8 4 % 1024 ∧ t.rd Reg.HMK_HATCH_B_C2 = leAt body 8 4 / 1048576 % 1024) ∧
    (u.isSender = true → u.holdsSpindle = false → Works (.guardReceive p a) s fun t =>
      Tab.find t.hmk.holderGuard (tileKey (a.pkt.addr / 64 % 4) (a.pkt.addr % 64)) = some (guardEntriesOf body))) ∧
  (∀ (s u : State) (p : Port) (a : Arrival), Accepted s p .stale a u → u.isTile = true →
    let named (g : GuardPiece) : Bool := (leAt a.pkt.body 6 1).testBit 0 || leAt a.pkt.body 4 2 != u.rd Reg.HMK_TABLE_VERSION ||
      (leAt a.pkt.body 8 32).testBit g.entry.region
    Works (.staleReceive p a) s fun t => t.hmk.guard.length = u.hmk.guard.length ∧ ∀ (i : Nat) (g : GuardPiece), u.hmk.guard[i]? = some g →
      ∃ h, t.hmk.guard[i]? = some h ∧ h.entry = g.entry ∧ (named g = false → h = g) ∧
        (named g = true → h.expiry = 0 ∧ h.floor = some (a.pkt.epoch.toNat, leAt a.pkt.body 0 4))) ∧
  (∀ (s u : State) (p : Port) (a : Arrival), Accepted s p .reaffirm a u → u.isTile = true → Works (.reaffirmReceive p a) s fun t =>
    t.hmk.held = u.hmk.held ++ [⟨leAt a.pkt.body 0 4, leAt a.pkt.body 4 8, leAt a.pkt.body 12 2, a.pkt.epoch.toNat, reaffirmEntries a.pkt.body⟩]) ∧
  (∀ s : State, (s.isTile = false → exec .reaffirmEvaluate s = .next s) ∧
    (s.isTile = true → s.rd Reg.WHL_STAT_STATE < 2 → Works .reaffirmEvaluate s fun t => t.hmk.held = [] ∧ t.hmk.guard = s.hmk.guard) ∧
    ∀ h, s.isTile = true → 2 ≤ s.rd Reg.WHL_STAT_STATE → s.hmk.held = [h] →
      let b := boundaryFrom s.whl.rate h.show_
      ((s.decided b = false ∨ s.ownHallmarks b = none) → exec .reaffirmEvaluate s = .next s) ∧
      ∀ (gen : Nat) (own : List Nat) (n v : Nat) (g : GuardPiece) (w : Nat), s.decided b = true → s.ownHallmarks b = some (gen, own) → h.table = s.rd Reg.HMK_TABLE_VERSION → h.entries = [(n, v)] →
        s.hmk.guard[n]? = some g → own[n]? = some w →
        (g.barred h.epoch h.gen = true → Works .reaffirmEvaluate s fun t => t.hmk.guard = s.hmk.guard ∧ t.hmk.held = []) ∧
        (g.barred h.epoch h.gen = false → w = v → Works .reaffirmEvaluate s fun t => t.hmk.held = [] ∧ t.spn.affirmAt = some s.now ∧
          t.hmk.guard[n]? = some { g with expiry := h.show_ + g.entry.deadline * 1000000, why := 1 }) ∧
        (g.barred h.epoch h.gen = false → w ≠ v → gen = h.gen → Works .reaffirmEvaluate s fun t => t.hmk.held = [] ∧
          t.hmk.guard[n]? = some { g with expiry := 0, why := 10 } ∧ t.rd Reg.HMK_COUNT_MISMATCH = min (s.rd Reg.HMK_COUNT_MISMATCH + 1) 65535) ∧
        (g.barred h.epoch h.gen = false → w ≠ v → gen ≠ h.gen → Works .reaffirmEvaluate s fun t => t.hmk.guard = s.hmk.guard ∧ t.hmk.held = [])) ∧
  (∀ (s : State) (bad : List (BitVec 27)), (s.isTile = false → exec (.tileHallmark bad) s = .next s ∧ exec (.feedStart bad) s = .next s) ∧
    (s.isTile = true → Works (.tileHallmark bad) s fun t => ∃ rest, t.hmk.hashed = (s.frontBuf, s.rd Reg.TFS_SHOW_GEN,
      s.hmk.guard.map fun g => s.tilePieceHallmark (bad.map (·.toNat)) s.frontBuf g.entry) :: rest) ∧
    (s.isTile = true → let S := s.feedBoundary s.now
      ((s.due actFeed S (S - s.feedLead) s.now = false ∨ S < s.now) → exec (.feedStart bad) s = .next s) ∧
      (s.due actFeed S (S - s.feedLead) s.now = true → s.now ≤ S → Works (.feedStart bad) s fun t =>
      let swap := s.backBound = true ∧ s.tfs.boundShow = S
      t.tfs.feedShow = S ∧ t.hmk.guard = s.hmk.guard.map (fun g => g.feed S) ∧ (∀ g : GuardPiece, (g.feed S).hatched = decide (g.expiry ≤ S)) ∧
      (swap → t.frontBuf = s.backBuf ∧ t.backBuf = s.frontBuf ∧ (s.tfs.next = none → t.rd Reg.TFS_STAT_BACK_STATE = 0) ∧
        t.rd Reg.TFS_SHOW_GEN = s.rd Reg.TFS_BACK_GEN ∧ t.flag Reg.TFS_STAT_LATE = s.tfs.boundLate) ∧
      (¬ swap → t.frontBuf = s.frontBuf ∧ t.backBuf = s.backBuf ∧ t.rd Reg.TFS_SHOW_GEN = s.rd Reg.TFS_SHOW_GEN) ∧
      (∀ n < 8, t.flag (Reg.HMK_GLASS_GRP_DARK n) = s.glassDark n) ∧ t.rd Reg.LMP_DERATE_LOCAL = t.localFactor ∧
      t.rd Reg.LMP_DERATE_APPLIED = nextApplied (s.rd Reg.LMP_DERATE_APPLIED) s.wallmin t.localFactor (s.cfg 3 Reg.LMP_CFG_DRT_SLEW)))) ∧
  (∀ (s : State) (n : Fin 8) (ret : List (List Bool)),
    ((s.isTile = false ∨ s.groupOn n = false ∨ (s.group n).aborted = true) → exec (.glassCompare n ret) s = .next s) ∧
    (s.isTile = true → s.groupOn n = true → (s.group n).aborted = false → Works (.glassCompare n ret) s fun t => ∀ k < 16,
      let same := (s.glassValues n k ret).1 == (s.glassValues n k ret).2
      let old := Tab.get (s.group n).runs k
      let run := if same then (0, old.2 + 1) else (old.1 + 1, 0)
      (s.bit (Reg.HMK_GLASS_GRP_GUARDED n) k = false → t.bit (Reg.HMK_GLASS_STAT_FAILED n) k = s.bit (Reg.HMK_GLASS_STAT_FAILED n) k) ∧
      (s.bit (Reg.HMK_GLASS_GRP_GUARDED n) k = true → Tab.get (t.group n).runs k = run ∧ t.bit (Reg.HMK_GLASS_STAT_LAST_MISS n) k = !same ∧
        t.bit (Reg.HMK_GLASS_STAT_FAILED n) k = (if s.bit (Reg.HMK_GLASS_STAT_FAILED n) k then !decide (s.cfg 1 Reg.HMK_CFG_RELIGHT ≤ run.2)
          else decide (s.cfg 1 Reg.HMK_CFG_GLASS_LIMIT ≤ run.1))))) ∧
  ∀ (s u : State) (p : Port) (a : Arrival),
    (Accepted s p .mgmt a u → ∀ x ∈ [(Instr.guardReceive p a, 0x10), (.wallminReceive p a, 0x20), (.mgmtEnvelope p a, 0x40), (.mgmtBlock p a, 0x40)],
      leAt a.pkt.body 0 1 ≠ x.2 → Leads x.1 s (if mgmtForms.contains (leAt a.pkt.body 0 1) then u else u.badForm p)) ∧
    (Accepted s p .status a u → leAt a.pkt.body 0 1 ≠ 2 →
      Leads (.guardReportReceive p a) s (if statusForms.contains (leAt a.pkt.body 0 1) then u else u.badForm p))

/-- Pushes, COMMIT, its reports and re-pushes at a Sender (R149, R150, R151, R154, R160, R162, R163, R164, R166, R167, R170, R171): In a device with power
and out of reset: once the count has reached T_c a holder sends COMMIT or PREPARE of the window's generation on every port that can send, GUARDs and
REAFFIRMs behind it, shows the generation, awaits the reports of its Tiles and opens the next window. A push sends the next eligible entry, if it ends
by T_c, and takes it from the queue and the budget; one of a Tile that the Sender does not order it only counts. A re-push of a Tile queues every
block of its rectangle. A report that comes before its deadline shows the result; one of a MISS queues its set again, one of a shown generation ends
skips and catch-up; a later one renews only what it says of the picture shown. At the deadline a missing report counts as result 4, queues the set,
and the eighth in a row makes the Tile unreached at a protected holder. Other devices do nothing of this. -/
def Obligations.DispatcherPushesAndCommits : Prop :=
  (∀ s : State,
    let g := s.dmg.window
    let w := s.wireGen g
    let atomic := s.acFlag Reg.DMG_CFG_WALL_ATOMIC
    let show_ := s.boundAfter g (if atomic then 3 else 2)
    let s1 := [0, 1, 2, 3].foldl State.sweep s
    let tiles := s.allTiles.map fun cp => tileKey cp.1 cp.2
    ((s.isSender = false ∨ g = 0 ∨ Tab.find s.dmg.bounds g = none ∨ s.frameNow < s.commitTime g) → exec .commitSend s = .next s) ∧
    (s.holdsSpindle = true → g ≠ 0 → Tab.find s.dmg.bounds g ≠ none → s.commitTime g ≤ s.frameNow → s.dmg.prepare = none → s.sys.fatal = none → s.trs.wallKey ≠ none →
      Works .commitSend s fun t => t.dmg.window = (g + 1) % 2 ^ 32 ∧ t.rd Reg.DMG_GEN_GEN = w ∧ t.spn.lastGen = w ∧
        t.dmg.due = s.dmg.due ++ (if tiles = [] then [] else [⟨w, show_, tiles⟩]) ∧ (∀ c p, (t.tile c p).sent = 0) ∧
        (t.dmg.prepare.isSome = atomic) ∧
        ∃ l, t.weft.sent = s.weft.sent ++ (s.sendPorts.flatMap fun p => s.leaving p ++ [⟨p, s.formPacket p .commit (s.chainAll p)
            (commitBody w show_ (if atomic then 1 else 0) (s1.commitEntries p)), true, none⟩]) ++ l ∧ ∀ x ∈ l, x.pkt.type = 3 ∨ x.pkt.type = 5)) ∧
  (∀ (s : State) (c : Port),
    let s1 := s.sweep c
    ((s.isSender = false ∨ s.dmg.window = 0) → exec (.pushSend c) s = .next s) ∧
    (s.isSender = true → s.dmg.window ≠ 0 → s1.pickPush c = none → Leads (.pushSend c) s s1) ∧
    ∀ e, s.isSender = true → s.dmg.window ≠ 0 → s1.pickPush c = some e →
      ((s1.fitsWindow c e.block = false ∨ (s.ordersTile c e.pos = true ∧ s.canSend c = false)) → Leads (.pushSend c) s s1) ∧
      (s1.fitsWindow c e.block = true → s.ordersTile c e.pos = false → Works (.pushSend c) s fun t => t.weft.sent = s.weft.sent ∧
        t.queue c = (s1.queue c).filter (fun x => !(x.pos == e.pos && x.block == e.block)) ∧
        Tab.get t.dmg.charge c = Tab.get s.dmg.charge c + s1.pushCharge e.block ∧ (t.tile c e.pos).sent = (s.tile c e.pos).sent + 1) ∧
      (s1.fitsWindow c e.block = true → s.ordersTile c e.pos = true → s.sys.fatal = none → s.canSend c = true → s.trs.wallKey ≠ none →
        Works (.pushSend c) s fun t =>
          t.weft.sent = s.weft.sent ++ s.leaving c ++ [⟨c, s1.formPacket c .push (s1.tileAddr c e.pos) (s1.pushBody c e.pos e.block), true, none⟩] ∧
          t.queue c = (s1.queue c).filter (fun x => !(x.pos == e.pos && x.block == e.block)) ∧
          Tab.get t.dmg.charge c = Tab.get s.dmg.charge c + s1.pushCharge e.block ∧ (t.tile c e.pos).sent = (s.tile c e.pos).sent + 1 ∧
          ∃ set, Tab.find (t.tile c e.pos).sets (s1.wireGen s1.dmg.window) = some set ∧ e ∈ set)) ∧
  (∀ (s : State) (c : Port) (p : BitVec 6), (s.isSender = false → exec (.repush c p) s = .next s ∧ exec .repushAll s = .next s) ∧
    (s.isSender = true → (Works (.repush c p) s fun t => ∀ x ∈ s.chainTiles c, (p = 63 ∨ x = p.toNat) → ∀ b ∈ s.tileBlocks c x,
      ∃ e ∈ t.queue c, e.pos = x ∧ e.block = b) ∧
      Works .repushAll s fun t => ∀ d < 4, ∀ x ∈ s.chainTiles d, ∀ b ∈ s.tileBlocks d x, ∃ e ∈ t.queue d, e.pos = x ∧ e.block = b)) ∧
  (∀ (s u : State) (p : Port) (a : Arrival), Accepted s p .status a u → u.isSender = true → leAt a.pkt.body 0 1 = 1 →
    let body := a.pkt.body
    let addr := leAt body 2 2 % 4096
    let c := addr / 64 % 4
    let pos := addr % 64
    let gen := leAt body 4 4
    let result := leAt body 1 1 % 16
    (addr / 256 ≠ u.rd Reg.SYS_ROLE_GROUP ∨ pos = 63 → Leads (.commitReportReceive p a) s u) ∧
    (addr / 256 = u.rd Reg.SYS_ROLE_GROUP → pos ≠ 63 → Works (.commitReportReceive p a) s fun t =>
      t.rd (Reg.DMG_TILE_SHOWN_GEN c pos) = leAt body 12 4 ∧ (t.tile c pos).unreached = false ∧
      (gen ∈ (u.tile c pos).settled → t.rd (Reg.DMG_TILE_STAT_RESULT c pos) = u.rd (Reg.DMG_TILE_STAT_RESULT c pos)) ∧
      (gen ∉ (u.tile c pos).settled → t.rd (Reg.DMG_TILE_STAT_RESULT c pos) = result ∧ gen ∈ (t.tile c pos).settled ∧
        Tab.find (t.tile c pos).sets gen = none ∧ (t.tile c pos).missRun = 0 ∧
        (result = 0 ∨ result = 2 → t.skips c pos = 0 ∧ t.catchingUp c pos = false) ∧
        (result = 1 → ∀ set, Tab.find (u.tile c pos).sets gen = some set → ∀ e ∈ set, ∃ x ∈ t.queue c, x.pos = pos ∧ x.block = e.block)))) ∧
  ∀ s : State, (s.dmg.due = [] → exec .reportDeadline s = .next s) ∧
    ∀ d rest, s.dmg.due = d :: rest → (∀ k ∈ d.tiles, k < 256) → d.tiles.Nodup → Works .reportDeadline s fun t => t.dmg.due = rest ∧
      ∀ k ∈ d.tiles, d.gen ∉ (s.tile (k / 64) (k % 64)).settled →
        t.rd (Reg.DMG_TILE_STAT_RESULT (k / 64) (k % 64)) = 4 ∧ d.gen ∈ (t.tile (k / 64) (k % 64)).settled ∧
        (t.tile (k / 64) (k % 64)).missRun = (s.tile (k / 64) (k % 64)).missRun + 1 ∧
        (s.holdsSpindle = true → s.flag Reg.SYS_ROLE_PROTECTED = true → 7 ≤ (s.tile (k / 64) (k % 64)).missRun → (t.tile (k / 64) (k % 64)).unreached = true) ∧
        ∀ set, Tab.find (s.tile (k / 64) (k % 64)).sets d.gen = some set → ∀ e ∈ set, ∃ x ∈ t.queue (k / 64), x.pos = k % 64 ∧ x.block = e.block

/-- Temperature sensors, zones, and the uniform derate (R293, R294, R295, R296, R298, R299, R300, R333, R334): In a device with power and out of reset: a
scan takes a good reading of each enabled sensor as its temperature and makes it valid; a failed one counts, and the third in a row makes it invalid.
With a valid sensor each zone takes the mean of its own, or the highest of all, and the target of its temperature; with none NOSENSE is set and the
zones keep what they had. A Tile sends its derate report on each port of its last COMMIT. A Sender keeps the report of a Tile of its group, with its
time. The holder shows the lowest fresh factor of the Tiles that it counts and sends the wall minimum on every port that can send. A Tile takes
WALLMIN with its time. Every 100 µs a current reference that no sweep drives moves toward its code. Another device does none of it. -/
def Obligations.SensorsZonesAndDerate : Prop :=
  (∀ (s : State) (rs : List (Option (BitVec 16))), (s.isTile = false → exec (.sensorScan rs) s = .next s) ∧
    (s.isTile = true → Works (.sensorScan rs) s fun t =>
      (∀ i < 16, s.cfg 3 (Reg.LMP_SNS_CFG_ENABLE i) = 1 →
        let fails := min 3 (s.rd (Reg.LMP_SNS_STAT_FAILS i) + 1)
        (∀ x, goodReading (rs.getD i none) = some x → t.flag (Reg.LMP_SNS_STAT_VALID i) = true ∧ t.rd (Reg.LMP_SNS_STAT_FAILS i) = 0 ∧
          t.rd (Reg.LMP_SNS_STAT_TEMP i) = unsignedOf 16 x) ∧
        (goodReading (rs.getD i none) = none → t.rd (Reg.LMP_SNS_STAT_FAILS i) = fails ∧
          t.flag (Reg.LMP_SNS_STAT_VALID i) = (s.flag (Reg.LMP_SNS_STAT_VALID i) && fails != 3))) ∧
      (t.sensorTemps 0xFFFF = [] → t.flag Reg.LMP_STAT_NOSENSE = true ∧ ∀ z < 16, t.rd (Reg.LMP_ZONE_STAT_SRC z) = 2 ∧
        t.rd (Reg.LMP_ZONE_TEMP_TEMP z) = s.rd (Reg.LMP_ZONE_TEMP_TEMP z)) ∧
      (t.sensorTemps 0xFFFF ≠ [] → t.flag Reg.LMP_STAT_NOSENSE = false ∧ ∀ z < 16,
        let l := t.sensorTemps (s.cfg 3 (Reg.LMP_ZONE_MASK_MASK z))
        t.rd (Reg.LMP_ZONE_TEMP_TEMP z) = unsignedOf 16 (if l = [] then highest (t.sensorTemps 0xFFFF) else meanTemp l) ∧
        t.rd (Reg.LMP_ZONE_STAT_SRC z) = (if l = [] then 1 else 0) ∧
        t.rd (Reg.LMP_ZONE_STAT_TARGET z) = targetOf s.setTemps (t.rdInt (Reg.LMP_ZONE_TEMP_TEMP z)) % 4096))) ∧
  (∀ s : State, (s.isTile = false → exec .derateReportSend s = .next s ∧ exec .crefSlew s = .next s) ∧
    (s.isTile = true → (∀ p ∈ s.tfs.commitPorts, p < 4 ∧ s.canSend p = true) → s.tfs.commitPorts.Nodup → s.trs.wallKey ≠ none → Works .derateReportSend s fun t =>
      t.weft.sent = s.weft.sent ++ s.tfs.commitPorts.flatMap fun p => s.leaving p ++ [⟨p, s.formPacket p .status (s.destChain 1 p) s.derateBody, true, none⟩]) ∧
    (s.isTile = true → s.sys.firstLight = true → Works .crefSlew s fun t => ∀ n < 8, s.sweeping n = false → t.rd (Reg.DRV_GRP_STAT_CREF_NOW n) =
      stepToward (s.rd (Reg.DRV_GRP_STAT_CREF_NOW n)) (s.crefTarget n) (crefStep (s.rd (Reg.DRV_GRP_STAT_CREF_NOW n))) % 2 ^ 14) ∧
    (s.isTile = true → s.sys.firstLight = false → Works .crefSlew s fun t => ∀ n < 8, s.sweeping n = false → t.rd (Reg.DRV_GRP_STAT_CREF_NOW n) = s.crefTarget n % 2 ^ 14)) ∧
  (∀ (s u : State) (p : Port) (a : Arrival), Accepted s p .status a u → u.isSender = true → leAt a.pkt.body 0 1 = 3 →
    let addr := leAt a.pkt.body 2 2 % 4096
    (addr / 256 ≠ u.rd Reg.SYS_ROLE_GROUP ∨ addr % 64 = 63 → Leads (.derateReportReceive p a) s u) ∧
    (addr / 256 = u.rd Reg.SYS_ROLE_GROUP → addr % 64 ≠ 63 → Works (.derateReportReceive p a) s fun t =>
      Tab.find t.dmg.derates (addr % 256) = some (leAt a.pkt.body 4 2, u.now) ∧ addr % 256 ∉ t.dmg.derateOmitted)) ∧
  (∀ s : State, (s.holdsSpindle = false → exec .wallDerate s = .next s) ∧
    (s.holdsSpindle = true → s.sys.fatal = none → s.trs.wallKey ≠ none →
      let fresh := s.derateTiles.filter fun k =>
        (Tab.find s.dmg.derates k).any fun x => decide (s.now ≤ x.2 + 3000000000)
      let gm := (fresh.map fun k => (Tab.get s.dmg.derates k).1).foldl min 32768
      let wm := if s.acFlag Reg.DMG_DERATE_EXT_ENABLE then min gm (s.ac Reg.DMG_DERATE_EXT_MIN) else gm
      Works .wallDerate s fun t => t.rd Reg.DMG_DERATE_GROUP_MIN = gm ∧ t.rd Reg.DMG_DERATE_TILES = min fresh.length 255 ∧
        t.weft.sent = s.weft.sent ++ s.sendPorts.flatMap fun p => s.leaving p ++
          [⟨p, s.formPacket p .mgmt (s.chainAll p) (wallminBody wm (s.now / 1000000000) fresh.length), true, none⟩])) ∧
  ∀ (s u : State) (p : Port) (a : Arrival), Accepted s p .mgmt a u → leAt a.pkt.body 0 1 = 0x20 →
    (u.isTile = false → Leads (.wallminReceive p a) s u) ∧
    (u.isTile = true → Works (.wallminReceive p a) s fun t => t.rd Reg.LMP_WALLMIN_WALLMIN = leAt a.pkt.body 2 2 ∧ t.drv.wallminAt = some u.now)

/-- Swaps, aborted feeds, gain, refresh and lamp reads of a driver group (R311, R313, R314, R316, R317, R318, R319, R321, R324, R325, R327): In a device
with power and out of reset: at a boundary, once for each, a group in use exchanges its banks after a completed feed, and is not dark for aborts; it
takes its refresh fields; after an aborted feed it goes on showing what it had, counts the abort, and the second in a row makes it dark. An underrun
aborts the feed with its later rows unchanged and counts, a late feed only where the feed does not fit, and both take back the gain. A gain transfer
that ends in time loads the gain; one that does not is skipped and counted. Each refresh cycle that the count reaches lights its rows, none in a probe
gap, in a dark group or before first light. A frame that does not probe reads the row of its number, one that probes reads its probe row; a read that
cannot end in time is skipped and counted; one that counts gives each lamp its state with age 0. A group that is not in use, and a device that is no
Tile, does nothing. -/
def Obligations.DriverGroupsShowAndRead : Prop := ∀ (s : State) (n : Fin 8),
  let c := s.groupCfg n
  let on := s.isTile = true ∧ s.groupOn n = true
  (s.isTile = false → exec (.bankSwap n) s = .next s) ∧
  (s.boundaryDue (actSwap n) s.now = false → exec (.bankSwap n) s = .next s) ∧
  (on → s.boundaryDue (actSwap n) s.now = true → Works (.bankSwap n) s fun t => t.boundaryDue (actSwap n) s.now = false ∧ (t.group n).refresh = some c ∧
    (t.group n).cycle = 0 ∧ ((s.group n).feeding = false → (t.group n).front = (s.group n).front ∧ (t.group n).le = (s.group n).le)) ∧
  (on → s.boundaryDue (actSwap n) s.now = true → (s.group n).feeding = true → (s.group n).aborted = false → Works (.bankSwap n) s fun t =>
    (t.group n).front = (s.group n).back ∧ (t.group n).back = (s.group n).front ∧ t.rd (Reg.DRV_GRP_STAT_ABORTS n) = 0 ∧
    t.flag (Reg.DRV_GRP_STAT_DARK_ABORT n) = false ∧ t.flag (Reg.DRV_GRP_STAT_DARK n) = (s.flag (Reg.HMK_GLASS_GRP_DARK n) || s.sys.fatal.isSome) ∧
    t.sys.firstLight = true) ∧
  (on → s.boundaryDue (actSwap n) s.now = true → (s.group n).feeding = true → (s.group n).aborted = true → Works (.bankSwap n) s fun t =>
    (t.group n).front = (s.group n).front ∧
    t.rd (Reg.DRV_GRP_STAT_ABORTS n) = min 15 (s.rd (Reg.DRV_GRP_STAT_ABORTS n) + 1) ∧
    (1 ≤ s.rd (Reg.DRV_GRP_STAT_ABORTS n) → t.flag (Reg.DRV_GRP_STAT_DARK_ABORT n) = true ∧ t.flag (Reg.DRV_GRP_STAT_DARK n) = true)) ∧
  (¬ on ∨ (s.group n).aborted = true → exec (.gainTransfer n) s = .next s) ∧
  (¬ on ∨ (s.group n).feeding = false ∨ (s.group n).aborted = true → ∀ row, exec (.underrun n row) s = .next s ∧ exec (.lateFeed n) s = .next s) ∧
  (on → (s.group n).feeding = true → (s.group n).aborted = false →
    (∀ row, Works (.underrun n row) s fun t => (t.group n).aborted = true ∧ (t.group n).front = (s.group n).front ∧
      (t.group n).back = mixRows c.scan row.val (s.group n).back (s.group n).prev ∧ t.rd (Reg.DRV_GRP_CNT_UNDERRUN n) = min (s.rd (Reg.DRV_GRP_CNT_UNDERRUN n) + 1) 65535 ∧
      t.rd (Reg.DRV_GRP_FACTOR_K n) = (s.group n).before.2.2 % 2 ^ 16) ∧
    (s.feedFits n = true → exec (.lateFeed n) s = .next s) ∧
    (s.feedFits n = false → Works (.lateFeed n) s fun t => (t.group n).aborted = true ∧
      t.rd (Reg.DRV_GRP_CNT_LATE n) = min (s.rd (Reg.DRV_GRP_CNT_LATE n) + 1) 255 ∧ t.rd (Reg.DRV_GRP_FACTOR_K n) = (s.group n).before.2.2 % 2 ^ 16)) ∧
  (on → (s.group n).aborted = false →
    (s.now + 256 * c.chain * c.ddiv + 1000 ≤ s.nextFeed → Works (.gainTransfer n) s fun t =>
      (t.group n).driverGain = s.rd (Reg.DRV_GRP_FACTOR_GAIN n) ∧
      (t.group n).conf = confWord (s.profile n) (s.rd (Reg.DRV_GRP_FACTOR_GAIN n)) ∧ t.regs = s.regs) ∧
    (s.nextFeed < s.now + 256 * c.chain * c.ddiv + 1000 → Works (.gainTransfer n) s fun t => (t.group n).driverGain = (s.group n).driverGain ∧
      t.rd (Reg.DRV_GRP_CNT_SKIPPED n) = min (s.rd (Reg.DRV_GRP_CNT_SKIPPED n) + 1) 255 ∧
      t.rd (Reg.DRV_GRP_FACTOR_K n) = (s.group n).before.2.2 % 2 ^ 16)) ∧
  (¬ on → exec (.refreshCycle n) s = .next s ∧ ∀ ret, exec (.lampRead n ret) s = .next s ∧ exec (.lampProbe n ret) s = .next s) ∧
  (s.cycleNow n < (s.group n).cycle ∨ s.cycleStart n (s.cycleNow n) < s.whl.skip → exec (.refreshCycle n) s = .next s) ∧
  (on → (s.group n).cycle ≤ s.cycleNow n → s.whl.skip ≤ s.cycleStart n (s.cycleNow n) → Works (.refreshCycle n) s fun t =>
    (t.group n).cycle = s.cycleNow n + 1 ∧ t.flag (Reg.DRV_GRP_STAT_REFRESH_FIT n) = c.refreshFits s.whl.rate ∧
    (t.group n).lit = (if (s.probes n && s.cycleNow n == (s.refreshCfg n).rpf / 2) || s.flag (Reg.DRV_GRP_STAT_DARK n) || !s.sys.firstLight then 0
      else s.rowsFit n)) ∧
  (on → ∀ ret : List (List Bool), (s.probeRow n = none → exec (.lampProbe n ret) s = .next s) ∧
    ∀ r i, (s.probeRow n = none ∧ r = s.showNumber % (s.refreshCfg n).scan ∧ i = Instr.lampRead n ret) ∨ (s.probeRow n = some r ∧ i = Instr.lampProbe n ret) →
      let b := s.profile n
      let rc := s.refreshCfg n
      let pulse := s.cfg (4 + n) (Reg.DRV_GRP_REFRESH_PROBE_NS n)
      let span := if s.probeRow n = none then 5 * (r + 1) * (rc.slot + rc.blank) * rc.gdiv + 6 * (leAt b 5 1 + 256 * rc.chain) * rc.ddiv
        else 6 * ((leAt b 3 1 + leAt b 4 1 + leAt b 6 1 + leAt b 5 1 + 256 * rc.chain) * rc.ddiv + pulse)
      (s.readFits n span = false → Works i s fun t => SameBytes s t ∧ t.flag (Reg.DRV_GRP_STAT_PROBE_FIT n) = false ∧
        t.rd (Reg.DRV_GRP_CNT_SKIPPED n) = min (s.rd (Reg.DRV_GRP_CNT_SKIPPED n) + 1) 255) ∧
      (s.readFits n span = true → Memory.wf s = true → Works i s fun t => t.flag (Reg.DRV_GRP_STAT_PROBE_FIT n) = true ∧
        (s.probeRow n = some r → (t.group n).rowa = r) ∧ ∀ k < 16, ∀ d < c.chain, ∀ ch < 16,
          let x := c.lampIndex k d ch r
          let counts := if s.probeRow n = none then decide (6 * leAt b 12 2 ≤ 5 * ((s.group n).front.getD x 0 / rc.rpf * rc.gdiv)) else decide (leAt b 12 2 ≤ pulse)
          (counts = true → t.lampAt n x = (readState b c.chain ret k d ch, 0)) ∧
          (counts = false → t.lampAt n x = (if (s.lampAt n x).1 = 1 ∧ s.cfg (4 + n) (Reg.DRV_GRP_LAMP_AGE_MAX n) < min ((s.lampAt n x).2 + 1) 16383 then 0
            else (s.lampAt n x).1, min ((s.lampAt n x).2 + 1) 16383))))

/-- DisplayPort links, EDID and DPCD, video and admission of an intake port (R78, R79, R80, R81, R82, R87, R88, R107, R108, R109): In a device with power
and out of reset: an EDID read answers a block of the port's EDID, a DPCD read one byte; a DPCD write lands in the link fields that a source may
write, and clears bits of 0x201; with HPD low no source reads or writes. Training shows its figures; below FOM_MIN it asks for more while the source
can give it, and once the source ends it the link is trained, with its patches not LIVE. Loss of the link clears the lane status and raises IRQ_HPD,
and running video is lost. Video on a trained link shows its timing and rate, and is admitted where its format is good and the budget holds it, else
refused with its reason; the end of video leaves USED the sum over the ports still admitted; a change of timing does both. A patch whose DEADLINE
passed is not LIVE, and the port's verdict follows. In another link state a command does nothing. -/
def Obligations.IntakePortsTrainAndAreAdmitted : Prop := ∀ (s : State) (p : Fin 8),
  let link := s.rd (Reg.DPI_PORT_STAT_LINK p)
  (∀ blk : Fin 4, ((s.ip p).hpd = true → ∀ e, s.portEdid p = some e → Works (.edidRead p blk) s fun t => t.intake.answer = slice e (128 * blk.val) 128 ∧ t.regs = s.regs) ∧
    ((s.ip p).hpd = false → Works (.edidRead p blk) s fun t => t.intake.answer = [])) ∧
  (∀ (a : BitVec 20) (v : Byte),
    ((s.ip p).hpd = true → Works (.dpcdAccess p a none) s fun t => t.intake.answer = [s.dpcdByte p a.toNat] ∧ t.intake.ports = s.intake.ports) ∧
    ((s.ip p).hpd = true → 0x100 ≤ a.toNat → a.toNat < 0x300 → dpcdReadOnly a.toNat = false → Works (.dpcdAccess p a (some v)) s fun t =>
      t.dpcdByte p a.toNat = (if a.toNat = 0x201 then s.dpcdByte p a.toNat &&& ~~~v else v)) ∧
    ((s.ip p).hpd = true → (a.toNat < 0x100 ∨ 0x300 ≤ a.toNat ∨ dpcdReadOnly a.toNat = true) → exec (.dpcdAccess p a (some v)) s = .next s) ∧
    ((s.ip p).hpd = false → ∀ w, Works (.dpcdAccess p a w) s fun t => t.intake.answer = [] ∧ t.intake.ports = s.intake.ports)) ∧
  (∀ r : DpTraining, ((s.ip p).hpd = false → exec (.dpLinkTraining p r) s = .next s) ∧
    ((s.ip p).hpd = true →
      let low := r.fom.any fun f => decide (f.toNat < s.ac (Reg.DPI_PORT_CFG_FOM_MIN p))
      Works (.dpLinkTraining p r) s fun t => (∀ i < 4, t.flag (Reg.DPI_TT_STAT_LIVE p i) = false) ∧ t.rd (Reg.DPI_PORT_FOM_FOM_0 p) = (r.fom.getD 0 0).toNat ∧
        (low = true → r.highest = false → t.rd (Reg.DPI_PORT_STAT_LINK p) = 2 ∧ Tab.find (t.ip p).dpcd 0x206 = some (adjustByte r.level) ∧
          Tab.find (t.ip p).dpcd 0x207 = some (adjustByte r.level)) ∧
        ((low = false ∨ r.highest = true) → t.rd (Reg.DPI_PORT_STAT_LINK p) = (if r.done then 3 else 2) ∧
          (r.done = true → t.rd (Reg.DPI_PORT_STAT_RATE p) = r.rate.toNat % 4 ∧ t.rd (Reg.DPI_PORT_STAT_LANES p) = r.lanes.toNat % 4)))) ∧
  (link ≤ 2 → exec (.linkLoss p) s = .next s) ∧
  (2 < link → Works (.linkLoss p) s fun t => (∀ a ∈ [0x202, 0x203, 0x204], t.dpcdByte p a = 0) ∧ (t.ip p).irqHpd = (s.ip p).irqHpd + 1 ∧
    (link ≠ 4 → t.regs = s.regs) ∧ (link = 4 → (t.ip p).msa = none ∧ t.flag (Reg.DPI_PORT_STAT_ADMITTED p) = false ∧ (t.ip p).writing = none ∧
      ∀ i < 4, t.flag (Reg.DPI_TT_STAT_LIVE p i) = false)) ∧
  (∀ m : Msa, (link ≠ 3 → exec (.videoStart p m) s = .next s) ∧ (link ≠ 4 ∨ (s.ip p).msa = none → exec (.timingChange p m) s = .next s) ∧
    (∀ i, (link = 3 ∧ i = Instr.videoStart p m) ∨ (link = 4 ∧ (s.ip p).msa ≠ none ∧ i = Instr.timingChange p m) → Works i s fun t =>
      t.rd (Reg.DPI_PORT_STAT_LINK p) = 4 ∧ (t.ip p).msa = some m ∧ t.rd (Reg.DPI_PORT_TIMING_H_ACTIVE p) = m.hActive.toNat % 8192 ∧
      t.rd (Reg.DPI_PORT_TIMING_V_ACTIVE p) = m.vActive.toNat % 8192 ∧ t.rd (Reg.DPI_PORT_RATE_RATE p) = msaCounted m % 2 ^ 24 ∧
      (msaReason m ≠ 0 → t.flag (Reg.DPI_PORT_STAT_ADMITTED p) = false ∧ t.rd (Reg.DPI_PORT_STAT_REASON p) = msaReason m)) ∧
    (link = 3 → msaReason m = 0 → s.pairOf p = none →
      (s.admittedBut [p.val] + msaCounted m ≤ 6400000 → Works (.videoStart p m) s fun t => t.flag (Reg.DPI_PORT_STAT_ADMITTED p) = true ∧
        t.rd (Reg.DPI_PORT_STAT_REASON p) = 0 ∧ t.rd Reg.DPI_BUDGET_USED = s.admittedBut [p.val] + msaCounted m) ∧
      (6400000 < s.admittedBut [p.val] + msaCounted m → Works (.videoStart p m) s fun t => t.flag (Reg.DPI_PORT_STAT_ADMITTED p) = false ∧
        t.rd (Reg.DPI_PORT_STAT_REASON p) = 4 ∧ t.rd Reg.DPI_BUDGET_USED = s.admittedBut [p.val] % 2 ^ 24 ∧ (t.ip p).asking = true))) ∧
  (link ≠ 4 → exec (.videoStop p) s = .next s) ∧
  (link = 4 → Works (.videoStop p) s fun t => t.rd (Reg.DPI_PORT_STAT_LINK p) = 3 ∧ (t.ip p).msa = none ∧ t.flag (Reg.DPI_PORT_STAT_ADMITTED p) = false ∧
    ((∀ q < 8, q ≠ p.val → (s.ip q).asking = false) → t.rd Reg.DPI_BUDGET_USED = s.admittedBut (p.val :: (s.runsWith p).toList) % 2 ^ 24)) ∧
  ∀ i : Fin 4, ((s.flag (Reg.DPI_TT_STAT_LIVE p i) && s.patchOverdue p i) = false → exec (.patchDeadline p i) s = .next s) ∧
    (s.flag (Reg.DPI_TT_STAT_LIVE p i) = true → s.patchOverdue p i = true → Works (.patchDeadline p i) s fun t =>
      t.flag (Reg.DPI_TT_STAT_LIVE p i) = false ∧ (t.patch p i).run = 0 ∧ t.flag (Reg.DPI_PORT_STAT_LIVE p) = t.portLive p)

/-- Frames of an intake port, bales, surfaces and releases (R85, R89, R96, R98, R99, R100, R101, R102, R103, R104, R106, R107): In a device with power and
out of reset: the first line of a frame of an admitted port converts it and takes a free or an older unpinned surface of its pool for writing, or
counts the frame as dropped. Each bale of the surface written is stored with its fingerprint, and marked changed where the reference differs or there
is none. At the frame's end each enabled patch reads it, takes the reading as its base, and a frame that qualifies is noted. Publication makes the
surface the port's latest and the one before older. A release frees a surface that is not pinned, waits for the last pin of one that is, and is
refused for one that is not there or belongs to an enabled port; the pending release is performed when no pin is left. A port that is not admitted, or
writes no surface, does nothing. -/
def Obligations.FramesAreStoredAndPublished : Prop :=
  (∀ (s : State) (p : Fin 8) (f : SourceFrame),
    let admitted := s.flag (Reg.DPI_PORT_STAT_ADMITTED p)
    (((s.ip p).msa = none ∨ admitted = false) → exec (.sourceFrameStart p f) s = .next s) ∧
    (admitted = false → exec (.sourceFrameEnd p) s = .next s) ∧
    (∀ m, (s.ip p).msa = some m → admitted = true → s.flag (Reg.DPI_PORT_STAT_PAIRED p) = false → (s.ip p).skewed = false →
      (s.ip p).writing = none →
      (s.takeSurface p = none → Works (.sourceFrameStart p f) s fun t => (t.ip p).frame = some (f.rows.map (convertLine m)) ∧ (t.ip p).writing = none ∧
        t.rd (Reg.BAL_POOL_DROPPED p) = min (s.rd (Reg.BAL_POOL_DROPPED p) + 1) 4095) ∧
      (∀ n, s.takeSurface p = some n → Works (.sourceFrameStart p f) s fun t => (t.ip p).frame = some (f.rows.map (convertLine m)) ∧
        (t.ip p).writing = some n ∧ t.poolState n = 1 ∧ (t.surface n).width = m.hActive.toNat ∧ (t.surface n).height = m.vActive.toNat ∧
        (t.ip p).frames = ((s.ip p).frames + 1) % 65536 ∧ t.regs = s.regs)) ∧
    (admitted = true → Works (.sourceFrameEnd p) s fun t => t.flag (Reg.DPI_PORT_STAT_LIVE p) = t.portLive p ∧
      ∀ i < 4, ∀ ps r, s.acFlag (Reg.DPI_TT_CFG_ENABLE p i) = true → s.patchPixels p i = some ps → s.patchReading p i ps = some r →
        (t.patch p i).base = some r ∧ ∀ b, (s.patch p i).base = some b → s.qualifies p i b r = true →
          (t.patch p i).lastQual = some s.now ∧ t.flag (Reg.DPI_TT_STAT_SEEN p i) = true)) ∧
  (∀ (s : State) (p : Fin 8), ((s.ip p).writing = none → (∀ i, exec (.baleWrite p i) s = .next s) ∧ exec (.surfacePublish p) s = .next s) ∧
    ∀ n, (s.ip p).writing = some n →
      let x := s.surface n
      (∀ i : BitVec 18, (balesAcross x.width * balesDown x.height ≤ i.toNat → exec (.baleWrite p i) s = .next s) ∧
        (i.toNat < balesAcross x.width * balesDown x.height → Memory.wf s = true →
          let ps := balePixels (s.surfaceRows p) x.width x.height (i.toNat % balesAcross x.width) (i.toNat / balesAcross x.width)
          Works (.baleWrite p i) s fun t => t.fingerprint n i.toNat = crc64Pixels ps ∧ t.regs = s.regs ∧
            t.changeBit n i.toNat = ((s.ip p).allChanged || (s.ip p).reference.all fun r => s.fingerprint r i.toNat != crc64Pixels ps))) ∧
      Works (.surfacePublish p) s fun t => t.poolState n = 2 ∧ (t.surface n).published = s.now ∧ (t.ip p).writing = none ∧ (t.ip p).frame = none ∧
        ∀ o, s.latest p = some o → o ≠ n → t.poolState o = 3) ∧
  ∀ (s : State) (n : BitVec 9),
    let freed (t : State) : Prop := (n.toNat < 256 → Tab.find t.intake.surfaces n.toNat = none) ∧ (256 ≤ n.toNat → t.poolState n.toNat = 0)
    let pool := 256 ≤ n.toNat ∧ s.acFlag (Reg.DPI_PORT_CFG_ENABLE ((n.toNat - 256) / 3)) = true
    (Works (.release n) s fun t => t.rd Reg.BAL_SURF_STAT_SURFACE = n.toNat ∧
      (s.surfaceThere n.toNat = false → t.rd Reg.BAL_SURF_STAT_RESULT = 2 ∧ t.intake = s.intake) ∧
      (s.surfaceThere n.toNat = true → pool → t.rd Reg.BAL_SURF_STAT_RESULT = 3 ∧ t.intake = s.intake) ∧
      (s.surfaceThere n.toNat = true → ¬ pool →
        (s.releasing n.toNat = false → s.pins n.toNat = 0 → t.rd Reg.BAL_SURF_STAT_RESULT = 0 ∧ freed t) ∧
        (s.releasing n.toNat = false → s.pins n.toNat ≠ 0 → t.rd Reg.BAL_SURF_STAT_RESULT = 1 ∧ t.flag Reg.BAL_SURF_STAT_PENDING = true ∧
          t.intake.releases = s.intake.releases ++ [n.toNat]) ∧
        (s.releasing n.toNat = true → t.rd Reg.BAL_SURF_STAT_RESULT = 1 ∧ t.intake = s.intake))) ∧
    (s.releasing n.toNat = true → s.pins n.toNat = 0 → Works (.releaseDone n) s fun t => freed t ∧
      t.intake.releases = s.intake.releases.filter (· != n.toNat) ∧ t.flag Reg.BAL_SURF_STAT_PENDING = !t.intake.releases.isEmpty) ∧
    ((s.releasing n.toNat = false ∨ s.pins n.toNat ≠ 0) → exec (.releaseDone n) s = .next s)

/-- A composition pass: its beginning, its blocks, its cut-off and its end (R113, R131, R132, R133, R136, R137, R138, R139, R140, R141, R143, R144): In a
device with power and out of reset: at a boundary, once for each, a Sender that is in no pass begins the next generation: fences take effect, every
enabled layer takes its surface and shows what came of it, and all that is dirty is covered; everything marked is. A block of the band segment that
its slice composes, once finished, is no longer dirty, has its new fingerprint in the canvas table, and where that changed is queued for each Tile
that it meets; one that reads a faulty bale under a layer which is not hatched is held instead and memory stays. The cut-off holds every dirty block
not started. The end of the pass holds the rest, shows each layer's current bit, and drops the pins. A failed self-test in a slice's idle time, or a
parity error, fences the slice at the next boundary. Another device, or one in no pass, does nothing. -/
def Obligations.PassesComposeDirtyBlocks : Prop := ∀ s : State,
  let g := (s.rd Reg.LOOM_PASS_GEN + 1) % 2 ^ 32
  let B := s.lastBoundaryAt s.frameNow
  ((s.isSender = false ∨ s.loom.inPass = true ∨ s.boundaryDue actPass s.frameNow = false) → exec .compositionPass s = .next s) ∧
  (s.isSender = true → s.loom.inPass = false → s.boundaryDue actPass s.frameNow = true → Works .compositionPass s fun t => t.loom.inPass = true ∧ t.rd Reg.LOOM_PASS_GEN = g ∧
    t.loom.boundaryAt = B ∧ Tab.find t.dmg.bounds g = some B ∧ t.boundaryDue actPass s.frameNow = false ∧ (∀ b ∈ t.loom.dirty, s.covered b = true) ∧
    (∀ b ∈ s.blocks, s.covered b = true → s.loom.markedAll = true ∨ b ∈ s.loom.marked ∨ b ∈ s.loom.carried → b ∈ t.loom.dirty) ∧
    (∀ n ∈ s.layersOn, (t.layer n).held = (s.layerSource n).1 ∧ t.rd (Reg.LOOM_L_STAT_NR n) = (s.layerSource n).2 ∧
      t.hatched n = (s.ac (Reg.LOOM_L_FRESH_LIMIT n) != 0 && decide (s.ac (Reg.LOOM_L_FRESH_LIMIT n) * 1000000 < s.layerAge n (s.layerSource n).1))) ∧
    (∀ i < 16, (s.ac Reg.LOOM_CFG_FORCE).testBit i = true ∨ (i, true) ∈ s.loom.toFence ∨ (i, false) ∈ s.loom.toFence → t.fenced i = true) ∧
    (∀ i < 16, i ∉ s.loom.faulted → ((i, true) ∈ s.loom.toFence → t.flag (Reg.LOOM_SLICE_STAT_PARITY i) = true) ∧
      ((i, false) ∈ s.loom.toFence → t.flag (Reg.LOOM_SLICE_STAT_TEST_FAIL i) = true)) ∧ t.loom.toFence = [] ∧
    (g = 1 → t.dmg.window = 1 ∧ t.sys.firstLight = true)) ∧
  (∀ (b : BitVec 22) (ue : List (BitVec 9 × BitVec 18)),
    let ls := s.contributing b.toNat
    let slice := s.server (s.stripeOf b.toNat)
    let bad (n : Nat) : Bool := !(s.badBales n b.toNat (ue.map fun x => (x.1.toNat, x.2.toNat))).isEmpty
    let ps := s.composeBlock b.toNat
    let ready := b.toNat ∈ s.loom.dirty ∧ s.fenced slice = false ∧ s.segmentNow slice = some (s.segmentOf b.toNat)
    (¬ ready → exec (.blockEncoded b ue) s = .next s) ∧
    (ready → Memory.wf s = true → (∀ n ∈ ls, bad n = true → s.hatched n = true) → Works (.blockEncoded b ue) s fun t => b.toNat ∉ t.loom.dirty ∧
      t.canvasFingerprint b.toNat = crc64Pixels ps ∧ (∀ n ∈ ls, bad n = true → n ∈ t.loom.unclean) ∧
      (s.canvasFingerprint b.toNat ≠ crc64Pixels ps → ∀ cp ∈ s.allTiles, s.blockMeets b.toNat (s.tileRect cp.1 cp.2) = true →
        ∃ e ∈ t.queue cp.1, e.pos = cp.2 ∧ e.block = b.toNat)) ∧
    (ready → ∀ n ∈ ls, bad n = true → s.hatched n = false → Works (.blockEncoded b ue) s fun t => b.toNat ∉ t.loom.dirty ∧ b.toNat ∈ t.loom.carried ∧
      n ∈ t.loom.unclean ∧ SameBytes s t)) ∧
  (∀ started : List (BitVec 22), Works (.cutoff started) s fun t =>
    t.loom.dirty = s.loom.dirty.filter (fun b => (started.map (·.toNat)).contains b) ∧
    (∀ b ∈ s.loom.dirty, b ∉ started.map (·.toNat) → b ∈ t.loom.carried) ∧ t.regs = s.regs ∧ SameBytes s t) ∧
  (s.loom.inPass = false → exec .passEnd s = .next s) ∧
  (s.loom.inPass = true → let s0 := doCutoff s []
    Works .passEnd s fun t => t.loom.inPass = false ∧ t.loom.passPins = [] ∧
    t.loom.dirty = [] ∧ t.loom.carried = s0.loom.carried ∧ t.rd Reg.LOOM_PASS_STAT_HELD = min s0.loom.heldCount 65535 ∧
    ∀ n < 64, t.flag (Reg.LOOM_L_STAT_CURRENT n) = s0.layerCurrent n ∧ t.flag (Reg.LOOM_L_STAT_UNCLEAN n) = s0.loom.unclean.contains n) ∧
  ∀ i : Fin 16, ((s.isSender = false ∨ s.acFlag Reg.LOOM_CFG_BIST_EN = false ∨ s.sliceIdle i = false) → ∀ failed, exec (.bistFragment i failed) s = .next s) ∧
    (s.isSender = true → s.acFlag Reg.LOOM_CFG_BIST_EN = true → s.sliceIdle i = true → ∀ failed, Works (.bistFragment i failed) s fun t =>
      t.rd (Reg.LOOM_SLICE_LOAD_FRAGMENTS i) = (s.rd (Reg.LOOM_SLICE_LOAD_FRAGMENTS i) + 1) % 4096 ∧
      (failed = true → (i.val, false) ∈ t.loom.toFence)) ∧
    (s.isSender = false → ∀ b, exec (.sliceParityError i b) s = .next s) ∧
    (s.isSender = true → ∀ b, Works (.sliceParityError i b) s fun t => (i.val, true) ∈ t.loom.toFence ∧
      (b.toNat ∈ s.loom.dirty → b.toNat ∉ t.loom.dirty ∧ b.toNat ∈ t.loom.carried))

/-- Every other command leaves every byte of DRAM, SRAM and flash as it was (R96, R113, R276, R323, R365, R376, R384, R454, R484): Only these commands may
change a byte of DRAM, of the SRAM banks or of flash: power, reset, restarts and the steps of a start; a register write and a commit point; the
requests of the memory controller, which the scrub and the write-backs belong to, and the accesses of the banks, their power modes, wakes, parity
errors and tests; bales, canvas blocks, pushes, GUARD messages, cell copies, feed starts and lamp reads; LAYOUT and CONFIG, RESTART, DATA, CONFIRM,
checked envelopes and the steps of Porter, Assay and a dump; a fatal error, the watchdog, a lost Skein lane and the end of a trial. Whenever any other
command completes, every byte reads as before. -/
def Obligations.MemoryChangesOnlyByItsWriters : Prop := ∀ (i : Instr) (s t : State), exec i s = .next t →
  match i with
  | .powerOn _ | .resetAssert | .resetRelease _ | .powerOnDetectorArm | .coldStart _ | .warmStart _ | .coldRestart _ | .warmRestart _
  | .startStepEnd _ | .restart _ | .trialExpiry | .watchdogExpiry | .sysFatal _ _ | .fatalError _ | .fatalDumpStepEnd | .dumpHoldExpiry
  | .skeinFlitCrcFail _ _ | .registerWrite _ _ _ | .commitPoint _ _ | .baleWrite _ _ | .blockEncoded _ _ | .pushReceive _ _ | .cellCopy _ _ _
  | .feedStart _ | .guardReceive _ _ | .lampRead _ _ | .lampProbe _ _ | .dramRead _ _ | .dramWrite _ _ | .requestPromotion _ _
  | .patrolScrub _ | .srbPwrMode _ _ | .bankWakeDone _ | .sramParityError _ _ _
  | .testWindowStart | .testYield _ | .testWindowEnd _ | .layout _ _ | .config _ _ | .data _ | .confirm _ | .chtConfirm _ | .mgmtEnvelope _ _
  | .mgmtBlock _ _ | .envelopeChecked | .assayStepEnd _ | .porterStepEnd _ => True
  | _ => SameBytes s t

/-- No command but a commit point, a reset or a step of a start changes an active copy (R56, R57, R66, R67, R68, R74, R392, R393, R483): The active copies
of the staged fields change only at a commit point and in resets and starts, with the commands that may begin or end one: power, reset, restarts and
the steps of a start, LAYOUT and CONFIG, which write registers, a fatal error with its dump, an uncorrectable word of a bank, a lost Skein lane, the
watchdog, the end of a trial, a checked envelope, a step of Porter; and by a register write, which may name any of these; in a device without a role,
arming G1 and a preset that arms it commit at once (R392). Whenever any other command completes, every active copy is as it was: a write of a pending
copy never changes what a block does. -/
def Obligations.ActiveCopiesChangeAtCommitPoints : Prop := ∀ (i : Instr) (s t : State), exec i s = .next t →
  match i with
  | .powerOn _ | .resetAssert | .resetRelease _ | .powerOnDetectorArm | .coldStart _ | .warmStart _ | .coldRestart _ | .warmRestart _
  | .startStepEnd _ | .restart _ | .trialExpiry | .watchdogExpiry | .sysFatal _ _ | .fatalError _ | .fatalDumpStepEnd | .dumpHoldExpiry
  | .skeinFlitCrcFail _ _ | .registerWrite _ _ _ | .commitPoint _ _ | .sramParityError _ _ _ | .layout _ _ | .config _ _ | .mgmtEnvelope _ _
  | .envelopeChecked | .porterStepEnd _ => True
  | .arm _ | .select _ | .presetSample _ => s.role ≠ 0 → ∀ a, t.actWordAt a = s.actWordAt a
  | _ => ∀ a, t.actWordAt a = s.actWordAt a

/-- The chroma of a 4:2:2 source (R86): In a device with power and out of reset: whatever 4:2:2 frame an admitted port receives, the frame that it
converts has, in both chroma channels of each line: at an even pixel that pixel's own sample; at an odd one half the sum of its two even neighbours
and one, rounded down; at a last odd one the sample of the pixel to its left. Each sample is widened to 12 bits before the mean is taken. -/
def Obligations.OddPixelsTakeTheMeanChroma : Prop := ∀ (s : State) (p : Fin 8) (f : SourceFrame) (m : Msa), (s.ip p).msa = some m →
  s.flag (Reg.DPI_PORT_STAT_ADMITTED p) = true → m.format.val = 2 → Works (.sourceFrameStart p f) s fun t =>
    ∃ lines, (t.ip p).frame = some lines ∧ lines.length = f.rows.length ∧ ∀ (y : Nat) (row : List (Nat × Nat × Nat)) (line : List Pixel),
      f.rows[y]? = some row → lines[y]? = some line → line.length = row.length ∧ ∀ x < row.length,
        let chroma (channel : Pixel → Nat) (sample : Nat → Nat) : Prop :=
          (x % 2 = 0 → channel (line.getD x 0) = sample x) ∧
          (x % 2 = 1 → x + 1 < row.length → channel (line.getD x 0) = (sample (x - 1) + sample (x + 1) + 1) / 2) ∧
          (x % 2 = 1 → x + 1 = row.length → channel (line.getD x 0) = sample (x - 1))
        chroma pixelR (fun j => replicate12 m.bpc (row.getD j (0, 0, 0)).1) ∧ chroma pixelB (fun j => replicate12 m.bpc (row.getD j (0, 0, 0)).2.2)
end

