-- ==== Sys2Proof/Laws/Tab.lean ====
section
/-! SUPPORT. What the sparse tables and the bit fields of a register word do: finding after putting, reading after setting. -/

namespace Sys2Proof.Machine

/-! ### Tables -/

@[simp] theorem Tab.find_put_self {α : Type} (t : Tab α) (a : Nat) (v : α) : Tab.find (Tab.put t a v) a = some v := by
  induction t with
  | nil => simp [Tab.put, Tab.find]
  | cons e t ih =>
    obtain ⟨k, w⟩ := e
    unfold Tab.put
    split
    · simp [Tab.find]
    · split
      · simp [Tab.find]
      · next h1 h2 => simp [Tab.find, Ne.symm h2, ih]

theorem Tab.find_put_ne {α : Type} (t : Tab α) {a b : Nat} (v : α) (h : a ≠ b) : Tab.find (Tab.put t a v) b = Tab.find t b := by
  induction t with
  | nil => simp [Tab.put, Tab.find, h]
  | cons e t ih =>
    obtain ⟨k, w⟩ := e
    unfold Tab.put
    split
    · simp [Tab.find, h]
    · split
      · next h1 h2 => subst h2; simp [Tab.find, h]
      · simp [Tab.find, ih]

@[simp] theorem Tab.get_put_self {α : Type} [Inhabited α] (t : Tab α) (a : Nat) (v : α) : Tab.get (Tab.put t a v) a = v := by simp [Tab.get]

theorem Tab.get_put_ne {α : Type} [Inhabited α] (t : Tab α) {a b : Nat} (v : α) (h : a ≠ b) : Tab.get (Tab.put t a v) b = Tab.get t b := by
  simp [Tab.get, Tab.find_put_ne t v h]

@[simp] theorem Tab.get_upd_self {α : Type} [Inhabited α] (t : Tab α) (a : Nat) (f : α → α) : Tab.get (Tab.upd t a f) a = f (Tab.get t a) := by
  simp [Tab.upd]

theorem Tab.get_upd_ne {α : Type} [Inhabited α] (t : Tab α) {a b : Nat} (f : α → α) (h : a ≠ b) : Tab.get (Tab.upd t a f) b = Tab.get t b := by
  simp [Tab.upd, Tab.get_put_ne t _ h]

@[simp] theorem Tab.find_del_self {α : Type} (t : Tab α) (a : Nat) : Tab.find (Tab.del t a) a = none := by
  induction t with
  | nil => rfl
  | cons e t ih =>
    obtain ⟨k, w⟩ := e
    by_cases h : k = a
    · simpa [Tab.del, h] using ih
    · simpa [Tab.del, h, Tab.find] using ih

theorem Tab.find_del_ne {α : Type} (t : Tab α) {a b : Nat} (h : a ≠ b) : Tab.find (Tab.del t a) b = Tab.find t b := by
  induction t with
  | nil => rfl
  | cons e t ih =>
    obtain ⟨k, w⟩ := e
    by_cases hk : k = a
    · subst hk; simpa [Tab.del, Tab.find, h] using ih
    · by_cases hb : k = b
      · subst hb; simp [Tab.del, Tab.find, hk]
      · simpa [Tab.del, Tab.find, hk, hb] using ih

/-! ### Bit fields -/

theorem fieldMask_getLsbD (lo n i : Nat) : (fieldMask lo n).getLsbD i = (decide (i < 32) && (decide (lo ≤ i) && decide (i < lo + n))) := by
  unfold fieldMask
  rw [BitVec.getLsbD_ofNat, Nat.testBit_mul_two_pow, Nat.testBit_two_pow_sub_one]
  by_cases h : lo ≤ i
  · have : (i - lo < n) = (i < lo + n) := by simp; omega
    simp [h, this]
  · simp [h]

theorem setBits_getLsbD (w : Word) (lo n v i : Nat) : (setBits w lo n v).getLsbD i =
    (decide (i < 32) && (if lo ≤ i ∧ i < lo + n then v.testBit (i - lo) else w.getLsbD i)) := by
  unfold setBits
  rw [BitVec.getLsbD_or, BitVec.getLsbD_and, BitVec.getLsbD_not, fieldMask_getLsbD, BitVec.getLsbD_ofNat, Nat.testBit_mul_two_pow,
    Nat.testBit_mod_two_pow]
  by_cases h32 : i < 32
  · by_cases h1 : lo ≤ i
    · by_cases h2 : i < lo + n
      · have : i - lo < n := by omega
        simp [h32, h1, h2, this]
      · have : ¬ i - lo < n := by omega
        simp [h32, h1, h2, this]
    · simp [h32, h1]
  · have := BitVec.getLsbD_of_ge w i (by omega)
    simp [h32]

/-- A field reads what was set, cut to its width. -/
theorem getBits_setBits_self (w : Word) (lo n v : Nat) (h : lo + n ≤ 32) : getBits (setBits w lo n v) lo n = v % 2 ^ n := by
  apply Nat.eq_of_testBit_eq
  intro i
  unfold getBits
  rw [BitVec.testBit_toNat, BitVec.getLsbD_extractLsb', setBits_getLsbD, Nat.testBit_mod_two_pow]
  by_cases hi : i < n
  · have h1 : lo + i < 32 := by omega
    simp [hi, h1]
  · simp [hi]

/-- Setting a field leaves a field of other bits. -/
theorem getBits_setBits_other (w : Word) (lo n v lo' n' : Nat) (h : lo + n ≤ lo' ∨ lo' + n' ≤ lo) :
    getBits (setBits w lo n v) lo' n' = getBits w lo' n' := by
  apply Nat.eq_of_testBit_eq
  intro i
  unfold getBits
  rw [BitVec.testBit_toNat, BitVec.testBit_toNat, BitVec.getLsbD_extractLsb', BitVec.getLsbD_extractLsb', setBits_getLsbD]
  by_cases hi : i < n'
  · have h1 : ¬ (lo ≤ lo' + i ∧ lo' + i < lo + n) := by omega
    by_cases h2 : lo' + i < 32
    · simp [hi, h1, h2]
    · have := BitVec.getLsbD_of_ge w (lo' + i) (by omega)
      simp [h2, this]
  · simp [hi]

theorem getBits_lt (w : Word) (lo n : Nat) : getBits w lo n < 2 ^ n := by
  unfold getBits; exact BitVec.isLt _

end Sys2Proof.Machine
end

