-- ==== Sys2Proof/Laws/State.lean ====
section
/-! SUPPORT. One lemma for each field of State and each named update that leaves it: no proof unfolds a record update. -/

namespace Sys2Proof.Machine

/-! ### wr -/

@[simp] theorem State.wr_pending (s : State) (f : Fld) (v : Nat) : (s.wr f v).pending = s.pending := rfl
@[simp] theorem State.wr_fresh (s : State) (f : Fld) (v : Nat) : (s.wr f v).fresh = s.fresh := rfl
@[simp] theorem State.wr_count (s : State) (f : Fld) (v : Nat) : (s.wr f v).count = s.count := rfl
@[simp] theorem State.wr_act (s : State) (f : Fld) (v : Nat) : (s.wr f v).act = s.act := rfl
@[simp] theorem State.wr_dram (s : State) (f : Fld) (v : Nat) : (s.wr f v).dram = s.dram := rfl
@[simp] theorem State.wr_sram (s : State) (f : Fld) (v : Nat) : (s.wr f v).sram = s.sram := rfl
@[simp] theorem State.wr_flash (s : State) (f : Fld) (v : Nat) : (s.wr f v).flash = s.flash := rfl
@[simp] theorem State.wr_bus (s : State) (f : Fld) (v : Nat) : (s.wr f v).bus = s.bus := rfl
@[simp] theorem State.wr_sys (s : State) (f : Fld) (v : Nat) : (s.wr f v).sys = s.sys := rfl
@[simp] theorem State.wr_log (s : State) (f : Fld) (v : Nat) : (s.wr f v).log = s.log := rfl
@[simp] theorem State.wr_dmc (s : State) (f : Fld) (v : Nat) : (s.wr f v).dmc = s.dmc := rfl
@[simp] theorem State.wr_srb (s : State) (f : Fld) (v : Nat) : (s.wr f v).srb = s.srb := rfl
@[simp] theorem State.wr_weft (s : State) (f : Fld) (v : Nat) : (s.wr f v).weft = s.weft := rfl
@[simp] theorem State.wr_charter (s : State) (f : Fld) (v : Nat) : (s.wr f v).charter = s.charter := rfl
@[simp] theorem State.wr_intake (s : State) (f : Fld) (v : Nat) : (s.wr f v).intake = s.intake := rfl
@[simp] theorem State.wr_loom (s : State) (f : Fld) (v : Nat) : (s.wr f v).loom = s.loom := rfl
@[simp] theorem State.wr_dmg (s : State) (f : Fld) (v : Nat) : (s.wr f v).dmg = s.dmg := rfl
@[simp] theorem State.wr_hmk (s : State) (f : Fld) (v : Nat) : (s.wr f v).hmk = s.hmk := rfl
@[simp] theorem State.wr_tfs (s : State) (f : Fld) (v : Nat) : (s.wr f v).tfs = s.tfs := rfl
@[simp] theorem State.wr_drv (s : State) (f : Fld) (v : Nat) : (s.wr f v).drv = s.drv := rfl
@[simp] theorem State.wr_asy (s : State) (f : Fld) (v : Nat) : (s.wr f v).asy = s.asy := rfl
@[simp] theorem State.wr_tly (s : State) (f : Fld) (v : Nat) : (s.wr f v).tly = s.tly := rfl
@[simp] theorem State.wr_whl (s : State) (f : Fld) (v : Nat) : (s.wr f v).whl = s.whl := rfl
@[simp] theorem State.wr_spn (s : State) (f : Fld) (v : Nat) : (s.wr f v).spn = s.spn := rfl
@[simp] theorem State.wr_trs (s : State) (f : Fld) (v : Nat) : (s.wr f v).trs = s.trs := rfl
@[simp] theorem State.wr_ptr (s : State) (f : Fld) (v : Nat) : (s.wr f v).ptr = s.ptr := rfl
@[simp] theorem State.wr_ctr (s : State) (f : Fld) (v : Nat) : (s.wr f v).ctr = s.ctr := rfl
@[simp] theorem State.wr_nvm (s : State) (f : Fld) (v : Nat) : (s.wr f v).nvm = s.nvm := rfl
@[simp] theorem State.wr_ac (s : State) (f : Fld) (v : Nat) (g : Fld) : (s.wr f v).ac g = s.ac g := rfl
@[simp] theorem State.wr_actWordAt (s : State) (f : Fld) (v : Nat) (x : Nat) : (s.wr f v).actWordAt x = s.actWordAt x := rfl
@[simp] theorem State.wr_alive (s : State) (f : Fld) (v : Nat) : (s.wr f v).alive = s.alive := rfl
@[simp] theorem State.wr_now (s : State) (f : Fld) (v : Nat) : (s.wr f v).now = s.now := rfl

/-! ### wrBit -/

@[simp] theorem State.wrBit_pending (s : State) (f : Fld) (n : Nat) (b : Bool) : (s.wrBit f n b).pending = s.pending := rfl
@[simp] theorem State.wrBit_fresh (s : State) (f : Fld) (n : Nat) (b : Bool) : (s.wrBit f n b).fresh = s.fresh := rfl
@[simp] theorem State.wrBit_count (s : State) (f : Fld) (n : Nat) (b : Bool) : (s.wrBit f n b).count = s.count := rfl
@[simp] theorem State.wrBit_act (s : State) (f : Fld) (n : Nat) (b : Bool) : (s.wrBit f n b).act = s.act := rfl
@[simp] theorem State.wrBit_dram (s : State) (f : Fld) (n : Nat) (b : Bool) : (s.wrBit f n b).dram = s.dram := rfl
@[simp] theorem State.wrBit_sram (s : State) (f : Fld) (n : Nat) (b : Bool) : (s.wrBit f n b).sram = s.sram := rfl
@[simp] theorem State.wrBit_flash (s : State) (f : Fld) (n : Nat) (b : Bool) : (s.wrBit f n b).flash = s.flash := rfl
@[simp] theorem State.wrBit_bus (s : State) (f : Fld) (n : Nat) (b : Bool) : (s.wrBit f n b).bus = s.bus := rfl
@[simp] theorem State.wrBit_sys (s : State) (f : Fld) (n : Nat) (b : Bool) : (s.wrBit f n b).sys = s.sys := rfl
@[simp] theorem State.wrBit_log (s : State) (f : Fld) (n : Nat) (b : Bool) : (s.wrBit f n b).log = s.log := rfl
@[simp] theorem State.wrBit_dmc (s : State) (f : Fld) (n : Nat) (b : Bool) : (s.wrBit f n b).dmc = s.dmc := rfl
@[simp] theorem State.wrBit_srb (s : State) (f : Fld) (n : Nat) (b : Bool) : (s.wrBit f n b).srb = s.srb := rfl
@[simp] theorem State.wrBit_weft (s : State) (f : Fld) (n : Nat) (b : Bool) : (s.wrBit f n b).weft = s.weft := rfl
@[simp] theorem State.wrBit_charter (s : State) (f : Fld) (n : Nat) (b : Bool) : (s.wrBit f n b).charter = s.charter := rfl
@[simp] theorem State.wrBit_intake (s : State) (f : Fld) (n : Nat) (b : Bool) : (s.wrBit f n b).intake = s.intake := rfl
@[simp] theorem State.wrBit_loom (s : State) (f : Fld) (n : Nat) (b : Bool) : (s.wrBit f n b).loom = s.loom := rfl
@[simp] theorem State.wrBit_dmg (s : State) (f : Fld) (n : Nat) (b : Bool) : (s.wrBit f n b).dmg = s.dmg := rfl
@[simp] theorem State.wrBit_hmk (s : State) (f : Fld) (n : Nat) (b : Bool) : (s.wrBit f n b).hmk = s.hmk := rfl
@[simp] theorem State.wrBit_tfs (s : State) (f : Fld) (n : Nat) (b : Bool) : (s.wrBit f n b).tfs = s.tfs := rfl
@[simp] theorem State.wrBit_drv (s : State) (f : Fld) (n : Nat) (b : Bool) : (s.wrBit f n b).drv = s.drv := rfl
@[simp] theorem State.wrBit_asy (s : State) (f : Fld) (n : Nat) (b : Bool) : (s.wrBit f n b).asy = s.asy := rfl
@[simp] theorem State.wrBit_tly (s : State) (f : Fld) (n : Nat) (b : Bool) : (s.wrBit f n b).tly = s.tly := rfl
@[simp] theorem State.wrBit_whl (s : State) (f : Fld) (n : Nat) (b : Bool) : (s.wrBit f n b).whl = s.whl := rfl
@[simp] theorem State.wrBit_spn (s : State) (f : Fld) (n : Nat) (b : Bool) : (s.wrBit f n b).spn = s.spn := rfl
@[simp] theorem State.wrBit_trs (s : State) (f : Fld) (n : Nat) (b : Bool) : (s.wrBit f n b).trs = s.trs := rfl
@[simp] theorem State.wrBit_ptr (s : State) (f : Fld) (n : Nat) (b : Bool) : (s.wrBit f n b).ptr = s.ptr := rfl
@[simp] theorem State.wrBit_ctr (s : State) (f : Fld) (n : Nat) (b : Bool) : (s.wrBit f n b).ctr = s.ctr := rfl
@[simp] theorem State.wrBit_nvm (s : State) (f : Fld) (n : Nat) (b : Bool) : (s.wrBit f n b).nvm = s.nvm := rfl
@[simp] theorem State.wrBit_ac (s : State) (f : Fld) (n : Nat) (b : Bool) (g : Fld) : (s.wrBit f n b).ac g = s.ac g := rfl
@[simp] theorem State.wrBit_actWordAt (s : State) (f : Fld) (n : Nat) (b : Bool) (x : Nat) : (s.wrBit f n b).actWordAt x = s.actWordAt x := rfl
@[simp] theorem State.wrBit_alive (s : State) (f : Fld) (n : Nat) (b : Bool) : (s.wrBit f n b).alive = s.alive := rfl
@[simp] theorem State.wrBit_now (s : State) (f : Fld) (n : Nat) (b : Bool) : (s.wrBit f n b).now = s.now := rfl

/-! ### wrFlag -/

@[simp] theorem State.wrFlag_pending (s : State) (f : Fld) (b : Bool) : (s.wrFlag f b).pending = s.pending := rfl
@[simp] theorem State.wrFlag_fresh (s : State) (f : Fld) (b : Bool) : (s.wrFlag f b).fresh = s.fresh := rfl
@[simp] theorem State.wrFlag_count (s : State) (f : Fld) (b : Bool) : (s.wrFlag f b).count = s.count := rfl
@[simp] theorem State.wrFlag_act (s : State) (f : Fld) (b : Bool) : (s.wrFlag f b).act = s.act := rfl
@[simp] theorem State.wrFlag_dram (s : State) (f : Fld) (b : Bool) : (s.wrFlag f b).dram = s.dram := rfl
@[simp] theorem State.wrFlag_sram (s : State) (f : Fld) (b : Bool) : (s.wrFlag f b).sram = s.sram := rfl
@[simp] theorem State.wrFlag_flash (s : State) (f : Fld) (b : Bool) : (s.wrFlag f b).flash = s.flash := rfl
@[simp] theorem State.wrFlag_bus (s : State) (f : Fld) (b : Bool) : (s.wrFlag f b).bus = s.bus := rfl
@[simp] theorem State.wrFlag_sys (s : State) (f : Fld) (b : Bool) : (s.wrFlag f b).sys = s.sys := rfl
@[simp] theorem State.wrFlag_log (s : State) (f : Fld) (b : Bool) : (s.wrFlag f b).log = s.log := rfl
@[simp] theorem State.wrFlag_dmc (s : State) (f : Fld) (b : Bool) : (s.wrFlag f b).dmc = s.dmc := rfl
@[simp] theorem State.wrFlag_srb (s : State) (f : Fld) (b : Bool) : (s.wrFlag f b).srb = s.srb := rfl
@[simp] theorem State.wrFlag_weft (s : State) (f : Fld) (b : Bool) : (s.wrFlag f b).weft = s.weft := rfl
@[simp] theorem State.wrFlag_charter (s : State) (f : Fld) (b : Bool) : (s.wrFlag f b).charter = s.charter := rfl
@[simp] theorem State.wrFlag_intake (s : State) (f : Fld) (b : Bool) : (s.wrFlag f b).intake = s.intake := rfl
@[simp] theorem State.wrFlag_loom (s : State) (f : Fld) (b : Bool) : (s.wrFlag f b).loom = s.loom := rfl
@[simp] theorem State.wrFlag_dmg (s : State) (f : Fld) (b : Bool) : (s.wrFlag f b).dmg = s.dmg := rfl
@[simp] theorem State.wrFlag_hmk (s : State) (f : Fld) (b : Bool) : (s.wrFlag f b).hmk = s.hmk := rfl
@[simp] theorem State.wrFlag_tfs (s : State) (f : Fld) (b : Bool) : (s.wrFlag f b).tfs = s.tfs := rfl
@[simp] theorem State.wrFlag_drv (s : State) (f : Fld) (b : Bool) : (s.wrFlag f b).drv = s.drv := rfl
@[simp] theorem State.wrFlag_asy (s : State) (f : Fld) (b : Bool) : (s.wrFlag f b).asy = s.asy := rfl
@[simp] theorem State.wrFlag_tly (s : State) (f : Fld) (b : Bool) : (s.wrFlag f b).tly = s.tly := rfl
@[simp] theorem State.wrFlag_whl (s : State) (f : Fld) (b : Bool) : (s.wrFlag f b).whl = s.whl := rfl
@[simp] theorem State.wrFlag_spn (s : State) (f : Fld) (b : Bool) : (s.wrFlag f b).spn = s.spn := rfl
@[simp] theorem State.wrFlag_trs (s : State) (f : Fld) (b : Bool) : (s.wrFlag f b).trs = s.trs := rfl
@[simp] theorem State.wrFlag_ptr (s : State) (f : Fld) (b : Bool) : (s.wrFlag f b).ptr = s.ptr := rfl
@[simp] theorem State.wrFlag_ctr (s : State) (f : Fld) (b : Bool) : (s.wrFlag f b).ctr = s.ctr := rfl
@[simp] theorem State.wrFlag_nvm (s : State) (f : Fld) (b : Bool) : (s.wrFlag f b).nvm = s.nvm := rfl
@[simp] theorem State.wrFlag_ac (s : State) (f : Fld) (b : Bool) (g : Fld) : (s.wrFlag f b).ac g = s.ac g := rfl
@[simp] theorem State.wrFlag_actWordAt (s : State) (f : Fld) (b : Bool) (x : Nat) : (s.wrFlag f b).actWordAt x = s.actWordAt x := rfl
@[simp] theorem State.wrFlag_alive (s : State) (f : Fld) (b : Bool) : (s.wrFlag f b).alive = s.alive := rfl
@[simp] theorem State.wrFlag_now (s : State) (f : Fld) (b : Bool) : (s.wrFlag f b).now = s.now := rfl

/-! ### bumpBy -/

@[simp] theorem State.bumpBy_pending (s : State) (f : Fld) (k : Nat) : (s.bumpBy f k).pending = s.pending := rfl
@[simp] theorem State.bumpBy_fresh (s : State) (f : Fld) (k : Nat) : (s.bumpBy f k).fresh = s.fresh := rfl
@[simp] theorem State.bumpBy_count (s : State) (f : Fld) (k : Nat) : (s.bumpBy f k).count = s.count := rfl
@[simp] theorem State.bumpBy_act (s : State) (f : Fld) (k : Nat) : (s.bumpBy f k).act = s.act := rfl
@[simp] theorem State.bumpBy_dram (s : State) (f : Fld) (k : Nat) : (s.bumpBy f k).dram = s.dram := rfl
@[simp] theorem State.bumpBy_sram (s : State) (f : Fld) (k : Nat) : (s.bumpBy f k).sram = s.sram := rfl
@[simp] theorem State.bumpBy_flash (s : State) (f : Fld) (k : Nat) : (s.bumpBy f k).flash = s.flash := rfl
@[simp] theorem State.bumpBy_bus (s : State) (f : Fld) (k : Nat) : (s.bumpBy f k).bus = s.bus := rfl
@[simp] theorem State.bumpBy_sys (s : State) (f : Fld) (k : Nat) : (s.bumpBy f k).sys = s.sys := rfl
@[simp] theorem State.bumpBy_log (s : State) (f : Fld) (k : Nat) : (s.bumpBy f k).log = s.log := rfl
@[simp] theorem State.bumpBy_dmc (s : State) (f : Fld) (k : Nat) : (s.bumpBy f k).dmc = s.dmc := rfl
@[simp] theorem State.bumpBy_srb (s : State) (f : Fld) (k : Nat) : (s.bumpBy f k).srb = s.srb := rfl
@[simp] theorem State.bumpBy_weft (s : State) (f : Fld) (k : Nat) : (s.bumpBy f k).weft = s.weft := rfl
@[simp] theorem State.bumpBy_charter (s : State) (f : Fld) (k : Nat) : (s.bumpBy f k).charter = s.charter := rfl
@[simp] theorem State.bumpBy_intake (s : State) (f : Fld) (k : Nat) : (s.bumpBy f k).intake = s.intake := rfl
@[simp] theorem State.bumpBy_loom (s : State) (f : Fld) (k : Nat) : (s.bumpBy f k).loom = s.loom := rfl
@[simp] theorem State.bumpBy_dmg (s : State) (f : Fld) (k : Nat) : (s.bumpBy f k).dmg = s.dmg := rfl
@[simp] theorem State.bumpBy_hmk (s : State) (f : Fld) (k : Nat) : (s.bumpBy f k).hmk = s.hmk := rfl
@[simp] theorem State.bumpBy_tfs (s : State) (f : Fld) (k : Nat) : (s.bumpBy f k).tfs = s.tfs := rfl
@[simp] theorem State.bumpBy_drv (s : State) (f : Fld) (k : Nat) : (s.bumpBy f k).drv = s.drv := rfl
@[simp] theorem State.bumpBy_asy (s : State) (f : Fld) (k : Nat) : (s.bumpBy f k).asy = s.asy := rfl
@[simp] theorem State.bumpBy_tly (s : State) (f : Fld) (k : Nat) : (s.bumpBy f k).tly = s.tly := rfl
@[simp] theorem State.bumpBy_whl (s : State) (f : Fld) (k : Nat) : (s.bumpBy f k).whl = s.whl := rfl
@[simp] theorem State.bumpBy_spn (s : State) (f : Fld) (k : Nat) : (s.bumpBy f k).spn = s.spn := rfl
@[simp] theorem State.bumpBy_trs (s : State) (f : Fld) (k : Nat) : (s.bumpBy f k).trs = s.trs := rfl
@[simp] theorem State.bumpBy_ptr (s : State) (f : Fld) (k : Nat) : (s.bumpBy f k).ptr = s.ptr := rfl
@[simp] theorem State.bumpBy_ctr (s : State) (f : Fld) (k : Nat) : (s.bumpBy f k).ctr = s.ctr := rfl
@[simp] theorem State.bumpBy_nvm (s : State) (f : Fld) (k : Nat) : (s.bumpBy f k).nvm = s.nvm := rfl
@[simp] theorem State.bumpBy_ac (s : State) (f : Fld) (k : Nat) (g : Fld) : (s.bumpBy f k).ac g = s.ac g := rfl
@[simp] theorem State.bumpBy_actWordAt (s : State) (f : Fld) (k : Nat) (x : Nat) : (s.bumpBy f k).actWordAt x = s.actWordAt x := rfl
@[simp] theorem State.bumpBy_alive (s : State) (f : Fld) (k : Nat) : (s.bumpBy f k).alive = s.alive := rfl
@[simp] theorem State.bumpBy_now (s : State) (f : Fld) (k : Nat) : (s.bumpBy f k).now = s.now := rfl

/-! ### bump -/

@[simp] theorem State.bump_pending (s : State) (f : Fld) : (s.bump f).pending = s.pending := rfl
@[simp] theorem State.bump_fresh (s : State) (f : Fld) : (s.bump f).fresh = s.fresh := rfl
@[simp] theorem State.bump_count (s : State) (f : Fld) : (s.bump f).count = s.count := rfl
@[simp] theorem State.bump_act (s : State) (f : Fld) : (s.bump f).act = s.act := rfl
@[simp] theorem State.bump_dram (s : State) (f : Fld) : (s.bump f).dram = s.dram := rfl
@[simp] theorem State.bump_sram (s : State) (f : Fld) : (s.bump f).sram = s.sram := rfl
@[simp] theorem State.bump_flash (s : State) (f : Fld) : (s.bump f).flash = s.flash := rfl
@[simp] theorem State.bump_bus (s : State) (f : Fld) : (s.bump f).bus = s.bus := rfl
@[simp] theorem State.bump_sys (s : State) (f : Fld) : (s.bump f).sys = s.sys := rfl
@[simp] theorem State.bump_log (s : State) (f : Fld) : (s.bump f).log = s.log := rfl
@[simp] theorem State.bump_dmc (s : State) (f : Fld) : (s.bump f).dmc = s.dmc := rfl
@[simp] theorem State.bump_srb (s : State) (f : Fld) : (s.bump f).srb = s.srb := rfl
@[simp] theorem State.bump_weft (s : State) (f : Fld) : (s.bump f).weft = s.weft := rfl
@[simp] theorem State.bump_charter (s : State) (f : Fld) : (s.bump f).charter = s.charter := rfl
@[simp] theorem State.bump_intake (s : State) (f : Fld) : (s.bump f).intake = s.intake := rfl
@[simp] theorem State.bump_loom (s : State) (f : Fld) : (s.bump f).loom = s.loom := rfl
@[simp] theorem State.bump_dmg (s : State) (f : Fld) : (s.bump f).dmg = s.dmg := rfl
@[simp] theorem State.bump_hmk (s : State) (f : Fld) : (s.bump f).hmk = s.hmk := rfl
@[simp] theorem State.bump_tfs (s : State) (f : Fld) : (s.bump f).tfs = s.tfs := rfl
@[simp] theorem State.bump_drv (s : State) (f : Fld) : (s.bump f).drv = s.drv := rfl
@[simp] theorem State.bump_asy (s : State) (f : Fld) : (s.bump f).asy = s.asy := rfl
@[simp] theorem State.bump_tly (s : State) (f : Fld) : (s.bump f).tly = s.tly := rfl
@[simp] theorem State.bump_whl (s : State) (f : Fld) : (s.bump f).whl = s.whl := rfl
@[simp] theorem State.bump_spn (s : State) (f : Fld) : (s.bump f).spn = s.spn := rfl
@[simp] theorem State.bump_trs (s : State) (f : Fld) : (s.bump f).trs = s.trs := rfl
@[simp] theorem State.bump_ptr (s : State) (f : Fld) : (s.bump f).ptr = s.ptr := rfl
@[simp] theorem State.bump_ctr (s : State) (f : Fld) : (s.bump f).ctr = s.ctr := rfl
@[simp] theorem State.bump_nvm (s : State) (f : Fld) : (s.bump f).nvm = s.nvm := rfl
@[simp] theorem State.bump_ac (s : State) (f : Fld) (g : Fld) : (s.bump f).ac g = s.ac g := rfl
@[simp] theorem State.bump_actWordAt (s : State) (f : Fld) (x : Nat) : (s.bump f).actWordAt x = s.actWordAt x := rfl
@[simp] theorem State.bump_alive (s : State) (f : Fld) : (s.bump f).alive = s.alive := rfl
@[simp] theorem State.bump_now (s : State) (f : Fld) : (s.bump f).now = s.now := rfl

/-! ### bumpWrap -/

@[simp] theorem State.bumpWrap_pending (s : State) (f : Fld) : (s.bumpWrap f).pending = s.pending := rfl
@[simp] theorem State.bumpWrap_fresh (s : State) (f : Fld) : (s.bumpWrap f).fresh = s.fresh := rfl
@[simp] theorem State.bumpWrap_count (s : State) (f : Fld) : (s.bumpWrap f).count = s.count := rfl
@[simp] theorem State.bumpWrap_act (s : State) (f : Fld) : (s.bumpWrap f).act = s.act := rfl
@[simp] theorem State.bumpWrap_dram (s : State) (f : Fld) : (s.bumpWrap f).dram = s.dram := rfl
@[simp] theorem State.bumpWrap_sram (s : State) (f : Fld) : (s.bumpWrap f).sram = s.sram := rfl
@[simp] theorem State.bumpWrap_flash (s : State) (f : Fld) : (s.bumpWrap f).flash = s.flash := rfl
@[simp] theorem State.bumpWrap_bus (s : State) (f : Fld) : (s.bumpWrap f).bus = s.bus := rfl
@[simp] theorem State.bumpWrap_sys (s : State) (f : Fld) : (s.bumpWrap f).sys = s.sys := rfl
@[simp] theorem State.bumpWrap_log (s : State) (f : Fld) : (s.bumpWrap f).log = s.log := rfl
@[simp] theorem State.bumpWrap_dmc (s : State) (f : Fld) : (s.bumpWrap f).dmc = s.dmc := rfl
@[simp] theorem State.bumpWrap_srb (s : State) (f : Fld) : (s.bumpWrap f).srb = s.srb := rfl
@[simp] theorem State.bumpWrap_weft (s : State) (f : Fld) : (s.bumpWrap f).weft = s.weft := rfl
@[simp] theorem State.bumpWrap_charter (s : State) (f : Fld) : (s.bumpWrap f).charter = s.charter := rfl
@[simp] theorem State.bumpWrap_intake (s : State) (f : Fld) : (s.bumpWrap f).intake = s.intake := rfl
@[simp] theorem State.bumpWrap_loom (s : State) (f : Fld) : (s.bumpWrap f).loom = s.loom := rfl
@[simp] theorem State.bumpWrap_dmg (s : State) (f : Fld) : (s.bumpWrap f).dmg = s.dmg := rfl
@[simp] theorem State.bumpWrap_hmk (s : State) (f : Fld) : (s.bumpWrap f).hmk = s.hmk := rfl
@[simp] theorem State.bumpWrap_tfs (s : State) (f : Fld) : (s.bumpWrap f).tfs = s.tfs := rfl
@[simp] theorem State.bumpWrap_drv (s : State) (f : Fld) : (s.bumpWrap f).drv = s.drv := rfl
@[simp] theorem State.bumpWrap_asy (s : State) (f : Fld) : (s.bumpWrap f).asy = s.asy := rfl
@[simp] theorem State.bumpWrap_tly (s : State) (f : Fld) : (s.bumpWrap f).tly = s.tly := rfl
@[simp] theorem State.bumpWrap_whl (s : State) (f : Fld) : (s.bumpWrap f).whl = s.whl := rfl
@[simp] theorem State.bumpWrap_spn (s : State) (f : Fld) : (s.bumpWrap f).spn = s.spn := rfl
@[simp] theorem State.bumpWrap_trs (s : State) (f : Fld) : (s.bumpWrap f).trs = s.trs := rfl
@[simp] theorem State.bumpWrap_ptr (s : State) (f : Fld) : (s.bumpWrap f).ptr = s.ptr := rfl
@[simp] theorem State.bumpWrap_ctr (s : State) (f : Fld) : (s.bumpWrap f).ctr = s.ctr := rfl
@[simp] theorem State.bumpWrap_nvm (s : State) (f : Fld) : (s.bumpWrap f).nvm = s.nvm := rfl
@[simp] theorem State.bumpWrap_ac (s : State) (f : Fld) (g : Fld) : (s.bumpWrap f).ac g = s.ac g := rfl
@[simp] theorem State.bumpWrap_actWordAt (s : State) (f : Fld) (x : Nat) : (s.bumpWrap f).actWordAt x = s.actWordAt x := rfl
@[simp] theorem State.bumpWrap_alive (s : State) (f : Fld) : (s.bumpWrap f).alive = s.alive := rfl
@[simp] theorem State.bumpWrap_now (s : State) (f : Fld) : (s.bumpWrap f).now = s.now := rfl

/-! ### spend -/

@[simp] theorem State.spend_pending (s : State) : s.spend.pending = s.pending := rfl
@[simp] theorem State.spend_count (s : State) : s.spend.count = s.count := rfl
@[simp] theorem State.spend_regs (s : State) : s.spend.regs = s.regs := rfl
@[simp] theorem State.spend_act (s : State) : s.spend.act = s.act := rfl
@[simp] theorem State.spend_dram (s : State) : s.spend.dram = s.dram := rfl
@[simp] theorem State.spend_sram (s : State) : s.spend.sram = s.sram := rfl
@[simp] theorem State.spend_flash (s : State) : s.spend.flash = s.flash := rfl
@[simp] theorem State.spend_bus (s : State) : s.spend.bus = s.bus := rfl
@[simp] theorem State.spend_sys (s : State) : s.spend.sys = s.sys := rfl
@[simp] theorem State.spend_log (s : State) : s.spend.log = s.log := rfl
@[simp] theorem State.spend_dmc (s : State) : s.spend.dmc = s.dmc := rfl
@[simp] theorem State.spend_srb (s : State) : s.spend.srb = s.srb := rfl
@[simp] theorem State.spend_weft (s : State) : s.spend.weft = s.weft := rfl
@[simp] theorem State.spend_charter (s : State) : s.spend.charter = s.charter := rfl
@[simp] theorem State.spend_intake (s : State) : s.spend.intake = s.intake := rfl
@[simp] theorem State.spend_loom (s : State) : s.spend.loom = s.loom := rfl
@[simp] theorem State.spend_dmg (s : State) : s.spend.dmg = s.dmg := rfl
@[simp] theorem State.spend_hmk (s : State) : s.spend.hmk = s.hmk := rfl
@[simp] theorem State.spend_tfs (s : State) : s.spend.tfs = s.tfs := rfl
@[simp] theorem State.spend_drv (s : State) : s.spend.drv = s.drv := rfl
@[simp] theorem State.spend_asy (s : State) : s.spend.asy = s.asy := rfl
@[simp] theorem State.spend_tly (s : State) : s.spend.tly = s.tly := rfl
@[simp] theorem State.spend_whl (s : State) : s.spend.whl = s.whl := rfl
@[simp] theorem State.spend_spn (s : State) : s.spend.spn = s.spn := rfl
@[simp] theorem State.spend_trs (s : State) : s.spend.trs = s.trs := rfl
@[simp] theorem State.spend_ptr (s : State) : s.spend.ptr = s.ptr := rfl
@[simp] theorem State.spend_ctr (s : State) : s.spend.ctr = s.ctr := rfl
@[simp] theorem State.spend_nvm (s : State) : s.spend.nvm = s.nvm := rfl
@[simp] theorem State.spend_rd (s : State) (g : Fld) : s.spend.rd g = s.rd g := rfl
@[simp] theorem State.spend_wordAt (s : State) (x : Nat) : s.spend.wordAt x = s.wordAt x := rfl
@[simp] theorem State.spend_ac (s : State) (g : Fld) : s.spend.ac g = s.ac g := rfl
@[simp] theorem State.spend_actWordAt (s : State) (x : Nat) : s.spend.actWordAt x = s.actWordAt x := rfl
@[simp] theorem State.spend_alive (s : State) : s.spend.alive = s.alive := rfl
@[simp] theorem State.spend_now (s : State) : s.spend.now = s.now := rfl

/-! ### queueEvent -/

@[simp] theorem State.queueEvent_pending (s : State) (src code arg : Nat) : (s.queueEvent src code arg).pending = s.pending := rfl
@[simp] theorem State.queueEvent_fresh (s : State) (src code arg : Nat) : (s.queueEvent src code arg).fresh = s.fresh := rfl
@[simp] theorem State.queueEvent_count (s : State) (src code arg : Nat) : (s.queueEvent src code arg).count = s.count := rfl
@[simp] theorem State.queueEvent_regs (s : State) (src code arg : Nat) : (s.queueEvent src code arg).regs = s.regs := rfl
@[simp] theorem State.queueEvent_act (s : State) (src code arg : Nat) : (s.queueEvent src code arg).act = s.act := rfl
@[simp] theorem State.queueEvent_dram (s : State) (src code arg : Nat) : (s.queueEvent src code arg).dram = s.dram := rfl
@[simp] theorem State.queueEvent_sram (s : State) (src code arg : Nat) : (s.queueEvent src code arg).sram = s.sram := rfl
@[simp] theorem State.queueEvent_flash (s : State) (src code arg : Nat) : (s.queueEvent src code arg).flash = s.flash := rfl
@[simp] theorem State.queueEvent_bus (s : State) (src code arg : Nat) : (s.queueEvent src code arg).bus = s.bus := rfl
@[simp] theorem State.queueEvent_sys (s : State) (src code arg : Nat) : (s.queueEvent src code arg).sys = s.sys := rfl
@[simp] theorem State.queueEvent_dmc (s : State) (src code arg : Nat) : (s.queueEvent src code arg).dmc = s.dmc := rfl
@[simp] theorem State.queueEvent_srb (s : State) (src code arg : Nat) : (s.queueEvent src code arg).srb = s.srb := rfl
@[simp] theorem State.queueEvent_weft (s : State) (src code arg : Nat) : (s.queueEvent src code arg).weft = s.weft := rfl
@[simp] theorem State.queueEvent_charter (s : State) (src code arg : Nat) : (s.queueEvent src code arg).charter = s.charter := rfl
@[simp] theorem State.queueEvent_intake (s : State) (src code arg : Nat) : (s.queueEvent src code arg).intake = s.intake := rfl
@[simp] theorem State.queueEvent_loom (s : State) (src code arg : Nat) : (s.queueEvent src code arg).loom = s.loom := rfl
@[simp] theorem State.queueEvent_dmg (s : State) (src code arg : Nat) : (s.queueEvent src code arg).dmg = s.dmg := rfl
@[simp] theorem State.queueEvent_hmk (s : State) (src code arg : Nat) : (s.queueEvent src code arg).hmk = s.hmk := rfl
@[simp] theorem State.queueEvent_tfs (s : State) (src code arg : Nat) : (s.queueEvent src code arg).tfs = s.tfs := rfl
@[simp] theorem State.queueEvent_drv (s : State) (src code arg : Nat) : (s.queueEvent src code arg).drv = s.drv := rfl
@[simp] theorem State.queueEvent_asy (s : State) (src code arg : Nat) : (s.queueEvent src code arg).asy = s.asy := rfl
@[simp] theorem State.queueEvent_tly (s : State) (src code arg : Nat) : (s.queueEvent src code arg).tly = s.tly := rfl
@[simp] theorem State.queueEvent_whl (s : State) (src code arg : Nat) : (s.queueEvent src code arg).whl = s.whl := rfl
@[simp] theorem State.queueEvent_spn (s : State) (src code arg : Nat) : (s.queueEvent src code arg).spn = s.spn := rfl
@[simp] theorem State.queueEvent_trs (s : State) (src code arg : Nat) : (s.queueEvent src code arg).trs = s.trs := rfl
@[simp] theorem State.queueEvent_ptr (s : State) (src code arg : Nat) : (s.queueEvent src code arg).ptr = s.ptr := rfl
@[simp] theorem State.queueEvent_ctr (s : State) (src code arg : Nat) : (s.queueEvent src code arg).ctr = s.ctr := rfl
@[simp] theorem State.queueEvent_nvm (s : State) (src code arg : Nat) : (s.queueEvent src code arg).nvm = s.nvm := rfl
@[simp] theorem State.queueEvent_rd (s : State) (src code arg : Nat) (g : Fld) : (s.queueEvent src code arg).rd g = s.rd g := rfl
@[simp] theorem State.queueEvent_wordAt (s : State) (src code arg : Nat) (x : Nat) : (s.queueEvent src code arg).wordAt x = s.wordAt x := rfl
@[simp] theorem State.queueEvent_ac (s : State) (src code arg : Nat) (g : Fld) : (s.queueEvent src code arg).ac g = s.ac g := rfl
@[simp] theorem State.queueEvent_actWordAt (s : State) (src code arg : Nat) (x : Nat) : (s.queueEvent src code arg).actWordAt x = s.actWordAt x := rfl
@[simp] theorem State.queueEvent_alive (s : State) (src code arg : Nat) : (s.queueEvent src code arg).alive = s.alive := rfl
@[simp] theorem State.queueEvent_now (s : State) (src code arg : Nat) : (s.queueEvent src code arg).now = s.now := rfl

/-! ### faultPin -/

@[simp] theorem State.faultPin_pending (s : State) : s.faultPin.pending = s.pending := rfl
@[simp] theorem State.faultPin_fresh (s : State) : s.faultPin.fresh = s.fresh := rfl
@[simp] theorem State.faultPin_count (s : State) : s.faultPin.count = s.count := rfl
@[simp] theorem State.faultPin_regs (s : State) : s.faultPin.regs = s.regs := rfl
@[simp] theorem State.faultPin_act (s : State) : s.faultPin.act = s.act := rfl
@[simp] theorem State.faultPin_dram (s : State) : s.faultPin.dram = s.dram := rfl
@[simp] theorem State.faultPin_sram (s : State) : s.faultPin.sram = s.sram := rfl
@[simp] theorem State.faultPin_flash (s : State) : s.faultPin.flash = s.flash := rfl
@[simp] theorem State.faultPin_bus (s : State) : s.faultPin.bus = s.bus := rfl
@[simp] theorem State.faultPin_log (s : State) : s.faultPin.log = s.log := rfl
@[simp] theorem State.faultPin_dmc (s : State) : s.faultPin.dmc = s.dmc := rfl
@[simp] theorem State.faultPin_srb (s : State) : s.faultPin.srb = s.srb := rfl
@[simp] theorem State.faultPin_weft (s : State) : s.faultPin.weft = s.weft := rfl
@[simp] theorem State.faultPin_charter (s : State) : s.faultPin.charter = s.charter := rfl
@[simp] theorem State.faultPin_intake (s : State) : s.faultPin.intake = s.intake := rfl
@[simp] theorem State.faultPin_loom (s : State) : s.faultPin.loom = s.loom := rfl
@[simp] theorem State.faultPin_dmg (s : State) : s.faultPin.dmg = s.dmg := rfl
@[simp] theorem State.faultPin_hmk (s : State) : s.faultPin.hmk = s.hmk := rfl
@[simp] theorem State.faultPin_tfs (s : State) : s.faultPin.tfs = s.tfs := rfl
@[simp] theorem State.faultPin_drv (s : State) : s.faultPin.drv = s.drv := rfl
@[simp] theorem State.faultPin_asy (s : State) : s.faultPin.asy = s.asy := rfl
@[simp] theorem State.faultPin_tly (s : State) : s.faultPin.tly = s.tly := rfl
@[simp] theorem State.faultPin_whl (s : State) : s.faultPin.whl = s.whl := rfl
@[simp] theorem State.faultPin_spn (s : State) : s.faultPin.spn = s.spn := rfl
@[simp] theorem State.faultPin_trs (s : State) : s.faultPin.trs = s.trs := rfl
@[simp] theorem State.faultPin_ptr (s : State) : s.faultPin.ptr = s.ptr := rfl
@[simp] theorem State.faultPin_ctr (s : State) : s.faultPin.ctr = s.ctr := rfl
@[simp] theorem State.faultPin_nvm (s : State) : s.faultPin.nvm = s.nvm := rfl
@[simp] theorem State.faultPin_rd (s : State) (g : Fld) : s.faultPin.rd g = s.rd g := rfl
@[simp] theorem State.faultPin_wordAt (s : State) (x : Nat) : s.faultPin.wordAt x = s.wordAt x := rfl
@[simp] theorem State.faultPin_ac (s : State) (g : Fld) : s.faultPin.ac g = s.ac g := rfl
@[simp] theorem State.faultPin_actWordAt (s : State) (x : Nat) : s.faultPin.actWordAt x = s.actWordAt x := rfl
@[simp] theorem State.faultPin_now (s : State) : s.faultPin.now = s.now := rfl

/-! ### dramWrite -/

@[simp] theorem State.dramWrite_pending (s : State) (a : Nat) (bs : Bytes) : (s.dramWrite a bs).pending = s.pending := rfl
@[simp] theorem State.dramWrite_fresh (s : State) (a : Nat) (bs : Bytes) : (s.dramWrite a bs).fresh = s.fresh := rfl
@[simp] theorem State.dramWrite_count (s : State) (a : Nat) (bs : Bytes) : (s.dramWrite a bs).count = s.count := rfl
@[simp] theorem State.dramWrite_regs (s : State) (a : Nat) (bs : Bytes) : (s.dramWrite a bs).regs = s.regs := rfl
@[simp] theorem State.dramWrite_act (s : State) (a : Nat) (bs : Bytes) : (s.dramWrite a bs).act = s.act := rfl
@[simp] theorem State.dramWrite_sram (s : State) (a : Nat) (bs : Bytes) : (s.dramWrite a bs).sram = s.sram := rfl
@[simp] theorem State.dramWrite_flash (s : State) (a : Nat) (bs : Bytes) : (s.dramWrite a bs).flash = s.flash := rfl
@[simp] theorem State.dramWrite_bus (s : State) (a : Nat) (bs : Bytes) : (s.dramWrite a bs).bus = s.bus := rfl
@[simp] theorem State.dramWrite_sys (s : State) (a : Nat) (bs : Bytes) : (s.dramWrite a bs).sys = s.sys := rfl
@[simp] theorem State.dramWrite_log (s : State) (a : Nat) (bs : Bytes) : (s.dramWrite a bs).log = s.log := rfl
@[simp] theorem State.dramWrite_dmc (s : State) (a : Nat) (bs : Bytes) : (s.dramWrite a bs).dmc = s.dmc := rfl
@[simp] theorem State.dramWrite_srb (s : State) (a : Nat) (bs : Bytes) : (s.dramWrite a bs).srb = s.srb := rfl
@[simp] theorem State.dramWrite_weft (s : State) (a : Nat) (bs : Bytes) : (s.dramWrite a bs).weft = s.weft := rfl
@[simp] theorem State.dramWrite_charter (s : State) (a : Nat) (bs : Bytes) : (s.dramWrite a bs).charter = s.charter := rfl
@[simp] theorem State.dramWrite_intake (s : State) (a : Nat) (bs : Bytes) : (s.dramWrite a bs).intake = s.intake := rfl
@[simp] theorem State.dramWrite_loom (s : State) (a : Nat) (bs : Bytes) : (s.dramWrite a bs).loom = s.loom := rfl
@[simp] theorem State.dramWrite_dmg (s : State) (a : Nat) (bs : Bytes) : (s.dramWrite a bs).dmg = s.dmg := rfl
@[simp] theorem State.dramWrite_hmk (s : State) (a : Nat) (bs : Bytes) : (s.dramWrite a bs).hmk = s.hmk := rfl
@[simp] theorem State.dramWrite_tfs (s : State) (a : Nat) (bs : Bytes) : (s.dramWrite a bs).tfs = s.tfs := rfl
@[simp] theorem State.dramWrite_drv (s : State) (a : Nat) (bs : Bytes) : (s.dramWrite a bs).drv = s.drv := rfl
@[simp] theorem State.dramWrite_asy (s : State) (a : Nat) (bs : Bytes) : (s.dramWrite a bs).asy = s.asy := rfl
@[simp] theorem State.dramWrite_tly (s : State) (a : Nat) (bs : Bytes) : (s.dramWrite a bs).tly = s.tly := rfl
@[simp] theorem State.dramWrite_whl (s : State) (a : Nat) (bs : Bytes) : (s.dramWrite a bs).whl = s.whl := rfl
@[simp] theorem State.dramWrite_spn (s : State) (a : Nat) (bs : Bytes) : (s.dramWrite a bs).spn = s.spn := rfl
@[simp] theorem State.dramWrite_trs (s : State) (a : Nat) (bs : Bytes) : (s.dramWrite a bs).trs = s.trs := rfl
@[simp] theorem State.dramWrite_ptr (s : State) (a : Nat) (bs : Bytes) : (s.dramWrite a bs).ptr = s.ptr := rfl
@[simp] theorem State.dramWrite_ctr (s : State) (a : Nat) (bs : Bytes) : (s.dramWrite a bs).ctr = s.ctr := rfl
@[simp] theorem State.dramWrite_nvm (s : State) (a : Nat) (bs : Bytes) : (s.dramWrite a bs).nvm = s.nvm := rfl
@[simp] theorem State.dramWrite_rd (s : State) (a : Nat) (bs : Bytes) (g : Fld) : (s.dramWrite a bs).rd g = s.rd g := rfl
@[simp] theorem State.dramWrite_wordAt (s : State) (a : Nat) (bs : Bytes) (x : Nat) : (s.dramWrite a bs).wordAt x = s.wordAt x := rfl
@[simp] theorem State.dramWrite_ac (s : State) (a : Nat) (bs : Bytes) (g : Fld) : (s.dramWrite a bs).ac g = s.ac g := rfl
@[simp] theorem State.dramWrite_actWordAt (s : State) (a : Nat) (bs : Bytes) (x : Nat) : (s.dramWrite a bs).actWordAt x = s.actWordAt x := rfl
@[simp] theorem State.dramWrite_alive (s : State) (a : Nat) (bs : Bytes) : (s.dramWrite a bs).alive = s.alive := rfl
@[simp] theorem State.dramWrite_now (s : State) (a : Nat) (bs : Bytes) : (s.dramWrite a bs).now = s.now := rfl

/-! ### sramWrite -/

@[simp] theorem State.sramWrite_pending (s : State) (b o : Nat) (bs : Bytes) : (s.sramWrite b o bs).pending = s.pending := rfl
@[simp] theorem State.sramWrite_fresh (s : State) (b o : Nat) (bs : Bytes) : (s.sramWrite b o bs).fresh = s.fresh := rfl
@[simp] theorem State.sramWrite_count (s : State) (b o : Nat) (bs : Bytes) : (s.sramWrite b o bs).count = s.count := rfl
@[simp] theorem State.sramWrite_regs (s : State) (b o : Nat) (bs : Bytes) : (s.sramWrite b o bs).regs = s.regs := rfl
@[simp] theorem State.sramWrite_act (s : State) (b o : Nat) (bs : Bytes) : (s.sramWrite b o bs).act = s.act := rfl
@[simp] theorem State.sramWrite_dram (s : State) (b o : Nat) (bs : Bytes) : (s.sramWrite b o bs).dram = s.dram := rfl
@[simp] theorem State.sramWrite_flash (s : State) (b o : Nat) (bs : Bytes) : (s.sramWrite b o bs).flash = s.flash := rfl
@[simp] theorem State.sramWrite_bus (s : State) (b o : Nat) (bs : Bytes) : (s.sramWrite b o bs).bus = s.bus := rfl
@[simp] theorem State.sramWrite_sys (s : State) (b o : Nat) (bs : Bytes) : (s.sramWrite b o bs).sys = s.sys := rfl
@[simp] theorem State.sramWrite_log (s : State) (b o : Nat) (bs : Bytes) : (s.sramWrite b o bs).log = s.log := rfl
@[simp] theorem State.sramWrite_dmc (s : State) (b o : Nat) (bs : Bytes) : (s.sramWrite b o bs).dmc = s.dmc := rfl
@[simp] theorem State.sramWrite_srb (s : State) (b o : Nat) (bs : Bytes) : (s.sramWrite b o bs).srb = s.srb := rfl
@[simp] theorem State.sramWrite_weft (s : State) (b o : Nat) (bs : Bytes) : (s.sramWrite b o bs).weft = s.weft := rfl
@[simp] theorem State.sramWrite_charter (s : State) (b o : Nat) (bs : Bytes) : (s.sramWrite b o bs).charter = s.charter := rfl
@[simp] theorem State.sramWrite_intake (s : State) (b o : Nat) (bs : Bytes) : (s.sramWrite b o bs).intake = s.intake := rfl
@[simp] theorem State.sramWrite_loom (s : State) (b o : Nat) (bs : Bytes) : (s.sramWrite b o bs).loom = s.loom := rfl
@[simp] theorem State.sramWrite_dmg (s : State) (b o : Nat) (bs : Bytes) : (s.sramWrite b o bs).dmg = s.dmg := rfl
@[simp] theorem State.sramWrite_hmk (s : State) (b o : Nat) (bs : Bytes) : (s.sramWrite b o bs).hmk = s.hmk := rfl
@[simp] theorem State.sramWrite_tfs (s : State) (b o : Nat) (bs : Bytes) : (s.sramWrite b o bs).tfs = s.tfs := rfl
@[simp] theorem State.sramWrite_drv (s : State) (b o : Nat) (bs : Bytes) : (s.sramWrite b o bs).drv = s.drv := rfl
@[simp] theorem State.sramWrite_asy (s : State) (b o : Nat) (bs : Bytes) : (s.sramWrite b o bs).asy = s.asy := rfl
@[simp] theorem State.sramWrite_tly (s : State) (b o : Nat) (bs : Bytes) : (s.sramWrite b o bs).tly = s.tly := rfl
@[simp] theorem State.sramWrite_whl (s : State) (b o : Nat) (bs : Bytes) : (s.sramWrite b o bs).whl = s.whl := rfl
@[simp] theorem State.sramWrite_spn (s : State) (b o : Nat) (bs : Bytes) : (s.sramWrite b o bs).spn = s.spn := rfl
@[simp] theorem State.sramWrite_trs (s : State) (b o : Nat) (bs : Bytes) : (s.sramWrite b o bs).trs = s.trs := rfl
@[simp] theorem State.sramWrite_ptr (s : State) (b o : Nat) (bs : Bytes) : (s.sramWrite b o bs).ptr = s.ptr := rfl
@[simp] theorem State.sramWrite_ctr (s : State) (b o : Nat) (bs : Bytes) : (s.sramWrite b o bs).ctr = s.ctr := rfl
@[simp] theorem State.sramWrite_nvm (s : State) (b o : Nat) (bs : Bytes) : (s.sramWrite b o bs).nvm = s.nvm := rfl
@[simp] theorem State.sramWrite_rd (s : State) (b o : Nat) (bs : Bytes) (g : Fld) : (s.sramWrite b o bs).rd g = s.rd g := rfl
@[simp] theorem State.sramWrite_wordAt (s : State) (b o : Nat) (bs : Bytes) (x : Nat) : (s.sramWrite b o bs).wordAt x = s.wordAt x := rfl
@[simp] theorem State.sramWrite_ac (s : State) (b o : Nat) (bs : Bytes) (g : Fld) : (s.sramWrite b o bs).ac g = s.ac g := rfl
@[simp] theorem State.sramWrite_actWordAt (s : State) (b o : Nat) (bs : Bytes) (x : Nat) : (s.sramWrite b o bs).actWordAt x = s.actWordAt x := rfl
@[simp] theorem State.sramWrite_alive (s : State) (b o : Nat) (bs : Bytes) : (s.sramWrite b o bs).alive = s.alive := rfl
@[simp] theorem State.sramWrite_now (s : State) (b o : Nat) (bs : Bytes) : (s.sramWrite b o bs).now = s.now := rfl

/-! ### sramClear -/

@[simp] theorem State.sramClear_pending (s : State) (b : Nat) : (s.sramClear b).pending = s.pending := rfl
@[simp] theorem State.sramClear_fresh (s : State) (b : Nat) : (s.sramClear b).fresh = s.fresh := rfl
@[simp] theorem State.sramClear_count (s : State) (b : Nat) : (s.sramClear b).count = s.count := rfl
@[simp] theorem State.sramClear_regs (s : State) (b : Nat) : (s.sramClear b).regs = s.regs := rfl
@[simp] theorem State.sramClear_act (s : State) (b : Nat) : (s.sramClear b).act = s.act := rfl
@[simp] theorem State.sramClear_dram (s : State) (b : Nat) : (s.sramClear b).dram = s.dram := rfl
@[simp] theorem State.sramClear_flash (s : State) (b : Nat) : (s.sramClear b).flash = s.flash := rfl
@[simp] theorem State.sramClear_bus (s : State) (b : Nat) : (s.sramClear b).bus = s.bus := rfl
@[simp] theorem State.sramClear_sys (s : State) (b : Nat) : (s.sramClear b).sys = s.sys := rfl
@[simp] theorem State.sramClear_log (s : State) (b : Nat) : (s.sramClear b).log = s.log := rfl
@[simp] theorem State.sramClear_dmc (s : State) (b : Nat) : (s.sramClear b).dmc = s.dmc := rfl
@[simp] theorem State.sramClear_srb (s : State) (b : Nat) : (s.sramClear b).srb = s.srb := rfl
@[simp] theorem State.sramClear_weft (s : State) (b : Nat) : (s.sramClear b).weft = s.weft := rfl
@[simp] theorem State.sramClear_charter (s : State) (b : Nat) : (s.sramClear b).charter = s.charter := rfl
@[simp] theorem State.sramClear_intake (s : State) (b : Nat) : (s.sramClear b).intake = s.intake := rfl
@[simp] theorem State.sramClear_loom (s : State) (b : Nat) : (s.sramClear b).loom = s.loom := rfl
@[simp] theorem State.sramClear_dmg (s : State) (b : Nat) : (s.sramClear b).dmg = s.dmg := rfl
@[simp] theorem State.sramClear_hmk (s : State) (b : Nat) : (s.sramClear b).hmk = s.hmk := rfl
@[simp] theorem State.sramClear_tfs (s : State) (b : Nat) : (s.sramClear b).tfs = s.tfs := rfl
@[simp] theorem State.sramClear_drv (s : State) (b : Nat) : (s.sramClear b).drv = s.drv := rfl
@[simp] theorem State.sramClear_asy (s : State) (b : Nat) : (s.sramClear b).asy = s.asy := rfl
@[simp] theorem State.sramClear_tly (s : State) (b : Nat) : (s.sramClear b).tly = s.tly := rfl
@[simp] theorem State.sramClear_whl (s : State) (b : Nat) : (s.sramClear b).whl = s.whl := rfl
@[simp] theorem State.sramClear_spn (s : State) (b : Nat) : (s.sramClear b).spn = s.spn := rfl
@[simp] theorem State.sramClear_trs (s : State) (b : Nat) : (s.sramClear b).trs = s.trs := rfl
@[simp] theorem State.sramClear_ptr (s : State) (b : Nat) : (s.sramClear b).ptr = s.ptr := rfl
@[simp] theorem State.sramClear_ctr (s : State) (b : Nat) : (s.sramClear b).ctr = s.ctr := rfl
@[simp] theorem State.sramClear_nvm (s : State) (b : Nat) : (s.sramClear b).nvm = s.nvm := rfl
@[simp] theorem State.sramClear_rd (s : State) (b : Nat) (g : Fld) : (s.sramClear b).rd g = s.rd g := rfl
@[simp] theorem State.sramClear_wordAt (s : State) (b : Nat) (x : Nat) : (s.sramClear b).wordAt x = s.wordAt x := rfl
@[simp] theorem State.sramClear_ac (s : State) (b : Nat) (g : Fld) : (s.sramClear b).ac g = s.ac g := rfl
@[simp] theorem State.sramClear_actWordAt (s : State) (b : Nat) (x : Nat) : (s.sramClear b).actWordAt x = s.actWordAt x := rfl
@[simp] theorem State.sramClear_alive (s : State) (b : Nat) : (s.sramClear b).alive = s.alive := rfl
@[simp] theorem State.sramClear_now (s : State) (b : Nat) : (s.sramClear b).now = s.now := rfl

/-! ### flashWrite -/

@[simp] theorem State.flashWrite_pending (s : State) (a : Nat) (bs : Bytes) : (s.flashWrite a bs).pending = s.pending := rfl
@[simp] theorem State.flashWrite_fresh (s : State) (a : Nat) (bs : Bytes) : (s.flashWrite a bs).fresh = s.fresh := rfl
@[simp] theorem State.flashWrite_count (s : State) (a : Nat) (bs : Bytes) : (s.flashWrite a bs).count = s.count := rfl
@[simp] theorem State.flashWrite_regs (s : State) (a : Nat) (bs : Bytes) : (s.flashWrite a bs).regs = s.regs := rfl
@[simp] theorem State.flashWrite_act (s : State) (a : Nat) (bs : Bytes) : (s.flashWrite a bs).act = s.act := rfl
@[simp] theorem State.flashWrite_dram (s : State) (a : Nat) (bs : Bytes) : (s.flashWrite a bs).dram = s.dram := rfl
@[simp] theorem State.flashWrite_sram (s : State) (a : Nat) (bs : Bytes) : (s.flashWrite a bs).sram = s.sram := rfl
@[simp] theorem State.flashWrite_bus (s : State) (a : Nat) (bs : Bytes) : (s.flashWrite a bs).bus = s.bus := rfl
@[simp] theorem State.flashWrite_sys (s : State) (a : Nat) (bs : Bytes) : (s.flashWrite a bs).sys = s.sys := rfl
@[simp] theorem State.flashWrite_log (s : State) (a : Nat) (bs : Bytes) : (s.flashWrite a bs).log = s.log := rfl
@[simp] theorem State.flashWrite_dmc (s : State) (a : Nat) (bs : Bytes) : (s.flashWrite a bs).dmc = s.dmc := rfl
@[simp] theorem State.flashWrite_srb (s : State) (a : Nat) (bs : Bytes) : (s.flashWrite a bs).srb = s.srb := rfl
@[simp] theorem State.flashWrite_weft (s : State) (a : Nat) (bs : Bytes) : (s.flashWrite a bs).weft = s.weft := rfl
@[simp] theorem State.flashWrite_charter (s : State) (a : Nat) (bs : Bytes) : (s.flashWrite a bs).charter = s.charter := rfl
@[simp] theorem State.flashWrite_intake (s : State) (a : Nat) (bs : Bytes) : (s.flashWrite a bs).intake = s.intake := rfl
@[simp] theorem State.flashWrite_loom (s : State) (a : Nat) (bs : Bytes) : (s.flashWrite a bs).loom = s.loom := rfl
@[simp] theorem State.flashWrite_dmg (s : State) (a : Nat) (bs : Bytes) : (s.flashWrite a bs).dmg = s.dmg := rfl
@[simp] theorem State.flashWrite_hmk (s : State) (a : Nat) (bs : Bytes) : (s.flashWrite a bs).hmk = s.hmk := rfl
@[simp] theorem State.flashWrite_tfs (s : State) (a : Nat) (bs : Bytes) : (s.flashWrite a bs).tfs = s.tfs := rfl
@[simp] theorem State.flashWrite_drv (s : State) (a : Nat) (bs : Bytes) : (s.flashWrite a bs).drv = s.drv := rfl
@[simp] theorem State.flashWrite_asy (s : State) (a : Nat) (bs : Bytes) : (s.flashWrite a bs).asy = s.asy := rfl
@[simp] theorem State.flashWrite_tly (s : State) (a : Nat) (bs : Bytes) : (s.flashWrite a bs).tly = s.tly := rfl
@[simp] theorem State.flashWrite_whl (s : State) (a : Nat) (bs : Bytes) : (s.flashWrite a bs).whl = s.whl := rfl
@[simp] theorem State.flashWrite_spn (s : State) (a : Nat) (bs : Bytes) : (s.flashWrite a bs).spn = s.spn := rfl
@[simp] theorem State.flashWrite_trs (s : State) (a : Nat) (bs : Bytes) : (s.flashWrite a bs).trs = s.trs := rfl
@[simp] theorem State.flashWrite_ptr (s : State) (a : Nat) (bs : Bytes) : (s.flashWrite a bs).ptr = s.ptr := rfl
@[simp] theorem State.flashWrite_ctr (s : State) (a : Nat) (bs : Bytes) : (s.flashWrite a bs).ctr = s.ctr := rfl
@[simp] theorem State.flashWrite_rd (s : State) (a : Nat) (bs : Bytes) (g : Fld) : (s.flashWrite a bs).rd g = s.rd g := rfl
@[simp] theorem State.flashWrite_wordAt (s : State) (a : Nat) (bs : Bytes) (x : Nat) : (s.flashWrite a bs).wordAt x = s.wordAt x := rfl
@[simp] theorem State.flashWrite_ac (s : State) (a : Nat) (bs : Bytes) (g : Fld) : (s.flashWrite a bs).ac g = s.ac g := rfl
@[simp] theorem State.flashWrite_actWordAt (s : State) (a : Nat) (bs : Bytes) (x : Nat) : (s.flashWrite a bs).actWordAt x = s.actWordAt x := rfl
@[simp] theorem State.flashWrite_alive (s : State) (a : Nat) (bs : Bytes) : (s.flashWrite a bs).alive = s.alive := rfl
@[simp] theorem State.flashWrite_now (s : State) (a : Nat) (bs : Bytes) : (s.flashWrite a bs).now = s.now := rfl

/-! ### flashErase -/

@[simp] theorem State.flashErase_pending (s : State) (a n : Nat) : (s.flashErase a n).pending = s.pending := rfl
@[simp] theorem State.flashErase_fresh (s : State) (a n : Nat) : (s.flashErase a n).fresh = s.fresh := rfl
@[simp] theorem State.flashErase_count (s : State) (a n : Nat) : (s.flashErase a n).count = s.count := rfl
@[simp] theorem State.flashErase_regs (s : State) (a n : Nat) : (s.flashErase a n).regs = s.regs := rfl
@[simp] theorem State.flashErase_act (s : State) (a n : Nat) : (s.flashErase a n).act = s.act := rfl
@[simp] theorem State.flashErase_dram (s : State) (a n : Nat) : (s.flashErase a n).dram = s.dram := rfl
@[simp] theorem State.flashErase_sram (s : State) (a n : Nat) : (s.flashErase a n).sram = s.sram := rfl
@[simp] theorem State.flashErase_bus (s : State) (a n : Nat) : (s.flashErase a n).bus = s.bus := rfl
@[simp] theorem State.flashErase_sys (s : State) (a n : Nat) : (s.flashErase a n).sys = s.sys := rfl
@[simp] theorem State.flashErase_log (s : State) (a n : Nat) : (s.flashErase a n).log = s.log := rfl
@[simp] theorem State.flashErase_dmc (s : State) (a n : Nat) : (s.flashErase a n).dmc = s.dmc := rfl
@[simp] theorem State.flashErase_srb (s : State) (a n : Nat) : (s.flashErase a n).srb = s.srb := rfl
@[simp] theorem State.flashErase_weft (s : State) (a n : Nat) : (s.flashErase a n).weft = s.weft := rfl
@[simp] theorem State.flashErase_charter (s : State) (a n : Nat) : (s.flashErase a n).charter = s.charter := rfl
@[simp] theorem State.flashErase_intake (s : State) (a n : Nat) : (s.flashErase a n).intake = s.intake := rfl
@[simp] theorem State.flashErase_loom (s : State) (a n : Nat) : (s.flashErase a n).loom = s.loom := rfl
@[simp] theorem State.flashErase_dmg (s : State) (a n : Nat) : (s.flashErase a n).dmg = s.dmg := rfl
@[simp] theorem State.flashErase_hmk (s : State) (a n : Nat) : (s.flashErase a n).hmk = s.hmk := rfl
@[simp] theorem State.flashErase_tfs (s : State) (a n : Nat) : (s.flashErase a n).tfs = s.tfs := rfl
@[simp] theorem State.flashErase_drv (s : State) (a n : Nat) : (s.flashErase a n).drv = s.drv := rfl
@[simp] theorem State.flashErase_asy (s : State) (a n : Nat) : (s.flashErase a n).asy = s.asy := rfl
@[simp] theorem State.flashErase_tly (s : State) (a n : Nat) : (s.flashErase a n).tly = s.tly := rfl
@[simp] theorem State.flashErase_whl (s : State) (a n : Nat) : (s.flashErase a n).whl = s.whl := rfl
@[simp] theorem State.flashErase_spn (s : State) (a n : Nat) : (s.flashErase a n).spn = s.spn := rfl
@[simp] theorem State.flashErase_trs (s : State) (a n : Nat) : (s.flashErase a n).trs = s.trs := rfl
@[simp] theorem State.flashErase_ptr (s : State) (a n : Nat) : (s.flashErase a n).ptr = s.ptr := rfl
@[simp] theorem State.flashErase_ctr (s : State) (a n : Nat) : (s.flashErase a n).ctr = s.ctr := rfl
@[simp] theorem State.flashErase_rd (s : State) (a n : Nat) (g : Fld) : (s.flashErase a n).rd g = s.rd g := rfl
@[simp] theorem State.flashErase_wordAt (s : State) (a n : Nat) (x : Nat) : (s.flashErase a n).wordAt x = s.wordAt x := rfl
@[simp] theorem State.flashErase_ac (s : State) (a n : Nat) (g : Fld) : (s.flashErase a n).ac g = s.ac g := rfl
@[simp] theorem State.flashErase_actWordAt (s : State) (a n : Nat) (x : Nat) : (s.flashErase a n).actWordAt x = s.actWordAt x := rfl
@[simp] theorem State.flashErase_alive (s : State) (a n : Nat) : (s.flashErase a n).alive = s.alive := rfl
@[simp] theorem State.flashErase_now (s : State) (a n : Nat) : (s.flashErase a n).now = s.now := rfl

/-! ### busAnswer -/

@[simp] theorem State.busAnswer_pending (s : State) (d : Word) (e : Bool) : (s.busAnswer d e).pending = s.pending := rfl
@[simp] theorem State.busAnswer_fresh (s : State) (d : Word) (e : Bool) : (s.busAnswer d e).fresh = s.fresh := rfl
@[simp] theorem State.busAnswer_count (s : State) (d : Word) (e : Bool) : (s.busAnswer d e).count = s.count := rfl
@[simp] theorem State.busAnswer_regs (s : State) (d : Word) (e : Bool) : (s.busAnswer d e).regs = s.regs := rfl
@[simp] theorem State.busAnswer_act (s : State) (d : Word) (e : Bool) : (s.busAnswer d e).act = s.act := rfl
@[simp] theorem State.busAnswer_dram (s : State) (d : Word) (e : Bool) : (s.busAnswer d e).dram = s.dram := rfl
@[simp] theorem State.busAnswer_sram (s : State) (d : Word) (e : Bool) : (s.busAnswer d e).sram = s.sram := rfl
@[simp] theorem State.busAnswer_flash (s : State) (d : Word) (e : Bool) : (s.busAnswer d e).flash = s.flash := rfl
@[simp] theorem State.busAnswer_sys (s : State) (d : Word) (e : Bool) : (s.busAnswer d e).sys = s.sys := rfl
@[simp] theorem State.busAnswer_log (s : State) (d : Word) (e : Bool) : (s.busAnswer d e).log = s.log := rfl
@[simp] theorem State.busAnswer_dmc (s : State) (d : Word) (e : Bool) : (s.busAnswer d e).dmc = s.dmc := rfl
@[simp] theorem State.busAnswer_srb (s : State) (d : Word) (e : Bool) : (s.busAnswer d e).srb = s.srb := rfl
@[simp] theorem State.busAnswer_weft (s : State) (d : Word) (e : Bool) : (s.busAnswer d e).weft = s.weft := rfl
@[simp] theorem State.busAnswer_charter (s : State) (d : Word) (e : Bool) : (s.busAnswer d e).charter = s.charter := rfl
@[simp] theorem State.busAnswer_intake (s : State) (d : Word) (e : Bool) : (s.busAnswer d e).intake = s.intake := rfl
@[simp] theorem State.busAnswer_loom (s : State) (d : Word) (e : Bool) : (s.busAnswer d e).loom = s.loom := rfl
@[simp] theorem State.busAnswer_dmg (s : State) (d : Word) (e : Bool) : (s.busAnswer d e).dmg = s.dmg := rfl
@[simp] theorem State.busAnswer_hmk (s : State) (d : Word) (e : Bool) : (s.busAnswer d e).hmk = s.hmk := rfl
@[simp] theorem State.busAnswer_tfs (s : State) (d : Word) (e : Bool) : (s.busAnswer d e).tfs = s.tfs := rfl
@[simp] theorem State.busAnswer_drv (s : State) (d : Word) (e : Bool) : (s.busAnswer d e).drv = s.drv := rfl
@[simp] theorem State.busAnswer_asy (s : State) (d : Word) (e : Bool) : (s.busAnswer d e).asy = s.asy := rfl
@[simp] theorem State.busAnswer_tly (s : State) (d : Word) (e : Bool) : (s.busAnswer d e).tly = s.tly := rfl
@[simp] theorem State.busAnswer_whl (s : State) (d : Word) (e : Bool) : (s.busAnswer d e).whl = s.whl := rfl
@[simp] theorem State.busAnswer_spn (s : State) (d : Word) (e : Bool) : (s.busAnswer d e).spn = s.spn := rfl
@[simp] theorem State.busAnswer_trs (s : State) (d : Word) (e : Bool) : (s.busAnswer d e).trs = s.trs := rfl
@[simp] theorem State.busAnswer_ptr (s : State) (d : Word) (e : Bool) : (s.busAnswer d e).ptr = s.ptr := rfl
@[simp] theorem State.busAnswer_ctr (s : State) (d : Word) (e : Bool) : (s.busAnswer d e).ctr = s.ctr := rfl
@[simp] theorem State.busAnswer_nvm (s : State) (d : Word) (e : Bool) : (s.busAnswer d e).nvm = s.nvm := rfl
@[simp] theorem State.busAnswer_rd (s : State) (d : Word) (e : Bool) (g : Fld) : (s.busAnswer d e).rd g = s.rd g := rfl
@[simp] theorem State.busAnswer_wordAt (s : State) (d : Word) (e : Bool) (x : Nat) : (s.busAnswer d e).wordAt x = s.wordAt x := rfl
@[simp] theorem State.busAnswer_ac (s : State) (d : Word) (e : Bool) (g : Fld) : (s.busAnswer d e).ac g = s.ac g := rfl
@[simp] theorem State.busAnswer_actWordAt (s : State) (d : Word) (e : Bool) (x : Nat) : (s.busAnswer d e).actWordAt x = s.actWordAt x := rfl
@[simp] theorem State.busAnswer_alive (s : State) (d : Word) (e : Bool) : (s.busAnswer d e).alive = s.alive := rfl
@[simp] theorem State.busAnswer_now (s : State) (d : Word) (e : Bool) : (s.busAnswer d e).now = s.now := rfl

/-! ### shiftOut -/

@[simp] theorem State.shiftOut_pending (s : State) (bs : Bytes) : (s.shiftOut bs).pending = s.pending := rfl
@[simp] theorem State.shiftOut_fresh (s : State) (bs : Bytes) : (s.shiftOut bs).fresh = s.fresh := rfl
@[simp] theorem State.shiftOut_count (s : State) (bs : Bytes) : (s.shiftOut bs).count = s.count := rfl
@[simp] theorem State.shiftOut_regs (s : State) (bs : Bytes) : (s.shiftOut bs).regs = s.regs := rfl
@[simp] theorem State.shiftOut_act (s : State) (bs : Bytes) : (s.shiftOut bs).act = s.act := rfl
@[simp] theorem State.shiftOut_dram (s : State) (bs : Bytes) : (s.shiftOut bs).dram = s.dram := rfl
@[simp] theorem State.shiftOut_sram (s : State) (bs : Bytes) : (s.shiftOut bs).sram = s.sram := rfl
@[simp] theorem State.shiftOut_flash (s : State) (bs : Bytes) : (s.shiftOut bs).flash = s.flash := rfl
@[simp] theorem State.shiftOut_bus (s : State) (bs : Bytes) : (s.shiftOut bs).bus = s.bus := rfl
@[simp] theorem State.shiftOut_sys (s : State) (bs : Bytes) : (s.shiftOut bs).sys = s.sys := rfl
@[simp] theorem State.shiftOut_log (s : State) (bs : Bytes) : (s.shiftOut bs).log = s.log := rfl
@[simp] theorem State.shiftOut_dmc (s : State) (bs : Bytes) : (s.shiftOut bs).dmc = s.dmc := rfl
@[simp] theorem State.shiftOut_srb (s : State) (bs : Bytes) : (s.shiftOut bs).srb = s.srb := rfl
@[simp] theorem State.shiftOut_weft (s : State) (bs : Bytes) : (s.shiftOut bs).weft = s.weft := rfl
@[simp] theorem State.shiftOut_charter (s : State) (bs : Bytes) : (s.shiftOut bs).charter = s.charter := rfl
@[simp] theorem State.shiftOut_intake (s : State) (bs : Bytes) : (s.shiftOut bs).intake = s.intake := rfl
@[simp] theorem State.shiftOut_loom (s : State) (bs : Bytes) : (s.shiftOut bs).loom = s.loom := rfl
@[simp] theorem State.shiftOut_dmg (s : State) (bs : Bytes) : (s.shiftOut bs).dmg = s.dmg := rfl
@[simp] theorem State.shiftOut_hmk (s : State) (bs : Bytes) : (s.shiftOut bs).hmk = s.hmk := rfl
@[simp] theorem State.shiftOut_tfs (s : State) (bs : Bytes) : (s.shiftOut bs).tfs = s.tfs := rfl
@[simp] theorem State.shiftOut_drv (s : State) (bs : Bytes) : (s.shiftOut bs).drv = s.drv := rfl
@[simp] theorem State.shiftOut_asy (s : State) (bs : Bytes) : (s.shiftOut bs).asy = s.asy := rfl
@[simp] theorem State.shiftOut_tly (s : State) (bs : Bytes) : (s.shiftOut bs).tly = s.tly := rfl
@[simp] theorem State.shiftOut_whl (s : State) (bs : Bytes) : (s.shiftOut bs).whl = s.whl := rfl
@[simp] theorem State.shiftOut_spn (s : State) (bs : Bytes) : (s.shiftOut bs).spn = s.spn := rfl
@[simp] theorem State.shiftOut_trs (s : State) (bs : Bytes) : (s.shiftOut bs).trs = s.trs := rfl
@[simp] theorem State.shiftOut_ptr (s : State) (bs : Bytes) : (s.shiftOut bs).ptr = s.ptr := rfl
@[simp] theorem State.shiftOut_nvm (s : State) (bs : Bytes) : (s.shiftOut bs).nvm = s.nvm := rfl
@[simp] theorem State.shiftOut_rd (s : State) (bs : Bytes) (g : Fld) : (s.shiftOut bs).rd g = s.rd g := rfl
@[simp] theorem State.shiftOut_wordAt (s : State) (bs : Bytes) (x : Nat) : (s.shiftOut bs).wordAt x = s.wordAt x := rfl
@[simp] theorem State.shiftOut_ac (s : State) (bs : Bytes) (g : Fld) : (s.shiftOut bs).ac g = s.ac g := rfl
@[simp] theorem State.shiftOut_actWordAt (s : State) (bs : Bytes) (x : Nat) : (s.shiftOut bs).actWordAt x = s.actWordAt x := rfl
@[simp] theorem State.shiftOut_alive (s : State) (bs : Bytes) : (s.shiftOut bs).alive = s.alive := rfl
@[simp] theorem State.shiftOut_now (s : State) (bs : Bytes) : (s.shiftOut bs).now = s.now := rfl

/-! ### dramAnswer -/

@[simp] theorem State.dramAnswer_pending (s : State) (r : DramResult) : (s.dramAnswer r).pending = s.pending := rfl
@[simp] theorem State.dramAnswer_fresh (s : State) (r : DramResult) : (s.dramAnswer r).fresh = s.fresh := rfl
@[simp] theorem State.dramAnswer_count (s : State) (r : DramResult) : (s.dramAnswer r).count = s.count := rfl
@[simp] theorem State.dramAnswer_regs (s : State) (r : DramResult) : (s.dramAnswer r).regs = s.regs := rfl
@[simp] theorem State.dramAnswer_act (s : State) (r : DramResult) : (s.dramAnswer r).act = s.act := rfl
@[simp] theorem State.dramAnswer_dram (s : State) (r : DramResult) : (s.dramAnswer r).dram = s.dram := rfl
@[simp] theorem State.dramAnswer_sram (s : State) (r : DramResult) : (s.dramAnswer r).sram = s.sram := rfl
@[simp] theorem State.dramAnswer_flash (s : State) (r : DramResult) : (s.dramAnswer r).flash = s.flash := rfl
@[simp] theorem State.dramAnswer_bus (s : State) (r : DramResult) : (s.dramAnswer r).bus = s.bus := rfl
@[simp] theorem State.dramAnswer_sys (s : State) (r : DramResult) : (s.dramAnswer r).sys = s.sys := rfl
@[simp] theorem State.dramAnswer_log (s : State) (r : DramResult) : (s.dramAnswer r).log = s.log := rfl
@[simp] theorem State.dramAnswer_srb (s : State) (r : DramResult) : (s.dramAnswer r).srb = s.srb := rfl
@[simp] theorem State.dramAnswer_weft (s : State) (r : DramResult) : (s.dramAnswer r).weft = s.weft := rfl
@[simp] theorem State.dramAnswer_charter (s : State) (r : DramResult) : (s.dramAnswer r).charter = s.charter := rfl
@[simp] theorem State.dramAnswer_intake (s : State) (r : DramResult) : (s.dramAnswer r).intake = s.intake := rfl
@[simp] theorem State.dramAnswer_loom (s : State) (r : DramResult) : (s.dramAnswer r).loom = s.loom := rfl
@[simp] theorem State.dramAnswer_dmg (s : State) (r : DramResult) : (s.dramAnswer r).dmg = s.dmg := rfl
@[simp] theorem State.dramAnswer_hmk (s : State) (r : DramResult) : (s.dramAnswer r).hmk = s.hmk := rfl
@[simp] theorem State.dramAnswer_tfs (s : State) (r : DramResult) : (s.dramAnswer r).tfs = s.tfs := rfl
@[simp] theorem State.dramAnswer_drv (s : State) (r : DramResult) : (s.dramAnswer r).drv = s.drv := rfl
@[simp] theorem State.dramAnswer_asy (s : State) (r : DramResult) : (s.dramAnswer r).asy = s.asy := rfl
@[simp] theorem State.dramAnswer_tly (s : State) (r : DramResult) : (s.dramAnswer r).tly = s.tly := rfl
@[simp] theorem State.dramAnswer_whl (s : State) (r : DramResult) : (s.dramAnswer r).whl = s.whl := rfl
@[simp] theorem State.dramAnswer_spn (s : State) (r : DramResult) : (s.dramAnswer r).spn = s.spn := rfl
@[simp] theorem State.dramAnswer_trs (s : State) (r : DramResult) : (s.dramAnswer r).trs = s.trs := rfl
@[simp] theorem State.dramAnswer_ptr (s : State) (r : DramResult) : (s.dramAnswer r).ptr = s.ptr := rfl
@[simp] theorem State.dramAnswer_ctr (s : State) (r : DramResult) : (s.dramAnswer r).ctr = s.ctr := rfl
@[simp] theorem State.dramAnswer_nvm (s : State) (r : DramResult) : (s.dramAnswer r).nvm = s.nvm := rfl
@[simp] theorem State.dramAnswer_rd (s : State) (r : DramResult) (g : Fld) : (s.dramAnswer r).rd g = s.rd g := rfl
@[simp] theorem State.dramAnswer_wordAt (s : State) (r : DramResult) (x : Nat) : (s.dramAnswer r).wordAt x = s.wordAt x := rfl
@[simp] theorem State.dramAnswer_ac (s : State) (r : DramResult) (g : Fld) : (s.dramAnswer r).ac g = s.ac g := rfl
@[simp] theorem State.dramAnswer_actWordAt (s : State) (r : DramResult) (x : Nat) : (s.dramAnswer r).actWordAt x = s.actWordAt x := rfl
@[simp] theorem State.dramAnswer_alive (s : State) (r : DramResult) : (s.dramAnswer r).alive = s.alive := rfl
@[simp] theorem State.dramAnswer_now (s : State) (r : DramResult) : (s.dramAnswer r).now = s.now := rfl

/-! ### nvmDo -/

@[simp] theorem State.nvmDo_pending (s : State) (ops : List FlashOp) : (s.nvmDo ops).pending = s.pending := rfl
@[simp] theorem State.nvmDo_fresh (s : State) (ops : List FlashOp) : (s.nvmDo ops).fresh = s.fresh := rfl
@[simp] theorem State.nvmDo_count (s : State) (ops : List FlashOp) : (s.nvmDo ops).count = s.count := rfl
@[simp] theorem State.nvmDo_regs (s : State) (ops : List FlashOp) : (s.nvmDo ops).regs = s.regs := rfl
@[simp] theorem State.nvmDo_act (s : State) (ops : List FlashOp) : (s.nvmDo ops).act = s.act := rfl
@[simp] theorem State.nvmDo_dram (s : State) (ops : List FlashOp) : (s.nvmDo ops).dram = s.dram := rfl
@[simp] theorem State.nvmDo_sram (s : State) (ops : List FlashOp) : (s.nvmDo ops).sram = s.sram := rfl
@[simp] theorem State.nvmDo_flash (s : State) (ops : List FlashOp) : (s.nvmDo ops).flash = s.flash := rfl
@[simp] theorem State.nvmDo_bus (s : State) (ops : List FlashOp) : (s.nvmDo ops).bus = s.bus := rfl
@[simp] theorem State.nvmDo_sys (s : State) (ops : List FlashOp) : (s.nvmDo ops).sys = s.sys := rfl
@[simp] theorem State.nvmDo_log (s : State) (ops : List FlashOp) : (s.nvmDo ops).log = s.log := rfl
@[simp] theorem State.nvmDo_dmc (s : State) (ops : List FlashOp) : (s.nvmDo ops).dmc = s.dmc := rfl
@[simp] theorem State.nvmDo_srb (s : State) (ops : List FlashOp) : (s.nvmDo ops).srb = s.srb := rfl
@[simp] theorem State.nvmDo_weft (s : State) (ops : List FlashOp) : (s.nvmDo ops).weft = s.weft := rfl
@[simp] theorem State.nvmDo_charter (s : State) (ops : List FlashOp) : (s.nvmDo ops).charter = s.charter := rfl
@[simp] theorem State.nvmDo_intake (s : State) (ops : List FlashOp) : (s.nvmDo ops).intake = s.intake := rfl
@[simp] theorem State.nvmDo_loom (s : State) (ops : List FlashOp) : (s.nvmDo ops).loom = s.loom := rfl
@[simp] theorem State.nvmDo_dmg (s : State) (ops : List FlashOp) : (s.nvmDo ops).dmg = s.dmg := rfl
@[simp] theorem State.nvmDo_hmk (s : State) (ops : List FlashOp) : (s.nvmDo ops).hmk = s.hmk := rfl
@[simp] theorem State.nvmDo_tfs (s : State) (ops : List FlashOp) : (s.nvmDo ops).tfs = s.tfs := rfl
@[simp] theorem State.nvmDo_drv (s : State) (ops : List FlashOp) : (s.nvmDo ops).drv = s.drv := rfl
@[simp] theorem State.nvmDo_asy (s : State) (ops : List FlashOp) : (s.nvmDo ops).asy = s.asy := rfl
@[simp] theorem State.nvmDo_tly (s : State) (ops : List FlashOp) : (s.nvmDo ops).tly = s.tly := rfl
@[simp] theorem State.nvmDo_whl (s : State) (ops : List FlashOp) : (s.nvmDo ops).whl = s.whl := rfl
@[simp] theorem State.nvmDo_spn (s : State) (ops : List FlashOp) : (s.nvmDo ops).spn = s.spn := rfl
@[simp] theorem State.nvmDo_trs (s : State) (ops : List FlashOp) : (s.nvmDo ops).trs = s.trs := rfl
@[simp] theorem State.nvmDo_ptr (s : State) (ops : List FlashOp) : (s.nvmDo ops).ptr = s.ptr := rfl
@[simp] theorem State.nvmDo_ctr (s : State) (ops : List FlashOp) : (s.nvmDo ops).ctr = s.ctr := rfl
@[simp] theorem State.nvmDo_rd (s : State) (ops : List FlashOp) (g : Fld) : (s.nvmDo ops).rd g = s.rd g := rfl
@[simp] theorem State.nvmDo_wordAt (s : State) (ops : List FlashOp) (x : Nat) : (s.nvmDo ops).wordAt x = s.wordAt x := rfl
@[simp] theorem State.nvmDo_ac (s : State) (ops : List FlashOp) (g : Fld) : (s.nvmDo ops).ac g = s.ac g := rfl
@[simp] theorem State.nvmDo_actWordAt (s : State) (ops : List FlashOp) (x : Nat) : (s.nvmDo ops).actWordAt x = s.actWordAt x := rfl
@[simp] theorem State.nvmDo_alive (s : State) (ops : List FlashOp) : (s.nvmDo ops).alive = s.alive := rfl
@[simp] theorem State.nvmDo_now (s : State) (ops : List FlashOp) : (s.nvmDo ops).now = s.now := rfl

/-! ### perform -/

@[simp] theorem State.perform_pending (s : State) (act occ : Nat) : (s.perform act occ).pending = s.pending := rfl
@[simp] theorem State.perform_fresh (s : State) (act occ : Nat) : (s.perform act occ).fresh = s.fresh := rfl
@[simp] theorem State.perform_count (s : State) (act occ : Nat) : (s.perform act occ).count = s.count := rfl
@[simp] theorem State.perform_regs (s : State) (act occ : Nat) : (s.perform act occ).regs = s.regs := rfl
@[simp] theorem State.perform_act (s : State) (act occ : Nat) : (s.perform act occ).act = s.act := rfl
@[simp] theorem State.perform_dram (s : State) (act occ : Nat) : (s.perform act occ).dram = s.dram := rfl
@[simp] theorem State.perform_sram (s : State) (act occ : Nat) : (s.perform act occ).sram = s.sram := rfl
@[simp] theorem State.perform_flash (s : State) (act occ : Nat) : (s.perform act occ).flash = s.flash := rfl
@[simp] theorem State.perform_bus (s : State) (act occ : Nat) : (s.perform act occ).bus = s.bus := rfl
@[simp] theorem State.perform_sys (s : State) (act occ : Nat) : (s.perform act occ).sys = s.sys := rfl
@[simp] theorem State.perform_log (s : State) (act occ : Nat) : (s.perform act occ).log = s.log := rfl
@[simp] theorem State.perform_dmc (s : State) (act occ : Nat) : (s.perform act occ).dmc = s.dmc := rfl
@[simp] theorem State.perform_srb (s : State) (act occ : Nat) : (s.perform act occ).srb = s.srb := rfl
@[simp] theorem State.perform_weft (s : State) (act occ : Nat) : (s.perform act occ).weft = s.weft := rfl
@[simp] theorem State.perform_charter (s : State) (act occ : Nat) : (s.perform act occ).charter = s.charter := rfl
@[simp] theorem State.perform_intake (s : State) (act occ : Nat) : (s.perform act occ).intake = s.intake := rfl
@[simp] theorem State.perform_loom (s : State) (act occ : Nat) : (s.perform act occ).loom = s.loom := rfl
@[simp] theorem State.perform_dmg (s : State) (act occ : Nat) : (s.perform act occ).dmg = s.dmg := rfl
@[simp] theorem State.perform_hmk (s : State) (act occ : Nat) : (s.perform act occ).hmk = s.hmk := rfl
@[simp] theorem State.perform_tfs (s : State) (act occ : Nat) : (s.perform act occ).tfs = s.tfs := rfl
@[simp] theorem State.perform_drv (s : State) (act occ : Nat) : (s.perform act occ).drv = s.drv := rfl
@[simp] theorem State.perform_asy (s : State) (act occ : Nat) : (s.perform act occ).asy = s.asy := rfl
@[simp] theorem State.perform_tly (s : State) (act occ : Nat) : (s.perform act occ).tly = s.tly := rfl
@[simp] theorem State.perform_spn (s : State) (act occ : Nat) : (s.perform act occ).spn = s.spn := rfl
@[simp] theorem State.perform_trs (s : State) (act occ : Nat) : (s.perform act occ).trs = s.trs := rfl
@[simp] theorem State.perform_ptr (s : State) (act occ : Nat) : (s.perform act occ).ptr = s.ptr := rfl
@[simp] theorem State.perform_ctr (s : State) (act occ : Nat) : (s.perform act occ).ctr = s.ctr := rfl
@[simp] theorem State.perform_nvm (s : State) (act occ : Nat) : (s.perform act occ).nvm = s.nvm := rfl
@[simp] theorem State.perform_rd (s : State) (act occ : Nat) (g : Fld) : (s.perform act occ).rd g = s.rd g := rfl
@[simp] theorem State.perform_wordAt (s : State) (act occ : Nat) (x : Nat) : (s.perform act occ).wordAt x = s.wordAt x := rfl
@[simp] theorem State.perform_ac (s : State) (act occ : Nat) (g : Fld) : (s.perform act occ).ac g = s.ac g := rfl
@[simp] theorem State.perform_actWordAt (s : State) (act occ : Nat) (x : Nat) : (s.perform act occ).actWordAt x = s.actWordAt x := rfl
@[simp] theorem State.perform_alive (s : State) (act occ : Nat) : (s.perform act occ).alive = s.alive := rfl
@[simp] theorem State.perform_now (s : State) (act occ : Nat) : (s.perform act occ).now = s.now := rfl

/-! ### dropAnswer -/

@[simp] theorem State.dropAnswer_pending (s : State) (p : Nat) : (s.dropAnswer p).pending = s.pending := rfl
@[simp] theorem State.dropAnswer_fresh (s : State) (p : Nat) : (s.dropAnswer p).fresh = s.fresh := rfl
@[simp] theorem State.dropAnswer_count (s : State) (p : Nat) : (s.dropAnswer p).count = s.count := rfl
@[simp] theorem State.dropAnswer_regs (s : State) (p : Nat) : (s.dropAnswer p).regs = s.regs := rfl
@[simp] theorem State.dropAnswer_act (s : State) (p : Nat) : (s.dropAnswer p).act = s.act := rfl
@[simp] theorem State.dropAnswer_dram (s : State) (p : Nat) : (s.dropAnswer p).dram = s.dram := rfl
@[simp] theorem State.dropAnswer_sram (s : State) (p : Nat) : (s.dropAnswer p).sram = s.sram := rfl
@[simp] theorem State.dropAnswer_flash (s : State) (p : Nat) : (s.dropAnswer p).flash = s.flash := rfl
@[simp] theorem State.dropAnswer_bus (s : State) (p : Nat) : (s.dropAnswer p).bus = s.bus := rfl
@[simp] theorem State.dropAnswer_sys (s : State) (p : Nat) : (s.dropAnswer p).sys = s.sys := rfl
@[simp] theorem State.dropAnswer_log (s : State) (p : Nat) : (s.dropAnswer p).log = s.log := rfl
@[simp] theorem State.dropAnswer_dmc (s : State) (p : Nat) : (s.dropAnswer p).dmc = s.dmc := rfl
@[simp] theorem State.dropAnswer_srb (s : State) (p : Nat) : (s.dropAnswer p).srb = s.srb := rfl
@[simp] theorem State.dropAnswer_weft (s : State) (p : Nat) : (s.dropAnswer p).weft = s.weft := rfl
@[simp] theorem State.dropAnswer_charter (s : State) (p : Nat) : (s.dropAnswer p).charter = s.charter := rfl
@[simp] theorem State.dropAnswer_intake (s : State) (p : Nat) : (s.dropAnswer p).intake = s.intake := rfl
@[simp] theorem State.dropAnswer_loom (s : State) (p : Nat) : (s.dropAnswer p).loom = s.loom := rfl
@[simp] theorem State.dropAnswer_dmg (s : State) (p : Nat) : (s.dropAnswer p).dmg = s.dmg := rfl
@[simp] theorem State.dropAnswer_hmk (s : State) (p : Nat) : (s.dropAnswer p).hmk = s.hmk := rfl
@[simp] theorem State.dropAnswer_tfs (s : State) (p : Nat) : (s.dropAnswer p).tfs = s.tfs := rfl
@[simp] theorem State.dropAnswer_drv (s : State) (p : Nat) : (s.dropAnswer p).drv = s.drv := rfl
@[simp] theorem State.dropAnswer_asy (s : State) (p : Nat) : (s.dropAnswer p).asy = s.asy := rfl
@[simp] theorem State.dropAnswer_tly (s : State) (p : Nat) : (s.dropAnswer p).tly = s.tly := rfl
@[simp] theorem State.dropAnswer_whl (s : State) (p : Nat) : (s.dropAnswer p).whl = s.whl := rfl
@[simp] theorem State.dropAnswer_spn (s : State) (p : Nat) : (s.dropAnswer p).spn = s.spn := rfl
@[simp] theorem State.dropAnswer_ptr (s : State) (p : Nat) : (s.dropAnswer p).ptr = s.ptr := rfl
@[simp] theorem State.dropAnswer_ctr (s : State) (p : Nat) : (s.dropAnswer p).ctr = s.ctr := rfl
@[simp] theorem State.dropAnswer_nvm (s : State) (p : Nat) : (s.dropAnswer p).nvm = s.nvm := rfl
@[simp] theorem State.dropAnswer_rd (s : State) (p : Nat) (g : Fld) : (s.dropAnswer p).rd g = s.rd g := rfl
@[simp] theorem State.dropAnswer_wordAt (s : State) (p : Nat) (x : Nat) : (s.dropAnswer p).wordAt x = s.wordAt x := rfl
@[simp] theorem State.dropAnswer_ac (s : State) (p : Nat) (g : Fld) : (s.dropAnswer p).ac g = s.ac g := rfl
@[simp] theorem State.dropAnswer_actWordAt (s : State) (p : Nat) (x : Nat) : (s.dropAnswer p).actWordAt x = s.actWordAt x := rfl
@[simp] theorem State.dropAnswer_alive (s : State) (p : Nat) : (s.dropAnswer p).alive = s.alive := rfl
@[simp] theorem State.dropAnswer_now (s : State) (p : Nat) : (s.dropAnswer p).now = s.now := rfl

/-! ### unanswered -/

@[simp] theorem State.unanswered_pending (s : State) (p : Nat) : (s.unanswered p).pending = s.pending := rfl
@[simp] theorem State.unanswered_fresh (s : State) (p : Nat) : (s.unanswered p).fresh = s.fresh := rfl
@[simp] theorem State.unanswered_count (s : State) (p : Nat) : (s.unanswered p).count = s.count := rfl
@[simp] theorem State.unanswered_regs (s : State) (p : Nat) : (s.unanswered p).regs = s.regs := rfl
@[simp] theorem State.unanswered_act (s : State) (p : Nat) : (s.unanswered p).act = s.act := rfl
@[simp] theorem State.unanswered_dram (s : State) (p : Nat) : (s.unanswered p).dram = s.dram := rfl
@[simp] theorem State.unanswered_sram (s : State) (p : Nat) : (s.unanswered p).sram = s.sram := rfl
@[simp] theorem State.unanswered_flash (s : State) (p : Nat) : (s.unanswered p).flash = s.flash := rfl
@[simp] theorem State.unanswered_bus (s : State) (p : Nat) : (s.unanswered p).bus = s.bus := rfl
@[simp] theorem State.unanswered_sys (s : State) (p : Nat) : (s.unanswered p).sys = s.sys := rfl
@[simp] theorem State.unanswered_log (s : State) (p : Nat) : (s.unanswered p).log = s.log := rfl
@[simp] theorem State.unanswered_dmc (s : State) (p : Nat) : (s.unanswered p).dmc = s.dmc := rfl
@[simp] theorem State.unanswered_srb (s : State) (p : Nat) : (s.unanswered p).srb = s.srb := rfl
@[simp] theorem State.unanswered_weft (s : State) (p : Nat) : (s.unanswered p).weft = s.weft := rfl
@[simp] theorem State.unanswered_charter (s : State) (p : Nat) : (s.unanswered p).charter = s.charter := rfl
@[simp] theorem State.unanswered_intake (s : State) (p : Nat) : (s.unanswered p).intake = s.intake := rfl
@[simp] theorem State.unanswered_loom (s : State) (p : Nat) : (s.unanswered p).loom = s.loom := rfl
@[simp] theorem State.unanswered_dmg (s : State) (p : Nat) : (s.unanswered p).dmg = s.dmg := rfl
@[simp] theorem State.unanswered_hmk (s : State) (p : Nat) : (s.unanswered p).hmk = s.hmk := rfl
@[simp] theorem State.unanswered_tfs (s : State) (p : Nat) : (s.unanswered p).tfs = s.tfs := rfl
@[simp] theorem State.unanswered_drv (s : State) (p : Nat) : (s.unanswered p).drv = s.drv := rfl
@[simp] theorem State.unanswered_asy (s : State) (p : Nat) : (s.unanswered p).asy = s.asy := rfl
@[simp] theorem State.unanswered_tly (s : State) (p : Nat) : (s.unanswered p).tly = s.tly := rfl
@[simp] theorem State.unanswered_whl (s : State) (p : Nat) : (s.unanswered p).whl = s.whl := rfl
@[simp] theorem State.unanswered_spn (s : State) (p : Nat) : (s.unanswered p).spn = s.spn := rfl
@[simp] theorem State.unanswered_ptr (s : State) (p : Nat) : (s.unanswered p).ptr = s.ptr := rfl
@[simp] theorem State.unanswered_ctr (s : State) (p : Nat) : (s.unanswered p).ctr = s.ctr := rfl
@[simp] theorem State.unanswered_nvm (s : State) (p : Nat) : (s.unanswered p).nvm = s.nvm := rfl
@[simp] theorem State.unanswered_rd (s : State) (p : Nat) (g : Fld) : (s.unanswered p).rd g = s.rd g := rfl
@[simp] theorem State.unanswered_wordAt (s : State) (p : Nat) (x : Nat) : (s.unanswered p).wordAt x = s.wordAt x := rfl
@[simp] theorem State.unanswered_ac (s : State) (p : Nat) (g : Fld) : (s.unanswered p).ac g = s.ac g := rfl
@[simp] theorem State.unanswered_actWordAt (s : State) (p : Nat) (x : Nat) : (s.unanswered p).actWordAt x = s.actWordAt x := rfl
@[simp] theorem State.unanswered_alive (s : State) (p : Nat) : (s.unanswered p).alive = s.alive := rfl
@[simp] theorem State.unanswered_now (s : State) (p : Nat) : (s.unanswered p).now = s.now := rfl

/-! ### countHeart -/

@[simp] theorem State.countHeart_pending (s : State) : s.countHeart.pending = s.pending := rfl
@[simp] theorem State.countHeart_fresh (s : State) : s.countHeart.fresh = s.fresh := rfl
@[simp] theorem State.countHeart_count (s : State) : s.countHeart.count = s.count := rfl
@[simp] theorem State.countHeart_regs (s : State) : s.countHeart.regs = s.regs := rfl
@[simp] theorem State.countHeart_act (s : State) : s.countHeart.act = s.act := rfl
@[simp] theorem State.countHeart_dram (s : State) : s.countHeart.dram = s.dram := rfl
@[simp] theorem State.countHeart_sram (s : State) : s.countHeart.sram = s.sram := rfl
@[simp] theorem State.countHeart_flash (s : State) : s.countHeart.flash = s.flash := rfl
@[simp] theorem State.countHeart_bus (s : State) : s.countHeart.bus = s.bus := rfl
@[simp] theorem State.countHeart_sys (s : State) : s.countHeart.sys = s.sys := rfl
@[simp] theorem State.countHeart_log (s : State) : s.countHeart.log = s.log := rfl
@[simp] theorem State.countHeart_dmc (s : State) : s.countHeart.dmc = s.dmc := rfl
@[simp] theorem State.countHeart_srb (s : State) : s.countHeart.srb = s.srb := rfl
@[simp] theorem State.countHeart_weft (s : State) : s.countHeart.weft = s.weft := rfl
@[simp] theorem State.countHeart_charter (s : State) : s.countHeart.charter = s.charter := rfl
@[simp] theorem State.countHeart_intake (s : State) : s.countHeart.intake = s.intake := rfl
@[simp] theorem State.countHeart_loom (s : State) : s.countHeart.loom = s.loom := rfl
@[simp] theorem State.countHeart_dmg (s : State) : s.countHeart.dmg = s.dmg := rfl
@[simp] theorem State.countHeart_hmk (s : State) : s.countHeart.hmk = s.hmk := rfl
@[simp] theorem State.countHeart_tfs (s : State) : s.countHeart.tfs = s.tfs := rfl
@[simp] theorem State.countHeart_drv (s : State) : s.countHeart.drv = s.drv := rfl
@[simp] theorem State.countHeart_asy (s : State) : s.countHeart.asy = s.asy := rfl
@[simp] theorem State.countHeart_tly (s : State) : s.countHeart.tly = s.tly := rfl
@[simp] theorem State.countHeart_whl (s : State) : s.countHeart.whl = s.whl := rfl
@[simp] theorem State.countHeart_trs (s : State) : s.countHeart.trs = s.trs := rfl
@[simp] theorem State.countHeart_ptr (s : State) : s.countHeart.ptr = s.ptr := rfl
@[simp] theorem State.countHeart_ctr (s : State) : s.countHeart.ctr = s.ctr := rfl
@[simp] theorem State.countHeart_nvm (s : State) : s.countHeart.nvm = s.nvm := rfl
@[simp] theorem State.countHeart_rd (s : State) (g : Fld) : s.countHeart.rd g = s.rd g := rfl
@[simp] theorem State.countHeart_wordAt (s : State) (x : Nat) : s.countHeart.wordAt x = s.wordAt x := rfl
@[simp] theorem State.countHeart_ac (s : State) (g : Fld) : s.countHeart.ac g = s.ac g := rfl
@[simp] theorem State.countHeart_actWordAt (s : State) (x : Nat) : s.countHeart.actWordAt x = s.actWordAt x := rfl
@[simp] theorem State.countHeart_alive (s : State) : s.countHeart.alive = s.alive := rfl
@[simp] theorem State.countHeart_now (s : State) : s.countHeart.now = s.now := rfl

/-! ### logToDram -/

@[simp] theorem State.logToDram_pending (s : State) : s.logToDram.pending = s.pending := rfl
@[simp] theorem State.logToDram_fresh (s : State) : s.logToDram.fresh = s.fresh := rfl
@[simp] theorem State.logToDram_count (s : State) : s.logToDram.count = s.count := rfl
@[simp] theorem State.logToDram_regs (s : State) : s.logToDram.regs = s.regs := rfl
@[simp] theorem State.logToDram_act (s : State) : s.logToDram.act = s.act := rfl
@[simp] theorem State.logToDram_dram (s : State) : s.logToDram.dram = s.dram := rfl
@[simp] theorem State.logToDram_sram (s : State) : s.logToDram.sram = s.sram := rfl
@[simp] theorem State.logToDram_flash (s : State) : s.logToDram.flash = s.flash := rfl
@[simp] theorem State.logToDram_bus (s : State) : s.logToDram.bus = s.bus := rfl
@[simp] theorem State.logToDram_sys (s : State) : s.logToDram.sys = s.sys := rfl
@[simp] theorem State.logToDram_dmc (s : State) : s.logToDram.dmc = s.dmc := rfl
@[simp] theorem State.logToDram_srb (s : State) : s.logToDram.srb = s.srb := rfl
@[simp] theorem State.logToDram_weft (s : State) : s.logToDram.weft = s.weft := rfl
@[simp] theorem State.logToDram_charter (s : State) : s.logToDram.charter = s.charter := rfl
@[simp] theorem State.logToDram_intake (s : State) : s.logToDram.intake = s.intake := rfl
@[simp] theorem State.logToDram_loom (s : State) : s.logToDram.loom = s.loom := rfl
@[simp] theorem State.logToDram_dmg (s : State) : s.logToDram.dmg = s.dmg := rfl
@[simp] theorem State.logToDram_hmk (s : State) : s.logToDram.hmk = s.hmk := rfl
@[simp] theorem State.logToDram_tfs (s : State) : s.logToDram.tfs = s.tfs := rfl
@[simp] theorem State.logToDram_drv (s : State) : s.logToDram.drv = s.drv := rfl
@[simp] theorem State.logToDram_asy (s : State) : s.logToDram.asy = s.asy := rfl
@[simp] theorem State.logToDram_tly (s : State) : s.logToDram.tly = s.tly := rfl
@[simp] theorem State.logToDram_whl (s : State) : s.logToDram.whl = s.whl := rfl
@[simp] theorem State.logToDram_spn (s : State) : s.logToDram.spn = s.spn := rfl
@[simp] theorem State.logToDram_trs (s : State) : s.logToDram.trs = s.trs := rfl
@[simp] theorem State.logToDram_ptr (s : State) : s.logToDram.ptr = s.ptr := rfl
@[simp] theorem State.logToDram_ctr (s : State) : s.logToDram.ctr = s.ctr := rfl
@[simp] theorem State.logToDram_nvm (s : State) : s.logToDram.nvm = s.nvm := rfl
@[simp] theorem State.logToDram_rd (s : State) (g : Fld) : s.logToDram.rd g = s.rd g := rfl
@[simp] theorem State.logToDram_wordAt (s : State) (x : Nat) : s.logToDram.wordAt x = s.wordAt x := rfl
@[simp] theorem State.logToDram_ac (s : State) (g : Fld) : s.logToDram.ac g = s.ac g := rfl
@[simp] theorem State.logToDram_actWordAt (s : State) (x : Nat) : s.logToDram.actWordAt x = s.actWordAt x := rfl
@[simp] theorem State.logToDram_alive (s : State) : s.logToDram.alive = s.alive := rfl
@[simp] theorem State.logToDram_now (s : State) : s.logToDram.now = s.now := rfl

/-! ### dpAnswer -/

@[simp] theorem State.dpAnswer_pending (s : State) (bs : Bytes) : (s.dpAnswer bs).pending = s.pending := rfl
@[simp] theorem State.dpAnswer_fresh (s : State) (bs : Bytes) : (s.dpAnswer bs).fresh = s.fresh := rfl
@[simp] theorem State.dpAnswer_count (s : State) (bs : Bytes) : (s.dpAnswer bs).count = s.count := rfl
@[simp] theorem State.dpAnswer_regs (s : State) (bs : Bytes) : (s.dpAnswer bs).regs = s.regs := rfl
@[simp] theorem State.dpAnswer_act (s : State) (bs : Bytes) : (s.dpAnswer bs).act = s.act := rfl
@[simp] theorem State.dpAnswer_dram (s : State) (bs : Bytes) : (s.dpAnswer bs).dram = s.dram := rfl
@[simp] theorem State.dpAnswer_sram (s : State) (bs : Bytes) : (s.dpAnswer bs).sram = s.sram := rfl
@[simp] theorem State.dpAnswer_flash (s : State) (bs : Bytes) : (s.dpAnswer bs).flash = s.flash := rfl
@[simp] theorem State.dpAnswer_bus (s : State) (bs : Bytes) : (s.dpAnswer bs).bus = s.bus := rfl
@[simp] theorem State.dpAnswer_sys (s : State) (bs : Bytes) : (s.dpAnswer bs).sys = s.sys := rfl
@[simp] theorem State.dpAnswer_log (s : State) (bs : Bytes) : (s.dpAnswer bs).log = s.log := rfl
@[simp] theorem State.dpAnswer_dmc (s : State) (bs : Bytes) : (s.dpAnswer bs).dmc = s.dmc := rfl
@[simp] theorem State.dpAnswer_srb (s : State) (bs : Bytes) : (s.dpAnswer bs).srb = s.srb := rfl
@[simp] theorem State.dpAnswer_weft (s : State) (bs : Bytes) : (s.dpAnswer bs).weft = s.weft := rfl
@[simp] theorem State.dpAnswer_charter (s : State) (bs : Bytes) : (s.dpAnswer bs).charter = s.charter := rfl
@[simp] theorem State.dpAnswer_loom (s : State) (bs : Bytes) : (s.dpAnswer bs).loom = s.loom := rfl
@[simp] theorem State.dpAnswer_dmg (s : State) (bs : Bytes) : (s.dpAnswer bs).dmg = s.dmg := rfl
@[simp] theorem State.dpAnswer_hmk (s : State) (bs : Bytes) : (s.dpAnswer bs).hmk = s.hmk := rfl
@[simp] theorem State.dpAnswer_tfs (s : State) (bs : Bytes) : (s.dpAnswer bs).tfs = s.tfs := rfl
@[simp] theorem State.dpAnswer_drv (s : State) (bs : Bytes) : (s.dpAnswer bs).drv = s.drv := rfl
@[simp] theorem State.dpAnswer_asy (s : State) (bs : Bytes) : (s.dpAnswer bs).asy = s.asy := rfl
@[simp] theorem State.dpAnswer_tly (s : State) (bs : Bytes) : (s.dpAnswer bs).tly = s.tly := rfl
@[simp] theorem State.dpAnswer_whl (s : State) (bs : Bytes) : (s.dpAnswer bs).whl = s.whl := rfl
@[simp] theorem State.dpAnswer_spn (s : State) (bs : Bytes) : (s.dpAnswer bs).spn = s.spn := rfl
@[simp] theorem State.dpAnswer_trs (s : State) (bs : Bytes) : (s.dpAnswer bs).trs = s.trs := rfl
@[simp] theorem State.dpAnswer_ptr (s : State) (bs : Bytes) : (s.dpAnswer bs).ptr = s.ptr := rfl
@[simp] theorem State.dpAnswer_ctr (s : State) (bs : Bytes) : (s.dpAnswer bs).ctr = s.ctr := rfl
@[simp] theorem State.dpAnswer_nvm (s : State) (bs : Bytes) : (s.dpAnswer bs).nvm = s.nvm := rfl
@[simp] theorem State.dpAnswer_rd (s : State) (bs : Bytes) (g : Fld) : (s.dpAnswer bs).rd g = s.rd g := rfl
@[simp] theorem State.dpAnswer_wordAt (s : State) (bs : Bytes) (x : Nat) : (s.dpAnswer bs).wordAt x = s.wordAt x := rfl
@[simp] theorem State.dpAnswer_ac (s : State) (bs : Bytes) (g : Fld) : (s.dpAnswer bs).ac g = s.ac g := rfl
@[simp] theorem State.dpAnswer_actWordAt (s : State) (bs : Bytes) (x : Nat) : (s.dpAnswer bs).actWordAt x = s.actWordAt x := rfl
@[simp] theorem State.dpAnswer_alive (s : State) (bs : Bytes) : (s.dpAnswer bs).alive = s.alive := rfl
@[simp] theorem State.dpAnswer_now (s : State) (bs : Bytes) : (s.dpAnswer bs).now = s.now := rfl

/-! ### setPort -/

@[simp] theorem State.setPort_pending (s : State) (p : Nat) (f : WeftPort → WeftPort) : (s.setPort p f).pending = s.pending := rfl
@[simp] theorem State.setPort_fresh (s : State) (p : Nat) (f : WeftPort → WeftPort) : (s.setPort p f).fresh = s.fresh := rfl
@[simp] theorem State.setPort_count (s : State) (p : Nat) (f : WeftPort → WeftPort) : (s.setPort p f).count = s.count := rfl
@[simp] theorem State.setPort_regs (s : State) (p : Nat) (f : WeftPort → WeftPort) : (s.setPort p f).regs = s.regs := rfl
@[simp] theorem State.setPort_act (s : State) (p : Nat) (f : WeftPort → WeftPort) : (s.setPort p f).act = s.act := rfl
@[simp] theorem State.setPort_dram (s : State) (p : Nat) (f : WeftPort → WeftPort) : (s.setPort p f).dram = s.dram := rfl
@[simp] theorem State.setPort_sram (s : State) (p : Nat) (f : WeftPort → WeftPort) : (s.setPort p f).sram = s.sram := rfl
@[simp] theorem State.setPort_flash (s : State) (p : Nat) (f : WeftPort → WeftPort) : (s.setPort p f).flash = s.flash := rfl
@[simp] theorem State.setPort_bus (s : State) (p : Nat) (f : WeftPort → WeftPort) : (s.setPort p f).bus = s.bus := rfl
@[simp] theorem State.setPort_sys (s : State) (p : Nat) (f : WeftPort → WeftPort) : (s.setPort p f).sys = s.sys := rfl
@[simp] theorem State.setPort_log (s : State) (p : Nat) (f : WeftPort → WeftPort) : (s.setPort p f).log = s.log := rfl
@[simp] theorem State.setPort_dmc (s : State) (p : Nat) (f : WeftPort → WeftPort) : (s.setPort p f).dmc = s.dmc := rfl
@[simp] theorem State.setPort_srb (s : State) (p : Nat) (f : WeftPort → WeftPort) : (s.setPort p f).srb = s.srb := rfl
@[simp] theorem State.setPort_charter (s : State) (p : Nat) (f : WeftPort → WeftPort) : (s.setPort p f).charter = s.charter := rfl
@[simp] theorem State.setPort_intake (s : State) (p : Nat) (f : WeftPort → WeftPort) : (s.setPort p f).intake = s.intake := rfl
@[simp] theorem State.setPort_loom (s : State) (p : Nat) (f : WeftPort → WeftPort) : (s.setPort p f).loom = s.loom := rfl
@[simp] theorem State.setPort_dmg (s : State) (p : Nat) (f : WeftPort → WeftPort) : (s.setPort p f).dmg = s.dmg := rfl
@[simp] theorem State.setPort_hmk (s : State) (p : Nat) (f : WeftPort → WeftPort) : (s.setPort p f).hmk = s.hmk := rfl
@[simp] theorem State.setPort_tfs (s : State) (p : Nat) (f : WeftPort → WeftPort) : (s.setPort p f).tfs = s.tfs := rfl
@[simp] theorem State.setPort_drv (s : State) (p : Nat) (f : WeftPort → WeftPort) : (s.setPort p f).drv = s.drv := rfl
@[simp] theorem State.setPort_asy (s : State) (p : Nat) (f : WeftPort → WeftPort) : (s.setPort p f).asy = s.asy := rfl
@[simp] theorem State.setPort_tly (s : State) (p : Nat) (f : WeftPort → WeftPort) : (s.setPort p f).tly = s.tly := rfl
@[simp] theorem State.setPort_whl (s : State) (p : Nat) (f : WeftPort → WeftPort) : (s.setPort p f).whl = s.whl := rfl
@[simp] theorem State.setPort_spn (s : State) (p : Nat) (f : WeftPort → WeftPort) : (s.setPort p f).spn = s.spn := rfl
@[simp] theorem State.setPort_trs (s : State) (p : Nat) (f : WeftPort → WeftPort) : (s.setPort p f).trs = s.trs := rfl
@[simp] theorem State.setPort_ptr (s : State) (p : Nat) (f : WeftPort → WeftPort) : (s.setPort p f).ptr = s.ptr := rfl
@[simp] theorem State.setPort_ctr (s : State) (p : Nat) (f : WeftPort → WeftPort) : (s.setPort p f).ctr = s.ctr := rfl
@[simp] theorem State.setPort_nvm (s : State) (p : Nat) (f : WeftPort → WeftPort) : (s.setPort p f).nvm = s.nvm := rfl
@[simp] theorem State.setPort_rd (s : State) (p : Nat) (f : WeftPort → WeftPort) (g : Fld) : (s.setPort p f).rd g = s.rd g := rfl
@[simp] theorem State.setPort_wordAt (s : State) (p : Nat) (f : WeftPort → WeftPort) (x : Nat) : (s.setPort p f).wordAt x = s.wordAt x := rfl
@[simp] theorem State.setPort_ac (s : State) (p : Nat) (f : WeftPort → WeftPort) (g : Fld) : (s.setPort p f).ac g = s.ac g := rfl
@[simp] theorem State.setPort_actWordAt (s : State) (p : Nat) (f : WeftPort → WeftPort) (x : Nat) : (s.setPort p f).actWordAt x = s.actWordAt x := rfl
@[simp] theorem State.setPort_alive (s : State) (p : Nat) (f : WeftPort → WeftPort) : (s.setPort p f).alive = s.alive := rfl
@[simp] theorem State.setPort_now (s : State) (p : Nat) (f : WeftPort → WeftPort) : (s.setPort p f).now = s.now := rfl

/-! ### sendSet -/

@[simp] theorem State.sendSet_pending (s : State) (p i m k : Nat) (b : Bool) : (s.sendSet p i m k b).pending = s.pending := rfl
@[simp] theorem State.sendSet_fresh (s : State) (p i m k : Nat) (b : Bool) : (s.sendSet p i m k b).fresh = s.fresh := rfl
@[simp] theorem State.sendSet_count (s : State) (p i m k : Nat) (b : Bool) : (s.sendSet p i m k b).count = s.count := rfl
@[simp] theorem State.sendSet_regs (s : State) (p i m k : Nat) (b : Bool) : (s.sendSet p i m k b).regs = s.regs := rfl
@[simp] theorem State.sendSet_act (s : State) (p i m k : Nat) (b : Bool) : (s.sendSet p i m k b).act = s.act := rfl
@[simp] theorem State.sendSet_dram (s : State) (p i m k : Nat) (b : Bool) : (s.sendSet p i m k b).dram = s.dram := rfl
@[simp] theorem State.sendSet_sram (s : State) (p i m k : Nat) (b : Bool) : (s.sendSet p i m k b).sram = s.sram := rfl
@[simp] theorem State.sendSet_flash (s : State) (p i m k : Nat) (b : Bool) : (s.sendSet p i m k b).flash = s.flash := rfl
@[simp] theorem State.sendSet_bus (s : State) (p i m k : Nat) (b : Bool) : (s.sendSet p i m k b).bus = s.bus := rfl
@[simp] theorem State.sendSet_sys (s : State) (p i m k : Nat) (b : Bool) : (s.sendSet p i m k b).sys = s.sys := rfl
@[simp] theorem State.sendSet_log (s : State) (p i m k : Nat) (b : Bool) : (s.sendSet p i m k b).log = s.log := rfl
@[simp] theorem State.sendSet_dmc (s : State) (p i m k : Nat) (b : Bool) : (s.sendSet p i m k b).dmc = s.dmc := rfl
@[simp] theorem State.sendSet_srb (s : State) (p i m k : Nat) (b : Bool) : (s.sendSet p i m k b).srb = s.srb := rfl
@[simp] theorem State.sendSet_charter (s : State) (p i m k : Nat) (b : Bool) : (s.sendSet p i m k b).charter = s.charter := rfl
@[simp] theorem State.sendSet_intake (s : State) (p i m k : Nat) (b : Bool) : (s.sendSet p i m k b).intake = s.intake := rfl
@[simp] theorem State.sendSet_loom (s : State) (p i m k : Nat) (b : Bool) : (s.sendSet p i m k b).loom = s.loom := rfl
@[simp] theorem State.sendSet_dmg (s : State) (p i m k : Nat) (b : Bool) : (s.sendSet p i m k b).dmg = s.dmg := rfl
@[simp] theorem State.sendSet_hmk (s : State) (p i m k : Nat) (b : Bool) : (s.sendSet p i m k b).hmk = s.hmk := rfl
@[simp] theorem State.sendSet_tfs (s : State) (p i m k : Nat) (b : Bool) : (s.sendSet p i m k b).tfs = s.tfs := rfl
@[simp] theorem State.sendSet_drv (s : State) (p i m k : Nat) (b : Bool) : (s.sendSet p i m k b).drv = s.drv := rfl
@[simp] theorem State.sendSet_asy (s : State) (p i m k : Nat) (b : Bool) : (s.sendSet p i m k b).asy = s.asy := rfl
@[simp] theorem State.sendSet_tly (s : State) (p i m k : Nat) (b : Bool) : (s.sendSet p i m k b).tly = s.tly := rfl
@[simp] theorem State.sendSet_whl (s : State) (p i m k : Nat) (b : Bool) : (s.sendSet p i m k b).whl = s.whl := rfl
@[simp] theorem State.sendSet_spn (s : State) (p i m k : Nat) (b : Bool) : (s.sendSet p i m k b).spn = s.spn := rfl
@[simp] theorem State.sendSet_trs (s : State) (p i m k : Nat) (b : Bool) : (s.sendSet p i m k b).trs = s.trs := rfl
@[simp] theorem State.sendSet_ptr (s : State) (p i m k : Nat) (b : Bool) : (s.sendSet p i m k b).ptr = s.ptr := rfl
@[simp] theorem State.sendSet_ctr (s : State) (p i m k : Nat) (b : Bool) : (s.sendSet p i m k b).ctr = s.ctr := rfl
@[simp] theorem State.sendSet_nvm (s : State) (p i m k : Nat) (b : Bool) : (s.sendSet p i m k b).nvm = s.nvm := rfl
@[simp] theorem State.sendSet_rd (s : State) (p i m k : Nat) (b : Bool) (g : Fld) : (s.sendSet p i m k b).rd g = s.rd g := rfl
@[simp] theorem State.sendSet_wordAt (s : State) (p i m k : Nat) (b : Bool) (x : Nat) : (s.sendSet p i m k b).wordAt x = s.wordAt x := rfl
@[simp] theorem State.sendSet_ac (s : State) (p i m k : Nat) (b : Bool) (g : Fld) : (s.sendSet p i m k b).ac g = s.ac g := rfl
@[simp] theorem State.sendSet_actWordAt (s : State) (p i m k : Nat) (b : Bool) (x : Nat) : (s.sendSet p i m k b).actWordAt x = s.actWordAt x := rfl
@[simp] theorem State.sendSet_alive (s : State) (p i m k : Nat) (b : Bool) : (s.sendSet p i m k b).alive = s.alive := rfl
@[simp] theorem State.sendSet_now (s : State) (p i m k : Nat) (b : Bool) : (s.sendSet p i m k b).now = s.now := rfl

/-! ### setIp -/

@[simp] theorem State.setIp_pending (s : State) (p : Nat) (f : IntakePort → IntakePort) : (s.setIp p f).pending = s.pending := rfl
@[simp] theorem State.setIp_fresh (s : State) (p : Nat) (f : IntakePort → IntakePort) : (s.setIp p f).fresh = s.fresh := rfl
@[simp] theorem State.setIp_count (s : State) (p : Nat) (f : IntakePort → IntakePort) : (s.setIp p f).count = s.count := rfl
@[simp] theorem State.setIp_regs (s : State) (p : Nat) (f : IntakePort → IntakePort) : (s.setIp p f).regs = s.regs := rfl
@[simp] theorem State.setIp_act (s : State) (p : Nat) (f : IntakePort → IntakePort) : (s.setIp p f).act = s.act := rfl
@[simp] theorem State.setIp_dram (s : State) (p : Nat) (f : IntakePort → IntakePort) : (s.setIp p f).dram = s.dram := rfl
@[simp] theorem State.setIp_sram (s : State) (p : Nat) (f : IntakePort → IntakePort) : (s.setIp p f).sram = s.sram := rfl
@[simp] theorem State.setIp_flash (s : State) (p : Nat) (f : IntakePort → IntakePort) : (s.setIp p f).flash = s.flash := rfl
@[simp] theorem State.setIp_bus (s : State) (p : Nat) (f : IntakePort → IntakePort) : (s.setIp p f).bus = s.bus := rfl
@[simp] theorem State.setIp_sys (s : State) (p : Nat) (f : IntakePort → IntakePort) : (s.setIp p f).sys = s.sys := rfl
@[simp] theorem State.setIp_log (s : State) (p : Nat) (f : IntakePort → IntakePort) : (s.setIp p f).log = s.log := rfl
@[simp] theorem State.setIp_dmc (s : State) (p : Nat) (f : IntakePort → IntakePort) : (s.setIp p f).dmc = s.dmc := rfl
@[simp] theorem State.setIp_srb (s : State) (p : Nat) (f : IntakePort → IntakePort) : (s.setIp p f).srb = s.srb := rfl
@[simp] theorem State.setIp_weft (s : State) (p : Nat) (f : IntakePort → IntakePort) : (s.setIp p f).weft = s.weft := rfl
@[simp] theorem State.setIp_charter (s : State) (p : Nat) (f : IntakePort → IntakePort) : (s.setIp p f).charter = s.charter := rfl
@[simp] theorem State.setIp_loom (s : State) (p : Nat) (f : IntakePort → IntakePort) : (s.setIp p f).loom = s.loom := rfl
@[simp] theorem State.setIp_dmg (s : State) (p : Nat) (f : IntakePort → IntakePort) : (s.setIp p f).dmg = s.dmg := rfl
@[simp] theorem State.setIp_hmk (s : State) (p : Nat) (f : IntakePort → IntakePort) : (s.setIp p f).hmk = s.hmk := rfl
@[simp] theorem State.setIp_tfs (s : State) (p : Nat) (f : IntakePort → IntakePort) : (s.setIp p f).tfs = s.tfs := rfl
@[simp] theorem State.setIp_drv (s : State) (p : Nat) (f : IntakePort → IntakePort) : (s.setIp p f).drv = s.drv := rfl
@[simp] theorem State.setIp_asy (s : State) (p : Nat) (f : IntakePort → IntakePort) : (s.setIp p f).asy = s.asy := rfl
@[simp] theorem State.setIp_tly (s : State) (p : Nat) (f : IntakePort → IntakePort) : (s.setIp p f).tly = s.tly := rfl
@[simp] theorem State.setIp_whl (s : State) (p : Nat) (f : IntakePort → IntakePort) : (s.setIp p f).whl = s.whl := rfl
@[simp] theorem State.setIp_spn (s : State) (p : Nat) (f : IntakePort → IntakePort) : (s.setIp p f).spn = s.spn := rfl
@[simp] theorem State.setIp_trs (s : State) (p : Nat) (f : IntakePort → IntakePort) : (s.setIp p f).trs = s.trs := rfl
@[simp] theorem State.setIp_ptr (s : State) (p : Nat) (f : IntakePort → IntakePort) : (s.setIp p f).ptr = s.ptr := rfl
@[simp] theorem State.setIp_ctr (s : State) (p : Nat) (f : IntakePort → IntakePort) : (s.setIp p f).ctr = s.ctr := rfl
@[simp] theorem State.setIp_nvm (s : State) (p : Nat) (f : IntakePort → IntakePort) : (s.setIp p f).nvm = s.nvm := rfl
@[simp] theorem State.setIp_rd (s : State) (p : Nat) (f : IntakePort → IntakePort) (g : Fld) : (s.setIp p f).rd g = s.rd g := rfl
@[simp] theorem State.setIp_wordAt (s : State) (p : Nat) (f : IntakePort → IntakePort) (x : Nat) : (s.setIp p f).wordAt x = s.wordAt x := rfl
@[simp] theorem State.setIp_ac (s : State) (p : Nat) (f : IntakePort → IntakePort) (g : Fld) : (s.setIp p f).ac g = s.ac g := rfl
@[simp] theorem State.setIp_actWordAt (s : State) (p : Nat) (f : IntakePort → IntakePort) (x : Nat) : (s.setIp p f).actWordAt x = s.actWordAt x := rfl
@[simp] theorem State.setIp_alive (s : State) (p : Nat) (f : IntakePort → IntakePort) : (s.setIp p f).alive = s.alive := rfl
@[simp] theorem State.setIp_now (s : State) (p : Nat) (f : IntakePort → IntakePort) : (s.setIp p f).now = s.now := rfl

/-! ### setPatch -/

@[simp] theorem State.setPatch_pending (s : State) (p t : Nat) (f : Patch → Patch) : (s.setPatch p t f).pending = s.pending := rfl
@[simp] theorem State.setPatch_fresh (s : State) (p t : Nat) (f : Patch → Patch) : (s.setPatch p t f).fresh = s.fresh := rfl
@[simp] theorem State.setPatch_count (s : State) (p t : Nat) (f : Patch → Patch) : (s.setPatch p t f).count = s.count := rfl
@[simp] theorem State.setPatch_regs (s : State) (p t : Nat) (f : Patch → Patch) : (s.setPatch p t f).regs = s.regs := rfl
@[simp] theorem State.setPatch_act (s : State) (p t : Nat) (f : Patch → Patch) : (s.setPatch p t f).act = s.act := rfl
@[simp] theorem State.setPatch_dram (s : State) (p t : Nat) (f : Patch → Patch) : (s.setPatch p t f).dram = s.dram := rfl
@[simp] theorem State.setPatch_sram (s : State) (p t : Nat) (f : Patch → Patch) : (s.setPatch p t f).sram = s.sram := rfl
@[simp] theorem State.setPatch_flash (s : State) (p t : Nat) (f : Patch → Patch) : (s.setPatch p t f).flash = s.flash := rfl
@[simp] theorem State.setPatch_bus (s : State) (p t : Nat) (f : Patch → Patch) : (s.setPatch p t f).bus = s.bus := rfl
@[simp] theorem State.setPatch_sys (s : State) (p t : Nat) (f : Patch → Patch) : (s.setPatch p t f).sys = s.sys := rfl
@[simp] theorem State.setPatch_log (s : State) (p t : Nat) (f : Patch → Patch) : (s.setPatch p t f).log = s.log := rfl
@[simp] theorem State.setPatch_dmc (s : State) (p t : Nat) (f : Patch → Patch) : (s.setPatch p t f).dmc = s.dmc := rfl
@[simp] theorem State.setPatch_srb (s : State) (p t : Nat) (f : Patch → Patch) : (s.setPatch p t f).srb = s.srb := rfl
@[simp] theorem State.setPatch_weft (s : State) (p t : Nat) (f : Patch → Patch) : (s.setPatch p t f).weft = s.weft := rfl
@[simp] theorem State.setPatch_charter (s : State) (p t : Nat) (f : Patch → Patch) : (s.setPatch p t f).charter = s.charter := rfl
@[simp] theorem State.setPatch_loom (s : State) (p t : Nat) (f : Patch → Patch) : (s.setPatch p t f).loom = s.loom := rfl
@[simp] theorem State.setPatch_dmg (s : State) (p t : Nat) (f : Patch → Patch) : (s.setPatch p t f).dmg = s.dmg := rfl
@[simp] theorem State.setPatch_hmk (s : State) (p t : Nat) (f : Patch → Patch) : (s.setPatch p t f).hmk = s.hmk := rfl
@[simp] theorem State.setPatch_tfs (s : State) (p t : Nat) (f : Patch → Patch) : (s.setPatch p t f).tfs = s.tfs := rfl
@[simp] theorem State.setPatch_drv (s : State) (p t : Nat) (f : Patch → Patch) : (s.setPatch p t f).drv = s.drv := rfl
@[simp] theorem State.setPatch_asy (s : State) (p t : Nat) (f : Patch → Patch) : (s.setPatch p t f).asy = s.asy := rfl
@[simp] theorem State.setPatch_tly (s : State) (p t : Nat) (f : Patch → Patch) : (s.setPatch p t f).tly = s.tly := rfl
@[simp] theorem State.setPatch_whl (s : State) (p t : Nat) (f : Patch → Patch) : (s.setPatch p t f).whl = s.whl := rfl
@[simp] theorem State.setPatch_spn (s : State) (p t : Nat) (f : Patch → Patch) : (s.setPatch p t f).spn = s.spn := rfl
@[simp] theorem State.setPatch_trs (s : State) (p t : Nat) (f : Patch → Patch) : (s.setPatch p t f).trs = s.trs := rfl
@[simp] theorem State.setPatch_ptr (s : State) (p t : Nat) (f : Patch → Patch) : (s.setPatch p t f).ptr = s.ptr := rfl
@[simp] theorem State.setPatch_ctr (s : State) (p t : Nat) (f : Patch → Patch) : (s.setPatch p t f).ctr = s.ctr := rfl
@[simp] theorem State.setPatch_nvm (s : State) (p t : Nat) (f : Patch → Patch) : (s.setPatch p t f).nvm = s.nvm := rfl
@[simp] theorem State.setPatch_rd (s : State) (p t : Nat) (f : Patch → Patch) (g : Fld) : (s.setPatch p t f).rd g = s.rd g := rfl
@[simp] theorem State.setPatch_wordAt (s : State) (p t : Nat) (f : Patch → Patch) (x : Nat) : (s.setPatch p t f).wordAt x = s.wordAt x := rfl
@[simp] theorem State.setPatch_ac (s : State) (p t : Nat) (f : Patch → Patch) (g : Fld) : (s.setPatch p t f).ac g = s.ac g := rfl
@[simp] theorem State.setPatch_actWordAt (s : State) (p t : Nat) (f : Patch → Patch) (x : Nat) : (s.setPatch p t f).actWordAt x = s.actWordAt x := rfl
@[simp] theorem State.setPatch_alive (s : State) (p t : Nat) (f : Patch → Patch) : (s.setPatch p t f).alive = s.alive := rfl
@[simp] theorem State.setPatch_now (s : State) (p t : Nat) (f : Patch → Patch) : (s.setPatch p t f).now = s.now := rfl

/-! ### setSurface -/

@[simp] theorem State.setSurface_pending (s : State) (n : Nat) (f : Surface → Surface) : (s.setSurface n f).pending = s.pending := rfl
@[simp] theorem State.setSurface_fresh (s : State) (n : Nat) (f : Surface → Surface) : (s.setSurface n f).fresh = s.fresh := rfl
@[simp] theorem State.setSurface_count (s : State) (n : Nat) (f : Surface → Surface) : (s.setSurface n f).count = s.count := rfl
@[simp] theorem State.setSurface_regs (s : State) (n : Nat) (f : Surface → Surface) : (s.setSurface n f).regs = s.regs := rfl
@[simp] theorem State.setSurface_act (s : State) (n : Nat) (f : Surface → Surface) : (s.setSurface n f).act = s.act := rfl
@[simp] theorem State.setSurface_dram (s : State) (n : Nat) (f : Surface → Surface) : (s.setSurface n f).dram = s.dram := rfl
@[simp] theorem State.setSurface_sram (s : State) (n : Nat) (f : Surface → Surface) : (s.setSurface n f).sram = s.sram := rfl
@[simp] theorem State.setSurface_flash (s : State) (n : Nat) (f : Surface → Surface) : (s.setSurface n f).flash = s.flash := rfl
@[simp] theorem State.setSurface_bus (s : State) (n : Nat) (f : Surface → Surface) : (s.setSurface n f).bus = s.bus := rfl
@[simp] theorem State.setSurface_sys (s : State) (n : Nat) (f : Surface → Surface) : (s.setSurface n f).sys = s.sys := rfl
@[simp] theorem State.setSurface_log (s : State) (n : Nat) (f : Surface → Surface) : (s.setSurface n f).log = s.log := rfl
@[simp] theorem State.setSurface_dmc (s : State) (n : Nat) (f : Surface → Surface) : (s.setSurface n f).dmc = s.dmc := rfl
@[simp] theorem State.setSurface_srb (s : State) (n : Nat) (f : Surface → Surface) : (s.setSurface n f).srb = s.srb := rfl
@[simp] theorem State.setSurface_weft (s : State) (n : Nat) (f : Surface → Surface) : (s.setSurface n f).weft = s.weft := rfl
@[simp] theorem State.setSurface_charter (s : State) (n : Nat) (f : Surface → Surface) : (s.setSurface n f).charter = s.charter := rfl
@[simp] theorem State.setSurface_loom (s : State) (n : Nat) (f : Surface → Surface) : (s.setSurface n f).loom = s.loom := rfl
@[simp] theorem State.setSurface_dmg (s : State) (n : Nat) (f : Surface → Surface) : (s.setSurface n f).dmg = s.dmg := rfl
@[simp] theorem State.setSurface_hmk (s : State) (n : Nat) (f : Surface → Surface) : (s.setSurface n f).hmk = s.hmk := rfl
@[simp] theorem State.setSurface_tfs (s : State) (n : Nat) (f : Surface → Surface) : (s.setSurface n f).tfs = s.tfs := rfl
@[simp] theorem State.setSurface_drv (s : State) (n : Nat) (f : Surface → Surface) : (s.setSurface n f).drv = s.drv := rfl
@[simp] theorem State.setSurface_asy (s : State) (n : Nat) (f : Surface → Surface) : (s.setSurface n f).asy = s.asy := rfl
@[simp] theorem State.setSurface_tly (s : State) (n : Nat) (f : Surface → Surface) : (s.setSurface n f).tly = s.tly := rfl
@[simp] theorem State.setSurface_whl (s : State) (n : Nat) (f : Surface → Surface) : (s.setSurface n f).whl = s.whl := rfl
@[simp] theorem State.setSurface_spn (s : State) (n : Nat) (f : Surface → Surface) : (s.setSurface n f).spn = s.spn := rfl
@[simp] theorem State.setSurface_trs (s : State) (n : Nat) (f : Surface → Surface) : (s.setSurface n f).trs = s.trs := rfl
@[simp] theorem State.setSurface_ptr (s : State) (n : Nat) (f : Surface → Surface) : (s.setSurface n f).ptr = s.ptr := rfl
@[simp] theorem State.setSurface_ctr (s : State) (n : Nat) (f : Surface → Surface) : (s.setSurface n f).ctr = s.ctr := rfl
@[simp] theorem State.setSurface_nvm (s : State) (n : Nat) (f : Surface → Surface) : (s.setSurface n f).nvm = s.nvm := rfl
@[simp] theorem State.setSurface_rd (s : State) (n : Nat) (f : Surface → Surface) (g : Fld) : (s.setSurface n f).rd g = s.rd g := rfl
@[simp] theorem State.setSurface_wordAt (s : State) (n : Nat) (f : Surface → Surface) (x : Nat) : (s.setSurface n f).wordAt x = s.wordAt x := rfl
@[simp] theorem State.setSurface_ac (s : State) (n : Nat) (f : Surface → Surface) (g : Fld) : (s.setSurface n f).ac g = s.ac g := rfl
@[simp] theorem State.setSurface_actWordAt (s : State) (n : Nat) (f : Surface → Surface) (x : Nat) : (s.setSurface n f).actWordAt x = s.actWordAt x := rfl
@[simp] theorem State.setSurface_alive (s : State) (n : Nat) (f : Surface → Surface) : (s.setSurface n f).alive = s.alive := rfl
@[simp] theorem State.setSurface_now (s : State) (n : Nat) (f : Surface → Surface) : (s.setSurface n f).now = s.now := rfl

/-! ### setLayer -/

@[simp] theorem State.setLayer_pending (s : State) (n : Nat) (f : LayerSt → LayerSt) : (s.setLayer n f).pending = s.pending := rfl
@[simp] theorem State.setLayer_fresh (s : State) (n : Nat) (f : LayerSt → LayerSt) : (s.setLayer n f).fresh = s.fresh := rfl
@[simp] theorem State.setLayer_count (s : State) (n : Nat) (f : LayerSt → LayerSt) : (s.setLayer n f).count = s.count := rfl
@[simp] theorem State.setLayer_regs (s : State) (n : Nat) (f : LayerSt → LayerSt) : (s.setLayer n f).regs = s.regs := rfl
@[simp] theorem State.setLayer_act (s : State) (n : Nat) (f : LayerSt → LayerSt) : (s.setLayer n f).act = s.act := rfl
@[simp] theorem State.setLayer_dram (s : State) (n : Nat) (f : LayerSt → LayerSt) : (s.setLayer n f).dram = s.dram := rfl
@[simp] theorem State.setLayer_sram (s : State) (n : Nat) (f : LayerSt → LayerSt) : (s.setLayer n f).sram = s.sram := rfl
@[simp] theorem State.setLayer_flash (s : State) (n : Nat) (f : LayerSt → LayerSt) : (s.setLayer n f).flash = s.flash := rfl
@[simp] theorem State.setLayer_bus (s : State) (n : Nat) (f : LayerSt → LayerSt) : (s.setLayer n f).bus = s.bus := rfl
@[simp] theorem State.setLayer_sys (s : State) (n : Nat) (f : LayerSt → LayerSt) : (s.setLayer n f).sys = s.sys := rfl
@[simp] theorem State.setLayer_log (s : State) (n : Nat) (f : LayerSt → LayerSt) : (s.setLayer n f).log = s.log := rfl
@[simp] theorem State.setLayer_dmc (s : State) (n : Nat) (f : LayerSt → LayerSt) : (s.setLayer n f).dmc = s.dmc := rfl
@[simp] theorem State.setLayer_srb (s : State) (n : Nat) (f : LayerSt → LayerSt) : (s.setLayer n f).srb = s.srb := rfl
@[simp] theorem State.setLayer_weft (s : State) (n : Nat) (f : LayerSt → LayerSt) : (s.setLayer n f).weft = s.weft := rfl
@[simp] theorem State.setLayer_charter (s : State) (n : Nat) (f : LayerSt → LayerSt) : (s.setLayer n f).charter = s.charter := rfl
@[simp] theorem State.setLayer_intake (s : State) (n : Nat) (f : LayerSt → LayerSt) : (s.setLayer n f).intake = s.intake := rfl
@[simp] theorem State.setLayer_dmg (s : State) (n : Nat) (f : LayerSt → LayerSt) : (s.setLayer n f).dmg = s.dmg := rfl
@[simp] theorem State.setLayer_hmk (s : State) (n : Nat) (f : LayerSt → LayerSt) : (s.setLayer n f).hmk = s.hmk := rfl
@[simp] theorem State.setLayer_tfs (s : State) (n : Nat) (f : LayerSt → LayerSt) : (s.setLayer n f).tfs = s.tfs := rfl
@[simp] theorem State.setLayer_drv (s : State) (n : Nat) (f : LayerSt → LayerSt) : (s.setLayer n f).drv = s.drv := rfl
@[simp] theorem State.setLayer_asy (s : State) (n : Nat) (f : LayerSt → LayerSt) : (s.setLayer n f).asy = s.asy := rfl
@[simp] theorem State.setLayer_tly (s : State) (n : Nat) (f : LayerSt → LayerSt) : (s.setLayer n f).tly = s.tly := rfl
@[simp] theorem State.setLayer_whl (s : State) (n : Nat) (f : LayerSt → LayerSt) : (s.setLayer n f).whl = s.whl := rfl
@[simp] theorem State.setLayer_spn (s : State) (n : Nat) (f : LayerSt → LayerSt) : (s.setLayer n f).spn = s.spn := rfl
@[simp] theorem State.setLayer_trs (s : State) (n : Nat) (f : LayerSt → LayerSt) : (s.setLayer n f).trs = s.trs := rfl
@[simp] theorem State.setLayer_ptr (s : State) (n : Nat) (f : LayerSt → LayerSt) : (s.setLayer n f).ptr = s.ptr := rfl
@[simp] theorem State.setLayer_ctr (s : State) (n : Nat) (f : LayerSt → LayerSt) : (s.setLayer n f).ctr = s.ctr := rfl
@[simp] theorem State.setLayer_nvm (s : State) (n : Nat) (f : LayerSt → LayerSt) : (s.setLayer n f).nvm = s.nvm := rfl
@[simp] theorem State.setLayer_rd (s : State) (n : Nat) (f : LayerSt → LayerSt) (g : Fld) : (s.setLayer n f).rd g = s.rd g := rfl
@[simp] theorem State.setLayer_wordAt (s : State) (n : Nat) (f : LayerSt → LayerSt) (x : Nat) : (s.setLayer n f).wordAt x = s.wordAt x := rfl
@[simp] theorem State.setLayer_ac (s : State) (n : Nat) (f : LayerSt → LayerSt) (g : Fld) : (s.setLayer n f).ac g = s.ac g := rfl
@[simp] theorem State.setLayer_actWordAt (s : State) (n : Nat) (f : LayerSt → LayerSt) (x : Nat) : (s.setLayer n f).actWordAt x = s.actWordAt x := rfl
@[simp] theorem State.setLayer_alive (s : State) (n : Nat) (f : LayerSt → LayerSt) : (s.setLayer n f).alive = s.alive := rfl
@[simp] theorem State.setLayer_now (s : State) (n : Nat) (f : LayerSt → LayerSt) : (s.setLayer n f).now = s.now := rfl

/-! ### setTile -/

@[simp] theorem State.setTile_pending (s : State) (c p : Nat) (f : TileRec → TileRec) : (s.setTile c p f).pending = s.pending := rfl
@[simp] theorem State.setTile_fresh (s : State) (c p : Nat) (f : TileRec → TileRec) : (s.setTile c p f).fresh = s.fresh := rfl
@[simp] theorem State.setTile_count (s : State) (c p : Nat) (f : TileRec → TileRec) : (s.setTile c p f).count = s.count := rfl
@[simp] theorem State.setTile_regs (s : State) (c p : Nat) (f : TileRec → TileRec) : (s.setTile c p f).regs = s.regs := rfl
@[simp] theorem State.setTile_act (s : State) (c p : Nat) (f : TileRec → TileRec) : (s.setTile c p f).act = s.act := rfl
@[simp] theorem State.setTile_dram (s : State) (c p : Nat) (f : TileRec → TileRec) : (s.setTile c p f).dram = s.dram := rfl
@[simp] theorem State.setTile_sram (s : State) (c p : Nat) (f : TileRec → TileRec) : (s.setTile c p f).sram = s.sram := rfl
@[simp] theorem State.setTile_flash (s : State) (c p : Nat) (f : TileRec → TileRec) : (s.setTile c p f).flash = s.flash := rfl
@[simp] theorem State.setTile_bus (s : State) (c p : Nat) (f : TileRec → TileRec) : (s.setTile c p f).bus = s.bus := rfl
@[simp] theorem State.setTile_sys (s : State) (c p : Nat) (f : TileRec → TileRec) : (s.setTile c p f).sys = s.sys := rfl
@[simp] theorem State.setTile_log (s : State) (c p : Nat) (f : TileRec → TileRec) : (s.setTile c p f).log = s.log := rfl
@[simp] theorem State.setTile_dmc (s : State) (c p : Nat) (f : TileRec → TileRec) : (s.setTile c p f).dmc = s.dmc := rfl
@[simp] theorem State.setTile_srb (s : State) (c p : Nat) (f : TileRec → TileRec) : (s.setTile c p f).srb = s.srb := rfl
@[simp] theorem State.setTile_weft (s : State) (c p : Nat) (f : TileRec → TileRec) : (s.setTile c p f).weft = s.weft := rfl
@[simp] theorem State.setTile_charter (s : State) (c p : Nat) (f : TileRec → TileRec) : (s.setTile c p f).charter = s.charter := rfl
@[simp] theorem State.setTile_intake (s : State) (c p : Nat) (f : TileRec → TileRec) : (s.setTile c p f).intake = s.intake := rfl
@[simp] theorem State.setTile_loom (s : State) (c p : Nat) (f : TileRec → TileRec) : (s.setTile c p f).loom = s.loom := rfl
@[simp] theorem State.setTile_hmk (s : State) (c p : Nat) (f : TileRec → TileRec) : (s.setTile c p f).hmk = s.hmk := rfl
@[simp] theorem State.setTile_tfs (s : State) (c p : Nat) (f : TileRec → TileRec) : (s.setTile c p f).tfs = s.tfs := rfl
@[simp] theorem State.setTile_drv (s : State) (c p : Nat) (f : TileRec → TileRec) : (s.setTile c p f).drv = s.drv := rfl
@[simp] theorem State.setTile_asy (s : State) (c p : Nat) (f : TileRec → TileRec) : (s.setTile c p f).asy = s.asy := rfl
@[simp] theorem State.setTile_tly (s : State) (c p : Nat) (f : TileRec → TileRec) : (s.setTile c p f).tly = s.tly := rfl
@[simp] theorem State.setTile_whl (s : State) (c p : Nat) (f : TileRec → TileRec) : (s.setTile c p f).whl = s.whl := rfl
@[simp] theorem State.setTile_spn (s : State) (c p : Nat) (f : TileRec → TileRec) : (s.setTile c p f).spn = s.spn := rfl
@[simp] theorem State.setTile_trs (s : State) (c p : Nat) (f : TileRec → TileRec) : (s.setTile c p f).trs = s.trs := rfl
@[simp] theorem State.setTile_ptr (s : State) (c p : Nat) (f : TileRec → TileRec) : (s.setTile c p f).ptr = s.ptr := rfl
@[simp] theorem State.setTile_ctr (s : State) (c p : Nat) (f : TileRec → TileRec) : (s.setTile c p f).ctr = s.ctr := rfl
@[simp] theorem State.setTile_nvm (s : State) (c p : Nat) (f : TileRec → TileRec) : (s.setTile c p f).nvm = s.nvm := rfl
@[simp] theorem State.setTile_rd (s : State) (c p : Nat) (f : TileRec → TileRec) (g : Fld) : (s.setTile c p f).rd g = s.rd g := rfl
@[simp] theorem State.setTile_wordAt (s : State) (c p : Nat) (f : TileRec → TileRec) (x : Nat) : (s.setTile c p f).wordAt x = s.wordAt x := rfl
@[simp] theorem State.setTile_ac (s : State) (c p : Nat) (f : TileRec → TileRec) (g : Fld) : (s.setTile c p f).ac g = s.ac g := rfl
@[simp] theorem State.setTile_actWordAt (s : State) (c p : Nat) (f : TileRec → TileRec) (x : Nat) : (s.setTile c p f).actWordAt x = s.actWordAt x := rfl
@[simp] theorem State.setTile_alive (s : State) (c p : Nat) (f : TileRec → TileRec) : (s.setTile c p f).alive = s.alive := rfl
@[simp] theorem State.setTile_now (s : State) (c p : Nat) (f : TileRec → TileRec) : (s.setTile c p f).now = s.now := rfl

/-! ### setQueue -/

@[simp] theorem State.setQueue_pending (s : State) (c : Nat) (q : List PushEntry) : (s.setQueue c q).pending = s.pending := rfl
@[simp] theorem State.setQueue_fresh (s : State) (c : Nat) (q : List PushEntry) : (s.setQueue c q).fresh = s.fresh := rfl
@[simp] theorem State.setQueue_count (s : State) (c : Nat) (q : List PushEntry) : (s.setQueue c q).count = s.count := rfl
@[simp] theorem State.setQueue_regs (s : State) (c : Nat) (q : List PushEntry) : (s.setQueue c q).regs = s.regs := rfl
@[simp] theorem State.setQueue_act (s : State) (c : Nat) (q : List PushEntry) : (s.setQueue c q).act = s.act := rfl
@[simp] theorem State.setQueue_dram (s : State) (c : Nat) (q : List PushEntry) : (s.setQueue c q).dram = s.dram := rfl
@[simp] theorem State.setQueue_sram (s : State) (c : Nat) (q : List PushEntry) : (s.setQueue c q).sram = s.sram := rfl
@[simp] theorem State.setQueue_flash (s : State) (c : Nat) (q : List PushEntry) : (s.setQueue c q).flash = s.flash := rfl
@[simp] theorem State.setQueue_bus (s : State) (c : Nat) (q : List PushEntry) : (s.setQueue c q).bus = s.bus := rfl
@[simp] theorem State.setQueue_sys (s : State) (c : Nat) (q : List PushEntry) : (s.setQueue c q).sys = s.sys := rfl
@[simp] theorem State.setQueue_log (s : State) (c : Nat) (q : List PushEntry) : (s.setQueue c q).log = s.log := rfl
@[simp] theorem State.setQueue_dmc (s : State) (c : Nat) (q : List PushEntry) : (s.setQueue c q).dmc = s.dmc := rfl
@[simp] theorem State.setQueue_srb (s : State) (c : Nat) (q : List PushEntry) : (s.setQueue c q).srb = s.srb := rfl
@[simp] theorem State.setQueue_weft (s : State) (c : Nat) (q : List PushEntry) : (s.setQueue c q).weft = s.weft := rfl
@[simp] theorem State.setQueue_charter (s : State) (c : Nat) (q : List PushEntry) : (s.setQueue c q).charter = s.charter := rfl
@[simp] theorem State.setQueue_intake (s : State) (c : Nat) (q : List PushEntry) : (s.setQueue c q).intake = s.intake := rfl
@[simp] theorem State.setQueue_loom (s : State) (c : Nat) (q : List PushEntry) : (s.setQueue c q).loom = s.loom := rfl
@[simp] theorem State.setQueue_hmk (s : State) (c : Nat) (q : List PushEntry) : (s.setQueue c q).hmk = s.hmk := rfl
@[simp] theorem State.setQueue_tfs (s : State) (c : Nat) (q : List PushEntry) : (s.setQueue c q).tfs = s.tfs := rfl
@[simp] theorem State.setQueue_drv (s : State) (c : Nat) (q : List PushEntry) : (s.setQueue c q).drv = s.drv := rfl
@[simp] theorem State.setQueue_asy (s : State) (c : Nat) (q : List PushEntry) : (s.setQueue c q).asy = s.asy := rfl
@[simp] theorem State.setQueue_tly (s : State) (c : Nat) (q : List PushEntry) : (s.setQueue c q).tly = s.tly := rfl
@[simp] theorem State.setQueue_whl (s : State) (c : Nat) (q : List PushEntry) : (s.setQueue c q).whl = s.whl := rfl
@[simp] theorem State.setQueue_spn (s : State) (c : Nat) (q : List PushEntry) : (s.setQueue c q).spn = s.spn := rfl
@[simp] theorem State.setQueue_trs (s : State) (c : Nat) (q : List PushEntry) : (s.setQueue c q).trs = s.trs := rfl
@[simp] theorem State.setQueue_ptr (s : State) (c : Nat) (q : List PushEntry) : (s.setQueue c q).ptr = s.ptr := rfl
@[simp] theorem State.setQueue_ctr (s : State) (c : Nat) (q : List PushEntry) : (s.setQueue c q).ctr = s.ctr := rfl
@[simp] theorem State.setQueue_nvm (s : State) (c : Nat) (q : List PushEntry) : (s.setQueue c q).nvm = s.nvm := rfl
@[simp] theorem State.setQueue_rd (s : State) (c : Nat) (q : List PushEntry) (g : Fld) : (s.setQueue c q).rd g = s.rd g := rfl
@[simp] theorem State.setQueue_wordAt (s : State) (c : Nat) (q : List PushEntry) (x : Nat) : (s.setQueue c q).wordAt x = s.wordAt x := rfl
@[simp] theorem State.setQueue_ac (s : State) (c : Nat) (q : List PushEntry) (g : Fld) : (s.setQueue c q).ac g = s.ac g := rfl
@[simp] theorem State.setQueue_actWordAt (s : State) (c : Nat) (q : List PushEntry) (x : Nat) : (s.setQueue c q).actWordAt x = s.actWordAt x := rfl
@[simp] theorem State.setQueue_alive (s : State) (c : Nat) (q : List PushEntry) : (s.setQueue c q).alive = s.alive := rfl
@[simp] theorem State.setQueue_now (s : State) (c : Nat) (q : List PushEntry) : (s.setQueue c q).now = s.now := rfl

/-! ### setPiece -/

@[simp] theorem State.setPiece_pending (s : State) (n : Nat) (f : GuardPiece → GuardPiece) : (s.setPiece n f).pending = s.pending := rfl
@[simp] theorem State.setPiece_fresh (s : State) (n : Nat) (f : GuardPiece → GuardPiece) : (s.setPiece n f).fresh = s.fresh := rfl
@[simp] theorem State.setPiece_count (s : State) (n : Nat) (f : GuardPiece → GuardPiece) : (s.setPiece n f).count = s.count := rfl
@[simp] theorem State.setPiece_regs (s : State) (n : Nat) (f : GuardPiece → GuardPiece) : (s.setPiece n f).regs = s.regs := rfl
@[simp] theorem State.setPiece_act (s : State) (n : Nat) (f : GuardPiece → GuardPiece) : (s.setPiece n f).act = s.act := rfl
@[simp] theorem State.setPiece_dram (s : State) (n : Nat) (f : GuardPiece → GuardPiece) : (s.setPiece n f).dram = s.dram := rfl
@[simp] theorem State.setPiece_sram (s : State) (n : Nat) (f : GuardPiece → GuardPiece) : (s.setPiece n f).sram = s.sram := rfl
@[simp] theorem State.setPiece_flash (s : State) (n : Nat) (f : GuardPiece → GuardPiece) : (s.setPiece n f).flash = s.flash := rfl
@[simp] theorem State.setPiece_bus (s : State) (n : Nat) (f : GuardPiece → GuardPiece) : (s.setPiece n f).bus = s.bus := rfl
@[simp] theorem State.setPiece_sys (s : State) (n : Nat) (f : GuardPiece → GuardPiece) : (s.setPiece n f).sys = s.sys := rfl
@[simp] theorem State.setPiece_log (s : State) (n : Nat) (f : GuardPiece → GuardPiece) : (s.setPiece n f).log = s.log := rfl
@[simp] theorem State.setPiece_dmc (s : State) (n : Nat) (f : GuardPiece → GuardPiece) : (s.setPiece n f).dmc = s.dmc := rfl
@[simp] theorem State.setPiece_srb (s : State) (n : Nat) (f : GuardPiece → GuardPiece) : (s.setPiece n f).srb = s.srb := rfl
@[simp] theorem State.setPiece_weft (s : State) (n : Nat) (f : GuardPiece → GuardPiece) : (s.setPiece n f).weft = s.weft := rfl
@[simp] theorem State.setPiece_charter (s : State) (n : Nat) (f : GuardPiece → GuardPiece) : (s.setPiece n f).charter = s.charter := rfl
@[simp] theorem State.setPiece_intake (s : State) (n : Nat) (f : GuardPiece → GuardPiece) : (s.setPiece n f).intake = s.intake := rfl
@[simp] theorem State.setPiece_loom (s : State) (n : Nat) (f : GuardPiece → GuardPiece) : (s.setPiece n f).loom = s.loom := rfl
@[simp] theorem State.setPiece_dmg (s : State) (n : Nat) (f : GuardPiece → GuardPiece) : (s.setPiece n f).dmg = s.dmg := rfl
@[simp] theorem State.setPiece_tfs (s : State) (n : Nat) (f : GuardPiece → GuardPiece) : (s.setPiece n f).tfs = s.tfs := rfl
@[simp] theorem State.setPiece_drv (s : State) (n : Nat) (f : GuardPiece → GuardPiece) : (s.setPiece n f).drv = s.drv := rfl
@[simp] theorem State.setPiece_asy (s : State) (n : Nat) (f : GuardPiece → GuardPiece) : (s.setPiece n f).asy = s.asy := rfl
@[simp] theorem State.setPiece_tly (s : State) (n : Nat) (f : GuardPiece → GuardPiece) : (s.setPiece n f).tly = s.tly := rfl
@[simp] theorem State.setPiece_whl (s : State) (n : Nat) (f : GuardPiece → GuardPiece) : (s.setPiece n f).whl = s.whl := rfl
@[simp] theorem State.setPiece_spn (s : State) (n : Nat) (f : GuardPiece → GuardPiece) : (s.setPiece n f).spn = s.spn := rfl
@[simp] theorem State.setPiece_trs (s : State) (n : Nat) (f : GuardPiece → GuardPiece) : (s.setPiece n f).trs = s.trs := rfl
@[simp] theorem State.setPiece_ptr (s : State) (n : Nat) (f : GuardPiece → GuardPiece) : (s.setPiece n f).ptr = s.ptr := rfl
@[simp] theorem State.setPiece_ctr (s : State) (n : Nat) (f : GuardPiece → GuardPiece) : (s.setPiece n f).ctr = s.ctr := rfl
@[simp] theorem State.setPiece_nvm (s : State) (n : Nat) (f : GuardPiece → GuardPiece) : (s.setPiece n f).nvm = s.nvm := rfl
@[simp] theorem State.setPiece_rd (s : State) (n : Nat) (f : GuardPiece → GuardPiece) (g : Fld) : (s.setPiece n f).rd g = s.rd g := rfl
@[simp] theorem State.setPiece_wordAt (s : State) (n : Nat) (f : GuardPiece → GuardPiece) (x : Nat) : (s.setPiece n f).wordAt x = s.wordAt x := rfl
@[simp] theorem State.setPiece_ac (s : State) (n : Nat) (f : GuardPiece → GuardPiece) (g : Fld) : (s.setPiece n f).ac g = s.ac g := rfl
@[simp] theorem State.setPiece_actWordAt (s : State) (n : Nat) (f : GuardPiece → GuardPiece) (x : Nat) : (s.setPiece n f).actWordAt x = s.actWordAt x := rfl
@[simp] theorem State.setPiece_alive (s : State) (n : Nat) (f : GuardPiece → GuardPiece) : (s.setPiece n f).alive = s.alive := rfl
@[simp] theorem State.setPiece_now (s : State) (n : Nat) (f : GuardPiece → GuardPiece) : (s.setPiece n f).now = s.now := rfl

/-! ### setGroup -/

@[simp] theorem State.setGroup_pending (s : State) (n : Nat) (f : DrvGroup → DrvGroup) : (s.setGroup n f).pending = s.pending := rfl
@[simp] theorem State.setGroup_fresh (s : State) (n : Nat) (f : DrvGroup → DrvGroup) : (s.setGroup n f).fresh = s.fresh := rfl
@[simp] theorem State.setGroup_count (s : State) (n : Nat) (f : DrvGroup → DrvGroup) : (s.setGroup n f).count = s.count := rfl
@[simp] theorem State.setGroup_regs (s : State) (n : Nat) (f : DrvGroup → DrvGroup) : (s.setGroup n f).regs = s.regs := rfl
@[simp] theorem State.setGroup_act (s : State) (n : Nat) (f : DrvGroup → DrvGroup) : (s.setGroup n f).act = s.act := rfl
@[simp] theorem State.setGroup_dram (s : State) (n : Nat) (f : DrvGroup → DrvGroup) : (s.setGroup n f).dram = s.dram := rfl
@[simp] theorem State.setGroup_sram (s : State) (n : Nat) (f : DrvGroup → DrvGroup) : (s.setGroup n f).sram = s.sram := rfl
@[simp] theorem State.setGroup_flash (s : State) (n : Nat) (f : DrvGroup → DrvGroup) : (s.setGroup n f).flash = s.flash := rfl
@[simp] theorem State.setGroup_bus (s : State) (n : Nat) (f : DrvGroup → DrvGroup) : (s.setGroup n f).bus = s.bus := rfl
@[simp] theorem State.setGroup_sys (s : State) (n : Nat) (f : DrvGroup → DrvGroup) : (s.setGroup n f).sys = s.sys := rfl
@[simp] theorem State.setGroup_log (s : State) (n : Nat) (f : DrvGroup → DrvGroup) : (s.setGroup n f).log = s.log := rfl
@[simp] theorem State.setGroup_dmc (s : State) (n : Nat) (f : DrvGroup → DrvGroup) : (s.setGroup n f).dmc = s.dmc := rfl
@[simp] theorem State.setGroup_srb (s : State) (n : Nat) (f : DrvGroup → DrvGroup) : (s.setGroup n f).srb = s.srb := rfl
@[simp] theorem State.setGroup_weft (s : State) (n : Nat) (f : DrvGroup → DrvGroup) : (s.setGroup n f).weft = s.weft := rfl
@[simp] theorem State.setGroup_charter (s : State) (n : Nat) (f : DrvGroup → DrvGroup) : (s.setGroup n f).charter = s.charter := rfl
@[simp] theorem State.setGroup_intake (s : State) (n : Nat) (f : DrvGroup → DrvGroup) : (s.setGroup n f).intake = s.intake := rfl
@[simp] theorem State.setGroup_loom (s : State) (n : Nat) (f : DrvGroup → DrvGroup) : (s.setGroup n f).loom = s.loom := rfl
@[simp] theorem State.setGroup_dmg (s : State) (n : Nat) (f : DrvGroup → DrvGroup) : (s.setGroup n f).dmg = s.dmg := rfl
@[simp] theorem State.setGroup_hmk (s : State) (n : Nat) (f : DrvGroup → DrvGroup) : (s.setGroup n f).hmk = s.hmk := rfl
@[simp] theorem State.setGroup_tfs (s : State) (n : Nat) (f : DrvGroup → DrvGroup) : (s.setGroup n f).tfs = s.tfs := rfl
@[simp] theorem State.setGroup_asy (s : State) (n : Nat) (f : DrvGroup → DrvGroup) : (s.setGroup n f).asy = s.asy := rfl
@[simp] theorem State.setGroup_tly (s : State) (n : Nat) (f : DrvGroup → DrvGroup) : (s.setGroup n f).tly = s.tly := rfl
@[simp] theorem State.setGroup_whl (s : State) (n : Nat) (f : DrvGroup → DrvGroup) : (s.setGroup n f).whl = s.whl := rfl
@[simp] theorem State.setGroup_spn (s : State) (n : Nat) (f : DrvGroup → DrvGroup) : (s.setGroup n f).spn = s.spn := rfl
@[simp] theorem State.setGroup_trs (s : State) (n : Nat) (f : DrvGroup → DrvGroup) : (s.setGroup n f).trs = s.trs := rfl
@[simp] theorem State.setGroup_ptr (s : State) (n : Nat) (f : DrvGroup → DrvGroup) : (s.setGroup n f).ptr = s.ptr := rfl
@[simp] theorem State.setGroup_ctr (s : State) (n : Nat) (f : DrvGroup → DrvGroup) : (s.setGroup n f).ctr = s.ctr := rfl
@[simp] theorem State.setGroup_nvm (s : State) (n : Nat) (f : DrvGroup → DrvGroup) : (s.setGroup n f).nvm = s.nvm := rfl
@[simp] theorem State.setGroup_rd (s : State) (n : Nat) (f : DrvGroup → DrvGroup) (g : Fld) : (s.setGroup n f).rd g = s.rd g := rfl
@[simp] theorem State.setGroup_wordAt (s : State) (n : Nat) (f : DrvGroup → DrvGroup) (x : Nat) : (s.setGroup n f).wordAt x = s.wordAt x := rfl
@[simp] theorem State.setGroup_ac (s : State) (n : Nat) (f : DrvGroup → DrvGroup) (g : Fld) : (s.setGroup n f).ac g = s.ac g := rfl
@[simp] theorem State.setGroup_actWordAt (s : State) (n : Nat) (f : DrvGroup → DrvGroup) (x : Nat) : (s.setGroup n f).actWordAt x = s.actWordAt x := rfl
@[simp] theorem State.setGroup_alive (s : State) (n : Nat) (f : DrvGroup → DrvGroup) : (s.setGroup n f).alive = s.alive := rfl
@[simp] theorem State.setGroup_now (s : State) (n : Nat) (f : DrvGroup → DrvGroup) : (s.setGroup n f).now = s.now := rfl

/-! ### updRun -/

@[simp] theorem State.updRun_pending (s : State) (f : AsyRun → AsyRun) : (s.updRun f).pending = s.pending := rfl
@[simp] theorem State.updRun_fresh (s : State) (f : AsyRun → AsyRun) : (s.updRun f).fresh = s.fresh := rfl
@[simp] theorem State.updRun_count (s : State) (f : AsyRun → AsyRun) : (s.updRun f).count = s.count := rfl
@[simp] theorem State.updRun_regs (s : State) (f : AsyRun → AsyRun) : (s.updRun f).regs = s.regs := rfl
@[simp] theorem State.updRun_act (s : State) (f : AsyRun → AsyRun) : (s.updRun f).act = s.act := rfl
@[simp] theorem State.updRun_dram (s : State) (f : AsyRun → AsyRun) : (s.updRun f).dram = s.dram := rfl
@[simp] theorem State.updRun_sram (s : State) (f : AsyRun → AsyRun) : (s.updRun f).sram = s.sram := rfl
@[simp] theorem State.updRun_flash (s : State) (f : AsyRun → AsyRun) : (s.updRun f).flash = s.flash := rfl
@[simp] theorem State.updRun_bus (s : State) (f : AsyRun → AsyRun) : (s.updRun f).bus = s.bus := rfl
@[simp] theorem State.updRun_sys (s : State) (f : AsyRun → AsyRun) : (s.updRun f).sys = s.sys := rfl
@[simp] theorem State.updRun_log (s : State) (f : AsyRun → AsyRun) : (s.updRun f).log = s.log := rfl
@[simp] theorem State.updRun_dmc (s : State) (f : AsyRun → AsyRun) : (s.updRun f).dmc = s.dmc := rfl
@[simp] theorem State.updRun_srb (s : State) (f : AsyRun → AsyRun) : (s.updRun f).srb = s.srb := rfl
@[simp] theorem State.updRun_weft (s : State) (f : AsyRun → AsyRun) : (s.updRun f).weft = s.weft := rfl
@[simp] theorem State.updRun_charter (s : State) (f : AsyRun → AsyRun) : (s.updRun f).charter = s.charter := rfl
@[simp] theorem State.updRun_intake (s : State) (f : AsyRun → AsyRun) : (s.updRun f).intake = s.intake := rfl
@[simp] theorem State.updRun_loom (s : State) (f : AsyRun → AsyRun) : (s.updRun f).loom = s.loom := rfl
@[simp] theorem State.updRun_dmg (s : State) (f : AsyRun → AsyRun) : (s.updRun f).dmg = s.dmg := rfl
@[simp] theorem State.updRun_hmk (s : State) (f : AsyRun → AsyRun) : (s.updRun f).hmk = s.hmk := rfl
@[simp] theorem State.updRun_tfs (s : State) (f : AsyRun → AsyRun) : (s.updRun f).tfs = s.tfs := rfl
@[simp] theorem State.updRun_drv (s : State) (f : AsyRun → AsyRun) : (s.updRun f).drv = s.drv := rfl
@[simp] theorem State.updRun_tly (s : State) (f : AsyRun → AsyRun) : (s.updRun f).tly = s.tly := rfl
@[simp] theorem State.updRun_whl (s : State) (f : AsyRun → AsyRun) : (s.updRun f).whl = s.whl := rfl
@[simp] theorem State.updRun_spn (s : State) (f : AsyRun → AsyRun) : (s.updRun f).spn = s.spn := rfl
@[simp] theorem State.updRun_trs (s : State) (f : AsyRun → AsyRun) : (s.updRun f).trs = s.trs := rfl
@[simp] theorem State.updRun_ptr (s : State) (f : AsyRun → AsyRun) : (s.updRun f).ptr = s.ptr := rfl
@[simp] theorem State.updRun_ctr (s : State) (f : AsyRun → AsyRun) : (s.updRun f).ctr = s.ctr := rfl
@[simp] theorem State.updRun_nvm (s : State) (f : AsyRun → AsyRun) : (s.updRun f).nvm = s.nvm := rfl
@[simp] theorem State.updRun_rd (s : State) (f : AsyRun → AsyRun) (g : Fld) : (s.updRun f).rd g = s.rd g := rfl
@[simp] theorem State.updRun_wordAt (s : State) (f : AsyRun → AsyRun) (x : Nat) : (s.updRun f).wordAt x = s.wordAt x := rfl
@[simp] theorem State.updRun_ac (s : State) (f : AsyRun → AsyRun) (g : Fld) : (s.updRun f).ac g = s.ac g := rfl
@[simp] theorem State.updRun_actWordAt (s : State) (f : AsyRun → AsyRun) (x : Nat) : (s.updRun f).actWordAt x = s.actWordAt x := rfl
@[simp] theorem State.updRun_alive (s : State) (f : AsyRun → AsyRun) : (s.updRun f).alive = s.alive := rfl
@[simp] theorem State.updRun_now (s : State) (f : AsyRun → AsyRun) : (s.updRun f).now = s.now := rfl

/-! ### setUnit -/

@[simp] theorem State.setUnit_pending (s : State) (c u v : Nat) : (s.setUnit c u v).pending = s.pending := rfl
@[simp] theorem State.setUnit_fresh (s : State) (c u v : Nat) : (s.setUnit c u v).fresh = s.fresh := rfl
@[simp] theorem State.setUnit_count (s : State) (c u v : Nat) : (s.setUnit c u v).count = s.count := rfl
@[simp] theorem State.setUnit_regs (s : State) (c u v : Nat) : (s.setUnit c u v).regs = s.regs := rfl
@[simp] theorem State.setUnit_act (s : State) (c u v : Nat) : (s.setUnit c u v).act = s.act := rfl
@[simp] theorem State.setUnit_dram (s : State) (c u v : Nat) : (s.setUnit c u v).dram = s.dram := rfl
@[simp] theorem State.setUnit_sram (s : State) (c u v : Nat) : (s.setUnit c u v).sram = s.sram := rfl
@[simp] theorem State.setUnit_flash (s : State) (c u v : Nat) : (s.setUnit c u v).flash = s.flash := rfl
@[simp] theorem State.setUnit_bus (s : State) (c u v : Nat) : (s.setUnit c u v).bus = s.bus := rfl
@[simp] theorem State.setUnit_sys (s : State) (c u v : Nat) : (s.setUnit c u v).sys = s.sys := rfl
@[simp] theorem State.setUnit_log (s : State) (c u v : Nat) : (s.setUnit c u v).log = s.log := rfl
@[simp] theorem State.setUnit_dmc (s : State) (c u v : Nat) : (s.setUnit c u v).dmc = s.dmc := rfl
@[simp] theorem State.setUnit_srb (s : State) (c u v : Nat) : (s.setUnit c u v).srb = s.srb := rfl
@[simp] theorem State.setUnit_weft (s : State) (c u v : Nat) : (s.setUnit c u v).weft = s.weft := rfl
@[simp] theorem State.setUnit_charter (s : State) (c u v : Nat) : (s.setUnit c u v).charter = s.charter := rfl
@[simp] theorem State.setUnit_intake (s : State) (c u v : Nat) : (s.setUnit c u v).intake = s.intake := rfl
@[simp] theorem State.setUnit_loom (s : State) (c u v : Nat) : (s.setUnit c u v).loom = s.loom := rfl
@[simp] theorem State.setUnit_dmg (s : State) (c u v : Nat) : (s.setUnit c u v).dmg = s.dmg := rfl
@[simp] theorem State.setUnit_hmk (s : State) (c u v : Nat) : (s.setUnit c u v).hmk = s.hmk := rfl
@[simp] theorem State.setUnit_tfs (s : State) (c u v : Nat) : (s.setUnit c u v).tfs = s.tfs := rfl
@[simp] theorem State.setUnit_drv (s : State) (c u v : Nat) : (s.setUnit c u v).drv = s.drv := rfl
@[simp] theorem State.setUnit_asy (s : State) (c u v : Nat) : (s.setUnit c u v).asy = s.asy := rfl
@[simp] theorem State.setUnit_whl (s : State) (c u v : Nat) : (s.setUnit c u v).whl = s.whl := rfl
@[simp] theorem State.setUnit_spn (s : State) (c u v : Nat) : (s.setUnit c u v).spn = s.spn := rfl
@[simp] theorem State.setUnit_trs (s : State) (c u v : Nat) : (s.setUnit c u v).trs = s.trs := rfl
@[simp] theorem State.setUnit_ptr (s : State) (c u v : Nat) : (s.setUnit c u v).ptr = s.ptr := rfl
@[simp] theorem State.setUnit_ctr (s : State) (c u v : Nat) : (s.setUnit c u v).ctr = s.ctr := rfl
@[simp] theorem State.setUnit_nvm (s : State) (c u v : Nat) : (s.setUnit c u v).nvm = s.nvm := rfl
@[simp] theorem State.setUnit_rd (s : State) (c u v : Nat) (g : Fld) : (s.setUnit c u v).rd g = s.rd g := rfl
@[simp] theorem State.setUnit_wordAt (s : State) (c u v : Nat) (x : Nat) : (s.setUnit c u v).wordAt x = s.wordAt x := rfl
@[simp] theorem State.setUnit_ac (s : State) (c u v : Nat) (g : Fld) : (s.setUnit c u v).ac g = s.ac g := rfl
@[simp] theorem State.setUnit_actWordAt (s : State) (c u v : Nat) (x : Nat) : (s.setUnit c u v).actWordAt x = s.actWordAt x := rfl
@[simp] theorem State.setUnit_alive (s : State) (c u v : Nat) : (s.setUnit c u v).alive = s.alive := rfl
@[simp] theorem State.setUnit_now (s : State) (c u v : Nat) : (s.setUnit c u v).now = s.now := rfl

/-! ### setQuery -/

@[simp] theorem State.setQuery_pending (s : State) (p : Nat) (q : QueryRec) : (s.setQuery p q).pending = s.pending := rfl
@[simp] theorem State.setQuery_fresh (s : State) (p : Nat) (q : QueryRec) : (s.setQuery p q).fresh = s.fresh := rfl
@[simp] theorem State.setQuery_count (s : State) (p : Nat) (q : QueryRec) : (s.setQuery p q).count = s.count := rfl
@[simp] theorem State.setQuery_regs (s : State) (p : Nat) (q : QueryRec) : (s.setQuery p q).regs = s.regs := rfl
@[simp] theorem State.setQuery_act (s : State) (p : Nat) (q : QueryRec) : (s.setQuery p q).act = s.act := rfl
@[simp] theorem State.setQuery_dram (s : State) (p : Nat) (q : QueryRec) : (s.setQuery p q).dram = s.dram := rfl
@[simp] theorem State.setQuery_sram (s : State) (p : Nat) (q : QueryRec) : (s.setQuery p q).sram = s.sram := rfl
@[simp] theorem State.setQuery_flash (s : State) (p : Nat) (q : QueryRec) : (s.setQuery p q).flash = s.flash := rfl
@[simp] theorem State.setQuery_bus (s : State) (p : Nat) (q : QueryRec) : (s.setQuery p q).bus = s.bus := rfl
@[simp] theorem State.setQuery_sys (s : State) (p : Nat) (q : QueryRec) : (s.setQuery p q).sys = s.sys := rfl
@[simp] theorem State.setQuery_log (s : State) (p : Nat) (q : QueryRec) : (s.setQuery p q).log = s.log := rfl
@[simp] theorem State.setQuery_dmc (s : State) (p : Nat) (q : QueryRec) : (s.setQuery p q).dmc = s.dmc := rfl
@[simp] theorem State.setQuery_srb (s : State) (p : Nat) (q : QueryRec) : (s.setQuery p q).srb = s.srb := rfl
@[simp] theorem State.setQuery_weft (s : State) (p : Nat) (q : QueryRec) : (s.setQuery p q).weft = s.weft := rfl
@[simp] theorem State.setQuery_charter (s : State) (p : Nat) (q : QueryRec) : (s.setQuery p q).charter = s.charter := rfl
@[simp] theorem State.setQuery_intake (s : State) (p : Nat) (q : QueryRec) : (s.setQuery p q).intake = s.intake := rfl
@[simp] theorem State.setQuery_loom (s : State) (p : Nat) (q : QueryRec) : (s.setQuery p q).loom = s.loom := rfl
@[simp] theorem State.setQuery_dmg (s : State) (p : Nat) (q : QueryRec) : (s.setQuery p q).dmg = s.dmg := rfl
@[simp] theorem State.setQuery_hmk (s : State) (p : Nat) (q : QueryRec) : (s.setQuery p q).hmk = s.hmk := rfl
@[simp] theorem State.setQuery_tfs (s : State) (p : Nat) (q : QueryRec) : (s.setQuery p q).tfs = s.tfs := rfl
@[simp] theorem State.setQuery_drv (s : State) (p : Nat) (q : QueryRec) : (s.setQuery p q).drv = s.drv := rfl
@[simp] theorem State.setQuery_asy (s : State) (p : Nat) (q : QueryRec) : (s.setQuery p q).asy = s.asy := rfl
@[simp] theorem State.setQuery_tly (s : State) (p : Nat) (q : QueryRec) : (s.setQuery p q).tly = s.tly := rfl
@[simp] theorem State.setQuery_whl (s : State) (p : Nat) (q : QueryRec) : (s.setQuery p q).whl = s.whl := rfl
@[simp] theorem State.setQuery_trs (s : State) (p : Nat) (q : QueryRec) : (s.setQuery p q).trs = s.trs := rfl
@[simp] theorem State.setQuery_ptr (s : State) (p : Nat) (q : QueryRec) : (s.setQuery p q).ptr = s.ptr := rfl
@[simp] theorem State.setQuery_ctr (s : State) (p : Nat) (q : QueryRec) : (s.setQuery p q).ctr = s.ctr := rfl
@[simp] theorem State.setQuery_nvm (s : State) (p : Nat) (q : QueryRec) : (s.setQuery p q).nvm = s.nvm := rfl
@[simp] theorem State.setQuery_rd (s : State) (p : Nat) (q : QueryRec) (g : Fld) : (s.setQuery p q).rd g = s.rd g := rfl
@[simp] theorem State.setQuery_wordAt (s : State) (p : Nat) (q : QueryRec) (x : Nat) : (s.setQuery p q).wordAt x = s.wordAt x := rfl
@[simp] theorem State.setQuery_ac (s : State) (p : Nat) (q : QueryRec) (g : Fld) : (s.setQuery p q).ac g = s.ac g := rfl
@[simp] theorem State.setQuery_actWordAt (s : State) (p : Nat) (q : QueryRec) (x : Nat) : (s.setQuery p q).actWordAt x = s.actWordAt x := rfl
@[simp] theorem State.setQuery_alive (s : State) (p : Nat) (q : QueryRec) : (s.setQuery p q).alive = s.alive := rfl
@[simp] theorem State.setQuery_now (s : State) (p : Nat) (q : QueryRec) : (s.setQuery p q).now = s.now := rfl

/-! ### setJournal -/

@[simp] theorem State.setJournal_pending (s : State) (f : Journal → Journal) : (s.setJournal f).pending = s.pending := rfl
@[simp] theorem State.setJournal_fresh (s : State) (f : Journal → Journal) : (s.setJournal f).fresh = s.fresh := rfl
@[simp] theorem State.setJournal_count (s : State) (f : Journal → Journal) : (s.setJournal f).count = s.count := rfl
@[simp] theorem State.setJournal_regs (s : State) (f : Journal → Journal) : (s.setJournal f).regs = s.regs := rfl
@[simp] theorem State.setJournal_act (s : State) (f : Journal → Journal) : (s.setJournal f).act = s.act := rfl
@[simp] theorem State.setJournal_dram (s : State) (f : Journal → Journal) : (s.setJournal f).dram = s.dram := rfl
@[simp] theorem State.setJournal_sram (s : State) (f : Journal → Journal) : (s.setJournal f).sram = s.sram := rfl
@[simp] theorem State.setJournal_flash (s : State) (f : Journal → Journal) : (s.setJournal f).flash = s.flash := rfl
@[simp] theorem State.setJournal_bus (s : State) (f : Journal → Journal) : (s.setJournal f).bus = s.bus := rfl
@[simp] theorem State.setJournal_sys (s : State) (f : Journal → Journal) : (s.setJournal f).sys = s.sys := rfl
@[simp] theorem State.setJournal_log (s : State) (f : Journal → Journal) : (s.setJournal f).log = s.log := rfl
@[simp] theorem State.setJournal_dmc (s : State) (f : Journal → Journal) : (s.setJournal f).dmc = s.dmc := rfl
@[simp] theorem State.setJournal_srb (s : State) (f : Journal → Journal) : (s.setJournal f).srb = s.srb := rfl
@[simp] theorem State.setJournal_weft (s : State) (f : Journal → Journal) : (s.setJournal f).weft = s.weft := rfl
@[simp] theorem State.setJournal_charter (s : State) (f : Journal → Journal) : (s.setJournal f).charter = s.charter := rfl
@[simp] theorem State.setJournal_intake (s : State) (f : Journal → Journal) : (s.setJournal f).intake = s.intake := rfl
@[simp] theorem State.setJournal_loom (s : State) (f : Journal → Journal) : (s.setJournal f).loom = s.loom := rfl
@[simp] theorem State.setJournal_dmg (s : State) (f : Journal → Journal) : (s.setJournal f).dmg = s.dmg := rfl
@[simp] theorem State.setJournal_hmk (s : State) (f : Journal → Journal) : (s.setJournal f).hmk = s.hmk := rfl
@[simp] theorem State.setJournal_tfs (s : State) (f : Journal → Journal) : (s.setJournal f).tfs = s.tfs := rfl
@[simp] theorem State.setJournal_drv (s : State) (f : Journal → Journal) : (s.setJournal f).drv = s.drv := rfl
@[simp] theorem State.setJournal_asy (s : State) (f : Journal → Journal) : (s.setJournal f).asy = s.asy := rfl
@[simp] theorem State.setJournal_tly (s : State) (f : Journal → Journal) : (s.setJournal f).tly = s.tly := rfl
@[simp] theorem State.setJournal_whl (s : State) (f : Journal → Journal) : (s.setJournal f).whl = s.whl := rfl
@[simp] theorem State.setJournal_spn (s : State) (f : Journal → Journal) : (s.setJournal f).spn = s.spn := rfl
@[simp] theorem State.setJournal_trs (s : State) (f : Journal → Journal) : (s.setJournal f).trs = s.trs := rfl
@[simp] theorem State.setJournal_ctr (s : State) (f : Journal → Journal) : (s.setJournal f).ctr = s.ctr := rfl
@[simp] theorem State.setJournal_nvm (s : State) (f : Journal → Journal) : (s.setJournal f).nvm = s.nvm := rfl
@[simp] theorem State.setJournal_rd (s : State) (f : Journal → Journal) (g : Fld) : (s.setJournal f).rd g = s.rd g := rfl
@[simp] theorem State.setJournal_wordAt (s : State) (f : Journal → Journal) (x : Nat) : (s.setJournal f).wordAt x = s.wordAt x := rfl
@[simp] theorem State.setJournal_ac (s : State) (f : Journal → Journal) (g : Fld) : (s.setJournal f).ac g = s.ac g := rfl
@[simp] theorem State.setJournal_actWordAt (s : State) (f : Journal → Journal) (x : Nat) : (s.setJournal f).actWordAt x = s.actWordAt x := rfl
@[simp] theorem State.setJournal_alive (s : State) (f : Journal → Journal) : (s.setJournal f).alive = s.alive := rfl
@[simp] theorem State.setJournal_now (s : State) (f : Journal → Journal) : (s.setJournal f).now = s.now := rfl

/-! ### setOp -/

@[simp] theorem State.setOp_pending (s : State) (op : PorterOp) : (s.setOp op).pending = s.pending := rfl
@[simp] theorem State.setOp_fresh (s : State) (op : PorterOp) : (s.setOp op).fresh = s.fresh := rfl
@[simp] theorem State.setOp_count (s : State) (op : PorterOp) : (s.setOp op).count = s.count := rfl
@[simp] theorem State.setOp_regs (s : State) (op : PorterOp) : (s.setOp op).regs = s.regs := rfl
@[simp] theorem State.setOp_act (s : State) (op : PorterOp) : (s.setOp op).act = s.act := rfl
@[simp] theorem State.setOp_dram (s : State) (op : PorterOp) : (s.setOp op).dram = s.dram := rfl
@[simp] theorem State.setOp_sram (s : State) (op : PorterOp) : (s.setOp op).sram = s.sram := rfl
@[simp] theorem State.setOp_flash (s : State) (op : PorterOp) : (s.setOp op).flash = s.flash := rfl
@[simp] theorem State.setOp_bus (s : State) (op : PorterOp) : (s.setOp op).bus = s.bus := rfl
@[simp] theorem State.setOp_sys (s : State) (op : PorterOp) : (s.setOp op).sys = s.sys := rfl
@[simp] theorem State.setOp_log (s : State) (op : PorterOp) : (s.setOp op).log = s.log := rfl
@[simp] theorem State.setOp_dmc (s : State) (op : PorterOp) : (s.setOp op).dmc = s.dmc := rfl
@[simp] theorem State.setOp_srb (s : State) (op : PorterOp) : (s.setOp op).srb = s.srb := rfl
@[simp] theorem State.setOp_weft (s : State) (op : PorterOp) : (s.setOp op).weft = s.weft := rfl
@[simp] theorem State.setOp_charter (s : State) (op : PorterOp) : (s.setOp op).charter = s.charter := rfl
@[simp] theorem State.setOp_intake (s : State) (op : PorterOp) : (s.setOp op).intake = s.intake := rfl
@[simp] theorem State.setOp_loom (s : State) (op : PorterOp) : (s.setOp op).loom = s.loom := rfl
@[simp] theorem State.setOp_dmg (s : State) (op : PorterOp) : (s.setOp op).dmg = s.dmg := rfl
@[simp] theorem State.setOp_hmk (s : State) (op : PorterOp) : (s.setOp op).hmk = s.hmk := rfl
@[simp] theorem State.setOp_tfs (s : State) (op : PorterOp) : (s.setOp op).tfs = s.tfs := rfl
@[simp] theorem State.setOp_drv (s : State) (op : PorterOp) : (s.setOp op).drv = s.drv := rfl
@[simp] theorem State.setOp_asy (s : State) (op : PorterOp) : (s.setOp op).asy = s.asy := rfl
@[simp] theorem State.setOp_tly (s : State) (op : PorterOp) : (s.setOp op).tly = s.tly := rfl
@[simp] theorem State.setOp_whl (s : State) (op : PorterOp) : (s.setOp op).whl = s.whl := rfl
@[simp] theorem State.setOp_spn (s : State) (op : PorterOp) : (s.setOp op).spn = s.spn := rfl
@[simp] theorem State.setOp_trs (s : State) (op : PorterOp) : (s.setOp op).trs = s.trs := rfl
@[simp] theorem State.setOp_ctr (s : State) (op : PorterOp) : (s.setOp op).ctr = s.ctr := rfl
@[simp] theorem State.setOp_nvm (s : State) (op : PorterOp) : (s.setOp op).nvm = s.nvm := rfl
@[simp] theorem State.setOp_rd (s : State) (op : PorterOp) (g : Fld) : (s.setOp op).rd g = s.rd g := rfl
@[simp] theorem State.setOp_wordAt (s : State) (op : PorterOp) (x : Nat) : (s.setOp op).wordAt x = s.wordAt x := rfl
@[simp] theorem State.setOp_ac (s : State) (op : PorterOp) (g : Fld) : (s.setOp op).ac g = s.ac g := rfl
@[simp] theorem State.setOp_actWordAt (s : State) (op : PorterOp) (x : Nat) : (s.setOp op).actWordAt x = s.actWordAt x := rfl
@[simp] theorem State.setOp_alive (s : State) (op : PorterOp) : (s.setOp op).alive = s.alive := rfl
@[simp] theorem State.setOp_now (s : State) (op : PorterOp) : (s.setOp op).now = s.now := rfl

/-! ### toStep -/

@[simp] theorem State.toStep_pending (s : State) (w : Bool) (n : Nat) : (s.toStep w n).pending = s.pending := rfl
@[simp] theorem State.toStep_fresh (s : State) (w : Bool) (n : Nat) : (s.toStep w n).fresh = s.fresh := rfl
@[simp] theorem State.toStep_count (s : State) (w : Bool) (n : Nat) : (s.toStep w n).count = s.count := rfl
@[simp] theorem State.toStep_regs (s : State) (w : Bool) (n : Nat) : (s.toStep w n).regs = s.regs := rfl
@[simp] theorem State.toStep_act (s : State) (w : Bool) (n : Nat) : (s.toStep w n).act = s.act := rfl
@[simp] theorem State.toStep_dram (s : State) (w : Bool) (n : Nat) : (s.toStep w n).dram = s.dram := rfl
@[simp] theorem State.toStep_sram (s : State) (w : Bool) (n : Nat) : (s.toStep w n).sram = s.sram := rfl
@[simp] theorem State.toStep_flash (s : State) (w : Bool) (n : Nat) : (s.toStep w n).flash = s.flash := rfl
@[simp] theorem State.toStep_bus (s : State) (w : Bool) (n : Nat) : (s.toStep w n).bus = s.bus := rfl
@[simp] theorem State.toStep_log (s : State) (w : Bool) (n : Nat) : (s.toStep w n).log = s.log := rfl
@[simp] theorem State.toStep_dmc (s : State) (w : Bool) (n : Nat) : (s.toStep w n).dmc = s.dmc := rfl
@[simp] theorem State.toStep_srb (s : State) (w : Bool) (n : Nat) : (s.toStep w n).srb = s.srb := rfl
@[simp] theorem State.toStep_weft (s : State) (w : Bool) (n : Nat) : (s.toStep w n).weft = s.weft := rfl
@[simp] theorem State.toStep_charter (s : State) (w : Bool) (n : Nat) : (s.toStep w n).charter = s.charter := rfl
@[simp] theorem State.toStep_intake (s : State) (w : Bool) (n : Nat) : (s.toStep w n).intake = s.intake := rfl
@[simp] theorem State.toStep_loom (s : State) (w : Bool) (n : Nat) : (s.toStep w n).loom = s.loom := rfl
@[simp] theorem State.toStep_dmg (s : State) (w : Bool) (n : Nat) : (s.toStep w n).dmg = s.dmg := rfl
@[simp] theorem State.toStep_hmk (s : State) (w : Bool) (n : Nat) : (s.toStep w n).hmk = s.hmk := rfl
@[simp] theorem State.toStep_tfs (s : State) (w : Bool) (n : Nat) : (s.toStep w n).tfs = s.tfs := rfl
@[simp] theorem State.toStep_drv (s : State) (w : Bool) (n : Nat) : (s.toStep w n).drv = s.drv := rfl
@[simp] theorem State.toStep_asy (s : State) (w : Bool) (n : Nat) : (s.toStep w n).asy = s.asy := rfl
@[simp] theorem State.toStep_tly (s : State) (w : Bool) (n : Nat) : (s.toStep w n).tly = s.tly := rfl
@[simp] theorem State.toStep_whl (s : State) (w : Bool) (n : Nat) : (s.toStep w n).whl = s.whl := rfl
@[simp] theorem State.toStep_spn (s : State) (w : Bool) (n : Nat) : (s.toStep w n).spn = s.spn := rfl
@[simp] theorem State.toStep_trs (s : State) (w : Bool) (n : Nat) : (s.toStep w n).trs = s.trs := rfl
@[simp] theorem State.toStep_ptr (s : State) (w : Bool) (n : Nat) : (s.toStep w n).ptr = s.ptr := rfl
@[simp] theorem State.toStep_ctr (s : State) (w : Bool) (n : Nat) : (s.toStep w n).ctr = s.ctr := rfl
@[simp] theorem State.toStep_nvm (s : State) (w : Bool) (n : Nat) : (s.toStep w n).nvm = s.nvm := rfl
@[simp] theorem State.toStep_rd (s : State) (w : Bool) (n : Nat) (g : Fld) : (s.toStep w n).rd g = s.rd g := rfl
@[simp] theorem State.toStep_wordAt (s : State) (w : Bool) (n : Nat) (x : Nat) : (s.toStep w n).wordAt x = s.wordAt x := rfl
@[simp] theorem State.toStep_ac (s : State) (w : Bool) (n : Nat) (g : Fld) : (s.toStep w n).ac g = s.ac g := rfl
@[simp] theorem State.toStep_actWordAt (s : State) (w : Bool) (n : Nat) (x : Nat) : (s.toStep w n).actWordAt x = s.actWordAt x := rfl
@[simp] theorem State.toStep_now (s : State) (w : Bool) (n : Nat) : (s.toStep w n).now = s.now := rfl

/-! ### setDump -/

@[simp] theorem State.setDump_pending (s : State) (n : Nat) : (s.setDump n).pending = s.pending := rfl
@[simp] theorem State.setDump_fresh (s : State) (n : Nat) : (s.setDump n).fresh = s.fresh := rfl
@[simp] theorem State.setDump_count (s : State) (n : Nat) : (s.setDump n).count = s.count := rfl
@[simp] theorem State.setDump_regs (s : State) (n : Nat) : (s.setDump n).regs = s.regs := rfl
@[simp] theorem State.setDump_act (s : State) (n : Nat) : (s.setDump n).act = s.act := rfl
@[simp] theorem State.setDump_dram (s : State) (n : Nat) : (s.setDump n).dram = s.dram := rfl
@[simp] theorem State.setDump_sram (s : State) (n : Nat) : (s.setDump n).sram = s.sram := rfl
@[simp] theorem State.setDump_flash (s : State) (n : Nat) : (s.setDump n).flash = s.flash := rfl
@[simp] theorem State.setDump_bus (s : State) (n : Nat) : (s.setDump n).bus = s.bus := rfl
@[simp] theorem State.setDump_log (s : State) (n : Nat) : (s.setDump n).log = s.log := rfl
@[simp] theorem State.setDump_dmc (s : State) (n : Nat) : (s.setDump n).dmc = s.dmc := rfl
@[simp] theorem State.setDump_srb (s : State) (n : Nat) : (s.setDump n).srb = s.srb := rfl
@[simp] theorem State.setDump_weft (s : State) (n : Nat) : (s.setDump n).weft = s.weft := rfl
@[simp] theorem State.setDump_charter (s : State) (n : Nat) : (s.setDump n).charter = s.charter := rfl
@[simp] theorem State.setDump_intake (s : State) (n : Nat) : (s.setDump n).intake = s.intake := rfl
@[simp] theorem State.setDump_loom (s : State) (n : Nat) : (s.setDump n).loom = s.loom := rfl
@[simp] theorem State.setDump_dmg (s : State) (n : Nat) : (s.setDump n).dmg = s.dmg := rfl
@[simp] theorem State.setDump_hmk (s : State) (n : Nat) : (s.setDump n).hmk = s.hmk := rfl
@[simp] theorem State.setDump_tfs (s : State) (n : Nat) : (s.setDump n).tfs = s.tfs := rfl
@[simp] theorem State.setDump_drv (s : State) (n : Nat) : (s.setDump n).drv = s.drv := rfl
@[simp] theorem State.setDump_asy (s : State) (n : Nat) : (s.setDump n).asy = s.asy := rfl
@[simp] theorem State.setDump_tly (s : State) (n : Nat) : (s.setDump n).tly = s.tly := rfl
@[simp] theorem State.setDump_whl (s : State) (n : Nat) : (s.setDump n).whl = s.whl := rfl
@[simp] theorem State.setDump_spn (s : State) (n : Nat) : (s.setDump n).spn = s.spn := rfl
@[simp] theorem State.setDump_trs (s : State) (n : Nat) : (s.setDump n).trs = s.trs := rfl
@[simp] theorem State.setDump_ptr (s : State) (n : Nat) : (s.setDump n).ptr = s.ptr := rfl
@[simp] theorem State.setDump_ctr (s : State) (n : Nat) : (s.setDump n).ctr = s.ctr := rfl
@[simp] theorem State.setDump_nvm (s : State) (n : Nat) : (s.setDump n).nvm = s.nvm := rfl
@[simp] theorem State.setDump_rd (s : State) (n : Nat) (g : Fld) : (s.setDump n).rd g = s.rd g := rfl
@[simp] theorem State.setDump_wordAt (s : State) (n : Nat) (x : Nat) : (s.setDump n).wordAt x = s.wordAt x := rfl
@[simp] theorem State.setDump_ac (s : State) (n : Nat) (g : Fld) : (s.setDump n).ac g = s.ac g := rfl
@[simp] theorem State.setDump_actWordAt (s : State) (n : Nat) (x : Nat) : (s.setDump n).actWordAt x = s.actWordAt x := rfl
@[simp] theorem State.setDump_now (s : State) (n : Nat) : (s.setDump n).now = s.now := rfl

end Sys2Proof.Machine
end

