-- ==== Sys2Proof/Laws/Memory.lean ====
section
/-! SUPPORT. The cell lists that hold DRAM, SRAM and flash: reading after writing, and that every operation keeps the canonical form. -/

namespace Sys2Proof.Machine

/-! ### Reading -/

theorem Cells.find_drop_self (l : List Host.Cell) (a : Nat) (h : Cells.sorted l = true) : Tab.find (Cells.drop l a) a = none := by
  induction l with
  | nil => rfl
  | cons e t ih =>
    obtain ⟨k, w⟩ := e
    have ht : Cells.sorted t = true := by
      cases t with
      | nil => rfl
      | cons f t => obtain ⟨b, x⟩ := f; simp [Cells.sorted] at h; exact h.2
    have below : ∀ b, b ≤ k → Tab.find t b = none := by
      clear ih
      intro b hb
      induction t generalizing k w with
      | nil => rfl
      | cons f t ih2 =>
        obtain ⟨c, x⟩ := f
        simp [Cells.sorted] at h
        have ht2 : Cells.sorted t = true := by
          cases t with
          | nil => rfl
          | cons g t => obtain ⟨d, y⟩ := g; simp [Cells.sorted] at ht; exact ht.2
        have hc : c ≠ b := by omega
        simp only [Tab.find, hc, if_false]
        exact ih2 c x ht ht2 (by omega)
    unfold Cells.drop
    split
    · next e => subst e; exact below _ (Nat.le_refl _)
    · split
      · next h1 h2 => simp [Tab.find, Ne.symm h1, below a (by omega)]
      · next h1 h2 => simp [Tab.find, Ne.symm h1, ih ht]

theorem Cells.find_drop_ne (l : List Host.Cell) {a b : Nat} (h : a ≠ b) : Tab.find (Cells.drop l a) b = Tab.find l b := by
  induction l with
  | nil => rfl
  | cons e t ih =>
    obtain ⟨k, w⟩ := e
    unfold Cells.drop
    split
    · next e => subst e; simp [Tab.find, h]
    · split
      · rfl
      · simp [Tab.find, ih]

/-- A byte that was stored reads back. -/
theorem Cells.get_put_self (d : Byte) (l : List Host.Cell) (a : Nat) (b : Byte) (h : Cells.sorted l = true) : Cells.get d (Cells.put d l a b) a = b := by
  unfold Cells.put Cells.get
  split
  · next e => rw [Cells.find_drop_self l a h]; simp [e]
  · simp

/-- Storing a byte leaves every other one. -/
theorem Cells.get_put_ne (d : Byte) (l : List Host.Cell) {a x : Nat} (b : Byte) (h : a ≠ x) : Cells.get d (Cells.put d l a b) x = Cells.get d l x := by
  unfold Cells.put Cells.get
  split
  · rw [Cells.find_drop_ne l h]
  · rw [Tab.find_put_ne l b h]

/-- Storing bytes leaves every byte outside them. -/
theorem Cells.get_write_out (d : Byte) (bs : Bytes) (l : List Host.Cell) (a x : Nat) (h : x < a ∨ a + bs.length ≤ x) :
    Cells.get d (Cells.write d l a bs) x = Cells.get d l x := by
  induction bs generalizing l a with
  | nil => rfl
  | cons b t ih =>
    simp only [List.length_cons] at h
    rw [Cells.write, ih _ _ (by omega), Cells.get_put_ne d l b (by omega)]

/-! ### The canonical form -/

theorem Cells.sorted_tail {e : Host.Cell} {t : List Host.Cell} (h : Cells.sorted (e :: t) = true) : Cells.sorted t = true := by
  cases t with
  | nil => rfl
  | cons f t => obtain ⟨a, x⟩ := e; obtain ⟨b, y⟩ := f; simp [Cells.sorted] at h; exact h.2

/-- An entry may lead a sorted list where it lies below its first address. -/
def Cells.leads (a : Nat) : List Host.Cell → Prop
  | [] => True
  | (k, _) :: _ => a < k

theorem Cells.sorted_cons {a : Nat} {w : Byte} {t : List Host.Cell} (h : Cells.sorted t = true) (hl : Cells.leads a t) : Cells.sorted ((a, w) :: t) = true := by
  cases t with
  | nil => rfl
  | cons f t => obtain ⟨b, y⟩ := f; simp [Cells.sorted, h]; exact hl

theorem Cells.leads_of_sorted {a : Nat} {w : Byte} {t : List Host.Cell} (h : Cells.sorted ((a, w) :: t) = true) : Cells.leads a t := by
  cases t with
  | nil => trivial
  | cons f t => obtain ⟨b, y⟩ := f; simp [Cells.sorted] at h; exact h.1

theorem Cells.leads_put {k a : Nat} (t : List Host.Cell) (b : Byte) (h : Cells.leads k t) (ha : k < a) : Cells.leads k (Tab.put t a b) := by
  cases t with
  | nil => exact ha
  | cons e t =>
    obtain ⟨c, w⟩ := e
    unfold Tab.put
    split
    · exact ha
    · split
      · exact ha
      · exact h

theorem Cells.sorted_put (l : List Host.Cell) (a : Nat) (b : Byte) (h : Cells.sorted l = true) : Cells.sorted (Tab.put l a b) = true := by
  induction l with
  | nil => rfl
  | cons e t ih =>
    obtain ⟨k, w⟩ := e
    unfold Tab.put
    split
    · next h1 => exact Cells.sorted_cons h h1
    · split
      · next h1 h2 => subst h2; exact Cells.sorted_cons (Cells.sorted_tail h) (Cells.leads_of_sorted h)
      · next h1 h2 =>
        exact Cells.sorted_cons (ih (Cells.sorted_tail h)) (Cells.leads_put t b (Cells.leads_of_sorted h) (by omega))

theorem Cells.leads_drop {k : Nat} (t : List Host.Cell) (a : Nat) (hs : Cells.sorted t = true) (h : Cells.leads k t) : Cells.leads k (Cells.drop t a) := by
  cases t with
  | nil => trivial
  | cons e t =>
    obtain ⟨c, w⟩ := e
    have hc : k < c := h
    unfold Cells.drop
    split
    · cases t with
      | nil => trivial
      | cons f t => obtain ⟨d, y⟩ := f; simp [Cells.sorted] at hs; exact Nat.lt_trans hc hs.1
    · split
      · exact hc
      · exact hc

theorem Cells.sorted_drop (l : List Host.Cell) (a : Nat) (h : Cells.sorted l = true) : Cells.sorted (Cells.drop l a) = true := by
  induction l with
  | nil => rfl
  | cons e t ih =>
    obtain ⟨k, w⟩ := e
    unfold Cells.drop
    split
    · exact Cells.sorted_tail h
    · split
      · exact h
      · exact Cells.sorted_cons (ih (Cells.sorted_tail h)) (Cells.leads_drop t a (Cells.sorted_tail h) (Cells.leads_of_sorted h))

theorem Cells.mem_put {l : List Host.Cell} {a : Nat} {b : Byte} {c : Host.Cell} (h : c ∈ Tab.put l a b) : c = (a, b) ∨ c ∈ l := by
  induction l with
  | nil => simpa [Tab.put] using h
  | cons e t ih =>
    obtain ⟨k, w⟩ := e
    unfold Tab.put at h
    split at h
    · simpa using h
    · split at h
      · rcases List.mem_cons.mp h with h | h
        · exact Or.inl h
        · exact Or.inr (List.mem_cons_of_mem _ h)
      · rcases List.mem_cons.mp h with h | h
        · exact Or.inr (by simp [h])
        · rcases ih h with h | h
          · exact Or.inl h
          · exact Or.inr (List.mem_cons_of_mem _ h)

theorem Cells.mem_drop {l : List Host.Cell} {a : Nat} {c : Host.Cell} (h : c ∈ Cells.drop l a) : c ∈ l := by
  induction l with
  | nil => exact h
  | cons e t ih =>
    obtain ⟨k, w⟩ := e
    unfold Cells.drop at h
    split at h
    · exact List.mem_cons_of_mem _ h
    · split at h
      · exact h
      · rcases List.mem_cons.mp h with h | h
        · simp [h]
        · exact List.mem_cons_of_mem _ (ih h)

theorem Cells.put_wf (d : Byte) (l : List Host.Cell) (a : Nat) (b : Byte) (h : Cells.wf d l = true) : Cells.wf d (Cells.put d l a b) = true := by
  simp only [Cells.wf, Bool.and_eq_true, List.all_eq_true] at h ⊢
  unfold Cells.put
  split
  · exact ⟨Cells.sorted_drop l a h.1, fun c hc => h.2 c (Cells.mem_drop hc)⟩
  · next hb =>
    refine ⟨Cells.sorted_put l a b h.1, fun c hc => ?_⟩
    rcases Cells.mem_put hc with e | e
    · subst e; simpa using hb
    · exact h.2 c e

theorem Cells.write_wf (d : Byte) (bs : Bytes) (l : List Host.Cell) (a : Nat) (h : Cells.wf d l = true) : Cells.wf d (Cells.write d l a bs) = true := by
  induction bs generalizing l a with
  | nil => exact h
  | cons b t ih => exact ih _ _ (Cells.put_wf d l a b h)

theorem Cells.leads_filter {k : Nat} {p : Host.Cell → Bool} (t : List Host.Cell) (hs : Cells.sorted t = true) (h : Cells.leads k t) :
    Cells.leads k (t.filter p) := by
  induction t with
  | nil => trivial
  | cons e t ih =>
    obtain ⟨c, w⟩ := e
    rw [List.filter_cons]
    split
    · exact h
    · apply ih (Cells.sorted_tail hs)
      have h1 : Cells.leads c t := Cells.leads_of_sorted hs
      cases t with
      | nil => trivial
      | cons f t => obtain ⟨d, y⟩ := f; exact Nat.lt_trans (show k < c from h) h1

theorem Cells.sorted_filter (p : Host.Cell → Bool) (l : List Host.Cell) (h : Cells.sorted l = true) : Cells.sorted (l.filter p) = true := by
  induction l with
  | nil => rfl
  | cons e t ih =>
    obtain ⟨k, w⟩ := e
    rw [List.filter_cons]
    split
    · exact Cells.sorted_cons (ih (Cells.sorted_tail h)) (Cells.leads_filter t (Cells.sorted_tail h) (Cells.leads_of_sorted h))
    · exact ih (Cells.sorted_tail h)

theorem Cells.erase_wf (d : Byte) (l : List Host.Cell) (lo hi : Nat) (h : Cells.wf d l = true) : Cells.wf d (Cells.erase l lo hi) = true := by
  simp only [Cells.wf, Bool.and_eq_true, List.all_eq_true] at h ⊢
  exact ⟨Cells.sorted_filter _ l h.1, fun c hc => h.2 c (List.mem_filter.mp hc).1⟩

/-- A byte that was written reads back. -/
theorem Cells.get_write_in (d : Byte) (bs : Bytes) (l : List Host.Cell) (a i : Nat) (hs : Cells.wf d l = true) (h : i < bs.length) :
    Cells.get d (Cells.write d l a bs) (a + i) = bs.getD i 0 := by
  induction bs generalizing l a i with
  | nil => simp at h
  | cons b t ih =>
    rw [Cells.write]
    cases i with
    | zero =>
      rw [Cells.get_write_out d t _ _ _ (Or.inl (by omega))]
      simpa using Cells.get_put_self d l a b (by simp only [Cells.wf, Bool.and_eq_true] at hs; exact hs.1)
    | succ i =>
      have := ih (Cells.put d l a b) (a + 1) i (Cells.put_wf d l a b hs) (by simpa using h)
      rw [show a + (i + 1) = a + 1 + i by omega, this]
      simp

/-! ### Every memory operation keeps the canonical form -/

theorem Memory.wf_iff (s : State) : Memory.wf s = true ↔ Cells.wf 0 s.dram = true ∧ Cells.wf 0 s.sram = true ∧ Cells.wf 0xFF s.flash = true := by
  simp [Memory.wf, Bool.and_eq_true, and_assoc]

/-- A state with the same memories has the same form. -/
theorem Memory.wf_same {s t : State} (hd : t.dram = s.dram) (hr : t.sram = s.sram) (hf : t.flash = s.flash) : Memory.wf t = Memory.wf s := by
  simp [Memory.wf, hd, hr, hf]

theorem Memory.wf_dramWrite (s : State) (a : Nat) (bs : Bytes) (h : Memory.wf s = true) : Memory.wf (s.dramWrite a bs) = true := by
  rw [Memory.wf_iff] at h ⊢; exact ⟨Cells.write_wf _ _ _ _ h.1, h.2.1, h.2.2⟩

theorem Memory.wf_sramWrite (s : State) (b o : Nat) (bs : Bytes) (h : Memory.wf s = true) : Memory.wf (s.sramWrite b o bs) = true := by
  rw [Memory.wf_iff] at h ⊢; exact ⟨h.1, Cells.write_wf _ _ _ _ h.2.1, h.2.2⟩

theorem Memory.wf_sramClear (s : State) (b : Nat) (h : Memory.wf s = true) : Memory.wf (s.sramClear b) = true := by
  rw [Memory.wf_iff] at h ⊢; exact ⟨h.1, Cells.erase_wf _ _ _ _ h.2.1, h.2.2⟩

theorem Memory.wf_flashWrite (s : State) (a : Nat) (bs : Bytes) (h : Memory.wf s = true) : Memory.wf (s.flashWrite a bs) = true := by
  rw [Memory.wf_iff] at h ⊢; exact ⟨h.1, h.2.1, Cells.write_wf _ _ _ _ h.2.2⟩

theorem Memory.wf_flashErase (s : State) (a n : Nat) (h : Memory.wf s = true) : Memory.wf (s.flashErase a n) = true := by
  rw [Memory.wf_iff] at h ⊢; exact ⟨h.1, h.2.1, Cells.erase_wf _ _ _ _ h.2.2⟩

end Sys2Proof.Machine
end

