-- ==== Sys2Proof/Laws/Regs.lean ====
section
/-! SUPPORT. Reading a register field after writing one, and what raising an event record can change. -/

namespace Sys2Proof.Machine

/-! ### Fields -/

/-- A field reads what was written, cut to its width. -/
theorem State.rd_wr_self (s : State) (f : Fld) (v : Nat) (h : f.lo + f.width ≤ 32) : (s.wr f v).rd f = v % 2 ^ f.width := by
  simp only [State.rd, State.word, State.wr, Tab.find_put_self, Option.getD_some]
  exact getBits_setBits_self _ _ _ _ h

/-- A write leaves every field of another register. -/
theorem State.rd_wr_ne (s : State) (f g : Fld) (v : Nat) (h : f.addr ≠ g.addr) : (s.wr f v).rd g = s.rd g := by
  simp only [State.rd, State.word, State.wr, Tab.find_put_ne _ _ h]

/-- A write leaves the other fields of its register. -/
theorem State.rd_wr_other (s : State) (f g : Fld) (v : Nat) (ha : f.addr = g.addr) (hr : f.rst = g.rst)
    (h : f.lo + f.width ≤ g.lo ∨ g.lo + g.width ≤ f.lo) : (s.wr f v).rd g = s.rd g := by
  simp only [State.rd, State.word, State.wr, ← ha, Tab.find_put_self, Option.getD_some, ← hr]
  exact getBits_setBits_other _ _ _ _ _ _ h

/-- A write leaves the word at every other address. -/
theorem State.wordAt_wr_ne (s : State) (f : Fld) (v a : Nat) (h : f.addr ≠ a) : (s.wr f v).wordAt a = s.wordAt a := by
  simp only [State.wordAt, State.wr, Tab.find_put_ne _ _ h]

/-- A field's value fits its width. -/
theorem State.rd_lt (s : State) (f : Fld) : s.rd f < 2 ^ f.width := getBits_lt _ _ _

/-- A saturating counter after counting. -/
theorem State.rd_bumpBy_self (s : State) (f : Fld) (k : Nat) (h : f.lo + f.width ≤ 32) :
    (s.bumpBy f k).rd f = min (s.rd f + k) (2 ^ f.width - 1) := by
  rw [State.bumpBy, State.rd_wr_self s f _ h, Nat.mod_eq_of_lt]
  have := Nat.two_pow_pos f.width
  omega

theorem State.rd_bump_self (s : State) (f : Fld) (h : f.lo + f.width ≤ 32) : (s.bump f).rd f = min (s.rd f + 1) (2 ^ f.width - 1) :=
  s.rd_bumpBy_self f 1 h

theorem State.rd_bump_ne (s : State) (f g : Fld) (h : f.addr ≠ g.addr) : (s.bump f).rd g = s.rd g := s.rd_wr_ne f g _ h

/-- Steps over a list keep what each of them keeps. -/
theorem State.forAll_keeps {α : Type} (P : State → Prop) (f : State → α → State) (l : List α) (s : State) (h : P s)
    (hf : ∀ t x, x ∈ l → P t → P (f t x)) : P (s.forAll l f) := by
  induction l generalizing s with
  | nil => exact h
  | cons x l ih =>
    exact ih (f s x) (hf s x (by simp) h) fun t y hy ht => hf t y (by simp [hy]) ht

/-! ### Event records -/

/-- Raising a record changes the log, the SYS_ALERT register and the FAULT_N pin, and nothing else. -/
theorem State.raise_only (s : State) (src code arg : Nat) : ∃ l r b,
    s.raise src code arg = { s with log := l, regs := r, sys := { s.sys with faultLow := b } } ∧
    ∀ a, a ≠ RegAddr.SYS_ALERT → Tab.find r a = Tab.find s.regs a := by
  unfold State.raise
  split <;> split
  · exact ⟨_, _, _, rfl, fun a h => Tab.find_put_ne _ _ (Ne.symm h)⟩
  · exact ⟨_, _, s.sys.faultLow, rfl, fun a h => Tab.find_put_ne _ _ (Ne.symm h)⟩
  · exact ⟨_, _, _, rfl, fun _ _ => rfl⟩
  · exact ⟨_, _, s.sys.faultLow, rfl, fun _ _ => rfl⟩

/-- Raising a record leaves every register but SYS_ALERT. -/
theorem State.raise_rd (s : State) (src code arg : Nat) (g : Fld) (h : g.addr ≠ RegAddr.SYS_ALERT) : (s.raise src code arg).rd g = s.rd g := by
  obtain ⟨l, r, b, e, k⟩ := s.raise_only src code arg
  rw [e]; simp only [State.rd, State.word, k g.addr h]

/-- Raising a record leaves the parts of State that it does not name. -/
theorem State.raise_frame (s : State) (src code arg : Nat) : (s.raise src code arg).dram = s.dram ∧ (s.raise src code arg).sram = s.sram ∧
    (s.raise src code arg).flash = s.flash ∧ (s.raise src code arg).act = s.act ∧ (s.raise src code arg).pending = s.pending ∧
    (s.raise src code arg).count = s.count ∧ (s.raise src code arg).weft = s.weft ∧ (s.raise src code arg).trs = s.trs ∧
    (s.raise src code arg).spn = s.spn ∧ (s.raise src code arg).ptr = s.ptr := by
  obtain ⟨l, r, b, e, _⟩ := s.raise_only src code arg
  rw [e]; simp

/-- The record of a source with room waits at the end of the queue. -/
theorem State.raise_queue (s : State) (src code arg : Nat) (h : (s.log.queue.filter fun r => r.src == src).length < 16) :
    (s.raise src code arg).log.queue = s.log.queue ++ [s.eventRec src code arg] := by
  unfold State.raise
  have q : (s.queueEvent src code arg).log.queue = s.log.queue ++ [s.eventRec src code arg] := by simp [State.queueEvent, h]
  split <;> split <;> simp [q]

end Sys2Proof.Machine
end

