-- ==== Sys2Proof/Machine/Pins.lean ====
section
/-! DEFINITION. The levels of the output balls (R16, R17, R70, R74, R79, R258, R304, R318, R319, R332, R475, R476, R491): each is what the state makes of it. -/

namespace Sys2Proof.Machine

/-- What a ball carries: driven low or high, high impedance without a pull, with the 50 kΩ pull-down of R491, or a train of edges. -/
inductive Level where
  | low
  | high
  | floating
  | pulledDown
  | running
deriving DecidableEq, Repr

def Level.ofBool (b : Bool) : Level := if b then .high else .low

/-- Every LVCMOS output is high impedance (R74, R491): while RESET_N is low, without power, and until the end of C1. -/
def State.outputsFloat (s : State) : Bool := !s.alive || s.sys.step == some (false, 1)

/-- A level that a ball has once the outputs are driven. -/
def State.driven (s : State) (l : Level) : Level := if s.outputsFloat then .pulledDown else l

/-! ### Driver groups -/

/-- A group's signals are in use (R16, R304): at a Tile, in a group whose ENABLE is 1. -/
def State.groupDrives (s : State) (n : Nat) : Bool := s.isTile && s.groupOn n

/-- The row slot of the cycle under way, and whether its blanking is over (R319); none in the tail, and in a probe gap. -/
def State.rowPhase (s : State) (n : Nat) : Option (Nat × Bool) :=
  let c := s.refreshCfg n
  let g := s.group n
  let t := 6 * (s.now - g.cycleAt)
  let period := 5 * c.gdiv
  let r := t / max ((c.slot + c.blank) * period) 1
  if g.gap || g.cycle == 0 || decide (c.scan ≤ r) then none else some (r, decide (c.blank * period ≤ t % max ((c.slot + c.blank) * period) 1))

/-- The group shows rows at all: after first light, and while it is not dark (R70, R318). -/
def State.showsRows (s : State) (n : Nat) : Bool := s.groupDrives n && s.sys.firstLight && !s.flag (Reg.DRV_GRP_STAT_DARK n)

/-- DG<n>_DATA, DCLK and LE: driven low in a group that is not in use (R16, R304); in one that is, they carry the transfers and commands of R311 to R326. -/
def State.shiftPins (s : State) (n : Nat) : Level := s.driven (if s.groupDrives n then .running else .low)

/-- DG<n>_ROWEN is active: in a row slot after its blanking (R319). -/
def State.rowEnabled (s : State) (n : Nat) : Bool := s.showsRows n && (s.rowPhase n).any (·.2)

/-- DG<n>_ROWEN (R16, R70, R304, R318): driven low in a Sender; at a Tile its inactive level is that of ROWEN_POL. -/
def State.rowenPin (s : State) (n : Nat) : Level :=
  s.driven (if s.isTile then Level.ofBool (s.rowEnabled n != (s.cfg (4 + n) (Reg.DRV_GRP_CFG_ROWEN_POL n) == 1)) else .low)

/-- DG<n>_GCLK (R70, R304, R318, R319): pulses in a row slot after its blanking, low otherwise. -/
def State.gclkPin (s : State) (n : Nat) : Level := s.driven (if s.rowEnabled n then .running else .low)

/-- DG<n>_ROWA (R304, R319): the row of the slot under way, or the row that the last one left; low in a group that is not in use. -/
def State.rowaPins (s : State) (n : Nat) : Nat :=
  if !s.groupDrives n then 0
  else match s.rowPhase n with
    | some (r, _) => if s.showsRows n then r else (s.group n).rowa
    | none => (s.group n).rowa

/-- The level of one ball of DG<n>_ROWA. -/
def State.rowaPin (s : State) (n i : Nat) : Level := s.driven (Level.ofBool ((s.rowaPins n).testBit i))

/-- The code whose voltage CREF_OUT[n] gives (R332); none while the output is high impedance (R16, R74). -/
def State.crefOut (s : State) (n : Nat) : Option Nat := if s.isTile && !s.outputsFloat then some (s.rd (Reg.DRV_GRP_STAT_CREF_NOW n)) else none

/-! ### Other balls -/

/-- DP<n>_HPD (R17, R79). -/
def State.hpdPin (s : State) (p : Nat) : Level := s.driven (Level.ofBool (s.isSender && (s.ip p).hpd))

/-- ALERT_N and FAULT_N are open drain, and float in reset (R74, R475, R476, R491). -/
def State.alertPin (s : State) : Level := if !s.outputsFloat && s.alertLow then .low else .floating
def State.faultPinLevel (s : State) : Level := if !s.outputsFloat && s.sys.faultLow then .low else .floating

/-- WSYNC_OUT (R258). -/
def State.wsyncPin (s : State) : Level := s.driven (Level.ofBool s.wsyncOut)

end Sys2Proof.Machine
end

