-- ==== Sys2Proof/WellFormed.lean ====
section
/-! DEFINITION. Which commands are well formed: the data that comes with a command has the shape that the interface it stands for can carry. The
machine gives a meaning to every command, well formed or not. -/

namespace Sys2Proof

/-- Lists of a lane result have one entry for each of the four lanes, and a lane tries eight presets at most (R233, R238). -/
def LaneResult.wf (r : LaneResult) : Bool := [r.fom.length, r.ctle.length, r.dfe.length].all (· == 4) && r.fom.all fun l => decide (l.length ≤ 8)

/-- An SRAM access has 1 to 8 bytes (R378). -/
def SramAccess.wf (a : SramAccess) : Bool :=
  let n := match a.write with
    | some bs => bs.length
    | none => a.size
  decide (1 ≤ n) && decide (n ≤ 8)

/-- The rows of a source frame have one length (R85). -/
def SourceFrame.wf (f : SourceFrame) : Bool := f.rows.all fun r => r.length == (f.rows.headD []).length

/-- A link training gives one figure of merit for each lane, four at most (R81). -/
def DpTraining.wf (t : DpTraining) : Bool := decide (t.fom.length ≤ 4)

/-- A step of an Assay run measures eight outputs and eight groups at most (R346, R347). -/
def AsyMeasure.wf (m : AsyMeasure) : Bool := decide (m.singles.length ≤ 8) && decide (m.sweeps.length ≤ 8) && decide (m.duty.length ≤ 8)

/-- A start reads at most sixteen sensors (R293). -/
def StartIn.wf (x : StartIn) : Bool := decide (x.sensors.length ≤ 16)

/-- A packet on a link has at most 2,336 body bytes and cannot carry more than its header counts (R209, R212). -/
def Arrival.wf (a : Arrival) : Bool := decide (a.pkt.body.length ≤ 65535)

/-- An access of firmware to a register has 1 to 8 bytes (R10). -/
def accessWf (size : BitVec 4) : Bool := decide (1 ≤ size.toNat) && decide (size.toNat ≤ 8)

/-- Well-formed commands. -/
def Instr.wf : Instr → Bool
  | .trainingTimeout _ r => r.wf
  | .trainingPhaseEnd _ r => r.wf
  | .testYield x => x.cycle.owner.all SramAccess.wf && x.cycle.shared.all fun y => y.2.wf
  | .sourceFrameStart _ f => f.wf
  | .dpLinkTraining _ t => t.wf
  | .assayStepEnd m => m.wf
  | .sensorScan rs => decide (rs.length ≤ 16)
  | .coldStart x => x.wf
  | .warmStart x => x.wf
  | .startStepEnd x => x.wf
  | .packetForward _ a => a.wf
  | .registerWrite _ n _ => accessWf n
  | .registerRead _ n => accessWf n
  | _ => true

end Sys2Proof
end

