-- ==== Sys2Proof/Tests/Slice0.lean ====
section
/-! SUPPORT. The model's own tests: ill-formed commands that the check refuses, and for every statement of
Sys2Proof/Certificates/Slice0/Obligations.lean that has hypotheses a state and operands that meet them, clause by clause. -/

namespace Sys2Proof.Tests

set_option Elab.async false
open Sys2Proof.Machine

/-! ### Ill-formed commands -/

/-- A start with nothing amiss. -/
def start : StartIn := ⟨1, false, false, [], none, 300, [], false, false, false, false, []⟩

/-- A lane result with one figure for each lane. -/
def lanes : LaneResult := ⟨15, 15, true, [[0], [0], [0], [0]], [0, 0, 0, 0], [0, 0, 0, 0]⟩

/-- Measurements of nothing. -/
def measure : AsyMeasure := ⟨0, [], [], [], true⟩

/-- A packet of nothing. -/
def emptyPkt : Packet := ⟨0, 0, 0, 0, 0, 0, 0, 0, 0, 0, [], 0, 0⟩

theorem test_wf_refuses_three_lanes :
    Instr.wf (.trainingPhaseEnd 0 { lanes with fom := [[0], [0], [0]] }) = false ∧ Instr.wf (.trainingTimeout 0 { lanes with ctle := [] }) = false ∧
    Instr.wf (.trainingPhaseEnd 0 lanes) = true := by decide

theorem test_wf_refuses_access_of_nine_bytes :
    Instr.wf (.testYield ⟨0, ⟨some ⟨0, 9, none⟩, []⟩⟩) = false ∧ Instr.wf (.testYield ⟨0, ⟨none, [(.cores, ⟨0, 8, some []⟩)]⟩⟩) = false ∧
    Instr.wf (.testYield ⟨0, ⟨some ⟨0, 8, none⟩, []⟩⟩) = true := by decide

theorem test_wf_refuses_ragged_frame :
    Instr.wf (.sourceFrameStart 0 ⟨[[(0, 0, 0)], []], 0⟩) = false ∧ Instr.wf (.sourceFrameStart 0 ⟨[[(0, 0, 0)]], 0⟩) = true := by decide

theorem test_wf_refuses_fifth_lane : Instr.wf (.dpLinkTraining 0 ⟨0, 0, [0, 0, 0, 0, 0], 0, false, true⟩) = false := by decide

theorem test_wf_refuses_ninth_output :
    Instr.wf (.assayStepEnd { measure with singles := List.replicate 9 0 }) = false ∧ Instr.wf (.assayStepEnd measure) = true := by decide

theorem test_wf_refuses_seventeen_sensors :
    Instr.wf (.coldStart { start with sensors := List.replicate 17 none }) = false ∧
    Instr.wf (.warmStart { start with sensors := List.replicate 17 none }) = false ∧
    Instr.wf (.startStepEnd { start with sensors := List.replicate 17 none }) = false ∧
    Instr.wf (.sensorScan (List.replicate 17 none)) = false ∧ Instr.wf (.coldStart start) = true := by decide

theorem test_wf_refuses_long_body :
    Instr.wf (.packetForward 0 ⟨{ emptyPkt with body := List.replicate 65536 0 }, true, true, [], none, false⟩) = false := by
  show decide ((List.replicate 65536 (0 : Byte)).length ≤ 65535) = false
  rw [List.length_replicate]
  decide

theorem test_wf_refuses_access_size :
    Instr.wf (.registerWrite 0 0 0) = false ∧ Instr.wf (.registerRead 0 9) = false ∧ Instr.wf (.registerRead 0 4) = true := by decide

/-! ### States and packets for the witnesses -/

/-- The state after reset with some register fields written. -/
def st (rs : List (Fld × Nat)) : State := rs.foldl (fun s x => s.wr x.1 x.2) State.reset

/-- The same with some active copies written. -/
def act (s : State) (rs : List (Fld × Nat)) : State :=
  rs.foldl (fun s f => { s with act := Tab.put s.act f.1.addr (setBits (s.actWord f.1) f.1.lo f.1.width f.2) }) s

/-- A device whose start has ended. -/
def up (s : State) : State := { s with sys := { s.sys with step := none, firstLight := true, digest := some 0 } }

/-- A device that holds a wall key. -/
def keyed (s : State) : State := { s with trs := { s.trs with wallKey := some 0 } }

/-- Its ports 0 and 1 in service. -/
def linked (s : State) : State := (s.wr (Reg.WFT_PORT_STAT_STATE 0) 7).wr (Reg.WFT_PORT_STAT_STATE 1) 7

/-- A Sender that holds the Spindle, a key, and two ports in service. -/
def sender : State := keyed (linked (up (st [(Reg.SYS_ROLE_ROLE, 1), (Reg.SPN_STAT_STATE, 1)])))

/-- A Tile with an address, under a master of epoch 0 and rank 0, with a key and two ports in service. -/
def tile : State := keyed (linked (up (st [(Reg.SYS_ROLE_ROLE, 2), (Reg.SYS_WALL_VALID, 1), (Reg.SYS_WALL_ADDR, 5), (Reg.SPN_TILE_MASTER_VALID, 1)])))

/-- A packet with its header, before its CRC and its tag. -/
def rawPkt (t : PType) (dest origin rank epoch : Nat) (body : Bytes) : Packet :=
  ⟨BitVec.ofNat 8 t.code, BitVec.ofNat 8 (t.tagged.toNat + 2 + 4 * rank), BitVec.ofNat 16 dest, BitVec.ofNat 8 origin, 0, BitVec.ofNat 16 body.length,
    1, 0, BitVec.ofNat 32 epoch, 0, body, 0, 0⟩

/-- The packet a neighbour of `s` sends: the first of its session, with SYNC set, a good CRC, and a good tag where there is a wall key. -/
def pktTo (s : State) (p : Port) (t : PType) (dest origin rank epoch : Nat) (body : Bytes) : Packet :=
  let r := rawPkt t dest origin rank epoch body
  let f := s.portField p.val r.dest.toNat false
  { r with
    crc := BitVec.ofNat 32 (r.goodCrc f 1)
    tag := match s.trs.wallKey with
      | some k => r.goodTag k f 1
      | none => 0 }

/-- Its arrival. -/
def arr (s : State) (p : Port) (t : PType) (dest origin rank epoch : Nat) (body : Bytes) : Arrival :=
  ⟨pktTo s p t dest origin rank epoch body, true, true, [], none, false⟩

/-- The state after its epoch is heard, after its forwarding, and after its sequence entry, its CRC being good. -/
def heard (s : State) (a : Arrival) : State := { s with spn := { s.spn with maxEpoch := max s.spn.maxEpoch a.pkt.epoch.toNat } }
def forwarded (s : State) (p : Port) (a : Arrival) : State := ((heard s a).forward p.val a).countMarks p.val a.marks
def counted (s : State) (p : Port) (a : Arrival) : State :=
  (forwarded s p a).setPort p.val fun w => { w with entries := Tab.put w.entries a.pkt.originator (RxEntry.pass 1) }

/-- What such an arrival must meet besides its CRC and its tag so that its link check and its tag are good. -/
def arrives (s : State) (p : Port) (t : PType) (a : Arrival) : Bool :=
  a.pkt.sync && !(s.rxEntry p.val a.pkt.originator).synced && !((forwarded s p a).rxEntry p.val a.pkt.originator).synced
    && ((forwarded s p a).portField p.val a.pkt.dest.toNat false == s.portField p.val a.pkt.dest.toNat false) && (a.pkt.type.toNat == t.code)
    && (s.trs.wallKey.isSome || !t.tagged || t == .time || t == .heart)

/-- What it must meet to be accepted. -/
def passes (s : State) (p : Port) (t : PType) (a : Arrival) : Bool :=
  let u := counted s p a
  arrives s p t a && s.addressed p.val a.pkt && a.pkt.wellFormed
    && (Tab.find (u.port p.val).floors a.pkt.originator).isNone && u.orderAdmitted t a.pkt && decide (u.trs.wallKey = s.trs.wallKey)
    && (u.portField p.val a.pkt.dest.toNat false == s.portField p.val a.pkt.dest.toNat false)

/-- The state that the checks leave. -/
def after (s : State) (p : Port) (a : Arrival) : State := (counted s p a).acceptPacket p.val a.pkt 1 false

theorem crc32c_lt (bs : Bytes) : crc32c bs < 2 ^ 32 := by
  have hbit : ∀ c < 2 ^ 32, crc32cBit c < 2 ^ 32 := by
    intro c hc
    unfold crc32cBit
    split
    · exact Nat.xor_lt_two_pow (by omega) (by decide)
    · omega
  have hbyte : ∀ c < 2 ^ 32, ∀ b : Byte, crc32cByte c b < 2 ^ 32 := by
    intro c hc b
    exact hbit _ (hbit _ (hbit _ (hbit _ (hbit _ (hbit _ (hbit _ (hbit _ (Nat.xor_lt_two_pow hc (by omega)))))))))
  have hfold : ∀ (l : Bytes) (c : Nat), c < 2 ^ 32 → l.foldl crc32cByte c < 2 ^ 32 := by
    intro l
    induction l with
    | nil => exact fun c hc => hc
    | cons b t ih => exact fun c hc => ih _ (hbyte c hc b)
  exact Nat.xor_lt_two_pow (hfold bs _ (by decide)) (by decide)

/-- The CRC of a packet that a neighbour sends is good. -/
theorem linkVerdict_arr (s v : State) (p : Port) (t : PType) (dest origin rank epoch : Nat) (body : Bytes)
    (hs : (arr s p t dest origin rank epoch body).pkt.sync = true)
    (he : (v.rxEntry p.val (arr s p t dest origin rank epoch body).pkt.originator).synced = false)
    (hp : v.portField p.val (arr s p t dest origin rank epoch body).pkt.dest.toNat false
      = s.portField p.val (arr s p t dest origin rank epoch body).pkt.dest.toNat false) :
    v.linkVerdict p.val (arr s p t dest origin rank epoch body) = .good 1 := by
  have hg : ∀ f, (arr s p t dest origin rank epoch body).pkt.goodCrc f 1 = (rawPkt t dest origin rank epoch body).goodCrc f 1 := fun _ => rfl
  have hd : (arr s p t dest origin rank epoch body).pkt.dest = (rawPkt t dest origin rank epoch body).dest := rfl
  have hc : (arr s p t dest origin rank epoch body).pkt.crc = BitVec.ofNat 32 ((rawPkt t dest origin rank epoch body).goodCrc
      (s.portField p.val (rawPkt t dest origin rank epoch body).dest.toNat false) 1) := rfl
  have hq : (arr s p t dest origin rank epoch body).pkt.seqHi = 0 ∧ (arr s p t dest origin rank epoch body).pkt.seq = 1 := ⟨rfl, rfl⟩
  have ha : (arr s p t dest origin rank epoch body).endGood = true ∧ (arr s p t dest origin rank epoch body).placed = true ∧
      (arr s p t dest origin rank epoch body).cut.isSome = false := ⟨rfl, rfl, rfl⟩
  rw [hd] at hp
  have hlt := crc32c_lt ((rawPkt t dest origin rank epoch body).covered (s.portField p.val (rawPkt t dest origin rank epoch body).dest.toNat false) 1)
  generalize arr s p t dest origin rank epoch body = a at *
  generalize rawPkt t dest origin rank epoch body = r at *
  have hr : (v.rxEntry p.val a.pkt.originator).reconstruct a.pkt = some 1 := by
    simp [RxEntry.reconstruct, he, hs, hq]
  simp only [State.linkVerdict, State.crcVerdict, ha, hr, hd, hp, hg, hc, BitVec.toNat_ofNat]
  simpa [Packet.goodCrc] using hlt

/-- The tag of a packet that a neighbour sends is good. -/
theorem tagOk_arr (s u : State) (p : Port) (t : PType) (dest origin rank epoch : Nat) (body : Bytes) (hk : u.trs.wallKey = s.trs.wallKey)
    (hp : u.portField p.val (arr s p t dest origin rank epoch body).pkt.dest.toNat false
      = s.portField p.val (arr s p t dest origin rank epoch body).pkt.dest.toNat false)
    (h : (s.trs.wallKey.isSome || !t.tagged || t == .time || t == .heart) = true) :
    u.tagOk p.val t (arr s p t dest origin rank epoch body).pkt 1 = true := by
  have htag : ∀ k, s.trs.wallKey = some k → (arr s p t dest origin rank epoch body).pkt.tag
      = (arr s p t dest origin rank epoch body).pkt.goodTag k (s.portField p.val (arr s p t dest origin rank epoch body).pkt.dest.toNat false) 1 := by
    intro k hk
    simp only [arr, pktTo, hk]
    rfl
  unfold State.tagOk
  rw [hk, hp]
  cases hw : s.trs.wallKey with
  | none => simpa [hw, or_assoc] using h
  | some k => simp [← htag k hw]

/-- The arrival of a packet that a neighbour sends. -/
theorem arrive_arr (s : State) (p : Port) (t : PType) (dest origin rank epoch : Nat) (body : Bytes)
    (h : arrives s p t (arr s p t dest origin rank epoch body) = true) :
    s.linkVerdict p.val (arr s p t dest origin rank epoch body) = .good 1 ∧
    s.arrive p.val (arr s p t dest origin rank epoch body) = counted s p (arr s p t dest origin rank epoch body) := by
  have hends : (arr s p t dest origin rank epoch body).placed = true ∧ (arr s p t dest origin rank epoch body).cut = none := ⟨rfl, rfl⟩
  have htok := tagOk_arr s s p t dest origin rank epoch body rfl rfl
  have hlink := linkVerdict_arr s s p t dest origin rank epoch body
  have hlink' := linkVerdict_arr s (forwarded s p (arr s p t dest origin rank epoch body)) p t dest origin rank epoch body
  generalize arr s p t dest origin rank epoch body = a at *
  simp only [arrives, Bool.and_eq_true, Bool.not_eq_true', beq_iff_eq] at h
  obtain ⟨⟨⟨⟨⟨h0, h1⟩, ha⟩, hb⟩, h2⟩, h9⟩ := h
  have hv := hlink h0 h1 rfl
  have h9' := htok (by simpa using h9)
  have hcode : ∀ t : PType, PType.ofCode t.code = some t := by intro t; cases t <;> rfl
  have hear : s.hearEpoch p.val a = heard s a := by simp only [State.hearEpoch, hv, h2, hcode, h9']; rfl
  have hw : (((heard s a).forward p.val a).countMarks p.val a.marks).linkVerdict p.val a = .good 1 := hlink' h0 ha hb
  have hc : (((heard s a).forward p.val a).countMarks p.val a.marks).crcVerdict p.val a.pkt = .good 1 := by
    unfold State.linkVerdict at hw
    split at hw <;> try split at hw
    all_goals first | exact hw | cases hw
  refine ⟨hv, ?_⟩
  simp only [State.arrive, hear, State.linkCount, hw, State.notePass, hc, hends]
  rfl

/-- A packet that a neighbour sends and that meets the other checks is accepted. -/
theorem accepted_of_passes (s : State) (p : Port) (t : PType) (dest origin rank epoch : Nat) (body : Bytes)
    (h : passes s p t (arr s p t dest origin rank epoch body) = true) :
    Accepted s p t (arr s p t dest origin rank epoch body) (after s p (arr s p t dest origin rank epoch body)) := by
  have htok := tagOk_arr s (counted s p (arr s p t dest origin rank epoch body)) p t dest origin rank epoch body
  have harrive := arrive_arr s p t dest origin rank epoch body
  generalize arr s p t dest origin rank epoch body = a at *
  simp only [passes, Bool.and_eq_true, beq_iff_eq, decide_eq_true_eq, Option.isNone_iff_eq_none] at h
  obtain ⟨⟨⟨⟨⟨⟨h1, h3⟩, h4⟩, h5⟩, h6⟩, h7⟩, h8⟩ := h
  obtain ⟨hv, harr⟩ := harrive h1
  simp only [arrives, Bool.and_eq_true, beq_iff_eq] at h1
  obtain ⟨⟨_, h2⟩, h9⟩ := h1
  have hanew : (counted s p a).enrolsAnew p.val t a.pkt = false := by simp [State.enrolsAnew, h5]
  have hfloor : (counted s p a).aboveFloor p.val t a.pkt 1 = true := by simp [State.aboveFloor, h5]
  exact ⟨1, by simp [State.consume, harr, hv, h2, h3, State.frameChecks, h4, hfloor, htok h7 h8 (by simpa using h9), h6, hanew, after]⟩

/-! ### Register accesses, steps and the queue -/

theorem witness_IdleStepAdvancesTheCount :
    (State.reset.pending = [] ∧ State.reset.sys.powered = true ∧ State.reset.sys.inReset = false ∧ State.reset.rd Reg.WHL_ERR_FREQ = 0 ∧
      State.reset.whl.rem < 100000000 ∧ (∀ p < 4, (State.reset.port p).fwd = []) ∧ State.reset.alive = true) ∧
    let s := { State.reset with sys := { State.reset.sys with powered := false } }
    s.pending = [] ∧ s.alive = false := by decide

theorem witness_MemoryCanonicalKept : Memory.wf State.reset = true ∧ Completes (Sys2Proof.Machine.step State.reset) := ⟨by decide, _, rfl⟩

theorem witness_OtpBitsAreNeverCleared :
    let s := { State.reset with trs := { State.reset.trs with otp := 1 :: List.replicate 335 0 } }
    s.trs.otp.length = 336 ∧ Completes (Sys2Proof.Machine.step s) ∧ (s.trs.otp.getD 0 0).getLsbD 0 = true :=
  ⟨by decide +kernel, ⟨_, rfl⟩, by decide⟩

theorem witness_CommandsLeaveTheQueue :
    let s := { State.reset with pending := [.resetAssert, .status] }
    s.pending = .resetAssert :: [.status] ∧ Completes (Sys2Proof.Machine.step s) := ⟨rfl, _, rfl⟩

theorem witness_RegisterAccessWholeWord :
    (findReg RegAddr.SYS_ROLE).isSome = true ∧ (0x10000001 : BitVec 32).toNat % 4 ≠ 0 ∧ (3 : BitVec 4).toNat ≠ 4 ∧ (5 : BitVec 4).toNat ≠ 4 := by
  decide +kernel

/-- Where no register stands; a region that is powered down; a register of an armed group; a hatch word at a Sender. -/
theorem witness_RegisterWriteActsByAccessKind :
    (findReg 0x1FFFFFFC = none ∧ 0x1FFFFFFC % 4 = 0) ∧ State.reset.poweredDown 0x11000000 = true ∧
    (let s := st [(Reg.SYS_ROLE_ROLE, 1), (Reg.SYS_COMMIT_STAT_ARMED, 2)]
     (findReg RegAddr.SPN_CFG2).any fun x => !s.poweredDown RegAddr.SPN_CFG2 && s.locked x.1 x.2) = true ∧
    ((findReg RegAddr.HMK_HATCH_A).any fun x => !sender.poweredDown RegAddr.HMK_HATCH_A && !sender.locked x.1 x.2 && !sender.isTile) = true := by
  decide +kernel

theorem witness_RegisterReadAnswersAndClears :
    (findReg 0x1FFFFFFC = none ∧ 0x1FFFFFFC ≠ RegAddr.EVT_RD_FW ∧ 0x1FFFFFFC ≠ RegAddr.EVT_LOST_FW) ∧
    ((findReg RegAddr.SYS_ROLE).any fun _ => !State.reset.poweredDown RegAddr.SYS_ROLE) = true ∧ RegAddr.SYS_ROLE ≠ RegAddr.EVT_RD_FW ∧
    RegAddr.SYS_ROLE ≠ RegAddr.EVT_LOST_FW := by decide +kernel

/-! ### Power, restarts and starts -/

theorem witness_PowerAndResetBeginAndClear :
    (let s := { State.reset with sys := { State.reset.sys with detector := true, powered := false } }
     s.sys.detector = true ∧ s.sys.inReset = false) ∧ State.reset.sys.detector = false ∧
    let s := { State.reset with sys := { State.reset.sys with inReset := true } }
    s.sys.inReset = true ∧ s.sys.powered = true := by decide

theorem witness_RestartRequestsNeedTheKey :
    (0xA5C2 : BitVec 16).toNat ≠ 0xA5C3 ∧ (0xA5C3 : BitVec 16).toNat = 0xA5C3 ∧ State.reset.alive = true ∧ State.reset.sys.fatal = none ∧
    State.reset.role = 0 ∧ (sender.alive = true ∧ sender.sys.fatal = none ∧ sender.role ≠ 0 ∧ sender.sys.digest ≠ none) ∧
    let s := { sender with sys := { sender.sys with fatal := some 1 } }
    s.alive = true ∧ s.sys.fatal ≠ none := by decide

/-- A state at step `n` of a cold or a warm start. -/
def atStep (s : State) (warm : Bool) (n : Nat) : State := { s with sys := { s.sys with step := some (warm, n) } }

/-- A flash that holds a directory (R48): Charter, rescue and two Ledgers of 128 KiB, and a dump area. -/
def withDirectory (s : State) : State :=
  let raw := leBytes 4 0x5244434F ++ zeros 8 ++ ([0x10000, 0x30000, 0x20000, 0x50000, 0x70000, 0x20000, 0x90000].flatMap fun x => leBytes 4 x) ++ zeros 72
  let t := s.flashWrite 0 (raw ++ leBytes 4 (crc32c raw))
  { t with sys := { t.sys with directory := true } }

theorem witness_StartStepsFollowOneAnother :
    (sender.sys.step = none) ∧ (State.reset.alive = true ∧ State.reset.sys.fatal = none ∧ State.reset.sys.step = some (false, 1)) ∧
    (let s := atStep State.reset false 3
     s.alive = true ∧ s.sys.fatal = none ∧ s.sys.step = some (false, 3) ∧ s.directoryOk = false ∧ (withDirectory s).directoryOk = true ∧ (withDirectory s).sys.step = some (false, 3)) ∧
    ((atStep sender false 10).sys.step = some (false, 10) ∧ (atStep sender true 1).sys.step = some (true, 1)) ∧
    ((atStep sender true 8).alive = true ∧ (atStep sender true 8).sys.step = some (true, 8) ∧ (atStep sender true 8).fastPending = false ∧
      (((atStep sender true 8).setPort 0 fun w => { w with fast := true }).wr (Reg.WFT_PORT_STAT_STATE 0) 3).fastPending = true) ∧
    ((atStep sender false 12).sys.step = some (false, 12) ∧ sender.sys.firstLight = true ∧ sender.alive = true ∧ sender.sys.fatal = none) := by
  decide +kernel

theorem witness_StartsRunToTheirEnd :
    sender.sys.step = none ∧ (State.reset.alive = true ∧ State.reset.sys.fatal = none ∧ State.reset.sys.step = some (false, 1) ∧
      ({ start with boot := 2 }).boot = 2 ∧ start.boot ≠ 2 ∧ ({ start with silent := true }).silent = true ∧ State.reset.role = 0) ∧
    (let s := atStep sender false 12
     s.alive = true ∧ s.sys.fatal = none ∧ s.sys.firstLight = true ∧ s.rd Reg.SYS_COMMIT_STAT_ARMED = 0) ∧
    let s := atStep sender true 10
    s.alive = true ∧ s.sys.fatal = none ∧ s.sys.firstLight = true ∧ s.rd Reg.SYS_COMMIT_STAT_ARMED = 0 := by decide

theorem witness_BoundaryScanTakesDescribedCodes :
    (0x01#8 ∈ [0xFF#8, 0x02#8, 0x00#8, 0x01#8]) ∧ (0x03#8 ∉ [0xFF#8, 0x02#8, 0x00#8, 0x01#8] ∧ State.reset.debugLocked = false) ∧
    ({ State.reset with trs := { State.reset.trs with otp := List.replicate 336 1 } } : State).debugLocked = true := by decide +kernel

/-! ### Groups, fatal errors and dumps -/

/-- A state with groups 0, 1 and 12 armed some time before boundary 1 at 60 Hz, the counts at that boundary, and port 0 yet to take G12. -/
def armedAt (s : State) (before : Nat) : State :=
  let s := s.wr Reg.SYS_COMMIT_STAT_ARMED 4099
  { s with
    count := 16666667
    whl := { s.whl with copy := 16666667 }
    sys := { s.sys with armAt := [(0, 16666667 - before), (1, 16666667 - before)], portsLeft := [(12, [0])] } }

theorem witness_ArmMarksTheGroup :
    sender.armed 1 = false ∧ sender.groupHere 1 = true ∧ sender.groupHere 2 = false ∧ sender.role ≠ 0 ∧ (armedAt sender 0).armed 1 = true ∧
    (State.reset.armed 1 = false ∧ State.reset.role = 0 ∧ (State.reset.wrBit Reg.SYS_COMMIT_STAT_ARMED 1 true).refuses 1 = false) := by decide +kernel

/-- The deadline is met at 100,000 ns and not 1 ns before; a Sender without a canvas refuses G0, and a Tile takes G1. -/
theorem witness_CommitPointCopiesOrRefuses :
    sender.armed 1 = false ∧
    (let s := armedAt tile 99999
     s.armed 1 = true ∧ s.ctr.held = none ∧ s.pointDue 1 = true ∧ s.sys.missed.contains 1 = false ∧
     (s.groupPoint 1).2 < Tab.get s.sys.armAt 1 + armDeadline 1) ∧
    (let s := armedAt tile 100000
     s.armed 1 = true ∧ s.ctr.held = none ∧ s.pointDue 1 = true ∧ Tab.get s.sys.armAt 1 + armDeadline 1 ≤ (s.groupPoint 1).2 ∧
     s.refuses 1 = false ∧ (s.perform 1 16666667).pointDue 1 = false ∧ { s with sys := { s.sys with missed := [1] } }.sys.missed.contains 1 = true) ∧
    let s := armedAt sender 100000
    let left := Tab.get s.sys.portsLeft 12
    (s.armed 0 = true ∧ s.ctr.held = none ∧ s.pointDue 0 = true ∧ Tab.get s.sys.armAt 0 + armDeadline 0 ≤ (s.groupPoint 0).2 ∧ s.refuses 0 = true) ∧
    s.armed 12 = true ∧ left.contains (1 : Fin 8).val = false ∧ left.contains (0 : Fin 8).val = true ∧ s.portsRefuse 12 = false ∧
      left.filter (· != (0 : Fin 8).val) = [] ∧ (s.wr (Reg.WFT_PORT_CFG_RATE 1) 3).portsRefuse 12 = true := by decide +kernel

/-- The watchdog's time is over at 20 ms and not 1 ns before. -/
theorem witness_FatalErrorsStopTheDevice :
    (sender.alive = true ∧ sender.sys.fatal = none) ∧ (1 ≤ (1 : BitVec 3).toNat ∧ (6 : BitVec 3).toNat ≤ 6) ∧
    (let s := { sender with count := BitVec.ofNat 64 (sender.cfg 1 Reg.SPN_CFG2_WDOG_MS * 1000000) }
     s.firmwareRuns = true ∧ s.spn.wdogAt + s.cfg 1 Reg.SPN_CFG2_WDOG_MS * 1000000 ≤ s.now) ∧ State.reset.firmwareRuns = false ∧
    (0x96A4 : BitVec 16).toNat ≠ 0x96A5 ∧ (0x3C97 : BitVec 16).toNat ≠ 0x3C96 := by decide +kernel

/-- A device with a fatal error, at a phase of its dump, with an action after it. -/
def dumping (phase action : Nat) : State :=
  let s := act (st [(Reg.DMC_STAT_STATE, 2)]) [(Reg.SYS_DUMP_CFG_ACTION, action)]
  { s with sys := { s.sys with fatal := some 1, dump := phase } }

theorem witness_DumpStepsWriteAndActionFollows :
    State.reset.sys.fatal = none ∧ (∀ n m, (dumping n m).sys.fatal ≠ none) ∧ ((dumping 2 0).sys.dump = 2 ∧ (dumping 2 0).rd Reg.DMC_STAT_STATE = 2) ∧
    ((dumping 3 1).flashDump = false ∧ (dumping 3 1).ac Reg.SYS_DUMP_CFG_ACTION = 1 ∧ (dumping 3 2).ac Reg.SYS_DUMP_CFG_ACTION = 2) ∧
    ((dumping 4 2).sys.dump = 4 ∧ (dumping 4 0).ac Reg.SYS_DUMP_CFG_ACTION = 0 ∧ (dumping 4 3).ac Reg.SYS_DUMP_CFG_ACTION = 3) ∧
    ((dumping 5 2).sys.dump = 5 ∧ (dumping 5 2).ac Reg.SYS_DUMP_CFG_ACTION = 2 ∧ (dumping 5 2).sys.haltAt = 0 ∧ (dumping 5 2).now = 0) ∧
    ((dumping 5 1).alive = true ∧ (dumping 5 1).onHold = false ∧ (dumping 5 1).dumpThere false 0 0x1000000 = true ∧
      (dumping 5 1).dumpThere false 1 0x1000000 = false) ∧
    (withDirectory (dumping 5 1)).dumpThere true 0 0x400000 = true ∧ (dumping 5 1).dumpThere true 0 1 = false := by
  refine ⟨by decide, fun n m => by simp [dumping], by decide +kernel⟩

/-! ### Envelopes -/

/-- An envelope for a command with no arguments, with the digest of the device's own key, its nonce, and a floor of 1. -/
def envelopeOf (s : State) (cmd : Nat) : Bytes :=
  (leBytes 4 0x4E45434F ++ leBytes 2 1 ++ leBytes 2 cmd) ++
    ((beBytes 32 (Config.sha256 s.idPub).toNat).take 8 ++ (leBytes 8 s.nonce ++ leBytes 8 1 ++ zeros 104))

theorem drop8 (a b : Bytes) (h : a.length = 8) : (a ++ b).drop 8 = b := by rw [← h, List.drop_left]

theorem take8 (a b : Bytes) (h : a.length = 8) : (a ++ b).take 8 = a := by rw [← h, List.take_left]

theorem envelopeOf_good (s : State) (cmd : Nat) (hn : s.nonce = 0) (hf : s.envFloor = 0) (hc : s.claimed = false) :
    s.envelopeFault (envelopeOf s cmd) = 0 := by
  have h9 : ∀ h c, s.signerMay h c = true := by simp [State.signerMay, hc]
  unfold State.envelopeFault envelopeOf
  rw [hn, hf]
  generalize (Config.sha256 s.idPub).toNat = v
  simp only [h9]
  generalize he : (leBytes 4 0x4E45434F ++ leBytes 2 1 ++ leBytes 2 cmd) ++ ((beBytes 32 v).take 8 ++ (leBytes 8 0 ++ leBytes 8 1 ++ zeros 104)) = e
  have hx : slice e 8 8 = (beBytes 32 v).take 8 := by
    rw [← he, slice, drop8 _ _ rfl, take8 _ _ (by rw [List.length_take]; rfl)]
  have h1 : leAt e 0 4 = 0x4E45434F := by
    have h : (e.drop 0).take 4 = leBytes 4 0x4E45434F := by rw [← he]; rfl
    rw [leAt, h]
    decide
  have h2 : leAt e 4 2 = 1 := by rw [← he]; rfl
  have h3 : leAt e 32 2 = 0 := by rw [← he]; rfl
  have h4 : leAt e 34 6 = 0 := by rw [← he]; rfl
  have h5 : e.length = 136 := by rw [← he]; rfl
  have h6 : leAt e 24 8 = 1 := by rw [← he]; rfl
  have h7 : leAt e 16 8 = 0 := by rw [← he]; rfl
  simp [hx, h1, h2, h3, h4, h5, h6, h7]

/-- For SELECT, and for a command that no role allows. -/
theorem witness_EnvelopesAreCheckedBeforeTheyRun_good :
    ∀ cmd ∈ [1, 0x7F], leAt (envelopeOf sender cmd) 6 2 = cmd ∧
      let s := { sender with ctr := { sender.ctr with envelope := some (envelopeOf sender cmd) } }
      s.ctr.envelope = some (envelopeOf sender cmd) ∧ s.envelopeFault (envelopeOf sender cmd) = 0 ∧ s.alive = true ∧ s.onHold = false ∧
        s.allows 0x7F = false := by
  intro cmd hc
  refine ⟨?_, rfl, envelopeOf_good sender cmd (by decide) (by decide) (by decide +kernel), (by decide : sender.alive = true),
    (by decide : sender.onHold = false), (by decide : sender.allows 0x7F = false)⟩
  unfold envelopeOf
  generalize (Config.sha256 sender.idPub).toNat = v
  rcases List.mem_cons.1 hc with rfl | hc
  · rfl
  · rw [List.mem_singleton] at hc; subst hc; rfl

/-! ### The log and the Counter port -/

/-- A record. -/
def rec0 : EventRec := ⟨0, 0, 0, 0xC008, 0⟩

theorem witness_LogWriterAndForwarding :
    State.reset.log.queue = [] ∧
    (let s := { sender with log := { sender.log with queue := [rec0] } }
     s.log.served = true ∧ s.log.queue = rec0 :: []) ∧
    (let s := { tile with
        log := { tile.log with queue := [], b0 := [(0, rec0)] }, tfs := { tile.tfs with commitPorts := [1] } }.wr Reg.EVT_LI_LI 1
     s.isTile = true ∧ s.log.served = true ∧ s.log.fwdTime = none ∧ s.tfs.commitPorts = [(1 : Port).val] ∧ s.canSend 1 = true ∧
     s.trs.wallKey ≠ none ∧ (s.toForward.take 32).getLast? = some (0, rec0)) := by decide +kernel

theorem witness_LogWriterAndForwarding_receive :
    let a := arr sender 0 .status 0x403F 5 0 0 (leBytes 1 5 ++ leBytes 1 1 ++ zeros 30)
    ∃ u, Accepted sender 0 .status a u ∧ u.isSender = true ∧ leAt a.pkt.body 0 1 = 5 ∧ 1 ≤ leAt a.pkt.body 1 1 ∧ leAt a.pkt.body 1 1 ≤ 32 ∧
      a.pkt.body.length = 16 + 16 * leAt a.pkt.body 1 1 :=
  ⟨_, accepted_of_passes _ _ _ _ _ _ _ _ (by decide +kernel), by decide +kernel⟩

theorem witness_PortReadsReturnTheLogAndRegisters :
    (let s := { State.reset with sys := { State.reset.sys with powered := false } }
     s.alive = false) ∧ (sender.alive = true ∧ sender.onHold = false ∧ sender.log.served = true) ∧
    ({ sender with log := { sender.log with served := false } } : State).log.served = false ∧ ((0 : BitVec 32).toNat % 4 = 0) ∧
    ([3, 1].contains (7 / 4) = true ∧ (2 : BitVec 32).toNat % 4 ≠ 0) := by decide

theorem witness_EnvelopesAreCheckedBeforeTheyRun :
    (sender.alive = true ∧ sender.onHold = false ∧ sender.flag Reg.CTR_STAT_ENV_BUSY = false) ∧
    (sender.wr Reg.CTR_STAT_ENV_BUSY 1).flag Reg.CTR_STAT_ENV_BUSY = true ∧ (st [(Reg.SYS_START_BOOT, 2)]).onHold = true ∧
    sender.ctr.envelope = none ∧ ({ sender with ctr := { sender.ctr with envelope := some [] } } : State).ctr.envelope = some [] ∧
    sender.envelopeFault [] ≠ 0 := by decide +kernel

theorem witness_RemoteReadsGoToATileAndBack :
    (sender.alive = true ∧ sender.isSender = true ∧ sender.sys.fatal = none ∧ sender.flag Reg.CTR_RMT_STAT_BUSY = false) ∧
    (1 ≤ (16 : BitVec 8).toNat ∧ (16 : BitVec 8).toNat ≤ 16 ∧ sender.ownTile (5 : BitVec 16).toNat = true ∧
      sender.canSend ((5 : BitVec 16).toNat / 64 % 4) = true ∧ sender.trs.wallKey ≠ none) ∧
    (16 < (17 : BitVec 8).toNat ∧ (0 : BitVec 8).toNat = 0 ∧ sender.ownTile (63 : BitVec 16).toNat = false) ∧
    sender.ctr.remote = none ∧ ¬ 0 + remoteNs ≤ sender.now ∧ 0 + remoteNs ≤ ({ sender with count := 2000000 } : State).now := by decide

theorem witness_RemoteReadsGoToATileAndBack_request :
    let a := arr tile 0 .mgmt 5 63 0 0 (leBytes 1 0x30 ++ leBytes 1 1 ++ zeros 6)
    ∃ u, Accepted tile 0 .mgmt a u ∧ u.isTile = true ∧ leAt a.pkt.body 0 1 = 0x30 ∧ a.pkt.body.length = 8 ∧ leAt a.pkt.body 1 1 = 1 ∧
      leAt a.pkt.body 4 4 % 4 = 0 ∧ u.canSend (0 : Port).val = true ∧ u.trs.wallKey ≠ none :=
  ⟨_, accepted_of_passes _ _ _ _ _ _ _ _ (by decide +kernel), by decide +kernel⟩

theorem witness_RemoteReadsGoToATileAndBack_response :
    let s := { sender with ctr := { sender.ctr with remote := some ⟨9, 5, 0x10000000, 1, 0⟩ } }
    let a := arr s 0 .status 0x403F 5 0 0 (leBytes 1 4 ++ leBytes 1 1 ++ leBytes 2 9 ++ leBytes 2 5 ++ zeros 2 ++ leBytes 4 0x10000000 ++ zeros 4)
    let r : RemoteRead := ⟨9, 5, 0x10000000, 1, 0⟩
    ∃ u, Accepted s 0 .status a u ∧ u.isSender = true ∧ leAt a.pkt.body 0 1 = 4 ∧ u.ctr.remote = some r ∧ 1 ≤ r.count ∧ r.count ≤ 16 ∧
      a.pkt.body.length = 12 + 4 * r.count ∧ leAt a.pkt.body 1 1 = r.count ∧ leAt a.pkt.body 2 2 = r.id ∧ r.id < 0x8000 ∧
      leAt a.pkt.body 4 2 % 4096 = r.addr ∧ leAt a.pkt.body 8 4 = r.reg ∧ u.now < r.sentAt + remoteNs :=
  ⟨_, accepted_of_passes _ _ _ _ _ _ _ _ (by decide +kernel), by decide +kernel⟩

theorem witness_PortCommandsNeedRoleAndMode :
    (st [(Reg.SYS_START_BOOT, 2)]).onHold = true ∧ (tile.alive = true ∧ tile.onHold = false ∧ tile.allows 1 = false ∧ tile.allows 0x20 = false) ∧
    let s := { sender with sys := { sender.sys with fatal := some 1 } }
    s.alive = true ∧ s.onHold = false ∧ ∀ c ∈ [1, 2, 3, 4, 5, 0x10, 0x11, 0x12, 0x13, 0x14, 0x20, 0x21], s.allows c = false := by decide

/-- A Sender with one empty PRESET record, number 7. -/
def withPreset : State := { sender with charter := { sender.charter with presets := [(7, [])] } }

/-- The same with the PRESET pins in use. -/
def pinned (sample : Nat × Nat) : State :=
  let s := act withPreset [(Reg.SYS_PRESET_PIN_EN, 1)]
  { s with ctr := { s.ctr with sample := sample } }

theorem witness_SelectionsAndEntriesReachTheGroups :
    (withPreset.alive = true ∧ withPreset.onHold = false ∧ withPreset.allows 1 = true ∧ withPreset.allows 2 = true ∧ withPreset.allows 3 = true) ∧
    (withPreset.preset 6 = none ∧ withPreset.preset 7 ≠ none ∧ withPreset.armed 0 = false ∧ withPreset.armed 1 = false) ∧
    (withPreset.wr Reg.SYS_COMMIT_STAT_ARMED 1).armed 0 = true ∧
    (sender.entriesResult (entriesOf [(0x00000000, 0)]) (fun a => addrInGroup a 0 || addrInGroup a 1) ≠ 0) ∧
    (sender.entriesResult (entriesOf [(BitVec.ofNat 32 RegAddr.SPN_CFG2, 0)]) (fun a => addrInGroup a 0 || addrInGroup a 1) = 0) ∧
    (sender.entriesResult (entriesOf [(BitVec.ofNat 32 RegAddr.SYS_COMMIT, 0)]) (fun _ => true) ≠ 0) ∧
    ((1 < 16) ∧ (2 : Word).toNat = 2 ^ 1 ∧ sender.groupHere 1 = true) ∧ (tile.isSender = false) ∧
    ((pinned (3, 1)).isSender = true ∧ (pinned (3, 1)).cfg 1 Reg.SYS_PRESET_PIN_EN = 1 ∧ (pinned (3, 1)).ctr.sample.1 ≠ (7 : BitVec 6).toNat ∧
      (pinned (3, 1)).due actPins 0 0 (pinned (3, 1)).now = true ∧ (State.perform (pinned (3, 1)) actPins 0).due actPins 0 0 0 = false) ∧
    ((pinned (7, 7)).ctr.sample = ((7 : BitVec 6).toNat, 7) ∧ (pinned (7, 7)).ctr.stable ≠ some (7 : BitVec 6).toNat ∧
      (pinned (7, 7)).selecting = true ∧ (pinned (7, 7)).preset 7 ≠ none ∧ ((pinned (7, 7)).wr Reg.SYS_COMMIT_STAT_ARMED 2).armed 1 = true) ∧
    let s := (atStep (pinned (7, 7)) false 5).wr Reg.SYS_PRESET_PIN_EN 1
    s.isSender = true ∧ s.cfg 1 Reg.SYS_PRESET_PIN_EN = 1 ∧ s.due actPins 0 0 s.now = true ∧ s.ctr.sample = ((7 : BitVec 6).toNat, 7) ∧
      s.ctr.stable ≠ some (7 : BitVec 6).toNat ∧ s.selecting = false := by decide +kernel

theorem witness_DrillsRestartsAndRelaysByCommand :
    (let s := sender.wr Reg.SYS_ROLE_PROTECTED 1
     s.alive = true ∧ s.onHold = false ∧ s.allows 4 = true ∧ s.isSender = true ∧ s.holdsSpindle = true ∧ s.flag Reg.SYS_ROLE_PROTECTED = true ∧
     4 ≤ genAfter (4 : Word).toNat (s.rd Reg.DMG_GEN_GEN)) ∧
    (sender.allows 5 = true ∧ sender.asy.run = none) ∧
    (sender.allows 6 = true ∧ sender.sys.fatal = none ∧ sender.role ≠ 0 ∧ sender.sys.digest ≠ none) ∧
    (let s := sender.wr (Reg.DMG_TILE_SIZE_ENABLE 0 5) 1
     let t := act sender [(Reg.DMG_TILE_SIZE_ENABLE 0 5, 1)]
     s.relayOk 5 = false ∧ t.allows 0x20 = true ∧ t.relayOk (5 : BitVec 16).toNat = true ∧ t.canSend ((5 : BitVec 16).toNat / 64 % 4) = true ∧
     t.trs.wallKey ≠ none ∧ t.allows 0x21 = true ∧ blocksOf ((zeros 16).length / 16) (zeros 16) = [zeros 16] ∧
     (zeros 16).length ≤ 2332 ∧ 2332 < (zeros 2333).length) := by decide +kernel

/-- The same with the count, and the Frame die's copy of it, at a time. -/
def at_ (s : State) (ns : Nat) : State := { s with count := BitVec.ofNat 64 ns, whl := { s.whl with copy := BitVec.ofNat 64 ns } }

/-! ### Porter, Assay, and the memories -/

/-- A transfer of one block of 16 bytes to the Ledger area. -/
def xfer : Transfer := ⟨2, 0, 0, 16, 7, 0, 0, 0, [], none⟩

/-- A Sender with the transfer, Porter in a state and doing an operation. -/
def porter (x : Transfer) (state : Nat) (op : PorterOp) : State :=
  let s := sender.wr Reg.CHT_PORTER_STATE state
  { s with ptr := { s.ptr with transfer := some x, op := op } }

/-- A device on trial, with so many starts used of its trials. -/
def trial (used trials confirmBy : Nat) : State :=
  { sender with ptr := ⟨⟨6, 0, 7, trials, used, 60, confirmBy, 0⟩, none, .idle, true⟩ }

/-- A block of 16 zeros at index 0 of the transfer. -/
def block : Bytes := leBytes 4 7 ++ leBytes 4 0 ++ leBytes 2 16 ++ zeros 2 ++ leBytes 4 (crc32c (zeros 16)) ++ zeros 16

theorem witness_PorterTakesATransfer :
    (let s := withDirectory sender
     s.alive = true ∧ s.onHold = false ∧ (∀ c ∈ [0x10, 0x11, 0x12, 0x13, 0x14], s.allows c = true) ∧ s.beginRefusal xfer = 0 ∧
     s.beginRefusal { xfer with length := 12 } ≠ 0) ∧
    (let s := porter xfer 1 .idle
     s.alive = true ∧ s.onHold = false ∧ s.allows 0x11 = true ∧ s.receiving = some xfer ∧ 16 ≤ block.length ∧ leAt block 8 2 = block.length - 16 ∧
     leAt block 12 4 = crc32c (block.drop 16) ∧ leAt block 0 4 = xfer.transfer ∧ xfer.inRange (leAt block 4 4) (leAt block 8 2) = true ∧
     leAt (block.take 31 ++ [1]) 12 4 ≠ crc32c ((block.take 31 ++ [1]).drop 16)) ∧
    (let s := porter xfer 3 .idle
     s.ptr.transfer = some xfer ∧ xfer.transfer = (7 : Word).toNat ∧ s.rd Reg.CHT_PORTER_STATE = 3 ∧ s.now < (1 : BitVec 64).toNat ∧
     (0 : BitVec 64).toNat ≤ s.now ∧ s.role ≠ 0 ∧ s.ptr.op = .idle ∧ (porter xfer 2 .check).ptr.op = .check ∧ sender.rd Reg.CHT_PORTER_STATE ≠ 3) ∧
    (∀ x, sender.ptr.transfer = some x → x.transfer ≠ (7 : Word).toNat) ∧
    ((trial 0 1 1).ptr.onTrial = true ∧ (trial 0 1 1).ptr.journal.confirmBy = 1 ∧ (trial 0 1 1).ptr.journal.transfer = (7 : Word).toNat) ∧
    sender.ptr.onTrial = false :=
  ⟨by decide +kernel, by decide +kernel, by decide +kernel, fun x h => by simp [show sender.ptr.transfer = none from rfl] at h, by decide +kernel⟩

/-- The window of a trial of 60 s ends at 60 s of the wheel. -/
theorem witness_PorterStepsAndTrials :
    sender.receiving = none ∧
    (let x := { xfer with got := [0] }
     (porter x 1 .idle).receiving = some x ∧ x.missing = [] ∧ (porter x 1 .idle).ptr.op = .idle) ∧ sender.ptr.transfer = none ∧
    (let x := { xfer with due := some 5 }
     let s := porter x 3 .idle
     s.ptr.transfer = some x ∧ x.due = some 5 ∧ (at_ s 4).now < 5 ∧ 5 ≤ (at_ s 5).now ∧ s.rd Reg.CHT_PORTER_STATE = 3 ∧ s.role ≠ 0 ∧
     (s.wr Reg.SYS_ROLE_ROLE 0).role = 0 ∧ (s.wr Reg.SYS_ROLE_ROLE 0).ptr = s.ptr) ∧
    (sender.ptr.onTrial = false ∧ (trial 0 1 0).sys.litAt + (trial 0 1 0).ptr.journal.trialS * 1000000000 = 60000000000 ∧
      (at_ (trial 0 1 0) 59999999999).now < 60000000000 ∧ (trial 0 1 0).sys.firstLight = true) ∧
    ((trial 0 1 0).ptr.onTrial = true ∧ (trial 0 1 0).ptr.op = .idle ∧ 60000000000 ≤ (at_ (trial 0 1 0) 60000000000).now ∧
      (trial 0 1 0).ptr.journal.used < (trial 0 1 0).ptr.journal.trials ∧
      (trial 1 1 0).ptr.journal.trials ≤ (trial 1 1 0).ptr.journal.used ∧ (trial 0 1 0).ptr.journal.confirmBy = 0 ∧
      (trial 0 1 1).ptr.journal.confirmBy ≠ 0) ∧ (0x5AC4 : BitVec 16).toNat ≠ 0x5AC3 ∧ sender.ptr.op = .idle ∧
    (∀ op ∈ [.a1, .a3, .a5, .ledger], (porter xfer 4 op).ptr.op = op ∧ (porter xfer 4 op).ptr.transfer = some xfer) := by decide +kernel

/-- A check that finds the digest of the staging area, or another: whatever the digest is. -/
theorem witness_PorterStepsAndTrials_check :
    (∃ (x : Transfer) (s : State), s.ptr.transfer = some x ∧ s.ptr.op = .check ∧ Config.sha256 (s.dramRead stagingAt x.length) ≠ x.digest) ∧
    ∃ (x : Transfer) (s : State), s.ptr.transfer = some x ∧ s.ptr.op = .check ∧ x.target = 2 ∧ Config.sha256 (s.dramRead stagingAt x.length) = x.digest := by
  constructor
  · refine ⟨{ xfer with digest := ~~~Config.sha256 ((porter xfer 2 .check).dramRead stagingAt xfer.length) }, porter _ 2 .check, rfl, rfl, ?_⟩
    intro h
    have h0 := congrArg (fun d => d.getLsbD 0) h
    simp [porter, State.dramRead] at h0
  · exact ⟨{ xfer with digest := Config.sha256 ((porter xfer 2 .check).dramRead stagingAt xfer.length) }, porter _ 2 .check, rfl, rfl, rfl, rfl⟩

theorem witness_TilesTakeEnvelopesAndBlocks :
    let s := { tile.wr Reg.CHT_PORTER_STATE 1 with ptr := { tile.ptr with transfer := some xfer } }
    let a := arr s 0 .mgmt 5 63 0 0 (leBytes 1 0x40 ++ leBytes 1 1 ++ zeros 2)
    let b := arr s 0 .mgmt 5 63 0 0 (leBytes 1 0x40 ++ leBytes 1 2 ++ zeros 2 ++ block)
    let c := arr s 0 .mgmt 5 63 0 0 (leBytes 1 0x41 ++ zeros 3)
    (∃ u, Accepted s 0 .mgmt a u ∧ u.isTile = true ∧ leAt a.pkt.body 0 1 = 0x40 ∧ leAt a.pkt.body 1 1 = 1 ∧
      u.envelopeFault (a.pkt.body.drop 4) ≠ 0) ∧
    (∃ u, Accepted s 0 .mgmt b u ∧ u.isTile = true ∧ leAt b.pkt.body 0 1 = 0x40 ∧ leAt b.pkt.body 1 1 = 2 ∧ u.receiving = some xfer ∧
      b.pkt.body.length = 20 + leAt b.pkt.body 12 2 ∧ leAt b.pkt.body 16 4 = crc32c (b.pkt.body.drop 20) ∧ leAt b.pkt.body 4 4 = xfer.transfer ∧
      xfer.inRange (leAt b.pkt.body 8 4) (leAt b.pkt.body 12 2) = true) ∧
    ∃ u, Accepted s 0 .mgmt c u ∧ u.isTile = true ∧ leAt c.pkt.body 0 1 ∉ mgmtForms :=
  ⟨⟨_, accepted_of_passes _ _ _ _ _ _ _ _ (by decide +kernel), by decide +kernel⟩,
    ⟨_, accepted_of_passes _ _ _ _ _ _ _ _ (by decide +kernel), by decide +kernel⟩,
    ⟨_, accepted_of_passes _ _ _ _ _ _ _ _ (by decide +kernel), by decide +kernel⟩⟩

/-- A run at a step, with a reference voltage in microvolts. -/
def assaying (step uv : Nat) : State :=
  let s := sender.wr Reg.ASY_STAT_STEP step
  { s with asy := { s.asy with run := some { (default : AsyRun) with refUv := uv }, record := some default } }

/-- The limits of the reference are 1,240,000 and 1,260,000 µV; OFF 512 is in range and 513 is not. -/
theorem witness_AssayRunsStepByStep :
    State.reset.role = 0 ∧ (sender.role ≠ 0 ∧ sender.asy.run = none ∧ (assaying 7 1250000).role ≠ 0) ∧
    ((assaying 7 1250000).asy.run ≠ none ∧ (assaying 7 1250000).rd Reg.ASY_STAT_STEP < 8) ∧
    8 ≤ (assaying 8 1250000).rd Reg.ASY_STAT_STEP ∧ (assaying 1 1239999).rd Reg.ASY_STAT_STEP = 1 ∧ 1239999 < 1240000 ∧ 1260000 < 1260001 ∧
    (assaying 2 0).rd Reg.ASY_STAT_STEP = 2 ∧ (assaying 3 0).rd Reg.ASY_STAT_STEP = 3 ∧
    (let m := { measure with total := 16384 * (2048 + 512) }
     inTrim (roundDiv m.total 16384 - 2048) 512 = true) ∧
    (let m := { measure with total := 16384 * (2048 + 513) }
     inTrim (roundDiv m.total 16384 - 2048) 512 = false) ∧
    ((assaying 9 0).rd Reg.ASY_STAT_STEP = 9 ∧ (assaying 9 0).asy.record ≠ none ∧ ({ measure with flashOk := false }).flashOk = false) := by
  decide +kernel

/-- Bank 4 with a mode and a state. -/
def bank (mode state : Nat) : State := sender.wr (Reg.SRB_PWR_MODE 4) mode |>.wr (Reg.SRB_PWR_STATE 4) state

/-- The accesses end at the last byte of the bank, or one byte behind it. -/
theorem witness_SramBanksByMode :
    ((bank 2 2).rd (Reg.SRB_PWR_MODE 4) = 2 ∧ ownerPowered (bank 2 2).role 4 = true ∧ (1 : BitVec 2).toNat < 2 ∧ (0 : BitVec 2).toNat < 2) ∧
    ((bank 1 2).rd (Reg.SRB_PWR_MODE 4) ≠ 2 ∧ ownerPowered State.reset.role 4 = false) ∧
    ((bank 2 2).rd (Reg.SRB_PWR_STATE 4) ≠ 3 ∧ (bank 2 3).rd (Reg.SRB_PWR_STATE 4) = 3 ∧ (bank 0 1).rd (Reg.SRB_PWR_STATE 4) < 2) ∧
    (let s := bank 2 2
     let x : SramAccess := ⟨bankSize 4 - 8, 8, none⟩
     let y : SramAccess := ⟨bankSize 4 - 8, 0, some (zeros 8)⟩
     s.rd (Reg.SRB_PWR_STATE 4) = 2 ∧ s.touchesWindow 4 x = false ∧ s.touchesWindow 4 y = false ∧ ownerPowered s.role 4 = true ∧
     SramAccess.inside x 4 = true ∧ SramAccess.inside y 4 = true ∧ .cores ∈ sharedMasters 4 ∧ x.offset / 8 = y.offset / 8 ∧
     x.offset % 8 + SramAccess.bytes x ≤ 8 ∧ y.offset % 8 + SramAccess.bytes y ≤ 8) ∧
    (let s := bank 2 2
     let x : SramAccess := ⟨bankSize 4 - 7, 8, none⟩
     s.touchesWindow 4 x = false ∧ SramAccess.inside x 4 = false ∧ .driverFeed ∉ sharedMasters 4) ∧
    (let s := (bank 2 2).wr Reg.SYS_ROLE_ROLE 0
     ownerPowered s.role 4 = false ∧ s.rd (Reg.SRB_PWR_STATE 4) = 2 ∧ s.touchesWindow 4 ⟨0, 8, none⟩ = false) ∧
    State.reset.sys.fatal = none := by decide +kernel

/-- A device whose background test holds window 3 of bank 0. -/
def testing : State :=
  let s := st [(Reg.SRB_TEST_CTRL_ENABLE, 1), (Reg.SRB_TEST_POS_HELD, 1), (Reg.SRB_TEST_POS_WINDOW, 3)]
  { s with srb := { s.srb with save := zeros 256 } }

/-- A device whose last window started at 0 with PERIOD 1, at a time. -/
def periodOver (now : Nat) : State :=
  let s := st [(Reg.SRB_TEST_CTRL_ENABLE, 1), (Reg.SRB_TEST_CTRL_PERIOD, 1)]
  at_ { s with srb := { s.srb with windowAt := some 0 } } now

theorem witness_TestWindowsAreBorrowedAndRestored :
    (st [(Reg.SRB_TEST_CTRL_ENABLE, 0)]).rd Reg.SRB_TEST_CTRL_ENABLE = 0 ∧ State.reset.rd Reg.SRB_TEST_POS_HELD = 0 ∧
    ((periodOver 999).srb.windowAt = some 0 ∧ 0 ≤ (periodOver 999).now ∧
      (periodOver 999).now < 0 + max 1 ((periodOver 999).rd Reg.SRB_TEST_CTRL_PERIOD) * 1000) ∧
    ((periodOver 1000).rd Reg.SRB_TEST_CTRL_ENABLE = 1 ∧ (periodOver 1000).rd Reg.SRB_TEST_POS_HELD = 0 ∧ (periodOver 1000).windowDue = true ∧
      (periodOver 1000).testTarget = some (0, 0)) ∧
    (testing.rd Reg.SRB_TEST_POS_HELD = 1 ∧ testing.srb.save.length = 256) ∧
    let x : SramAccess := ⟨1023, 8, some (zeros 2)⟩
    x.write = some (zeros 2) ∧ ownerPowered testing.role 0 = true ∧ SramAccess.inside x 0 = true ∧ testing.rd (Reg.SRB_PWR_STATE 0) = 2 ∧
      testing.touchesWindow 0 x = true ∧ testing.touchesWindow 0 { x with offset := 1024 } = false := by decide +kernel

/-- A device with a scan of `len` bytes from `addr` on in progress. -/
def scanning (s : State) (addr len : Nat) : State :=
  { s with tly := { s.tly with scans := [(0, { (default : ScanRec) with addr := addr, len := len })] } }

/-- The scanned area is one line: line 0, or one that no window of a device without a role maps. -/
theorem witness_MemoryScansStartAndEnd :
    State.reset.role = 0 ∧ sender.role ≠ 0 ∧
    (let s := sender.wr (Reg.TLY_MS_LEN_LEN 0) 8
     let r := ((s.wr (Reg.TLY_MS_CFG_PROFILE 0) (1 : BitVec 2).toNat).wrFlag (Reg.TLY_MS_CFG_REPEAT 0) true).scanFields 0
     r.addr % 8 = 0 ∧ r.len % 8 = 0 ∧ r.len ≠ 0) ∧
    (((sender.wr (Reg.TLY_MS_CFG_PROFILE 0) 0).wrFlag (Reg.TLY_MS_CFG_REPEAT 0) false).scanFields 0).len = 0 ∧
    Tab.find sender.tly.scans 0 = none ∧
    (let r : ScanRec := { (default : ScanRec) with addr := 0, len := 8 }
     Tab.find (scanning sender 0 8).tly.scans 0 = some r ∧ (scanning sender 0 8).unmappedLine r = none ∧ r.lastLine < (1 : BitVec 27).toNat ∧
     r.addr / 64 ≤ (0 : BitVec 27).toNat ∧ (0 : BitVec 27).toNat ≤ r.lastLine ∧ (scanning sender 0 8).windowAt (64 * (0 : BitVec 27).toNat) ≠ none) ∧
    (let r : ScanRec := { (default : ScanRec) with addr := 0x1FFFFFFC0, len := 8 }
     let l : BitVec 27 := 0x7FFFFFF
     Tab.find (scanning State.reset 0x1FFFFFFC0 8).tly.scans 0 = some r ∧ r.addr / 64 ≤ l.toNat ∧ l.toNat ≤ r.lastLine ∧
     (scanning State.reset 0x1FFFFFFC0 8).windowAt (64 * l.toNat) = none) := by decide +kernel

theorem witness_DramReadsAndWrites :
    (sender.windowAt (0 : BitVec 33).toNat ≠ none ∧ sender.dmc.waiting = []) ∧ ((realErrors [(0, 1), (63, 1)]).map (·.1)).dedup.length ≤ 2 ∧
    (realErrors [(0, 1), (63, 1)] ≠ [] ∧ 144 ≤ sender.rd (Reg.DMC_CH_STAT_DEAD_WIRE (sender.dramPlace (0 : BitVec 33).toNat).1)) ∧
    ((0 : BitVec 33).toNat % 64 = 0 ∧ (zeros 64).length = 64) ∧ State.reset.windowAt (0x1FFFFFFFF : BitVec 33).toNat = none := by decide +kernel

/-- A read of line `l` that waits on its channel in class `c`, and was promoted or not. -/
def waitingRead (l c : Nat) (promoted : Option Nat) : DramRequest := ⟨(sender.dramPlace (64 * l)).1, 64 * l, .read, c, 0, 0, 0, promoted, []⟩

/-- A Sender in which requests wait. -/
def queueing (ps : List DramRequest) : State := { sender with dmc := { sender.dmc with waiting := ps } }

/-- Of reads of lines 1 and 2, both on channel 0, the promoted one is first, and without a promoted one that of the lower class. -/
theorem witness_DramControllerUpkeep :
    (let p := waitingRead 2 1 (some 0)
     let s := queueing [waitingRead 1 0 none, p]
     let v := (s.promote (0 : Fin 8) fun q => q.line == (1 : BitVec 27).toNat).promote (0 : Fin 8) fun _ => true
     (v.issuable (0 : Fin 8)).find? (fun q => q.promoted.isSome) = some p ∧ p.op = .read) ∧
    (let p := waitingRead 2 0 none
     let s := queueing [waitingRead 1 1 none, p]
     let v := (s.promote (0 : Fin 8) fun q => q.line == (1 : BitVec 27).toNat).promote (0 : Fin 8) fun _ => true
     p ∈ v.issuable (0 : Fin 8) ∧ p.op = .read ∧ p.promoted = none ∧ p.cls < 4 ∧
     (∀ q ∈ v.issuable (0 : Fin 8), q = p ∨ (q.promoted = none ∧ p.cls < q.cls)) ∧
     s.dmc.waiting.any (fun q => (q.chan == (0 : Fin 8).val) && (chanRank (s.dramPlace q.addr).2 == (0 : Fin 2).val)) = true) ∧
    (State.reset.rd Reg.DMC_STAT_STATE ≠ 2 ∧ (act State.reset [(Reg.DMC_CFG_SCRUB_H, 0)]).ac Reg.DMC_CFG_SCRUB_H = 0 ∧
      (act State.reset [(Reg.DMC_CFG_PD_TIMER, 0)]).ac Reg.DMC_CFG_PD_TIMER = 0) ∧
    let s := act (st [(Reg.DMC_STAT_STATE, 2)]) [(Reg.DMC_CFG_PD_TIMER, 1), (Reg.DMC_CFG_SCRUB_H, 1)]
    s.ac Reg.DMC_CFG_PD_TIMER ≠ 0 ∧ s.ac Reg.DMC_CFG_SCRUB_H ≠ 0 ∧ s.rd Reg.DMC_STAT_STATE = 2 ∧ s.dmc.waiting = [] := by decide +kernel

theorem witness_TallyUnitsTakeBytes :
    (State.reset.clusterOn 1 = false ∧ State.reset.clusterOn 0 = true ∧ sender.clusterOn 3 = true) ∧
    (∃ v : Byte, Instr.tlyUData1 0 0 5 = .tlyUData1 0 0 v ∧ [5] = leBytes 1 v.toNat) ∧
    (∃ v : BitVec 16, Instr.tlyUData2 0 0 0x102 = .tlyUData2 0 0 v ∧ [2, 1] = leBytes 2 v.toNat) ∧
    ∃ v : Word, Instr.tlyUData4 0 0 0x1020304 = .tlyUData4 0 0 v ∧ [4, 3, 2, 1] = leBytes 4 v.toNat :=
  ⟨by decide +kernel, ⟨_, rfl, by decide⟩, ⟨_, rfl, by decide⟩, _, rfl, by decide⟩

/-! ### Wheel time and the ports -/

/-- Ports in service with an address, and no key. -/
def keyless : State := { tile with trs := { tile.trs with wallKey := none } }

/-- A multiple of 131,072 ns is due once; the marker on it is 0 ns off, and the offset of a regain 1,000,000 or 1,000,001 sixteenths. -/
theorem witness_TimeExchangesAndMarkers :
    (sender.now / 131072 * 131072 = 0 ∧ sender.due actMarker 0 0 sender.now = true ∧
      (State.perform sender actMarker 0).due actMarker 0 0 sender.now = false) ∧
    (tile.source = 2 ∧ tile.rd Reg.WHL_STAT_STATE = 1 ∧ (1 : Port).val ≠ tile.timePort ∧ sender.source ≠ 2 ∧ sender.isTile = false) ∧
    (∀ n ∈ [2, 3],
     let s := tile.wr Reg.WHL_STAT_STATE n
     (0 : Port).val = s.timePort ∧ s.source = 2 ∧ s.rd Reg.WHL_STAT_STATE = n ∧ within (s.markerError 0) 1000 = true ∧
     within ((at_ s 65000).markerError 0) 1000 = false) ∧
    (let s := (tile.wr Reg.WHL_STAT_STATE 4)
     let t (o : Int) (p : Option Int) : State := { s with whl := { s.whl with offset := some o, stepPending := p } }
     (0 : Port).val = s.timePort ∧ s.source = 2 ∧ s.rd Reg.WHL_STAT_STATE = 4 ∧ s.isTile = true ∧ (t 16000000 none).whl.offset = some 16000000 ∧
     within 16000000 1000000 = true ∧ within 16000001 1000000 = false ∧ (t 16000001 none).whl.stepPending = none ∧
     (t 16000001 (some 1)).whl.stepPending ≠ none) ∧
    (sender.isTile = false ∧ tile.isTile = true ∧ tile.canSend tile.timePort = true ∧ keyless.isTile = true ∧ keyless.canSend keyless.timePort = true ∧
      (tile.wr (Reg.WFT_PORT_STAT_TX_POWER 0) 2).canSend 0 = false) ∧ tile.whl.waiting = [] := by decide +kernel

/-- A request at a Tile; a response to a request of its own; and the two verdicts on what waits. -/
theorem witness_TimeExchangesAndMarkers_packets :
    let a := arr keyless 0 .time 0x8000 5 0 0 (timeRequestBody 3 9)
    let s := { keyless with whl := { keyless.whl with request := some (0, 3, 9) } }
    let b := arr s 0 .time 0x8000 5 0 0 (leBytes 1 2 ++ zeros 3 ++ leBytes 4 3 ++ leBytes 8 9 ++ zeros 16)
    (keyless.linkVerdict (0 : Port) a = .good 1 ∧ a.pkt.type = 0x10 ∧ (a.pkt.body.headD 0).toNat = 1 ∧
      (keyless.arrive (0 : Port) a).canSend (0 : Port) = true) ∧
    s.linkVerdict (0 : Port) b = .good 1 ∧ b.pkt.type = 0x10 ∧ (b.pkt.body.headD 0).toNat = 2 ∧ s.whl.request = some ((0 : Port).val, 3, 9) ∧
      leAt b.pkt.body 4 4 = 3 ∧ s.count16 % 2 ^ 64 ≤ 9 + 1600000 := by decide +kernel

theorem witness_TimeExchangesAndMarkers_verdict :
    let s := up (st [(Reg.SYS_ROLE_ROLE, 2)])
    let good : TimeWait := ⟨0, pktTo s 0 .time 0x8000 5 0 0 (leBytes 1 2 ++ zeros 31), 1, 0⟩
    let bad : TimeWait := ⟨0, emptyPkt, 1, 0⟩
    (({ s with whl := { s.whl with waiting := [good] } } : State).whl.waiting = good :: [] ∧ good.port < 4 ∧
      (State.frameChecks s good.port .time good.pkt good.seq).2 = true ∧ (good.pkt.body.headD 0).toNat = 2) ∧
    (State.frameChecks s bad.port .time bad.pkt bad.seq).2 = false := by decide +kernel

/-- A Tile that waits for its step of 5 sixteenths at 9 ns, and for 50 Hz at 1 s. -/
def stepping (now : Nat) : State := { at_ tile now with whl := { tile.whl with stepPending := some 5, stepAt := 9, pendingRate := some (50, 1) } }

/-- The edge is 1,000 ns from the boundary at most, and 1,001 ns beyond. -/
theorem witness_LockStatesFollowTheSource :
    (∀ n ∈ [2, 3],
     let s := at_ (sender.wr Reg.WHL_STAT_STATE n) 1000
     s.isSender = true ∧ s.source = 1 ∧ s.whl.oldSync = none ∧ s.whl.lastEdge = none ∧ s.rd Reg.WHL_STAT_STATE = n ∧ within s.edgeError 1000 = true ∧
     within (at_ s 1001).edgeError 1000 = false) ∧
    (let s := { sender with whl := { sender.whl with lastEdge := some 0 } }
     s.whl.lastEdge = some 0 ∧ nearestIndex s.whl.rate s.count16 ≤ 0 + 1) ∧
    (sender.source = 1 ∧ sender.rd Reg.WHL_STAT_STATE = 1 ∧ sender.warmStart = false ∧ sender.whl.edgeSeen = false ∧ sender.holdsSpindle = true) ∧
    (let s := act tile [(Reg.WHL_CFG_SYNC, 2)]
     s.isTile = true ∧ s.syncCfg = 2 ∧ s.whl.localLost = false ∧ s.whl.oldSync = none) ∧
    (let s := act sender [(Reg.WHL_CFG_SYNC, 0)]
     s.isTile = false ∧ s.source ≠ 1) ∧ (tile.wr Reg.WHL_STAT_STATE 4).rd Reg.WHL_STAT_STATE = 4 ∧ tile.rd Reg.WHL_STAT_STATE ≠ 4 ∧
    (∀ n ∈ [2, 3], tile.isTile = true ∧ tile.source = 2 ∧ (tile.wr Reg.WHL_STAT_STATE n).rd Reg.WHL_STAT_STATE = n) ∧ tile.whl.stepPending = none ∧
    ((stepping 8).whl.stepPending = some 5 ∧ (stepping 8).now < (stepping 8).whl.stepAt ∧ (stepping 9).whl.stepAt ≤ (stepping 9).now) ∧
    ((stepping 8).whl.pendingRate = some (50, 1) ∧ (stepping 999999999).now < 1 * 1000000000 ∧ 1 * 1000000000 ≤ (stepping 1000000000).now) ∧
    (∀ n ∈ [1, 2],
     let s := act tile [(Reg.WHL_CFG_OUT, n)]
     s.cfg 13 Reg.WHL_CFG_OUT = n ∧ s.lastBoundaryAt s.now = 0 ∧ s.now / 1000000000 * 1000000000 = 0 ∧ s.due actOut 0 0 s.now = true ∧
     (State.perform s actOut 0).due actOut 0 0 s.now = false) ∧
    (tile.cfg 13 Reg.WHL_CFG_OUT ≠ 1 ∧ tile.cfg 13 Reg.WHL_CFG_OUT ≠ 2) := by decide +kernel

/-- A port in a state, not fast. -/
def portIn (n : Nat) : State := st [(Reg.WFT_PORT_STAT_STATE 0, n)]

/-- The same after fast training, with stored settings. -/
def fastIn (n : Nat) : State := (portIn n).setPort 0 fun w => { w with fast := true, stored := some [] }

/-- The fifteen symbols of an ordered set with an ID and a mask. -/
def setOf (id mask : Nat) : Bytes := (OrdSet.symbols ⟨0, id, 1, 0, 0, mask, false, []⟩ 0).map fun v => BitVec.ofNat 8 v

theorem witness_PortsTrainPhaseByPhase :
    (∀ n ∈ [1, 2, 3, 4, 5, 6, 7], (portIn n).rd (Reg.WFT_PORT_STAT_STATE (0 : Port)) = n ∧ ((portIn n).port (0 : Port)).fast = false) ∧
    lanes.mask ≠ 0 ∧
    (let s := (portIn 4).wr (Reg.WFT_LANE_STAT_LOCK 0 0) 1
     s.goodLanes (0 : Port) { lanes with fom := [[255], [0], [0], [0]] } ≠ 0) ∧
    lanesFor lanes.partner.toNat ((act (portIn 5) [(Reg.WFT_PORT_CFG_MAX_WIDTH 0, 3)]).ac (Reg.WFT_PORT_CFG_MAX_WIDTH (0 : Port))) ≠ [] ∧
    (let s := (portIn 7).wr (Reg.WFT_PORT_STAT_TX_POWER 0) 3
     s.inService (0 : Port) = true ∧ s.isSender = false ∧ s.rd (Reg.WFT_PORT_STAT_TX_POWER (0 : Port)) = 3) ∧
    (({ lanes with mask := 0 }).mask = 0 ∧ lanes.energy = true) ∧
    (((fastIn 3).port (0 : Port)).fast = true ∧ (fastIn 3).rd (Reg.WFT_PORT_STAT_STATE (0 : Port)) = 3) ∧
    (setIs 1 (setOf 1 0) = true ∧ setIs 1 (setOf 2 0) = false ∧ (portIn 7).inService (0 : Port) = true) ∧
    (let s := (portIn 1).wr (Reg.WFT_PORT_STAT_ABSENT 0) 1
     s.rd (Reg.WFT_PORT_STAT_STATE (0 : Port)) = 1 ∧ s.flag (Reg.WFT_PORT_STAT_ABSENT (0 : Port)) = true ∧
     (s.port (0 : Port)).commanded = false) := by decide +kernel

/-- 255 violations are no fault, and 256 are; a mask of lane 3 allows a width, and none of lanes does not. -/
theorem witness_LanesDegradeAndWidthsFollow :
    (let s := (portIn 7).wr (Reg.WFT_LANE_STAT_LOGICAL 0 2) 1
     s.laneFaulty (0 : Port) (2 : Fin 4) .errors ((100 : BitVec 16).toNat + (156 : BitVec 16).toNat) = true ∧
     s.laneFaulty (0 : Port) (2 : Fin 4) .errors ((100 : BitVec 16).toNat + (155 : BitVec 16).toNat) = false ∧
     s.laneFaulty (0 : Port) (1 : Fin 4) .lock 0 = false ∧ s.laneFaulty (0 : Port) (2 : Fin 4) .lock 0 = true) ∧
    ((portIn 6).inService (0 : Port) = false ∧ (portIn 7).inService (0 : Port) = true ∧ setIs 4 (setOf 3 8) = false) ∧
    (setIs 4 (setOf 4 8) = true ∧ lanesFor (setMask (setOf 4 8)) ((portIn 7).ac (Reg.WFT_PORT_CFG_MAX_WIDTH (0 : Port))) ≠ []) ∧
    (setIs 4 (setOf 4 0) = true ∧ lanesFor (setMask (setOf 4 0)) ((portIn 7).ac (Reg.WFT_PORT_CFG_MAX_WIDTH (0 : Port))) = []) ∧
    let s := (portIn 7).setPort 0 fun w => { w with degrading := true }
    s.inService (0 : Port) = true ∧ (s.port (0 : Port)).degrading = true ∧ ((portIn 7).port (0 : Port)).degrading = false := by decide +kernel

theorem witness_PortPowerStatesAndRetrains :
    (let s := act (portIn 7) [(Reg.WFT_PORT_CFG_IDLE_HOLD 0, 1), (Reg.WFT_PORT_CFG_IDLE_AFTER 0, 1)]
     s.inService (0 : Port) = true ∧ s.acFlag (Reg.WFT_PORT_CFG_IDLE_HOLD (0 : Port)) = true ∧ s.rd (Reg.WFT_PORT_STAT_TX_POWER (0 : Port)) = 0 ∧
     (at_ s 1000).txEmpty (0 : Port) = true ∧ (at_ s 999).txEmpty (0 : Port) = false) ∧
    ((act (portIn 7) [(Reg.WFT_PORT_CFG_IDLE_HOLD 0, 0)]).acFlag (Reg.WFT_PORT_CFG_IDLE_HOLD (0 : Port)) = false ∧
      (portIn 6).inService (0 : Port) = false) ∧ (setIs 3 (setOf 3 0) = true ∧ setIs 3 (setOf 1 0) = false) ∧
    (∀ n ∈ [2, 3], ((portIn 7).wr (Reg.WFT_PORT_STAT_TX_POWER 0) n).inService (0 : Port) = true ∧
      ((portIn 7).wr (Reg.WFT_PORT_STAT_TX_POWER 0) n).rd (Reg.WFT_PORT_STAT_TX_POWER (0 : Port)) = n) ∧
    ((portIn 0).portOn (0 : Port) = false ∧ (portIn 1).portOn (0 : Port) = true ∧ (fastIn 7).portOn (0 : Port) = true) := by decide +kernel

theorem witness_EyeScansRunAndEnd :
    (let s := (portIn 7).wr (Reg.WFT_LANE_STAT_LOGICAL 0 0) 1
     s.flag (Reg.WFT_EYE_CTRL_START (0 : Port)) = false ∧ s.inService (0 : Port) = true ∧ s.flag (Reg.WFT_LANE_STAT_LOGICAL (0 : Port) 0) = true) ∧
    (portIn 6).inService (0 : Port) = false ∧ (st [(Reg.WFT_EYE_CTRL_START 0, 1)]).flag (Reg.WFT_EYE_CTRL_START (0 : Port)) = true := by
  decide +kernel

/-! ### Enrolment -/

/-- A Sender whose map has a Tile that is not enrolled, and an offer of its own at a stage. -/
def offerer (stage : Nat) : State :=
  let s := act sender [(Reg.DMG_TILE_SIZE_ENABLE 0 0, 1)]
  { s with trs := { s.trs with offers := [(0, { (default : OfferRec) with stage := stage })] } }

/-- A Tile without a key, two ports in service, and an answer of its own. -/
def newTile : State :=
  let s := linked (up (st [(Reg.SYS_ROLE_ROLE, 2)]))
  { s with trs := { s.trs with answers := [(0, { (default : AnswerRec) with answered := true })] } }

theorem witness_EnrolmentOffersAndAnswers :
    (let s := offerer 1
     s.offering = true ∧ s.unenrolled = true ∧ s.canSend (0 : Port) = true ∧ s.canDraw = true ∧ s.offerDue (0 : Port) = true ∧
     ∃ x, Tab.find s.trs.offers (0 : Port) = some x ∧ x.stage = 1) ∧ tile.offering = false ∧ sender.unenrolled = false ∧
    ({ sender with trs := { sender.trs with offeredAt := [(0, 0)] } } : State).offerDue (0 : Port) = false ∧
    (let a := arr tile 0 .enrol 0x8000 63 0 0 (leBytes 1 1 ++ leBytes 1 62 ++ zeros 6 ++ leBytes 1 1 ++ zeros 7)
     ∃ u, Accepted tile 0 .enrol a u ∧ leAt a.pkt.body 8 1 = 1 ∧ u.sameWall a.pkt.body = true ∧ u.isTile = true ∧ (0 : Port).val < 2 ∧
       leAt a.pkt.body 1 1 < 63 ∧ u.canSend (1 - (0 : Port).val) = true) ∧
    (let a := arr newTile 0 .enrol 0x8000 63 0 0 (leBytes 1 1 ++ leBytes 1 62 ++ zeros 6 ++ leBytes 1 1 ++ zeros 7)
     ∃ u, Accepted newTile 0 .enrol a u ∧ leAt a.pkt.body 8 1 = 1 ∧ u.sameWall a.pkt.body = false ∧ u.answers (0 : Port) a.pkt.body = true ∧
       u.canDraw = true) ∧
    let s := offerer 1
    let a := arr s 0 .enrol 0x8000 63 0 0 (zeros 8 ++ leBytes 1 2 ++ zeros 7)
    ∃ u r, Accepted s 0 .enrol a u ∧ leAt a.pkt.body 8 1 = 2 ∧ u.isSender = true ∧ Tab.find u.trs.offers (0 : Port) = some r ∧ r.stage = 1 ∧
      u.sameWall a.pkt.body = true :=
  ⟨⟨by decide +kernel, by decide +kernel, by decide +kernel, by decide +kernel, by decide +kernel, _, rfl, rfl⟩, by decide +kernel, by decide +kernel,
    by decide +kernel,
    ⟨_, accepted_of_passes _ _ _ _ _ _ _ _ (by decide +kernel), by decide +kernel⟩,
    ⟨_, accepted_of_passes _ _ _ _ _ _ _ _ (by decide +kernel), by decide +kernel⟩,
    ⟨_, { (default : OfferRec) with stage := 1 }, accepted_of_passes _ _ _ _ _ _ _ _ (by decide +kernel), by decide +kernel⟩⟩

theorem witness_EnrolmentGrantsAndEnds :
    (let a := arr tile 0 .enrol 0x8000 63 0 0 (zeros 8 ++ leBytes 1 3 ++ zeros 7)
     ∃ u, Accepted tile 0 .enrol a u ∧ leAt a.pkt.body 8 1 = 3 ∧ u.sameWall a.pkt.body = true ∧ u.isTile = true ∧ (0 : Port).val < 2 ∧
       u.canSend (1 - (0 : Port).val) = true) ∧
    (let a := arr newTile 0 .enrol 0x8000 63 0 0 (zeros 8 ++ leBytes 1 3 ++ zeros 7)
     ∃ u r, Accepted newTile 0 .enrol a u ∧ leAt a.pkt.body 8 1 = 3 ∧ u.sameWall a.pkt.body = false ∧ u.isTile = true ∧
       Tab.find u.trs.answers (0 : Port) = some r ∧ r.answered = true ∧ leAt r.hello 4 4 = leAt a.pkt.body 12 4) ∧
    (let s := offerer 3
     let a := arr s 0 .enrol 0x8000 63 0 0 (zeros 8 ++ leBytes 1 4 ++ zeros 7)
     ∃ u r wall, Accepted s 0 .enrol a u ∧ leAt a.pkt.body 8 1 = 4 ∧ u.isSender = true ∧ Tab.find u.trs.offers (0 : Port) = some r ∧ r.stage = 3 ∧
       u.trs.wallKey = some wall ∧ u.sameWall a.pkt.body = true) ∧
    (Tab.find sender.trs.offers (0 : Port) = none ∧ Tab.find sender.trs.answers (0 : Port) = none) ∧
    (∀ n ∈ [1, 3], ∃ r, Tab.find (offerer n).trs.offers (0 : Port) = some r ∧ r.stage = n ∧ Tab.find (offerer n).trs.answers (0 : Port) = none ∧
      (at_ (offerer n) 49999999).now < r.at_ + 50000000 ∧ r.at_ + 100000000 ≤ (at_ (offerer n) 100000000).now) ∧
    newTile.isSender = false ∧ Tab.find newTile.trs.offers (0 : Port) = none ∧ ∃ r, Tab.find newTile.trs.answers (0 : Port) = some r ∧
      (at_ newTile 99999999).now < r.at_ + 100000000 ∧ r.at_ + 100000000 ≤ (at_ newTile 100000000).now :=
  ⟨⟨_, accepted_of_passes _ _ _ _ _ _ _ _ (by decide +kernel), by decide +kernel⟩,
    ⟨_, { (default : AnswerRec) with answered := true }, accepted_of_passes _ _ _ _ _ _ _ _ (by decide +kernel), by decide +kernel⟩,
    ⟨_, { (default : OfferRec) with stage := 3 }, 0, accepted_of_passes _ _ _ _ _ _ _ _ (by decide +kernel), by decide +kernel⟩,
    by decide +kernel,
    fun n h => ⟨{ (default : OfferRec) with stage := n }, rfl, rfl, rfl, by simp only [List.mem_cons, List.not_mem_nil, or_false] at h; obtain rfl | rfl := h <;> decide +kernel⟩,
    by decide, rfl, _, rfl, by decide +kernel⟩

/-! ### The Spindle -/

/-- A Sender that does not hold the Spindle, under another protection, with its ports in service. -/
def standby : State := (sender.wr Reg.SPN_STAT_STATE 0).wr Reg.SYS_ROLE_PROTECTED 1

/-- A heartbeat of a Sender of rank 0 or 1, with flags, under an epoch. -/
def heart (s : State) (rank epoch flags : Nat) : Arrival := arr s 0 .heart 0xC000 63 rank epoch (leBytes 4 1 ++ leBytes 8 0 ++ leBytes 4 flags)

/-- Whether a heartbeat can be heard. -/
def hears (s : State) (rank epoch flags : Nat) : Bool := passes s 0 .heart (heart s rank epoch flags)

theorem accepted_heart (s : State) (rank epoch flags : Nat) (h : hears s rank epoch flags = true) :
    Accepted s 0 .heart (heart s rank epoch flags) (after s 0 (heart s rank epoch flags)) := accepted_of_passes _ _ _ _ _ _ _ _ h

/-- At a Tile under a master of epoch 5 and rank 1: flags that name no holder; a worse standing; the same; a better one; an older epoch after none. -/
theorem witness_HeartbeatsSetTheMaster :
    let s := (tile.wr Reg.SPN_TILE_EPOCH_EPOCH 5).wr Reg.SPN_TILE_MASTER_RANK 1
    let n := s.wr Reg.SPN_TILE_MASTER_VALID 0
    let better (u : State) (a : Arrival) : Bool :=
      betterStanding a.pkt.epoch.toNat a.pkt.rank (u.rd Reg.SPN_TILE_EPOCH_EPOCH) (u.rd Reg.SPN_TILE_MASTER_RANK)
    let same (u : State) (a : Arrival) : Bool :=
      u.rd Reg.SPN_TILE_EPOCH_EPOCH == a.pkt.epoch.toNat && u.rd Reg.SPN_TILE_MASTER_RANK == a.pkt.rank
    (hears s 0 5 2 = true ∧ ((leAt (heart s 0 5 2).pkt.body 12 4).testBit 0 || (leAt (heart s 0 5 2).pkt.body 12 4).testBit 2) = false) ∧
    (hears s 0 4 1 = true ∧ (after s 0 (heart s 0 4 1)).isTile = true ∧ (after s 0 (heart s 0 4 1)).flag Reg.SPN_TILE_MASTER_VALID = true ∧
      (after s 0 (heart s 0 4 1)).trs.wallKey ≠ none ∧
      same (after s 0 (heart s 0 4 1)) (heart s 0 4 1) = false ∧ better (after s 0 (heart s 0 4 1)) (heart s 0 4 1) = false) ∧
    (hears keyless 0 4 1 = true ∧ (after keyless 0 (heart keyless 0 4 1)).isTile = true ∧ (after keyless 0 (heart keyless 0 4 1)).trs.wallKey = none ∧
      ((leAt (heart keyless 0 4 1).pkt.body 12 4).testBit 0 || (leAt (heart keyless 0 4 1).pkt.body 12 4).testBit 2) = true) ∧
    (hears s 1 5 4 = true ∧ same (after s 0 (heart s 1 5 4)) (heart s 1 5 4) = true) ∧
    (hears s 0 5 1 = true ∧ better (after s 0 (heart s 0 5 1)) (heart s 0 5 1) = true) ∧
    (hears n 0 4 1 = true ∧ (after n 0 (heart n 0 4 1)).flag Reg.SPN_TILE_MASTER_VALID = false) ∧ sender.isTile = false := by decide +kernel

/-- The first HEART is due at 0, and a loss of the master after LOSS_MS. -/
theorem witness_HeartbeatsSetTheMaster_times :
    (tile.isSender = false ∧ sender.isSender = true ∧ sender.frameNow / 1000000 * 1000000 = 0 ∧ sender.due actHeart 0 0 sender.frameNow = true ∧
      (State.perform sender actHeart 0).due actHeart 0 0 sender.frameNow = false ∧ sender.spn.drill = none ∧ sender.trs.wallKey ≠ none) ∧
    let s (now : Nat) : State := { at_ tile now with spn := { tile.spn with heartAt := some 7 } }
    sender.isTile = false ∧ (s 7).isTile = true ∧ (s 7).spn.heartAt = some 7 ∧ (s 7).now < 7 + (s 7).lossNs ∧
      7 + tile.lossNs ≤ (s (7 + tile.lossNs)).now ∧ (s (7 + tile.lossNs)).spn.heartAt = some 7 := by decide +kernel

theorem witness_HeartbeatsSetTheMaster_partner :
    (let s := { sender with trs := { sender.trs with wallKey := none } }
     hears s 1 0 1 = true ∧ (after s 0 (heart s 1 0 1)).isSender = true ∧ (after s 0 (heart s 1 0 1)).trs.wallKey = none) ∧
    (hears sender 0 0 1 = true ∧ (after sender 0 (heart sender 0 0 1)).trs.wallKey ≠ none ∧
      (heart sender 0 0 1).pkt.rank = (after sender 0 (heart sender 0 0 1)).rd Reg.SYS_ROLE_RANK) ∧
    (hears sender 1 0 1 = true ∧ (after sender 0 (heart sender 1 0 1)).isSender = true ∧
      (heart sender 1 0 1).pkt.rank ≠ (after sender 0 (heart sender 1 0 1)).rd Reg.SYS_ROLE_RANK ∧
      (after sender 0 (heart sender 1 0 1)).holdsSpindle = true ∧ (after sender 0 (heart sender 1 0 1)).spn.yielded = none ∧
      (after sender 0 (heart sender 1 0 1)).spn.drill = none ∧ betterStanding 0 1 0 0 = false) ∧
    (hears sender 1 1 1 = true ∧ betterStanding 1 1 0 0 = true) ∧
    (hears standby 1 0 1 = true ∧ (after standby 0 (heart standby 1 0 1)).holdsSpindle = false ∧ (after standby 0 (heart standby 1 0 1)).spn.drill = none ∧
      (after standby 0 (heart standby 1 0 1)).spn.yielded = none ∧ (leAt (heart standby 1 0 1).pkt.body 12 4).testBit 0 = true) := by
  decide +kernel

/-- Every way in which HEARTBEAT_LOSS passes, and the two in which it asks. -/
theorem witness_LossesYieldsAndVerdicts :
    (tile.isSender = false ∧ sender.holdsSpindle = true ∧ (standby.wr Reg.SYS_ROLE_PROTECTED 0).flag Reg.SYS_ROLE_PROTECTED = false ∧
      standby.inService (2 : Port) = false) ∧
    (standby.isSender = true ∧ standby.holdsSpindle = false ∧ standby.flag Reg.SYS_ROLE_PROTECTED = true ∧ standby.inService (0 : Port) = true ∧
      standby.splitPort (0 : Port) = false ∧ standby.partnerHeard (0 : Port) = false ∧ standby.query (0 : Port) = none ∧ standby.trs.wallKey ≠ none ∧
      standby.canSend (0 : Port) = true) ∧
    (standby.wr (Reg.WFT_PORT_STAT_TX_POWER 0) 2).rd (Reg.WFT_PORT_STAT_TX_POWER (0 : Port)) = 2 := by decide +kernel

/-- Queries: over, and not over; the partner is heard again; one port alone is silent and nothing, or one Tile, is abandoned; and every port is. -/
theorem witness_LossesYieldsAndVerdicts_queries :
    let q (l : Tab (Nat × Nat)) : QueryRec := ⟨some 0, false, l⟩
    let heard (p : Nat) (s : State) : State := { s with spn := { s.spn with heard := [(p, ⟨0, 0, 0, 0, 0⟩)] } }
    let gone : Tab (Nat × Nat) := [(3, (255, 255))]
    let one (l : Tab (Nat × Nat)) : State := standby.setQuery 0 (q l)
    (standby.query (0 : Port) = none ∧ (heard 0 (one [])).query (0 : Port) = some (q []) ∧ (one []).queryOver (0 : Port) (q []) = true ∧
      (act (one []) [(Reg.DMG_TILE_SIZE_ENABLE 0 3, 1)]).queryOver (0 : Port) (q []) = false ∧
      (act (one []) [(Reg.DMG_TILE_SIZE_ENABLE 0 3, 1)]).queryOver (0 : Port) (q gone) = true ∧ (heard 0 (one [])).partnerHeard (0 : Port) = true) ∧
    (let s := heard 1 (one [])
     s.partnerHeard (0 : Port) = false ∧ s.lossWhole = false ∧ s.abandoned (q []) = []) ∧
    (let s := heard 1 (one gone)
     s.partnerHeard (0 : Port) = false ∧ s.lossWhole = false ∧ s.abandoned (q gone) ≠ []) ∧
    (let s := one gone
     let s1 := s.setQuery (0 : Port) { q gone with ended := true }
     s.partnerHeard (0 : Port) = false ∧ s.lossWhole = true ∧ (∀ x ∈ s1.spn.queries, x.2.ended = true) ∧
     (s1.spn.queries.map fun x => x.2.answers.length).sum = (s1.spn.queries.map fun x => (s1.abandoned x.2).length).sum ∧
     0 < (s1.spn.queries.map fun x => (s1.abandoned x.2).length).sum ∧ s.mayTake = true ∧ s.spn.verdicts = []) := by decide +kernel

/-- A YIELD of the partner with a reason. -/
def yielding (s : State) (reason : Nat) : Arrival := arr s 0 .yield 0xC000 63 1 0 (leBytes 4 reason ++ zeros 12)

theorem witness_LossesYieldsAndVerdicts_yields :
    (∃ u, Accepted standby 0 .yield (yielding standby 7) u ∧ u.isSender = true ∧ u.holdsSpindle = false ∧
      (yielding standby 7).pkt.rank ≠ u.rd Reg.SYS_ROLE_RANK ∧ leAt (yielding standby 7).pkt.body 0 4 = 7) ∧
    (∀ n ∈ [1, 6], ∃ u, Accepted standby 0 .yield (yielding standby n) u ∧ u.rd Reg.SPN_EPOCH_EPOCH ≤ (yielding standby n).pkt.epoch.toNat ∧
      u.mayTake = true ∧ u.ownVerdict = false ∧ leAt (yielding standby n).pkt.body 0 4 = n) ∧
    (∃ u, Accepted standby 0 .yield (yielding standby 8) u ∧ 7 < leAt (yielding standby 8).pkt.body 0 4) ∧
    (let s := { standby with spn := { standby.spn with verdicts := [1] } }
     ∃ u, Accepted s 0 .yield (yielding s 1) u ∧ u.ownVerdict = true) ∧
    (let s := standby.wr Reg.SPN_EPOCH_EPOCH 1
     ∃ u, Accepted s 0 .yield (yielding s 1) u ∧ (yielding s 1).pkt.epoch.toNat < u.rd Reg.SPN_EPOCH_EPOCH) :=
  ⟨⟨_, accepted_of_passes _ _ _ _ _ _ _ _ (by decide +kernel), by decide +kernel⟩,
    fun n h => ⟨_, accepted_of_passes _ _ _ _ _ _ _ _ (by revert n; decide +kernel), by revert n; decide +kernel⟩,
    ⟨_, accepted_of_passes _ _ _ _ _ _ _ _ (by decide +kernel), by decide +kernel⟩,
    ⟨_, accepted_of_passes _ _ _ _ _ _ _ _ (by decide +kernel), by decide +kernel⟩,
    ⟨_, accepted_of_passes _ _ _ _ _ _ _ _ (by decide +kernel), by decide +kernel⟩⟩

theorem witness_LossesYieldsAndVerdicts_verdicts :
    (let s (now : Nat) : State := { at_ sender now with spn := { sender.spn with yielded := some (1, 0) } }
     sender.spn.yielded = none ∧ (s 0).spn.yielded = some (1, 0) ∧ (s 99999999).now < 0 + 100000000 ∧ 0 + 100000000 ≤ (s 100000000).now) ∧
    (tile.isSender = false ∧ sender.verdictDue (9 : BitVec 4).toNat = false) ∧
    (let s := { sender.wr Reg.SYS_ROLE_PROTECTED 1 with hmk := { sender.hmk with checkRun := 2 } }
     s.isSender = true ∧ s.verdictDue (3 : BitVec 4).toNat = true ∧ s.rd Reg.SPN_STAT_VERDICT = 0 ∧ s.spn.verdicts = [] ∧ s.holdsSpindle = true ∧
     s.flag Reg.SYS_ROLE_PROTECTED = true ∧ (3 : BitVec 4).toNat ≠ 8 ∧ s.spn.yieldBar ≠ (3 : BitVec 4).toNat ∧ s.trs.wallKey ≠ none) ∧
    sender.flag Reg.SYS_ROLE_PROTECTED = false ∧ (sender.wr Reg.SPN_STAT_VERDICT 5).rd Reg.SPN_STAT_VERDICT ≠ 0 ∧
    ({ sender with spn := { sender.spn with unequal := [(0, 255)] } } : State).verdictDue (8 : BitVec 4).toNat = true := by decide +kernel

/-- A Sender that holds the Spindle, with a drill at a stage, and the generation by then. -/
def drilling (stage gen : Nat) : State :=
  let s := (sender.wr Reg.SYS_ROLE_PROTECTED 1).wr Reg.DMG_GEN_GEN gen
  { s with spn := { s.spn with drill := some ⟨100, 0, stage, 0, false⟩ } }

/-- A drill out 4 generations ahead, not 3; back 64 after it, not 63. -/
theorem witness_DrillsShadowAndOffset :
    tile.isSender = false ∧
    (let s := sender.wr Reg.SYS_ROLE_PROTECTED 1
     s.holdsSpindle = true ∧ s.flag Reg.SYS_ROLE_PROTECTED = true ∧ 4 ≤ genAfter (4 : Word).toNat (s.rd Reg.DMG_GEN_GEN) ∧ s.spn.drillBack = 0 ∧
     ¬ 4 ≤ genAfter (3 : Word).toNat (s.rd Reg.DMG_GEN_GEN) ∧ 64 ≤ genAfter 68 (4 : Word).toNat ∧ ¬ 64 ≤ genAfter 67 (4 : Word).toNat) ∧
    sender.spn.drill = none ∧
    ((drilling 1 97).spn.drill = some ⟨100, 0, 1, 0, false⟩ ∧ (drilling 1 97).holdsSpindle = true ∧
      (drilling 1 97).rd Reg.DMG_GEN_GEN = (100 + 2 ^ 32 - 3) % 2 ^ 32 ∧ (drilling 1 97).trs.wallKey ≠ none) ∧
    ((drilling 2 99).rd Reg.DMG_GEN_GEN = (100 + 2 ^ 32 - 1) % 2 ^ 32 ∧ (drilling 2 99).silentPorts = [] ∧
      (act (drilling 2 99) [(Reg.DMG_TILE_SIZE_ENABLE 0 0, 1)]).silentPorts ≠ []) ∧
    ((drilling 4 0).isSender = true ∧ (drilling 4 0).spn.drill = some ⟨100, 0, 4, 0, false⟩ ∧ (drilling 4 0).frameNow / 1000000 * 1000000 = 0 ∧
      (drilling 4 0).due actHeart 0 0 (drilling 4 0).frameNow = true) ∧ sender.spn.partnerYield = none ∧
    (let s := { standby with spn := { standby.spn with
        partnerYield := some ⟨7, 99, 5000000, 0⟩, holderGen := some 99, heard := [(0, ⟨0, 3000001, 0, 0, 1⟩)] } }
     s.mayTake = true ∧ s.ownVerdict = false ∧ s.spn.holderGen = some 99 ∧ s.heardReleased (5000000 - 2000000) = true ∧
     (at_ s 4999999).now < 5000000 ∧ 5000000 ≤ (at_ s 5000000).now) ∧
    (let s := { standby with spn := { standby.spn with partnerYield := some ⟨7, 99, 0, 0⟩ } }
     0 ≤ s.now ∧ ¬ s.spn.holderGen = some 99) := by decide +kernel

/-- A piece of Tile 0 of chain 0 at a Sender that does not hold the Spindle, with its hallmark 7 and the holder's guard entry. -/
def shadowing : State :=
  let x : PieceRec := ⟨0, 0, 2, 0, 0, 8, 0, 0, 32, 16, 0, 0⟩
  let t : PieceTable := ⟨0, 1, [x], [(x.key, [(0, some 7)])]⟩
  { standby with hmk := { standby.hmk with tables := [t], holderGuard := [(tileKey 0 0, t.guardEntries 0 0)] } }

/-- A REAFFIRM of one entry: number 2 and a hallmark. -/
def affirm (s : State) (mark : Nat) : Arrival :=
  arr s 0 .reaffirm 0 63 1 0 (leBytes 4 0 ++ zeros 10 ++ leBytes 1 1 ++ zeros 1 ++ leBytes 1 2 ++ zeros 7 ++ leBytes 8 mark)

theorem witness_DrillsShadowAndOffset_shadow :
    let x : PieceRec := ⟨0, 0, 2, 0, 0, 8, 0, 0, 32, 16, 0, 0⟩
    (∀ m ∈ [7, 8], passes shadowing 0 .reaffirm (affirm shadowing m) = true ∧
      let u := after shadowing 0 (affirm shadowing m)
      let a := affirm shadowing m
      let tbl := u.tableFor (u.ownGen (leAt a.pkt.body 0 4))
      u.isSender = true ∧ u.holdsSpindle = false ∧
      Tab.find u.hmk.holderGuard (tileKey (a.pkt.addr / 64 % 4) (a.pkt.addr % 64)) = some (tbl.guardEntries (a.pkt.addr / 64 % 4) (a.pkt.addr % 64)) ∧
      reaffirmEntries a.pkt.body = [(2, m)] ∧
      (tbl.pieces.find? fun x => x.chain == a.pkt.addr / 64 % 4 && x.pos == a.pkt.addr % 64 && x.num == 2) = some x ∧
      u.readyMark tbl (u.ownGen (leAt a.pkt.body 0 4)) x = some 7) ∧ passes sender 0 .reaffirm (affirm sender 7) = true := by decide +kernel

theorem witness_DrillsShadowAndOffset_offset :
    let b := boundary 60 7
    let s := { standby with dmg := { standby.dmg with bounds := [(5, b)] } }
    let a := arr s 0 .commit 0 63 1 0 (leBytes 4 9 ++ leBytes 8 (boundary 60 9) ++ zeros 4)
    let c := arr s 0 .commit 0 63 1 0 (leBytes 4 9 ++ leBytes 8 (boundary 60 9) ++ leBytes 4 2)
    (∃ u, Accepted s 0 .commit a u ∧ u.isSender = true ∧ u.holdsSpindle = false ∧ leAt a.pkt.body 12 1 < 2 ∧
      (u.dmg.bounds.find? fun x => x.2 == boundary u.whl.rate (boundaryIndex u.whl.rate (leAt a.pkt.body 4 8) - 2)) = some (5, b)) ∧
    ∃ u, Accepted s 0 .commit c u ∧ 2 ≤ leAt c.pkt.body 12 1 :=
  ⟨⟨_, accepted_of_passes _ _ _ _ _ _ _ _ (by decide +kernel), by decide +kernel⟩,
    ⟨_, accepted_of_passes _ _ _ _ _ _ _ _ (by decide +kernel), by decide +kernel⟩⟩

/-! ### Packets -/

/-- Packets wait ahead of this one in the forward buffer of port 1. -/
def queued (s : State) (n : Nat) : State :=
  s.setPort 1 fun w => { w with fwd := List.replicate n ⟨1, { emptyPkt with length := 2308 }, true, none⟩ }

/-- A packet of 32 bytes; the buffer holds three packets of 2,332 bytes and it, not four; and a marker at 131,072 ns cuts into it shortly before. -/
theorem witness_PacketsAreCheckedAndForwarded :
    let a := arr tile 0 .mgmt 9 63 0 0 (zeros 8)
    let full (s : State) (b : Bool) : Bool :=
      let gone := if b || !s.canSend 1 then [] else s.leaving 1
      decide (8192 < (((s.port 1).fwd.drop gone.length).map fun f => f.pkt.size).sum + a.pkt.size)
    (sender.isTile = false ∧ (arr tile 0 .time 0x8000 5 0 0 (zeros 8)).pkt.hop = true ∧ 1 < (2 : Port).val) ∧
    (tile.isTile = true ∧ a.pkt.hop = false ∧ (0 : Port).val ≤ 1 ∧ tile.inService (1 - (0 : Port).val) = true ∧
      (portIn 7).inService (1 - (0 : Port).val) = false) ∧
    (tile.poisons (0 : Port) a = false ∧ tile.poisons (0 : Port) { a with endGood := false } = true ∧
      tile.storesWhole (0 : Port) 1 = false ∧ (tile.wr (Reg.WFT_PORT_STAT_RX_WIDTH 0) 1).storesWhole (0 : Port) 1 = true) ∧
    (a.outBusy = false ∧ tile.canSend 1 = true ∧ tile.acrossMarker 1 a.pkt.size = false ∧ (tile.port 1).fwd = [] ∧ tile.leaving 1 = [] ∧
      (at_ (tile.wr (Reg.WFT_PORT_STAT_TX_WIDTH 1) 3) 131071).acrossMarker 1 a.pkt.size = true ∧ (tile.wr (Reg.WFT_PORT_STAT_TX_POWER 1) 2).canSend 1 = false) ∧
    (full (queued tile 3) true = false ∧ full (queued tile 4) true = true ∧ full (queued tile 4) false = false ∧
      (queued tile 4).leaving 1 = (List.replicate 4 ⟨1, { emptyPkt with length := 2308 }, true, none⟩)) ∧
    (tile.linkVerdict (0 : Port) a = .good 1 ∧ tile.linkVerdict (0 : Port) { a with pkt := { a.pkt with seq := 2 } } = .crcBad ∧
      tile.linkVerdict (0 : Port) { a with endGood := false } = .poisoned ∧ a.placed = true ∧ a.cut = none ∧
      tile.crcVerdict (0 : Port) a.pkt = .good 1 ∧ tile.linkVerdict (0 : Port) { a with cut := some 9 } = .misplaced ∧
      tile.linkVerdict (0 : Port) { a with pkt := { a.pkt with flags := 1 } } = .unchecked) := by decide +kernel

/-- An order of the Sender of rank 0. -/
def order (s : State) (body : Bytes) : Arrival := arr s 0 .mgmt 5 63 0 0 body

/-- An ill-formed packet, one at its originator's floor, and one without a good tag. -/
theorem witness_PacketsAreCheckedAndForwarded_checks :
    (let a := order keyless (zeros 3)
     keyless.linkVerdict (0 : Port) a = .good 1 ∧ a.pkt.type.toNat = PType.mgmt.code ∧ keyless.addressed (0 : Port) a.pkt = true ∧ a.pkt.wellFormed = false) ∧
    (let s := keyless.setPort 0 fun w => { w with floors := [(63, 1)] }
     let a := order s (zeros 4)
     s.linkVerdict (0 : Port) a = .good 1 ∧ a.pkt.wellFormed = true ∧ (s.arrive (0 : Port) a).aboveFloor (0 : Port) .mgmt a.pkt 1 = false) ∧
    (let a := order keyless (zeros 4)
     a.pkt.wellFormed = true ∧ (keyless.arrive (0 : Port) a).aboveFloor (0 : Port) .mgmt a.pkt 1 = true ∧
     (keyless.arrive (0 : Port) a).tagOk (0 : Port) .mgmt a.pkt 1 = false) := by decide +kernel

/-- Under a key and with a good tag, an order that no master gave, and a good one. -/
theorem witness_PacketsAreCheckedAndForwarded_order :
    ∀ s ∈ [tile.wr Reg.SPN_TILE_MASTER_VALID 0, tile],
      let a := order s (zeros 4)
      let u := s.arrive (0 : Port) a
      s.linkVerdict (0 : Port) a = .good 1 ∧ a.pkt.type.toNat = PType.mgmt.code ∧ s.addressed (0 : Port) a.pkt = true ∧ a.pkt.wellFormed = true ∧
      u.aboveFloor (0 : Port) .mgmt a.pkt 1 = true ∧ u.tagOk (0 : Port) .mgmt a.pkt 1 = true ∧
      u.orderAdmitted .mgmt a.pkt = s.flag Reg.SPN_TILE_MASTER_VALID ∧ u.enrolsAnew (0 : Port) .mgmt a.pkt = false := by
  have h : ∀ s ∈ [tile.wr Reg.SPN_TILE_MASTER_VALID 0, tile], arrives s 0 .mgmt (order s (zeros 4)) = true ∧
      (order s (zeros 4)).pkt.type.toNat = PType.mgmt.code ∧ s.addressed (0 : Port) (order s (zeros 4)).pkt = true ∧
      (order s (zeros 4)).pkt.wellFormed = true ∧ (counted s 0 (order s (zeros 4))).aboveFloor (0 : Port) .mgmt (order s (zeros 4)).pkt 1 = true ∧
      (counted s 0 (order s (zeros 4))).orderAdmitted .mgmt (order s (zeros 4)).pkt = s.flag Reg.SPN_TILE_MASTER_VALID ∧
      (counted s 0 (order s (zeros 4))).enrolsAnew (0 : Port) .mgmt (order s (zeros 4)).pkt = false ∧
      (counted s 0 (order s (zeros 4))).trs.wallKey = s.trs.wallKey ∧
      (counted s 0 (order s (zeros 4))).portField 0 (order s (zeros 4)).pkt.dest.toNat false = s.portField 0 (order s (zeros 4)).pkt.dest.toNat false ∧
      (s.trs.wallKey.isSome || !PType.mgmt.tagged || PType.mgmt == .time || PType.mgmt == .heart) = true := by decide +kernel
  intro s hs
  obtain ⟨h1, h2, h3, h4, h5, h6, h7, h8, h9, h10⟩ := h s hs
  obtain ⟨hl, ha⟩ := arrive_arr _ _ _ _ _ _ _ _ h1
  have ha' : s.arrive (0 : Port).val (order s (zeros 4)) = counted s 0 (order s (zeros 4)) := ha
  exact ⟨hl, h2, h3, h4, by rw [ha']; exact h5, by rw [ha']; exact tagOk_arr _ _ _ _ _ _ _ _ _ h8 h9 h10, by rw [ha']; exact h6, by rw [ha']; exact h7⟩

/-! ### Pushes and commits at a Tile -/

theorem crc64_lt (bs : Bytes) : crc64 bs < 2 ^ 64 := by
  have hbit : ∀ (c : Nat) (b : Bool), crc64Bit c b < 2 ^ 64 := by
    intro c b
    unfold crc64Bit
    split
    · exact Nat.xor_lt_two_pow (by omega) (by decide)
    · omega
  have hfold : ∀ (l : Bytes) (c : Nat), c < 2 ^ 64 → l.foldl crc64Byte c < 2 ^ 64 := by
    intro l
    induction l with
    | nil => exact fun c hc => hc
    | cons b t ih => exact fun c _ => ih _ (hbit _ _)
  exact Nat.xor_lt_two_pow (hfold bs _ (by decide)) (by decide)

theorem leNat_leBytes (n : Nat) : ∀ v, v < 256 ^ n → leNat (leBytes n v) = v := by
  induction n with
  | zero => intro v h; simp [leBytes, leNat] at *; omega
  | succ n ih =>
    intro v h
    have h1 : v / 256 < 256 ^ n := by rw [Nat.div_lt_iff_lt_mul (by decide)]; rwa [Nat.pow_succ] at h
    simp only [leBytes, leNat, ih _ h1, BitVec.toNat_ofNat]
    omega

/-- A PUSH of one uncompressed block. -/
def rawBlock : Bytes := zeros 2304

def pushHead (check : Nat) : Bytes := zeros 10 ++ leBytes 2 2304 ++ zeros 4 ++ leBytes 8 check

def pushBody (check : Nat) : Bytes := pushHead check ++ rawBlock

theorem pushPixels_pushBody (check : Nat) :
    pushPixels (leAt (pushBody check) 8 1) (leAt (pushBody check) 10 2) ((pushBody check).drop 24) = some (rawPixels 512 (bytesBits rawBlock)) := by
  have h1 : leAt (pushBody check) 8 1 = 0 := rfl
  have h2 : leAt (pushBody check) 10 2 = 2304 := rfl
  have h3 : (pushBody check).drop 24 = rawBlock := by
    have h : (pushHead check).length = 24 := rfl
    rw [pushBody, ← h, List.drop_left]
  rw [h1, h2, h3, pushPixels, if_neg (fun h => h (by rw [rawBlock, zeros, List.length_replicate])), if_pos ⟨rfl, rfl⟩]

theorem leAt_pushBody (check : Nat) (h : check < 2 ^ 64) : leAt (pushBody check) 16 8 = check := by
  have h1 : ((pushBody check).drop 16).take 8 = leBytes 8 check := rfl
  rw [leAt, h1, leNat_leBytes 8 check h]

/-- The check of the block, and another number. -/
def rawCheck : Nat := crc64Pixels (rawPixels 512 (bytesBits rawBlock))
def badCheck : Nat := if rawCheck = 0 then 1 else 0

/-- A good push to a Tile of one pixel, one that does not decode, and one with another check. -/
theorem witness_TileTakesPushesAndCommits_push :
    (let a := arr tile 0 .push 5 63 0 0 (pushBody rawCheck)
     ∃ u ps c, Accepted tile 0 .push a u ∧ u.isTile = true ∧ Memory.wf u = true ∧
       pushPixels (leAt a.pkt.body 8 1) (leAt a.pkt.body 10 2) (a.pkt.body.drop 24) = some ps ∧ crc64Pixels ps = leAt a.pkt.body 16 8 ∧
       ps[0]? = some c ∧ signedOf 16 (leAt a.pkt.body 4 2) + (0 % 32 : Nat) = ((0 : Nat) : Int) ∧
       signedOf 16 (leAt a.pkt.body 6 2) + (0 / 32 : Nat) = ((0 : Nat) : Int) ∧ 0 < u.storeW ∧ 0 < u.storeH) ∧
    (let a := arr tile 0 .push 5 63 0 0 (pushBody badCheck)
     ∃ u ps, Accepted tile 0 .push a u ∧ u.isTile = true ∧
       pushPixels (leAt a.pkt.body 8 1) (leAt a.pkt.body 10 2) (a.pkt.body.drop 24) = some ps ∧ crc64Pixels ps ≠ leAt a.pkt.body 16 8) ∧
    let a := arr tile 0 .push 5 63 0 0 (zeros 24)
    ∃ u, Accepted tile 0 .push a u ∧ u.isTile = true ∧ pushPixels (leAt a.pkt.body 8 1) (leAt a.pkt.body 10 2) (a.pkt.body.drop 24) = none := by
  have hb : leAt (pushBody badCheck) 16 8 = badCheck := leAt_pushBody _ (by unfold badCheck; split <;> decide)
  have hc : crc64Pixels (rawPixels 512 (bytesBits rawBlock)) ≠ leAt (pushBody badCheck) 16 8 := by
    rw [hb, badCheck, ← rawCheck]
    split <;> omega
  refine ⟨⟨after tile 0 (arr tile 0 .push 5 63 0 0 (pushBody rawCheck)), rawPixels 512 (bytesBits rawBlock), 0, ?_⟩, ?_, ?_⟩
  · refine ⟨accepted_of_passes _ _ _ _ _ _ _ _ (by decide +kernel), ?_⟩
    refine ⟨by decide +kernel, ?_⟩
    refine ⟨by decide +kernel, ?_⟩
    refine ⟨pushPixels_pushBody _, ?_⟩
    refine ⟨(leAt_pushBody _ (crc64_lt _)).symm, ?_⟩
    refine ⟨by decide +kernel, ?_⟩
    refine ⟨by decide +kernel, ?_⟩
    refine ⟨by decide +kernel, ?_⟩
    refine ⟨by decide +kernel, by decide +kernel⟩
  · exact ⟨_, _, accepted_of_passes _ _ _ _ _ _ _ _ (by decide +kernel), by decide +kernel, pushPixels_pushBody _, hc⟩
  · exact ⟨_, accepted_of_passes _ _ _ _ _ _ _ _ (by decide +kernel), by decide +kernel⟩

/-- A COMMIT of a kind for generation 1, to be shown at a time, with the Tile's own entry. -/
def commit (s : State) (kind show_ entry : Nat) : Arrival :=
  arr s 0 .commit 63 63 0 0 (leBytes 4 1 ++ leBytes 8 show_ ++ leBytes 4 kind ++ zeros 20 ++ leBytes 4 entry)

/-- A Tile with a guard table, and a back buffer in a state for generation 1, bound to a boundary. -/
def bound (back show_ : Nat) : State :=
  let s := ((tile.wr Reg.HMK_TABLE_VALID 1).wr Reg.TFS_STAT_BACK_STATE back).wr Reg.TFS_BACK_GEN 1
  { s with tfs := { s.tfs with boundShow := show_ } }

/-- Whether the Tile takes a COMMIT, and what its meanings look at. -/
def takes (s : State) (kind show_ entry : Nat) : Bool :=
  let a := commit s kind show_ entry
  let u := after s 0 a
  passes s 0 .commit a && u.isTile && u.canSend 0 && u.trs.wallKey.isSome && (leAt a.pkt.body 12 1 == kind) && (u.ownEntry a.pkt.body == entry)

theorem accepted_commit (s : State) (kind show_ entry : Nat) (h : takes s kind show_ entry = true) :
    Accepted s 0 .commit (commit s kind show_ entry) (after s 0 (commit s kind show_ entry)) := by
  simp only [takes, Bool.and_eq_true] at h
  exact accepted_of_passes _ _ _ _ _ _ _ _ h.1.1.1.1.1

/-- COMMIT, PREPARE, GO and ABORT: whole or not, of the atomic set or not, in time or late. -/
theorem witness_TileTakesPushesAndCommits_commit :
    let whole (s : State) (entry : Nat) : Bool := (s.pushCount 0 1).1 == entry % 65536
    let good (s : State) (entry : Nat) : Bool :=
      whole s entry && !entry.testBit 16 && s.flag Reg.HMK_TABLE_VALID && !s.overtaken 0 1
    (∀ show_ ∈ [0, 2 ^ 40], takes (bound 0 0) 0 show_ 0 = true ∧ takes (bound 0 0) 1 show_ 0x20000 = true ∧ takes (bound 0 0) 1 show_ 0 = true ∧
      good (after (bound 0 0) 0 (commit (bound 0 0) 0 show_ 0)) 0 = true ∧ good (after (bound 0 0) 0 (commit (bound 0 0) 1 show_ 0x20000)) 0x20000 = true ∧
      (0x20000 : Nat).testBit 17 = true ∧ (0 : Nat).testBit 17 = false ∧ (after (bound 0 0) 0 (commit (bound 0 0) 1 show_ 0)).backBound = false) ∧
    (takes (bound 0 0) 0 0 3 = true ∧ whole (after (bound 0 0) 0 (commit (bound 0 0) 0 0 3)) 3 = false) ∧
    (takes (bound 0 0) 0 0 0x10000 = true ∧ whole (after (bound 0 0) 0 (commit (bound 0 0) 0 0 0x10000)) 0x10000 = true ∧
      (0x10000 : Nat).testBit 16 = true) ∧
    (let s := bound 2 (2 ^ 40)
     takes s 2 0 0 = true ∧ takes s 3 0 0 = true ∧ (after s 0 (commit s 2 0 0)).awaits 1 = true ∧
     (after s 0 (commit s 2 0 0)).inTime (after s 0 (commit s 2 0 0)).tfs.boundShow = true) ∧
    (takes (bound 2 0) 2 0 0 = true ∧ (after (bound 2 0) 0 (commit (bound 2 0) 2 0 0)).inTime 0 = false) := by decide +kernel

/-- A generation already bound to the boundary at 16,666,667 ns, and another for the one after it. -/
theorem witness_TileTakesPushesAndCommits_beside :
    let s := (bound 1 16666667).wr Reg.TFS_BACK_GEN 0
    let u := after s 0 (commit s 0 33333333 0)
    takes s 0 33333333 0 = true ∧ u.backBound = true ∧ u.tfs.boundShow < (u.showFrom 33333333).1 ∧ u.now + u.feedLead ≤ u.tfs.boundShow := by
  decide +kernel

theorem witness_TileTakesPushesAndCommits_copies :
    ((bound 2 0).isTile = true ∧ (bound 2 0).backWaits = true ∧ (bound 1 0).backWaits = false ∧ sender.isTile = false) ∧
    let s := { tile.wr Reg.TFS_STAT_RECEIVE 1 with tfs := { tile.tfs with pending := [(0, [128 + 1])] } }
    s.isTile = true ∧ (s.pendingOf (0 : Fin 3)).contains ((1 : BitVec 7).toNat * 128 + (1 : BitVec 7).toNat) = true ∧ Memory.wf s = true ∧
      (0 : Fin 3).val ≠ s.receiveBuf ∧ 6 * (s.storeW * s.storeH) ≤ 3145728 ∧ (s.pendingOf (1 : Fin 3)).contains 129 = false := by decide +kernel

/-! ### Hallmarks, guard tables and feed starts -/

/-- A Sender that holds the Spindle, with one piece of Tile 0 of chain 0 in region 3 whose hallmark is to be computed. -/
def guarding : State :=
  let t : PieceTable := ⟨0, 1, [⟨0, 0, 2, 3, 0, 8, 0, 0, 32, 16, 0, 0⟩], []⟩
  { sender with hmk := { sender.hmk with tables := [t] } }

theorem witness_HallmarksAndStaleOrders :
    (let g := guarding.rd Reg.LOOM_PASS_GEN
     let tbl := guarding.tableFor g
     guarding.isSender = true ∧ (tbl.pieces.map PieceRec.key).Nodup ∧ (∀ x ∈ tbl.pieces, guarding.pieceTodo tbl x ≠ [] ∧
       guarding.pieceWritten x = true ∧ ∀ y ∈ guarding.pieceTodo tbl x, later32 y g = false)) ∧
    (let s := act { guarding with hmk := { guarding.hmk with checkRun := 1 } } [(Reg.HMK_CFG_SELFCHECK, 1)]
     s.isSender = true ∧ s.acFlag Reg.HMK_CFG_SELFCHECK = true ∧ (s.tableFor (s.rd Reg.LOOM_PASS_GEN)).pieces ≠ [] ∧
     s.hmk.checkedGen ≠ some (s.rd Reg.LOOM_PASS_GEN) ∧ s.hmk.checkRun = 1) ∧ tile.isSender = false ∧
    (guarding.stalePorts [3] ≠ [] ∧ guarding.stalePorts [4] = [] ∧ guarding.hmk.orders = []) ∧
    ((5 : Word).toNat.testBit 2 = true ∧ (guarding.rd (Reg.HMK_HOLD_HOLD (0 : Fin 8))).testBit 2 = false ∧
      (∀ b < 32, (0 : Word).toNat.testBit b = true → (guarding.rd (Reg.HMK_HOLD_HOLD (0 : Fin 8))).testBit b = true)) ∧
    (∀ o ∈ guarding.hmk.orders, o.ports.contains (0 : Port).val = false) ∧
    let o : StaleRec := ⟨0, 1, true, [3], [0]⟩
    let s := { guarding with hmk := { guarding.hmk with orders := [o] } }
    (s.hmk.orders.find? fun o => o.ports.contains (0 : Port).val) = some o ∧ s.ordersPort (0 : Port) = true ∧ s.sys.fatal = none ∧
      s.canSend (0 : Port) = true ∧ s.trs.wallKey ≠ none := by decide +kernel

theorem witness_HallmarksAndStaleOrders_report :
    let body (addr : Nat) : Bytes := leBytes 1 2 ++ zeros 1 ++ leBytes 2 addr ++ zeros 28
    let a (addr : Nat) : Arrival := arr sender 0 .status 0x403F 5 0 0 (body addr)
    ∀ addr ∈ [5, 63, 256], Accepted sender 0 .status (a addr) (after sender 0 (a addr)) ∧ leAt (a addr).pkt.body 0 1 = 2 ∧
      leAt (a addr).pkt.body 2 2 % 4096 = addr ∧ (after sender 0 (a addr)).rd Reg.SYS_ROLE_GROUP = 0 := by
  intro body a addr h
  have hp : ∀ x ∈ [5, 63, 256], passes sender 0 .status (a x) = true ∧ leAt (a x).pkt.body 0 1 = 2 ∧ leAt (a x).pkt.body 2 2 % 4096 = x ∧
      (after sender 0 (a x)).rd Reg.SYS_ROLE_GROUP = 0 := by decide +kernel
  exact ⟨accepted_of_passes _ _ _ _ _ _ _ _ (hp addr h).1, (hp addr h).2⟩

/-- A GUARD at a Tile, and at a Sender that does not hold the Spindle; a STALE order; a REAFFIRM. -/
theorem witness_GuardTablesAndFeedStarts :
    (let a := arr tile 0 .mgmt 5 63 0 0 (leBytes 1 0x10 ++ zeros 15)
     ∃ u, Accepted tile 0 .mgmt a u ∧ leAt a.pkt.body 0 1 = 0x10 ∧ leAt a.pkt.body 0 1 ≠ 0x20 ∧ u.isTile = true) ∧
    (let a := arr standby 0 .mgmt 5 63 1 0 (leBytes 1 0x10 ++ zeros 15)
     ∃ u, Accepted standby 0 .mgmt a u ∧ leAt a.pkt.body 0 1 = 0x10 ∧ u.isSender = true ∧ u.holdsSpindle = false) ∧
    (let g : GuardPiece := ⟨⟨3, 0, 8, 0, 0, 32, 16⟩, 9, none, 0, false, 0⟩
     let s := { tile with hmk := { tile.hmk with guard := [g] } }
     let a := arr s 0 .stale 63 63 0 0 (zeros 8 ++ leBytes 1 8 ++ zeros 31)
     ∃ u, Accepted s 0 .stale a u ∧ u.isTile = true ∧ u.hmk.guard[0]? = some g ∧ leAt a.pkt.body 4 2 = u.rd Reg.HMK_TABLE_VERSION ∧
       (leAt a.pkt.body 8 32).testBit 3 = true ∧ (leAt a.pkt.body 8 32).testBit 2 = false) ∧
    (∃ u, Accepted tile 0 .reaffirm (arr tile 0 .reaffirm 5 63 0 0 (zeros 16)) u ∧ u.isTile = true) ∧
    (let a := arr sender 0 .status 0x403F 5 0 0 (leBytes 1 1 ++ zeros 15)
     ∃ u, Accepted sender 0 .status a u ∧ leAt a.pkt.body 0 1 ≠ 2) :=
  ⟨⟨_, accepted_of_passes _ _ _ _ _ _ _ _ (by decide +kernel), by decide +kernel⟩,
    ⟨_, accepted_of_passes _ _ _ _ _ _ _ _ (by decide +kernel), by decide +kernel⟩,
    ⟨_, accepted_of_passes _ _ _ _ _ _ _ _ (by decide +kernel), by decide +kernel⟩,
    ⟨_, accepted_of_passes _ _ _ _ _ _ _ _ (by decide +kernel), by decide +kernel⟩,
    ⟨_, accepted_of_passes _ _ _ _ _ _ _ _ (by decide +kernel), by decide +kernel⟩⟩

/-- A Tile with one piece, its own hallmark 7 of generation 1, and a REAFFIRM held for a generation with a hallmark. -/
def affirmed (floor : Option (Nat × Nat)) (gen mark : Nat) : State :=
  let s := (tile.wr Reg.WHL_STAT_STATE 3).wr Reg.TFS_SHOW_GEN 1
  { s with hmk := { s.hmk with
      guard := [⟨⟨3, 0, 8, 0, 0, 32, 16⟩, 9, floor, 0, false, 0⟩]
      hashed := [(s.frontBuf, 1, [7])]
      held := [⟨gen, 0, 0, 0, [(0, mark)]⟩] } }

theorem witness_GuardTablesAndFeedStarts_affirm :
    let g (f : Option (Nat × Nat)) : GuardPiece := ⟨⟨3, 0, 8, 0, 0, 32, 16⟩, 9, f, 0, false, 0⟩
    (∀ x ∈ [(some (0, 1), 1, 7), (none, 1, 7), (none, 1, 8), (none, 2, 8)],
      let s := affirmed x.1 x.2.1 x.2.2
      s.isTile = true ∧ 2 ≤ s.rd Reg.WHL_STAT_STATE ∧ s.hmk.held = [⟨x.2.1, 0, 0, 0, [(0, x.2.2)]⟩] ∧ s.decided (boundaryFrom s.whl.rate 0) = true ∧
      s.ownHallmarks (boundaryFrom s.whl.rate 0) = some (1, [7]) ∧ s.rd Reg.HMK_TABLE_VERSION = 0 ∧ s.hmk.guard[0]? = some (g x.1)) ∧
    (g (some (0, 1))).barred 0 1 = true ∧ (g none).barred 0 1 = false ∧ (tile.isTile = true ∧ tile.rd Reg.WHL_STAT_STATE < 2) ∧ sender.isTile = false ∧
    ({ affirmed none 1 7 with hmk := { (affirmed none 1 7).hmk with hashed := [] } } : State).ownHallmarks (boundaryFrom 60 0) = none ∧
    ((affirmed none 1 7).wr Reg.TFS_STAT_BACK_STATE 2).decided (boundaryFrom 60 0) = false := by
  decide +kernel

/-- The feed of the boundary at 16,666,667 ns starts 4 ms before it, once; a swap is due there, and is not. -/
theorem witness_GuardTablesAndFeedStarts_feed :
    (∀ back ∈ [0, 1],
     let s := at_ (bound back 16666667) 12666667
     s.isTile = true ∧ s.feedBoundary s.now = 16666667 ∧ s.due actFeed 16666667 (16666667 - s.feedLead) s.now = true ∧ s.now ≤ 16666667 ∧
     (State.perform s actFeed 16666667).due actFeed 16666667 (16666667 - s.feedLead) s.now = false ∧ s.backBound = (back == 1) ∧
     s.tfs.boundShow = 16666667 ∧ s.tfs.next = none) ∧
    ((at_ tile 1).feedBoundary 1 = 0 ∧ 0 < (at_ tile 1).now) ∧
    (let s := act tile [(Reg.DRV_GRP_CFG_ENABLE 2, 1)]
     s.isTile = true ∧ s.groupOn (2 : Fin 8) = true ∧ (s.group (2 : Fin 8)).aborted = false ∧
     s.bit (Reg.HMK_GLASS_GRP_GUARDED (2 : Fin 8)) 5 = false ∧ (s.wr (Reg.HMK_GLASS_GRP_GUARDED 2) 32).bit (Reg.HMK_GLASS_GRP_GUARDED (2 : Fin 8)) 5 = true) ∧
    tile.groupOn (2 : Fin 8) = false := by decide +kernel

/-! ### The dispatcher, sensors and the derate -/

/-- A Sender in push window 1, with one push queued for Tile 5 of chain 0, and the time by then. -/
def dispatching (now : Nat) : State :=
  let s := (at_ sender now).wr (Reg.WFT_PORT_STAT_TX_WIDTH 0) 3
  { s with dmg := { s.dmg with window := 1, bounds := [(1, 0)], queues := [(0, [⟨5, 0, 0, 1⟩])] } }

/-- T_c of the window is 24,666,667 ns. -/
theorem witness_DispatcherPushesAndCommits :
    (tile.isSender = false ∧ sender.dmg.window = 0 ∧ (dispatching 24666666).frameNow < (dispatching 24666666).commitTime 1 ∧
      Tab.find ({ sender with dmg := { sender.dmg with window := 1 } } : State).dmg.bounds 1 = none) ∧
    (let s := dispatching 24666667
     s.holdsSpindle = true ∧ s.dmg.window = 1 ∧ Tab.find s.dmg.bounds s.dmg.window ≠ none ∧ s.commitTime 1 ≤ s.frameNow ∧ s.dmg.prepare = none ∧
     s.sys.fatal = none ∧ s.trs.wallKey ≠ none) ∧
    (let s := dispatching 0
     s.isSender = true ∧ s.dmg.window ≠ 0 ∧ s.sys.fatal = none ∧ s.trs.wallKey ≠ none ∧ (s.sweep (0 : Port)).pickPush (0 : Port) = some ⟨5, 0, 0, 1⟩ ∧
     (s.sweep (0 : Port)).fitsWindow (0 : Port) 0 = true ∧ s.canSend (0 : Port) = true ∧
     s.ordersTile (0 : Port) 5 = true ∧ (s.sweep (1 : Port)).pickPush (1 : Port) = none) ∧
    (let s := dispatching 24666667
     (s.sweep (0 : Port)).pickPush (0 : Port) = some ⟨5, 0, 0, 1⟩ ∧ (s.sweep (0 : Port)).fitsWindow (0 : Port) 0 = false) ∧
    (let s := (dispatching 0).wr (Reg.WFT_PORT_STAT_TX_POWER 0) 2
     (s.sweep (0 : Port)).pickPush (0 : Port) = some ⟨5, 0, 0, 1⟩ ∧ s.ordersTile (0 : Port) 5 = true ∧ s.canSend (0 : Port) = false) ∧
    (let s := (dispatching 0).wr Reg.SPN_STAT_STATE 0
     s.isSender = true ∧ (s.sweep (0 : Port)).pickPush (0 : Port) = some ⟨5, 0, 0, 1⟩ ∧ (s.sweep (0 : Port)).fitsWindow (0 : Port) 0 = true ∧
     s.ordersTile (0 : Port) 5 = false) ∧
    (let s := act sender [(Reg.DMG_TILE_SIZE_ENABLE 0 5, 1)]
     5 ∈ s.chainTiles (0 : Port) ∧ 0 ∈ s.tileBlocks (0 : Port) 5 ∧ (5 : BitVec 6).toNat = 5) := by decide +kernel

/-- A report of a Tile on generation 1 with a result, not yet settled, and settled. -/
theorem witness_DispatcherPushesAndCommits_reports :
    let body (addr result : Nat) : Bytes := leBytes 1 1 ++ leBytes 1 result ++ leBytes 2 addr ++ leBytes 4 1 ++ zeros 8
    let s (settled : List Nat) : State :=
      { sender with dmg := { sender.dmg with tiles := [(tileKey 0 5, { (default : TileRec) with settled := settled, sets := [(1, [⟨5, 0, 0, 1⟩])] })] } }
    let a (settled : List Nat) (addr result : Nat) : Arrival := arr (s settled) 0 .status 0x403F 5 0 0 (body addr result)
    ∀ x ∈ [([], 5, 0), ([], 5, 1), ([], 5, 2), ([1], 5, 0), ([], 63, 0), ([], 256, 0)],
      let u := after (s x.1) 0 (a x.1 x.2.1 x.2.2)
      Accepted (s x.1) 0 .status (a x.1 x.2.1 x.2.2) u ∧ u.isSender = true ∧ leAt (a x.1 x.2.1 x.2.2).pkt.body 0 1 = 1 ∧
        leAt (a x.1 x.2.1 x.2.2).pkt.body 2 2 % 4096 = x.2.1 ∧ leAt (a x.1 x.2.1 x.2.2).pkt.body 4 4 = 1 ∧
        leAt (a x.1 x.2.1 x.2.2).pkt.body 1 1 % 16 = x.2.2 ∧ u.rd Reg.SYS_ROLE_GROUP = 0 ∧ (u.tile 0 5).settled = x.1 ∧
        Tab.find (u.tile 0 5).sets 1 = some [⟨5, 0, 0, 1⟩] := by
  intro body s a x h
  have hp : ∀ x ∈ [([], 5, 0), ([], 5, 1), ([], 5, 2), ([1], 5, 0), ([], 63, 0), ([], 256, 0)],
      let u := after (s x.1) 0 (a x.1 x.2.1 x.2.2)
      passes (s x.1) 0 .status (a x.1 x.2.1 x.2.2) = true ∧ u.isSender = true ∧ leAt (a x.1 x.2.1 x.2.2).pkt.body 0 1 = 1 ∧
        leAt (a x.1 x.2.1 x.2.2).pkt.body 2 2 % 4096 = x.2.1 ∧ leAt (a x.1 x.2.1 x.2.2).pkt.body 4 4 = 1 ∧
        leAt (a x.1 x.2.1 x.2.2).pkt.body 1 1 % 16 = x.2.2 ∧ u.rd Reg.SYS_ROLE_GROUP = 0 ∧ (u.tile 0 5).settled = x.1 ∧
        Tab.find (u.tile 0 5).sets 1 = some [⟨5, 0, 0, 1⟩] := by decide +kernel
  exact ⟨accepted_of_passes _ _ _ _ _ _ _ _ (hp x h).1, (hp x h).2⟩

theorem witness_DispatcherPushesAndCommits_deadline :
    sender.dmg.due = [] ∧
    let d : DueRec := ⟨1, 0, [5]⟩
    let s := { sender.wr Reg.SYS_ROLE_PROTECTED 1 with dmg := { sender.dmg with
      due := [d], tiles := [(5, { (default : TileRec) with missRun := 7, sets := [(1, [⟨5, 0, 0, 1⟩])] })] } }
    s.dmg.due = d :: [] ∧ (∀ k ∈ d.tiles, k < 256) ∧ d.tiles.Nodup ∧ 5 ∈ d.tiles ∧ d.gen ∉ (s.tile (5 / 64) (5 % 64)).settled ∧
      s.holdsSpindle = true ∧ s.flag Reg.SYS_ROLE_PROTECTED = true ∧ 7 ≤ (s.tile (5 / 64) (5 % 64)).missRun ∧
      Tab.find (s.tile (5 / 64) (5 % 64)).sets d.gen = some [⟨5, 0, 0, 1⟩] := by decide +kernel

/-- A reading of 25 sixteenths of a degree, one past the end of the range, and none. -/
theorem witness_SensorsZonesAndDerate :
    (let s := act tile [(Reg.LMP_SNS_CFG_ENABLE 2, 1)]
     s.isTile = true ∧ s.cfg 3 (Reg.LMP_SNS_CFG_ENABLE 2) = 1 ∧ goodReading ([none, none, some 400].getD 2 none) = some 25 ∧
     goodReading ([none, none].getD 2 none) = none ∧ goodReading (some 38401) = none) ∧ sender.isTile = false ∧
    (let s := { tile with tfs := { tile.tfs with commitPorts := [0, 1] } }
     s.isTile = true ∧ (∀ p ∈ s.tfs.commitPorts, p < 4 ∧ s.canSend p = true) ∧ s.tfs.commitPorts.Nodup ∧ s.trs.wallKey ≠ none) ∧
    (tile.sys.firstLight = true ∧ ({ tile with sys := { tile.sys with firstLight := false } } : State).sys.firstLight = false) ∧
    (standby.holdsSpindle = false ∧ sender.holdsSpindle = true ∧ sender.sys.fatal = none ∧ sender.trs.wallKey ≠ none) := by decide +kernel

theorem witness_SensorsZonesAndDerate_packets :
    (∀ addr ∈ [5, 63, 256], let a := arr sender 0 .status 0x403F 5 0 0 (leBytes 1 3 ++ zeros 1 ++ leBytes 2 addr ++ zeros 12)
      ∃ u, Accepted sender 0 .status a u ∧ u.isSender = true ∧ leAt a.pkt.body 0 1 = 3 ∧ leAt a.pkt.body 2 2 % 4096 = addr ∧
        u.rd Reg.SYS_ROLE_GROUP = 0) ∧
    (let a := arr tile 0 .mgmt 5 63 0 0 (leBytes 1 0x20 ++ zeros 11)
     ∃ u, Accepted tile 0 .mgmt a u ∧ leAt a.pkt.body 0 1 = 0x20 ∧ u.isTile = true) ∧
    let a := arr sender 0 .mgmt 5 63 1 0 (leBytes 1 0x20 ++ zeros 11)
    ∃ u, Accepted sender 0 .mgmt a u ∧ leAt a.pkt.body 0 1 = 0x20 ∧ u.isTile = false := by
  refine ⟨fun addr h => ?_, ⟨_, accepted_of_passes _ _ _ _ _ _ _ _ (by decide +kernel), by decide +kernel⟩,
    ⟨_, accepted_of_passes _ _ _ _ _ _ _ _ (by decide +kernel), by decide +kernel⟩⟩
  have hp : ∀ addr ∈ [5, 63, 256], let a := arr sender 0 .status 0x403F 5 0 0 (leBytes 1 3 ++ zeros 1 ++ leBytes 2 addr ++ zeros 12)
      passes sender 0 .status a = true ∧ (after sender 0 a).isSender = true ∧ leAt a.pkt.body 0 1 = 3 ∧ leAt a.pkt.body 2 2 % 4096 = addr ∧
        (after sender 0 a).rd Reg.SYS_ROLE_GROUP = 0 := by decide +kernel
  exact ⟨_, accepted_of_passes _ _ _ _ _ _ _ _ (hp addr h).1, (hp addr h).2⟩

/-! ### Driver groups, intake, and passes -/

/-- A Tile with driver group 0 on, whose feed of this frame has begun and was aborted or not. -/
def driving (aborted : Bool) : State :=
  let s := act tile [(Reg.DRV_GRP_CFG_ENABLE 0, 1)]
  { s with drv := { s.drv with groups := [(0, { DrvGroup.idle with feeding := true, aborted := aborted })] } }

/-- The next feed starts at 12,666,667 ns. -/
theorem witness_DriverGroupsShowAndRead :
    (sender.isTile = false ∧ tile.isTile = true ∧ tile.groupOn (0 : Fin 8) = false ∧ ((act tile [(Reg.DRV_GRP_CFG_ENABLE 0, 1)]).group (0 : Fin 8)).feeding = false) ∧
    (∀ b, (driving b).isTile = true ∧ (driving b).groupOn (0 : Fin 8) = true ∧ (driving b).boundaryDue (actSwap (0 : Fin 8)) (driving b).now = true ∧
      ((driving b).group (0 : Fin 8)).feeding = true ∧ ((driving b).group (0 : Fin 8)).aborted = b) ∧
    (State.perform (driving false) (actSwap 0) 0).boundaryDue (actSwap (0 : Fin 8)) 0 = false ∧
    1 ≤ ((driving true).wr (Reg.DRV_GRP_STAT_ABORTS 0) 1).rd (Reg.DRV_GRP_STAT_ABORTS (0 : Fin 8)) ∧
    ((driving false).feedFits (0 : Fin 8) = true ∧ (act (driving false) [(Reg.DRV_GRP_CFG_SCANM1 0, 63)]).feedFits (0 : Fin 8) = false) ∧
    (let c := (driving false).groupCfg (0 : Fin 8)
     (driving false).nextFeed = 12666667 ∧ (driving false).now + 256 * c.chain * c.ddiv + 1000 ≤ (driving false).nextFeed) ∧
    (let s := at_ (driving false) 12666666
     let c := s.groupCfg (0 : Fin 8)
     s.nextFeed < s.now + 256 * c.chain * c.ddiv + 1000) ∧ Memory.wf (driving false) = true := by decide +kernel

/-- The time that a read or a probe of row 0 takes, in sixths of a nanosecond. -/
def readTime (s : State) : Nat :=
  let b := s.profile (0 : Fin 8)
  let rc := s.refreshCfg (0 : Fin 8)
  if s.probeRow (0 : Fin 8) = none then 5 * (0 + 1) * (rc.slot + rc.blank) * rc.gdiv + 6 * (leAt b 5 1 + 256 * rc.chain) * rc.ddiv
  else 6 * ((leAt b 3 1 + leAt b 4 1 + leAt b 6 1 + leAt b 5 1 + 256 * rc.chain) * rc.ddiv + s.cfg (4 + (0 : Fin 8).val) (Reg.DRV_GRP_REFRESH_PROBE_NS (0 : Fin 8)))

/-- The cycle that begins at 0, once; a row to read and a row to probe; each ends in time, and does not where L is as long as it can be. -/
theorem witness_DriverGroupsShowAndRead_reads :
    let s := driving false
    let probing := act s [(Reg.DRV_GRP_CFG_PROBE_EN 0, 1)]
    let late (u : State) : State := act u [(Reg.TFS_FEED_LEAD, 0xFFFF)]
    ((s.group (0 : Fin 8)).cycle ≤ s.cycleNow (0 : Fin 8) ∧ s.whl.skip ≤ s.cycleStart (0 : Fin 8) (s.cycleNow (0 : Fin 8))) ∧
    (let u := s.setGroup 0 fun g => { g with cycle := 1 }
     u.cycleNow (0 : Fin 8) < (u.group (0 : Fin 8)).cycle) ∧
    (s.probeRow (0 : Fin 8) = none ∧ s.showNumber % (s.refreshCfg (0 : Fin 8)).scan = 0 ∧ (late s).probeRow (0 : Fin 8) = none) ∧
    (probing.probeRow (0 : Fin 8) = some 0 ∧ (late probing).probeRow (0 : Fin 8) = some 0) ∧
    (∀ u ∈ [s, probing], u.readFits (0 : Fin 8) (readTime u) = true ∧ (late u).readFits (0 : Fin 8) (readTime (late u)) = false ∧
      Memory.wf u = true) := by decide +kernel

/-- Intake port 0 of a Sender with its link in a state, and an EDID of its own. -/
def intake (link : Nat) : State :=
  let s := sender.wr (Reg.DPI_PORT_STAT_LINK 0) link
  { s with
    charter := { s.charter with edids := [(1, zeros 256)] }
    intake := { s.intake with ports := [(0, { (default : IntakePort) with hpd := true })] } }

/-- A video timing of 1,920 × 1,080 at 60 Hz, and one that is too narrow. -/
def hd : Msa := ⟨0, 8, false, 1920, 1080, 1125, 60000⟩

theorem witness_IntakePortsTrainAndAreAdmitted :
    (((intake 0).ip (0 : Fin 8)).hpd = true ∧ ((intake 0).ip (1 : Fin 8)).hpd = false ∧ (intake 0).portEdid (0 : Fin 8) = some (zeros 256)) ∧
    (dpcdReadOnly (0x100 : BitVec 20).toNat = false ∧ dpcdReadOnly (0x202 : BitVec 20).toNat = true ∧ dpcdReadOnly (0x201 : BitVec 20).toNat = false ∧
      (0x202 : BitVec 20).toNat < 0x300) ∧
    (0x100 ≤ (0x100 : BitVec 20).toNat ∧ (0x2FF : BitVec 20).toNat < 0x300 ∧ (0xFF : BitVec 20).toNat < 0x100 ∧ 0x300 ≤ (0x300 : BitVec 20).toNat) ∧
    ((⟨0, 0, [1, 255], 0, false, true⟩ : DpTraining).fom.any fun f => decide (f.toNat < (intake 0).ac (Reg.DPI_PORT_CFG_FOM_MIN (0 : Fin 8)))) = true ∧
    ((⟨0, 0, [255], 0, false, true⟩ : DpTraining).fom.any fun f => decide (f.toNat < (intake 0).ac (Reg.DPI_PORT_CFG_FOM_MIN (0 : Fin 8)))) = false ∧
    (∀ n ∈ [2, 3, 4], (intake n).rd (Reg.DPI_PORT_STAT_LINK (0 : Fin 8)) = n) ∧
    (msaReason hd = 0 ∧ msaReason { hd with hActive := 63 } = 3 ∧ (intake 3).pairOf (0 : Fin 8) = none) ∧
    (let big : Msa := { hd with hActive := 3840, vTotal := 2250, rate := 120000 }
     let others (n : Nat) : State := (List.range n).foldl (fun s q => (s.wr (Reg.DPI_PORT_STAT_ADMITTED (q + 1)) 1).setIp (q + 1) fun x => { x with msa := some big })
        (intake 3)
     (others 5).admittedBut [(0 : Fin 8).val] + msaCounted big ≤ 6400000 ∧ 6400000 < (others 6).admittedBut [(0 : Fin 8).val] + msaCounted big ∧
     msaReason big = 0) ∧
    (let s := { intake 4 with intake := { (intake 4).intake with ports := [(0, { (default : IntakePort) with msa := some hd })] } }
     s.rd (Reg.DPI_PORT_STAT_LINK (0 : Fin 8)) = 4 ∧ (s.ip (0 : Fin 8)).msa ≠ none ∧ ((intake 4).ip (0 : Fin 8)).msa = none) ∧
    (∀ q : Fin 8, ((intake 4).ip q).asking = false) ∧ (intake 4).flag (Reg.DPI_PORT_STAT_PAIRED (0 : Fin 8)) = false ∧
    (let s := (intake 4).wr (Reg.DPI_TT_STAT_LIVE 0 1) 1
     s.flag (Reg.DPI_TT_STAT_LIVE (0 : Fin 8) (1 : Fin 4)) = true ∧ s.patchOverdue (0 : Fin 8) (1 : Fin 4) = true) ∧
    (intake 4).flag (Reg.DPI_TT_STAT_LIVE (0 : Fin 8) (1 : Fin 4)) = false := by decide +kernel

/-- The same port with its video admitted, a frame of two black lines, and the surface it writes. -/
def storing (writing : Option Nat) : State :=
  let s := (intake 4).wr (Reg.DPI_PORT_STAT_ADMITTED 0) 1
  let m : Msa := { hd with hActive := 4, vActive := 2 }
  { s with intake := { s.intake with
      ports := [(0, { (default : IntakePort) with msa := some m, writing := writing, frame := some [[0, 0, 0, 0], [0, 0, 0, 0]] })]
      surfaces := [(256, { (default : Surface) with state := 1, width := 4, height := 2 }), (257, { (default : Surface) with state := 2 })] } }

theorem witness_FramesAreStoredAndPublished :
    ((intake 4).flag (Reg.DPI_PORT_STAT_ADMITTED (0 : Fin 8)) = false ∧ ((intake 4).ip (0 : Fin 8)).msa = none) ∧
    (let s := storing none
     s.flag (Reg.DPI_PORT_STAT_ADMITTED (0 : Fin 8)) = true ∧ (s.ip (0 : Fin 8)).msa = some { hd with hActive := 4, vActive := 2 } ∧
     s.pairOf (0 : Fin 8) = none ∧ s.flag (Reg.DPI_PORT_STAT_PAIRED (0 : Fin 8)) = false ∧ (s.ip (0 : Fin 8)).skewed = false ∧
     (s.ip (0 : Fin 8)).writing = none ∧ s.takeSurface (0 : Fin 8) = some 258 ∧
     ({ s with loom := { s.loom with passPins := [256, 257, 258] } } : State).takeSurface (0 : Fin 8) = none) ∧
    (let s := act (storing none) [(Reg.DPI_TT_CFG_ENABLE 0 1, 1), (Reg.DPI_TT_CFG_MODE 0 1, 1)]
     let t := s.setPatch 0 1 fun x => { x with base := some 255 }
     s.acFlag (Reg.DPI_TT_CFG_ENABLE (0 : Fin 8) 1) = true ∧ s.patchPixels (0 : Fin 8) 1 = some [0] ∧ s.patchReading (0 : Fin 8) 1 [0] = some 0 ∧
     (t.patch (0 : Fin 8) 1).base = some 255 ∧ (act t [(Reg.DPI_TT_CFG_MAXSTEP 0 1, 1)]).qualifies (0 : Fin 8) 1 255 0 = true) ∧
    (let s := storing (some 256)
     (s.ip (0 : Fin 8)).writing = some 256 ∧ (0 : BitVec 18).toNat < balesAcross (s.surface 256).width * balesDown (s.surface 256).height ∧
     balesAcross (s.surface 256).width * balesDown (s.surface 256).height ≤ (1 : BitVec 18).toNat ∧ Memory.wf s = true ∧
     s.latest (0 : Fin 8) = some 257 ∧ (257 : Nat) ≠ 256) := by decide +kernel

theorem witness_FramesAreStoredAndPublished_release :
    let s := { sender with intake := { sender.intake with surfaces := [(7, default), (8, default)], releases := [8] } }
    let pinned := { s with loom := { s.loom with passPins := [7, 8] } }
    s.surfaceThere (9 : BitVec 9).toNat = false ∧
    (s.surfaceThere (256 : BitVec 9).toNat = true ∧ 256 ≤ (256 : BitVec 9).toNat ∧
      (act s [(Reg.DPI_PORT_CFG_ENABLE 0, 1)]).acFlag (Reg.DPI_PORT_CFG_ENABLE (((256 : BitVec 9).toNat - 256) / 3)) = true) ∧
    (s.surfaceThere (7 : BitVec 9).toNat = true ∧ s.releasing (7 : BitVec 9).toNat = false ∧ s.pins (7 : BitVec 9).toNat = 0 ∧
      pinned.pins (7 : BitVec 9).toNat ≠ 0) ∧
    (s.surfaceThere (8 : BitVec 9).toNat = true ∧ s.releasing (8 : BitVec 9).toNat = true ∧ s.pins (8 : BitVec 9).toNat = 0 ∧
      pinned.pins (8 : BitVec 9).toNat ≠ 0) := by decide +kernel

/-- A Sender with layer 0 on over block 0, and the surface it holds, whose bales do not decode. -/
def composing (inPass hatched : Bool) : State :=
  let s := (act sender [(Reg.LOOM_L_CTRL_ENABLE 0, 1)]).wr (Reg.LOOM_L_STAT_HATCH 0) hatched.toNat
  { s with
    charter := { s.charter with width := 32, height := 16 }
    intake := { s.intake with surfaces := [(5, { (default : Surface) with state := 2, width := 32, height := 16 })] }
    loom := { s.loom with inPass := inPass, dirty := [0], layers := [(0, { (default : LayerSt) with held := some 5 })] } }

/-- The boundary at 0, once; a block that its slice composes, under a bale that is faulty, and under none; and a slice that has nothing to compose. -/
theorem witness_PassesComposeDirtyBlocks :
    (tile.isSender = false ∧ (composing true false).loom.inPass = true ∧
      (State.perform (composing false false) actPass 0).boundaryDue actPass 0 = false) ∧
    (let s := { composing false false with loom := { (composing false false).loom with toFence := [(1, true), (2, false)], marked := [0] } }
     s.isSender = true ∧ s.loom.inPass = false ∧ s.frameNow = 0 ∧ s.boundaryDue actPass s.frameNow = true ∧ 0 ∈ s.layersOn ∧ 0 ∈ s.blocks ∧
     s.covered 0 = true ∧ 0 ∈ s.loom.marked ∧ (1, true) ∈ s.loom.toFence ∧ (2, false) ∈ s.loom.toFence ∧ 1 ∉ s.loom.faulted ∧ 2 ∉ s.loom.faulted ∧
     (s.rd Reg.LOOM_PASS_GEN + 1) % 2 ^ 32 = 1 ∧ (act s [(Reg.LOOM_CFG_FORCE, 8)]).ac Reg.LOOM_CFG_FORCE = 8 ∧ (8 : Nat).testBit 3 = true) ∧
    (∀ h,
     let s := composing true h
     (0 : BitVec 22).toNat ∈ s.loom.dirty ∧ s.fenced (s.server (s.stripeOf (0 : BitVec 22).toNat)) = false ∧
     s.segmentNow (s.server (s.stripeOf (0 : BitVec 22).toNat)) = some (s.segmentOf (0 : BitVec 22).toNat) ∧ 0 ∈ s.contributing (0 : BitVec 22).toNat ∧
     s.badBales 0 (0 : BitVec 22).toNat [] ≠ [] ∧ s.hatched 0 = h) ∧ Memory.wf (composing true true) = true ∧
    ((1 : BitVec 22).toNat ∉ (composing true false).loom.dirty ∧ (0 : BitVec 22).toNat ∉ ([1] : List (BitVec 22)).map (·.toNat)) ∧
    let s := act (composing true false) [(Reg.LOOM_CFG_BIST_EN, 1)]
    s.acFlag Reg.LOOM_CFG_BIST_EN = true ∧ (act s [(Reg.LOOM_CFG_BIST_EN, 0)]).acFlag Reg.LOOM_CFG_BIST_EN = false ∧
      s.sliceIdle (0 : Fin 16) = false ∧ s.sliceIdle (1 : Fin 16) = true := by decide +kernel

theorem witness_MemoryChangesOnlyByItsWriters : ∃ t, exec .status sender = .next t := ⟨_, rfl⟩

theorem witness_ActiveCopiesChangeAtCommitPoints : ∃ t, exec .logWrite sender = .next t := ⟨_, rfl⟩

theorem witness_OddPixelsTakeTheMeanChroma :
    let m : Msa := { hd with format := 2 }
    let s := { storing none with intake := { (storing none).intake with ports := [(0, { (default : IntakePort) with msa := some m })] } }
    let f : SourceFrame := ⟨[[(1, 2, 3), (0, 4, 0), (5, 6, 7)]], 0⟩
    (s.ip (0 : Fin 8)).msa = some m ∧ s.flag (Reg.DPI_PORT_STAT_ADMITTED (0 : Fin 8)) = true ∧ m.format.val = 2 ∧ f.rows[0]? ≠ none ∧ m.bpc ≤ 12 := by
  decide +kernel

/-! ### Worked examples of the spec: each value below stands in the text of spec/ -/

/-- The nine ASCII bytes "123456789". -/
def nine : Bytes := "123456789".toList.map fun c => BitVec.ofNat 8 c.toNat

/-- Check values of spec/00_scope.md, R215 and R388. -/
theorem test_check_values :
    crc32c nine = 0xE3069283 ∧ crc64 nine = 0x62EC59E3F1A4F00A ∧ (tallyProfile 0).check nine = 0xE3069283 ∧ (tallyProfile 1).check nine = 0xCBF43926 ∧
    (tallyProfile 2).check nine = 0x29B1 ∧ (tallyProfile 3).check nine = 0x62EC59E3F1A4F00A := by decide +kernel

/-- The pixel of spec/06 after R181: R 0x775, G 0x2A0, B 0x123. -/
theorem test_pixel_bytes : pixelBytes (pixelOf 0x775 0x2A0 0x123) = [0x75, 0x07, 0x2A, 0x23, 0x01] := by decide

/-- The boundaries of spec/05, spec/04 and spec/14: B_k = T + round(k × 16,666,666.67) ns at 60 Hz. -/
theorem test_boundaries :
    boundary 60 4800 = 80000000000 ∧ boundary 60 4801 = 80016666667 ∧ boundary 60 4802 = 80033333333 ∧ boundary 60 4803 = 80050000000 ∧
    nextBoundary 60 80016666667 = 80033333333 ∧ nextBoundary 60 80016666666 = 80016666667 ∧ boundaryFrom 60 80016666667 = 80016666667 := by
  decide +kernel

/-- The reconstruction of spec/07 after R217: LAST 0x0003_9A2D and SEQ 0x9A2F; LAST 0x0003_9B00 and SEQ 0x9A2E. -/
theorem test_sequences :
    RxEntry.reconstruct ⟨0x39A2D, true, 0⟩ { emptyPkt with seq := 0x9A2F } = some 0x39A2F ∧
    RxEntry.reconstruct ⟨0x39B00, true, 0⟩ { emptyPkt with seq := 0x9A2E } = some 0x49A2E := by decide

/-- The pseudo-header of spec/07 after R245: Tile 0x451 of group 4, chain 1, direction 0, and sequence 0x0003_9A2E. -/
theorem test_pseudo_header :
    let s := st [(Reg.SYS_ROLE_ROLE, 1), (Reg.SYS_ROLE_GROUP, 4)]
    pseudoHeader 0x451 (s.portField 1 0x451 true) 0x39A2E = [0x51, 0x04, 0x14, 0x00, 0x2E, 0x9A, 0x03, 0x00] := by decide

/-- A raw PUSH carries 2,364 bytes (spec/07 after R212), and is charged 2,424 (spec/05 after R161). -/
theorem test_packet_size : Packet.size { emptyPkt with flags := 1, length := 2328 } = 2364 ∧ 24 + 2304 + 96 = 2424 := by decide

/-- The exchange of spec/08 after R263: a round trip of 20.5 ns, a delay of 10.25 and an offset of 3.25, in sixteenths. -/
theorem test_exchange :
    exchangeOf (200000000000 * 16) 3200000000112 (200000001507 * 16) (200000001520 * 16 + 8) = (328, 164, 52) := by decide

/-- The marker of the same example: stamped at 200,000,012,298.75 with a hop of 10.25 ns, 0.5 ns late. -/
theorem test_marker :
    let s := tile.wr (Reg.WHL_HOP_DELAY 0) 164
    ({ at_ s 200000012298 with whl := { s.whl with frac := 49152 } }).markerError 0 = 8 := by decide +kernel

/-- The counted rates of spec/03 after R88. -/
theorem test_counted_rates :
    msaCounted ⟨0, 8, false, 3840, 2160, 2250, 60000⟩ = 518400 ∧ msaCounted ⟨0, 8, false, 3840, 4320, 4400, 60000⟩ = 1013760 ∧
    msaCounted ⟨0, 8, false, 3840, 2160, 2250, 120000⟩ = 1036800 := by decide

/-- The bale of spec/03 after R95, channel 1: a row of 0x400 to 0x41F, its differences, and the bits of its groups. -/
theorem test_bale_groups :
    let v (i : Nat) : Nat := 0x400 + i % 32
    let row (y n k : Nat) : List Nat := (List.range n).map fun i => foldDiff (v (32 * y + k + i)) (predict 0x400 v (32 * y + k + i))
    row 0 16 0 = 0 :: List.replicate 15 2 ∧ row 0 16 16 = List.replicate 16 2 ∧ row 1 32 0 = List.replicate 32 0 ∧
    groupLength 0 (row 0 16 0) = 46 ∧ groupLength 1 (row 0 16 0) = 47 ∧ groupLength 0 (row 0 16 16) = 48 ∧ groupLength 1 (row 0 16 16) = 48 ∧
    groupLength 2 (row 0 16 16) = 48 ∧ bestK (row 0 16 16) = 0 ∧ groupLength 0 (List.replicate 16 0) = 16 := by decide +kernel

/-- The cool cabinet of spec/09: its zone, its target, one interpolated coefficient, and the three grey words before the derate. -/
theorem test_cool_cabinet :
    let s := act tile [(Reg.TFS_GEOM_WM1, 1023), (Reg.TFS_GEOM_HM1, 511)]
    let e : LampEntry := ⟨[1892, 1973, 1724], [-84, 42, 62, -21, 13, -145], 0⟩
    s.zoneOf 700 300 = 10 ∧ meanTemp [708, 716] = 712 ∧ goodReading (some 0x2C40) = some 708 ∧ targetOf [400, 640, 880, 1120] 712 = 1331 ∧
    mixCoeff 307 1843 2007 = 1892 ∧ mixCoeff 307 (-82) (-90) = -84 ∧ e.mix [10495, 857, 115] 0 = 9679 ∧ e.mix [10495, 857, 115] 1 = 984 ∧
    e.mix [10495, 857, 115] 2 = 100 ∧ targetOf [400, 640, 880, 1120] 980 = 2474 := by decide +kernel

/-- The knee of spec/10 after R331: temperature 1,142, KNEE 65, SLOPE 64, BASE_GAIN 1,000. -/
theorem test_knee : kneeTarget 64 65 1142 = 29504 ∧ gainCode 29504 1000 = 900 ∧ gainFactor 900 1000 = 29491 := by decide

/-- The reference of spec/10 after R334: 6 codes a step from 8,191, 7 from 9,085 on, and the last step to 9,830. -/
theorem test_reference_steps :
    crefStep 8191 = 6 ∧ crefStep 9084 = 6 ∧ crefStep 9085 = 7 ∧ 8191 + 149 * 6 = 9085 ∧ stepToward 9827 9830 (crefStep 9827) = 9830 := by decide

/-- The Assay run of spec/11: the point of 757, OFF of 2,061, GADJ, the voltage of raw 34,127, and OFF of output 2. -/
theorem test_assay_run :
    fillPoint 757 = some 1 ∧ roundDiv (16384 * 2061) 16384 - 2048 = 13 ∧
    (let n : Int := 16384 * 52134 - 16384 * (2048 + 13)
     roundDiv (1048576 * (1250210 * 16384 - 25 * n)) (25 * n) = -1353) ∧
    ({ (default : AsyRun) with off := 13, gadj := -1353 }).volts (1024 * 34127) = 800616 ∧ codeLess 8191 800616 = -11 ∧ crefStep 8193 = 6 := by
  decide +kernel

/-- The pixel address of spec/12 after R374: pixel (700, 300) of a store of 1,024 columns at base 0x1000. -/
theorem test_pixel_address :
    (act tile [(Reg.TFS_GEOM_WM1, 1023), (Reg.TFS_STORE_BASE, 0x1000)]).pixelAddr 0 700 300 = 0x101C3068 := by decide

/-- The canvas of spec/04 after R116: 500 by 250 blocks; and the size of a bale that has a payload of 200 bytes. -/
theorem test_blocks :
    (let s := (sender.wr Reg.LOOM_GEOM_WBM1 499).wr Reg.LOOM_GEOM_HBM1 249
     s.wb * s.hb = 125000) ∧ balesAcross 1920 * balesDown 1080 = 60 * 68 := by decide

end Sys2Proof.Tests
end

section
/-! SUPPORT. The frame of the queue: what the model does to its state leaves the commands that wait. One lemma for each operation that a command's
meaning is made of, in the order of the model's files; each cites those of the operations that it calls. Where an operation does a step only under
a condition, for each element of a list or with what it goes on to do, that step has to keep the queue too, which `KeepsQueue` says.

Some of these proofs take `-implicitDefEqProofs`: without it `simp` leaves it to the kernel to see that a write to a register leaves the queue, and the
kernel then evaluates the whole state below the write. -/

namespace Sys2Proof.Machine

/-! ### Updates that keep the queue -/

/-- Two states have the same queue of waiting commands. This is a structure and no mere equation, so that the kernel compares the states of two such
facts as they are written and evaluates neither. -/
structure SameQueue (s t : State) : Prop where
  queue : t.pending = s.pending

/-- An update leaves the queue of waiting commands. -/
def KeepsQueue (f : State → State) : Prop := ∀ t, SameQueue t (f t)

@[simp] theorem sameQueue_iff (s t : State) : SameQueue s t ↔ t.pending = s.pending := ⟨SameQueue.queue, SameQueue.mk⟩

@[simp] theorem keepsQueue_iff (f : State → State) : KeepsQueue f ↔ ∀ t, SameQueue t (f t) := by constructor <;> exact id

@[simp] theorem ite_pending (c : Prop) [Decidable c] (s t : State) : (if c then s else t).pending = if c then s.pending else t.pending :=
  apply_ite State.pending c s t

/-- The state of a pair has the queue of the result that the pair is. -/
theorem pending_of_eq_mk {α : Type} {r : State × α} {t : State} {a : α} (h : r = (t, a)) : t.pending = r.1.pending := by rw [h]

@[simp] theorem State.onlyIf_pending (s : State) (c : Bool) (f : State → State) (h : KeepsQueue f) : (s.onlyIf c f).pending = s.pending := by
  unfold State.onlyIf; split <;> simp [(h s).queue]

@[simp] theorem State.whenAlive_pending (s : State) (f : State → State) (h : KeepsQueue f) : (s.whenAlive f).pending = s.pending := by
  unfold State.whenAlive; split <;> simp [(h s).queue]

@[simp] theorem State.forAll_pending {α : Type} (s : State) (l : List α) (f : State → α → State) (h : ∀ x, KeepsQueue fun t => f t x) :
    (s.forAll l f).pending = s.pending :=
  State.forAll_keeps (fun t => t.pending = s.pending) f l s rfl fun t x _ ht => (h x t).queue.trans ht

@[simp] theorem foldl_pending {α : Type} (f : State → α → State) (h : ∀ x, KeepsQueue fun t => f t x) (l : List α) (s : State) :
    (l.foldl f s).pending = s.pending :=
  State.forAll_pending s l f h

/-! ### Registers, memories and time -/

@[simp] theorem State.copyGroup_pending (s : State) (g : Nat) (sel : Nat → Bool) : (s.copyGroup g sel).pending = s.pending := by
  unfold State.copyGroup
  refine foldl_pending _ (fun a t => ⟨?_⟩) _ s
  dsimp only
  split
  · rfl
  · split <;> rfl

@[simp] theorem State.light_pending (s : State) : s.light.pending = s.pending := by simp [State.light]
@[simp] theorem State.nvmRead_pending (s : State) (off n : Nat) : (s.nvmRead off n).pending = s.pending := by simp [State.nvmRead]

/-! ### Event records, alerts and the fault pin -/

@[simp] theorem State.raise_pending (s : State) (src code arg : Nat) : (s.raise src code arg).pending = s.pending :=
  (s.raise_frame src code arg).2.2.2.2.1

/-! ### The OTP, draws and signatures -/

@[simp] theorem State.otpSet_pending (s : State) (o : Nat) (bs : Bytes) : (s.otpSet o bs).pending = s.pending := by simp [State.otpSet]
@[simp] theorem State.showOtp_pending (s : State) : s.showOtp.pending = s.pending := by simp -implicitDefEqProofs [State.showOtp]
@[simp] theorem State.raiseFloor_pending (s : State) (n : Nat) : (s.raiseFloor n).pending = s.pending := by simp [State.raiseFloor]
@[simp] theorem State.writeSlot_pending (s : State) (i : Nat) (h : BitVec 256) : (s.writeSlot i h).pending = s.pending := by simp [State.writeSlot]
@[simp] theorem State.revokeSlot_pending (s : State) (i : Nat) : (s.revokeSlot i).pending = s.pending := by simp [State.revokeSlot]
@[simp] theorem State.drawWallKey_pending (s : State) : s.drawWallKey.pending = s.pending := by simp [State.drawWallKey]
@[simp] theorem State.needWallKey_pending (s : State) : s.needWallKey.pending = s.pending := by simp [State.needWallKey]
@[simp] theorem State.keepKey_pending (s : State) (h : BitVec 256) (q : Bytes) : (s.keepKey h q).pending = s.pending := by simp [State.keepKey]
@[simp] theorem State.checkNamed_pending (s : State) (h : BitVec 256) (msg : Bytes) (r sg : BitVec 256) :
    (s.checkNamed h msg r sg).1.pending = s.pending := by
  unfold State.checkNamed; (repeat' split) <;> simp
@[simp] theorem State.sign_pending (s : State) (msg : Bytes) : (s.sign msg).1.pending = s.pending := by simp [State.sign]
@[simp] theorem State.dropOffer_pending (s : State) (p : Nat) : (s.dropOffer p).pending = s.pending := by simp [State.dropOffer]

/-! ### The Charter image -/

@[simp] theorem State.checkImage_pending (s : State) (img : Bytes) (max_ : Nat) (rotating : Option (BitVec 256)) :
    (s.checkImage img max_ rotating).1.pending = s.pending := by
  unfold State.checkImage; dsimp only; (repeat' split) <;> simp
@[simp] theorem State.takeRole_pending (s : State) (role : Bytes) : (s.takeRole role).pending = s.pending := by simp [State.takeRole]

/-! ### The Tile's cells -/

@[simp] theorem State.writePixel_pending (s : State) (b x y : Nat) (p : Pixel) : (s.writePixel b x y p).pending = s.pending := by
  simp [State.writePixel]
@[simp] theorem State.markBehind_pending (s : State) : s.markBehind.pending = s.pending := by simp [State.markBehind]

/-! ### Packets on the Weft -/

@[simp] theorem State.putOut_pending (s : State) (p : Nat) (l : List Sent) : (s.putOut p l).pending = s.pending := by simp [State.putOut]
@[simp] theorem State.drainFwd_pending (s : State) (out : Nat) : (s.drainFwd out).pending = s.pending := by simp [State.drainFwd]
@[simp] theorem State.send_pending (s : State) (p : Nat) (t : PType) (dest : Nat) (body : Bytes) : (s.send p t dest body).pending = s.pending := by
  simp [State.send]
@[simp] theorem State.notePass_pending (s : State) (p : Nat) (a : Arrival) : (s.notePass p a).pending = s.pending := by
  unfold State.notePass; split <;> simp
@[simp] theorem State.linkCount_pending (s : State) (p : Nat) (a : Arrival) : (s.linkCount p a).pending = s.pending := by
  unfold State.linkCount; split <;> simp
@[simp] theorem State.forward_pending (s : State) (p : Nat) (a : Arrival) : (s.forward p a).pending = s.pending := by simp [State.forward]
@[simp] theorem State.countMarks_pending (s : State) (p : Nat) (l : List (Fin 4 × Bool)) : (s.countMarks p l).pending = s.pending := by
  simp [State.countMarks]
@[simp] theorem State.hearEpoch_pending (s : State) (p : Nat) (a : Arrival) : (s.hearEpoch p a).pending = s.pending := by
  unfold State.hearEpoch; split <;> simp
@[simp] theorem State.arrive_pending (s : State) (p : Nat) (a : Arrival) : (s.arrive p a).pending = s.pending := by simp [State.arrive]
@[simp] theorem doPacketForward_pending (s : State) (p : Nat) (a : Arrival) : (doPacketForward s p a).pending = s.pending := by
  unfold doPacketForward; split <;> simp
@[simp] theorem State.dropOrder_pending (s : State) (pkt : Packet) : (s.dropOrder pkt).pending = s.pending := by simp [State.dropOrder]
@[simp] theorem State.acceptPacket_pending (s : State) (p : Nat) (pkt : Packet) (sq : Nat) (keeps : Bool) :
    (s.acceptPacket p pkt sq keeps).pending = s.pending := by
  simp [State.acceptPacket]
@[simp] theorem State.frameChecks_pending (s : State) (p : Nat) (t : PType) (pkt : Packet) (q : Nat) :
    (s.frameChecks p t pkt q).1.pending = s.pending := by
  unfold State.frameChecks; (repeat' split) <;> simp

@[simp] theorem State.consume_pending (s : State) (p : Nat) (t : PType) (a : Arrival) : (s.consume p t a).1.pending = s.pending := by
  unfold State.consume
  dsimp only
  split
  · split
    · simp
    · split <;> next heq => simp [pending_of_eq_mk heq]
  · simp

@[simp] theorem State.badForm_pending (s : State) (p : Nat) : (s.badForm p).pending = s.pending := by simp [State.badForm]
@[simp] theorem State.onForm_pending (s : State) (p : Nat) (forms : List Nat) (body : Bytes) (form : Nat) (act : State → State) (h : KeepsQueue act) :
    (s.onForm p forms body form act).pending = s.pending := by simp [State.onForm, (h s).queue]

@[simp] theorem State.onPacket_pending (s : State) (p : Nat) (t : PType) (a : Arrival) (act : State → Nat → State)
    (h : ∀ n, KeepsQueue fun t => act t n) : (s.onPacket p t a act).pending = s.pending := by
  unfold State.onPacket
  split
  · next s1 q heq => exact (h q s1).queue.trans (by simp [pending_of_eq_mk heq])
  · next s1 heq => simp [pending_of_eq_mk heq]

/-! ### Wheel time -/

@[simp] theorem State.setCount16_pending (s : State) (t : Nat) : (s.setCount16 t).pending = s.pending := by simp [State.setCount16]
@[simp] theorem State.setFreq_pending (s : State) (base slew : Int) : (s.setFreq base slew).pending = s.pending := by simp [State.setFreq]
@[simp] theorem State.endSlew_pending (s : State) : s.endSlew.pending = s.pending := by simp [State.endSlew]
@[simp] theorem State.slewToward_pending (s : State) (e : Int) : (s.slewToward e).pending = s.pending := by simp [State.slewToward]
@[simp] theorem State.slewOnChange_pending (s : State) (changed : Bool) : (s.slewOnChange changed).pending = s.pending := by simp [State.slewOnChange]
@[simp] theorem State.setLock_pending (s : State) (st : Nat) : (s.setLock st).pending = s.pending := by simp [State.setLock]
@[simp] theorem State.showSource_pending (s : State) : s.showSource.pending = s.pending := by simp [State.showSource]
@[simp] theorem State.moveTimePort_pending (s : State) (p : Nat) : (s.moveTimePort p).pending = s.pending := by simp [State.moveTimePort]
@[simp] theorem State.enterTrack_pending (s : State) (e : Option Int) : (s.enterTrack e).pending = s.pending := by
  unfold State.enterTrack; split <;> simp
@[simp] theorem State.showPhase_pending (s : State) (e : Int) : (s.showPhase e).pending = s.pending := by simp [State.showPhase]
@[simp] theorem State.discipline_pending (s : State) (e : Int) (bound : Nat) : (s.discipline e bound).pending = s.pending := by
  simp [State.discipline]
@[simp] theorem State.trackStep_pending (s : State) (e aim : Int) (bound need lose : Nat) (mayLose : Bool) :
    (s.trackStep e aim bound need lose mayLose).pending = s.pending := by
  simp [State.trackStep]
@[simp] theorem State.noteMissing_pending (s : State) : s.noteMissing.pending = s.pending := by
  unfold State.noteMissing; dsimp only; (repeat' split) <;> simp
@[simp] theorem State.regainEdge_pending (s : State) (e : Int) : (s.regainEdge e).pending = s.pending := by simp [State.regainEdge]
@[simp] theorem State.houseEdge_pending (s : State) : s.houseEdge.pending = s.pending := by
  unfold State.houseEdge; dsimp only; (repeat' split) <;> simp
@[simp] theorem State.localEdge_pending (s : State) : s.localEdge.pending = s.pending := by unfold State.localEdge; split <;> simp
@[simp] theorem State.oldEdge_pending (s : State) (sync : Nat) : (s.oldEdge sync).pending = s.pending := by simp -implicitDefEqProofs [State.oldEdge]
@[simp] theorem doWsyncEdge_pending (s : State) (long : Bool) : (doWsyncEdge s long).pending = s.pending := by
  unfold doWsyncEdge; dsimp only; (repeat' split) <;> simp
@[simp] theorem doSyncLoss_pending (s : State) : (doSyncLoss s).pending = s.pending := by simp [doSyncLoss]
@[simp] theorem doHoldoverExpiry_pending (s : State) : (doHoldoverExpiry s).pending = s.pending := by simp [doHoldoverExpiry]
@[simp] theorem State.chainLost_pending (s : State) : s.chainLost.pending = s.pending := by simp [State.chainLost]
@[simp] theorem doMarkerTimeout_pending (s : State) : (doMarkerTimeout s).pending = s.pending := by simp [doMarkerTimeout]
@[simp] theorem doWheelMarkerSend_pending (s : State) : (doWheelMarkerSend s).pending = s.pending := by simp [doWheelMarkerSend]
@[simp] theorem State.regainChain_pending (s : State) : s.regainChain.pending = s.pending := by unfold State.regainChain; split <;> simp
@[simp] theorem State.noteChain_pending (s : State) (e : Int) : (s.noteChain e).pending = s.pending := by simp [State.noteChain]
@[simp] theorem doWheelMarkerReceive_pending (s : State) (p : Nat) : (doWheelMarkerReceive s p).pending = s.pending := by
  unfold doWheelMarkerReceive; (repeat' split) <;> simp
@[simp] theorem doTimeRequestSend_pending (s : State) : (doTimeRequestSend s).pending = s.pending := by simp [doTimeRequestSend]
@[simp] theorem doTimeRequestReceive_pending (s : State) (p : Nat) (a : Arrival) : (doTimeRequestReceive s p a).pending = s.pending := by
  unfold doTimeRequestReceive; split <;> simp
@[simp] theorem doTimeResponseReceive_pending (s : State) (p : Nat) (a : Arrival) : (doTimeResponseReceive s p a).pending = s.pending := by
  unfold doTimeResponseReceive; split <;> simp
@[simp] theorem State.useExchange_pending (s : State) (p t1 t2 t3 t4 : Nat) : (s.useExchange p t1 t2 t3 t4).pending = s.pending := by
  simp [State.useExchange]

@[simp] theorem doTimeVerdict_pending (s : State) : (doTimeVerdict s).pending = s.pending := by
  unfold doTimeVerdict
  split
  · rfl
  · dsimp only
    split <;> next heq => simp [pending_of_eq_mk heq]

@[simp] theorem doCountCopyRefresh_pending (s : State) : (doCountCopyRefresh s).pending = s.pending := by simp [doCountCopyRefresh]
@[simp] theorem doRateSwitch_pending (s : State) : (doRateSwitch s).pending = s.pending := by unfold doRateSwitch; split <;> simp
@[simp] theorem doWsyncOutEdge_pending (s : State) : (doWsyncOutEdge s).pending = s.pending := by unfold doWsyncOutEdge; split <;> simp
@[simp] theorem State.whlCommitted_pending (s old : State) : (s.whlCommitted old).pending = s.pending := by simp [State.whlCommitted]
@[simp] theorem State.coarseCount_pending (s : State) (sent : Nat) : (s.coarseCount sent).pending = s.pending := by simp [State.coarseCount]

/-! ### The right to order, verdicts and STALE orders -/

@[simp] theorem State.resumeOffset_pending (s : State) : s.resumeOffset.pending = s.pending := by simp [State.resumeOffset]
@[simp] theorem State.sendOrder_pending (s : State) (p : Nat) (t : PType) (dest : Nat) (body : Bytes) :
    (s.sendOrder p t dest body).pending = s.pending := by
  simp [State.sendOrder]
@[simp] theorem State.sendYield_pending (s : State) (reason gen at_ : Nat) : (s.sendYield reason gen at_).pending = s.pending := by
  simp [State.sendYield]
@[simp] theorem State.yieldFor_pending (s : State) (code : Nat) : (s.yieldFor code).pending = s.pending := by simp [State.yieldFor]
@[simp] theorem State.raiseVerdict_pending (s : State) (code : Nat) : (s.raiseVerdict code).pending = s.pending := by simp [State.raiseVerdict]
@[simp] theorem State.raiseStale_pending (s : State) (all : Bool) (regions : List Nat) : (s.raiseStale all regions).pending = s.pending := by
  simp [State.raiseStale]
@[simp] theorem State.loseEarly_pending (s : State) (r : Nat) : (s.loseEarly r).pending = s.pending := by simp [State.loseEarly]
@[simp] theorem State.earlyPort_pending (s : State) (p : Nat) : (s.earlyPort p).pending = s.pending := by unfold State.earlyPort; split <;> simp
@[simp] theorem State.settleOrders_pending (s : State) : s.settleOrders.pending = s.pending := by simp [State.settleOrders]
@[simp] theorem doStaleSend_pending (s : State) (p : Nat) : (doStaleSend s p).pending = s.pending := by unfold doStaleSend; split <;> simp
@[simp] theorem State.flushStale_pending (s : State) : s.flushStale.pending = s.pending := by simp [State.flushStale]
@[simp] theorem doStaleOrder_pending (s : State) (all : Bool) (region : Nat) : (doStaleOrder s all region).pending = s.pending := by
  simp [doStaleOrder]
@[simp] theorem doHmkHold_pending (s : State) (i v : Nat) : (doHmkHold s i v).pending = s.pending := by simp [doHmkHold]

/-! ### The stacked DRAM -/

@[simp] theorem State.noteLine_pending (s : State) (line : Nat) (r : LineRead) : (s.noteLine line r).pending = s.pending := by simp [State.noteLine]
@[simp] theorem State.mapFault_pending (s : State) (line : Nat) : (s.mapFault line).pending = s.pending := by simp [State.mapFault]
@[simp] theorem State.wakeRank_pending (s : State) (chan rank : Nat) : (s.wakeRank chan rank).pending = s.pending := by simp [State.wakeRank]
@[simp] theorem State.reportUe_pending (s : State) : s.reportUe.pending = s.pending := by simp [State.reportUe]
@[simp] theorem State.noteUe_pending (s : State) (line : Nat) : (s.noteUe line).pending = s.pending := by simp [State.noteUe]
@[simp] theorem State.requestArrives_pending (s : State) (a : Nat) (op : DramOp) (m : DramMaster) (pattern : List (Nat × Byte)) :
    (s.requestArrives a op m pattern).pending = s.pending := by
  simp [State.requestArrives]
@[simp] theorem State.writeBackLine_pending (s : State) (a : Nat) (r : LineRead) : (s.writeBackLine a r).pending = s.pending := by
  simp [State.writeBackLine]
@[simp] theorem State.promote_pending (s : State) (chan : Nat) (which : DramRequest → Bool) : (s.promote chan which).pending = s.pending := by
  simp [State.promote]
@[simp] theorem State.performRequest_pending (s : State) (p : DramRequest) : (s.performRequest p).pending = s.pending := by
  unfold State.performRequest; split <;> simp
@[simp] theorem State.issueNext_pending (s : State) (chan : Nat) : (s.issueNext chan).pending = s.pending := by
  unfold State.issueNext; dsimp only; (repeat' split) <;> simp

@[simp] theorem State.issue_pending (s : State) (chan n : Nat) : (s.issue chan n).pending = s.pending := by
  induction n generalizing s with
  | zero => rfl
  | succ n ih => unfold State.issue; split <;> simp [ih]

@[simp] theorem State.finishRequests_pending (s : State) : s.finishRequests.pending = s.pending := by simp [State.finishRequests]
@[simp] theorem doDramRead_pending (s : State) (a : Nat) (m : DramMaster) (pattern : List (Nat × Byte)) (turns : Nat) :
    (doDramRead s a m pattern turns).pending = s.pending := by
  unfold doDramRead; split <;> simp
@[simp] theorem doDramWrite_pending (s : State) (a : Nat) (bytes : Bytes) (m : DramMaster) (pattern : List (Nat × Byte)) (turns : Nat) :
    (doDramWrite s a bytes m pattern turns).pending = s.pending := by
  unfold doDramWrite; split <;> simp
@[simp] theorem doRequestPromotion_pending (s : State) (chan line turns : Nat) : (doRequestPromotion s chan line turns).pending = s.pending := by
  simp [doRequestPromotion]
@[simp] theorem doDramRefresh_pending (s : State) (chan rank bank : Nat) : (doDramRefresh s chan rank bank).pending = s.pending := by
  simp [doDramRefresh]
@[simp] theorem doDramPowerDown_pending (s : State) (chan rank : Nat) : (doDramPowerDown s chan rank).pending = s.pending := by simp [doDramPowerDown]
@[simp] theorem doPatrolScrub_pending (s : State) (pattern : List (Nat × Byte)) (turns : Nat) :
    (doPatrolScrub s pattern turns).pending = s.pending := by
  simp [doPatrolScrub]
@[simp] theorem doReadRecentre_pending (s : State) (chan : Nat) : (doReadRecentre s chan).pending = s.pending := by simp [doReadRecentre]
@[simp] theorem State.selfRefresh_pending (s : State) : s.selfRefresh.pending = s.pending := by simp [State.selfRefresh]
@[simp] theorem State.leaveSelfRefresh_pending (s : State) : s.leaveSelfRefresh.pending = s.pending := by simp [State.leaveSelfRefresh]
@[simp] theorem doDramTemperatureRead_pending (s : State) (temp : Int) : (doDramTemperatureRead s temp).pending = s.pending := by
  simp [doDramTemperatureRead]

/-! ### Source intake -/

@[simp] theorem State.freeSurface_pending (s : State) (n : Nat) : (s.freeSurface n).pending = s.pending := by simp [State.freeSurface]
@[simp] theorem State.releaseSurface_pending (s : State) (n : Nat) : (s.releaseSurface n).1.pending = s.pending := by
  unfold State.releaseSurface; (repeat' split) <;> simp

@[simp] theorem doRelease_pending (s : State) (n : Nat) : (doRelease s n).pending = s.pending := by
  unfold doRelease
  dsimp only
  split
  · simp
  · split
    · simp
    · split <;> next heq => simp [pending_of_eq_mk heq]

@[simp] theorem doReleaseDone_pending (s : State) (n : Nat) : (doReleaseDone s n).pending = s.pending := by simp [doReleaseDone]
@[simp] theorem State.setHpd_pending (s : State) (p : Nat) : (s.setHpd p).pending = s.pending := by simp [State.setHpd]
@[simp] theorem doEdidRead_pending (s : State) (p blk : Nat) : (doEdidRead s p blk).pending = s.pending := by simp [doEdidRead]
@[simp] theorem State.setLaneStatus_pending (s : State) (p lanes : Nat) : (s.setLaneStatus p lanes).pending = s.pending := by
  simp [State.setLaneStatus]
@[simp] theorem doDpcdAccess_pending (s : State) (p a : Nat) (write : Option Byte) : (doDpcdAccess s p a write).pending = s.pending := by
  unfold doDpcdAccess; (repeat' split) <;> simp
@[simp] theorem State.judgePorts_pending (s : State) (ps : List Nat) : (s.judgePorts ps).pending = s.pending := by simp [State.judgePorts]
@[simp] theorem State.judgePort_pending (s : State) (p : Nat) : (s.judgePort p).pending = s.pending := by simp [State.judgePort]
@[simp] theorem State.resetPatches_pending (s : State) (p : Nat) : (s.resetPatches p).pending = s.pending := by simp [State.resetPatches]
@[simp] theorem State.recount_pending (s : State) : s.recount.pending = s.pending := by simp [State.recount]
@[simp] theorem State.dropWriting_pending (s : State) (p : Nat) : (s.dropWriting p).pending = s.pending := by unfold State.dropWriting; split <;> simp
@[simp] theorem State.cutFrame_pending (s : State) (p : Nat) : (s.cutFrame p).pending = s.pending := by simp [State.cutFrame]
@[simp] theorem State.refusePort_pending (s : State) (p reason : Nat) : (s.refusePort p reason).pending = s.pending := by simp [State.refusePort]
@[simp] theorem State.grant_pending (s : State) (ps : List Nat) (total : Nat) : (s.grant ps total).pending = s.pending := by simp [State.grant]
@[simp] theorem State.grantPair_pending (s : State) (p q total : Nat) : (s.grantPair p q total).pending = s.pending := by simp [State.grantPair]
@[simp] theorem State.askAdmission_pending (s : State) (p : Nat) : (s.askAdmission p).pending = s.pending := by
  unfold State.askAdmission; (repeat' split) <;> simp
@[simp] theorem State.askAgain_pending (s : State) : s.askAgain.pending = s.pending := by simp [State.askAgain]
@[simp] theorem State.leaveBudget_pending (s : State) (p : Nat) : (s.leaveBudget p).pending = s.pending := by simp [State.leaveBudget]
@[simp] theorem State.startVideo_pending (s : State) (p : Nat) (m : Msa) : (s.startVideo p m).pending = s.pending := by simp [State.startVideo]
@[simp] theorem doVideoStart_pending (s : State) (p : Nat) (m : Msa) : (doVideoStart s p m).pending = s.pending := by simp [doVideoStart]
@[simp] theorem doVideoStop_pending (s : State) (p : Nat) : (doVideoStop s p).pending = s.pending := by simp [doVideoStop]
@[simp] theorem doTimingChange_pending (s : State) (p : Nat) (m : Msa) : (doTimingChange s p m).pending = s.pending := by simp [doTimingChange]
@[simp] theorem doDpLinkTraining_pending (s : State) (p : Nat) (r : DpTraining) : (doDpLinkTraining s p r).pending = s.pending := by
  simp [doDpLinkTraining]
@[simp] theorem doLinkLoss_pending (s : State) (p : Nat) : (doLinkLoss s p).pending = s.pending := by simp [doLinkLoss]
@[simp] theorem State.pairSkew_pending (s : State) (p skew : Nat) : (s.pairSkew p skew).pending = s.pending := by
  unfold State.pairSkew; split <;> simp
@[simp] theorem doSourceFrameStart_pending (s : State) (p : Nat) (f : SourceFrame) : (doSourceFrameStart s p f).pending = s.pending := by
  unfold doSourceFrameStart; dsimp only; (repeat' split) <;> simp
@[simp] theorem State.setChangeBit_pending (s : State) (n i : Nat) (b : Bool) : (s.setChangeBit n i b).pending = s.pending := by
  simp [State.setChangeBit]
@[simp] theorem State.storeBale_pending (s : State) (n i sector : Nat) (ps : List Pixel) (changed : Bool) :
    (s.storeBale n i sector ps changed).pending = s.pending := by
  simp [State.storeBale]
@[simp] theorem doBaleWrite_pending (s : State) (p i : Nat) : (doBaleWrite s p i).pending = s.pending := by unfold doBaleWrite; split <;> simp
@[simp] theorem State.patchQualified_pending (s : State) (p t : Nat) : (s.patchQualified p t).pending = s.pending := by simp [State.patchQualified]
@[simp] theorem State.judgePatch_pending (s : State) (p t : Nat) : (s.judgePatch p t).pending = s.pending := by
  unfold State.judgePatch; (repeat' split) <;> simp
@[simp] theorem doSourceFrameEnd_pending (s : State) (p : Nat) : (doSourceFrameEnd s p).pending = s.pending := by simp [doSourceFrameEnd]
@[simp] theorem doPatchDeadline_pending (s : State) (p t : Nat) : (doPatchDeadline s p t).pending = s.pending := by simp [doPatchDeadline]
@[simp] theorem doSurfacePublish_pending (s : State) (p : Nat) : (doSurfacePublish s p).pending = s.pending := by
  unfold doSurfacePublish; (repeat' split) <;> simp
@[simp] theorem State.dpiCommitted_pending (s old : State) (p : Nat) : (s.dpiCommitted old p).pending = s.pending := by simp [State.dpiCommitted]

/-! ### The canvas -/

@[simp] theorem State.enterEntry_pending (s : State) (c p b time gen : Nat) : (s.enterEntry c p b time gen).pending = s.pending := by
  simp [State.enterEntry]
@[simp] theorem State.enterPush_pending (s : State) (c p b time : Nat) : (s.enterPush c p b time).pending = s.pending := by simp [State.enterPush]
@[simp] theorem State.damageBlock_pending (s : State) (b time : Nat) : (s.damageBlock b time).pending = s.pending := by simp [State.damageBlock]
@[simp] theorem State.enterAll_pending (s : State) (c p time : Nat) : (s.enterAll c p time).pending = s.pending := by simp [State.enterAll]
@[simp] theorem State.sendGuard_pending (s : State) (t : PieceTable) (c p : Nat) : (s.sendGuard t c p).pending = s.pending := by
  simp [State.sendGuard]
@[simp] theorem State.fullRepush_pending (s : State) (c p time : Nat) : (s.fullRepush c p time).pending = s.pending := by simp [State.fullRepush]
@[simp] theorem State.repushAll_pending (s : State) (time : Nat) : (s.repushAll time).pending = s.pending := by simp [State.repushAll]
@[simp] theorem doRepush_pending (s : State) (c p : Nat) : (doRepush s c p).pending = s.pending := by simp [doRepush]
@[simp] theorem doRepushAll_pending (s : State) : (doRepushAll s).pending = s.pending := by simp [doRepushAll]

/-! ### Composition passes -/

@[simp] theorem State.storeBlock_pending (s : State) (b : Nat) (ps : List Pixel) : (s.storeBlock b ps).pending = s.pending := by
  simp [State.storeBlock]
@[simp] theorem State.writeSlot0_pending (s : State) : s.writeSlot0.pending = s.pending := by simp [State.writeSlot0]
@[simp] theorem State.uncoverBlock_pending (s : State) (b g : Nat) : (s.uncoverBlock b g).pending = s.pending := by simp [State.uncoverBlock]
@[simp] theorem State.holdBlock_pending (s : State) (b : Nat) : (s.holdBlock b).pending = s.pending := by simp [State.holdBlock]
@[simp] theorem State.markStripe_pending (s : State) (t : Nat) : (s.markStripe t).pending = s.pending := by simp [State.markStripe]
@[simp] theorem State.fenceRecord_pending (s : State) (kind i t : Nat) : (s.fenceRecord kind i t).pending = s.pending := by simp [State.fenceRecord]
@[simp] theorem State.moveStripe_pending (s : State) (t i : Nat) : (s.moveStripe t i).pending = s.pending := by simp [State.moveStripe]
@[simp] theorem State.fenceSlice_pending (s : State) (i : Nat) : (s.fenceSlice i).pending = s.pending := by simp [State.fenceSlice]

@[simp] theorem State.fenceStripes_pending (s : State) (i : Nat) : (s.fenceStripes i).pending = s.pending := by
  unfold State.fenceStripes
  refine State.forAll_pending s _ _ fun k t => ⟨?_⟩
  dsimp only
  split <;> simp

@[simp] theorem State.unfenceSlice_pending (s : State) (i : Nat) : (s.unfenceSlice i).pending = s.pending := by simp [State.unfenceSlice]
@[simp] theorem State.judgeFences_pending (s : State) : s.judgeFences.pending = s.pending := by simp [State.judgeFences]
@[simp] theorem State.applyFences_pending (s : State) : s.applyFences.pending = s.pending := by simp [State.applyFences]
@[simp] theorem State.dueFence_pending (s : State) (i : Nat) (parity : Bool) : (s.dueFence i parity).pending = s.pending := by simp [State.dueFence]
@[simp] theorem State.quickTest_pending (s : State) (failed : List (Fin 16)) : (s.quickTest failed).pending = s.pending := by simp [State.quickTest]
@[simp] theorem doBistFragment_pending (s : State) (i : Nat) (failed : Bool) : (doBistFragment s i failed).pending = s.pending := by
  simp [doBistFragment]
@[simp] theorem doSliceParityError_pending (s : State) (i b : Nat) : (doSliceParityError s i b).pending = s.pending := by simp [doSliceParityError]
@[simp] theorem State.takeLayer_pending (s : State) (n : Nat) : (s.takeLayer n).pending = s.pending := by simp [State.takeLayer]
@[simp] theorem State.beginPass_pending (s : State) (B : Nat) : (s.beginPass B).pending = s.pending := by simp [State.beginPass]
@[simp] theorem doCompositionPass_pending (s : State) : (doCompositionPass s).pending = s.pending := by simp [doCompositionPass]
@[simp] theorem State.recordFault_pending (s : State) (n : Nat) (x : Nat × Nat) (ue : Bool) : (s.recordFault n x ue).pending = s.pending := by
  simp [State.recordFault]
@[simp] theorem doBlockEncoded_pending (s : State) (b : Nat) (ue : List (Nat × Nat)) : (doBlockEncoded s b ue).pending = s.pending := by
  simp [doBlockEncoded]
@[simp] theorem doCutoff_pending (s : State) (started : List Nat) : (doCutoff s started).pending = s.pending := by simp [doCutoff]
@[simp] theorem State.recordPass_pending (s : State) : s.recordPass.pending = s.pending := by simp [State.recordPass]
@[simp] theorem doPassEnd_pending (s : State) : (doPassEnd s).pending = s.pending := by simp [doPassEnd]
@[simp] theorem State.loomRefused_pending (s : State) (f : Nat × Nat × Nat × Nat) : (s.loomRefused f).pending = s.pending := by
  simp [State.loomRefused]
@[simp] theorem State.commitLayer_pending (s old : State) (n : Nat) : (s.commitLayer old n).pending = s.pending := by simp [State.commitLayer]
@[simp] theorem State.freeLoomSlot_pending (s old : State) (b g : Nat) (bg : Bool) : (s.freeLoomSlot old b g bg).pending = s.pending := by
  simp [State.freeLoomSlot]
@[simp] theorem State.takeSlot_pending (s : State) (b : Nat) : (s.takeSlot b).pending = s.pending := by simp [State.takeSlot]
@[simp] theorem State.commitSlots_pending (s old : State) (g : Nat) (bg : Bool) : (s.commitSlots old g bg).pending = s.pending := by
  simp [State.commitSlots]
@[simp] theorem State.loomCommitted_pending (s old : State) : (s.loomCommitted old).pending = s.pending := by simp [State.loomCommitted]

/-! ### Hallmarks at a Sender -/

@[simp] theorem State.hmkRefused_pending (s : State) (f : Nat × Nat × Nat × Nat) : (s.hmkRefused f).pending = s.pending := by simp [State.hmkRefused]
@[simp] theorem State.showRegions_pending (s : State) : s.showRegions.pending = s.pending := by simp [State.showRegions]
@[simp] theorem State.hmkCommitted_pending (s old : State) : (s.hmkCommitted old).pending = s.pending := by simp [State.hmkCommitted]
@[simp] theorem State.putTable_pending (s : State) (t : PieceTable) : (s.putTable t).pending = s.pending := by simp [State.putTable]
@[simp] theorem State.selfCheck_pending (s : State) (t : PieceTable) (bad : Bool) : (s.selfCheck t bad).pending = s.pending := by
  simp [State.selfCheck]
@[simp] theorem doHallmarkCompute_pending (s : State) (bad : Bool) : (doHallmarkCompute s bad).pending = s.pending := by simp [doHallmarkCompute]
@[simp] theorem State.showAffirmed_pending (s : State) (r cls : Nat) (aff : Bool) : (s.showAffirmed r cls aff).pending = s.pending := by
  simp [State.showAffirmed]
@[simp] theorem State.notReady_pending (s : State) (r : Nat) : (s.notReady r).pending = s.pending := by simp [State.notReady]
@[simp] theorem State.reaffirmTile_pending (s : State) (t : PieceTable) (g show_ : Nat) (aff : List Nat) (c p : Nat) :
    (s.reaffirmTile t g show_ aff c p).pending = s.pending := by
  simp [State.reaffirmTile]
@[simp] theorem State.affirmGeneration_pending (s : State) (g show_ : Nat) (guards : Bool) :
    (s.affirmGeneration g show_ guards).pending = s.pending := by
  simp [State.affirmGeneration]
@[simp] theorem State.takePieceState_pending (s : State) (c p : Nat) (old : List (Nat × Nat)) (e : Nat × Nat) :
    (s.takePieceState c p old e).pending = s.pending := by
  simp [State.takePieceState]
@[simp] theorem State.takeGuardReport_pending (s : State) (body : Bytes) : (s.takeGuardReport body).pending = s.pending := by
  simp [State.takeGuardReport]
@[simp] theorem doGuardReportReceive_pending (s : State) (p : Nat) (a : Arrival) : (doGuardReportReceive s p a).pending = s.pending := by
  simp [doGuardReportReceive]

/-! ### The Weft ports as links -/

@[simp] theorem State.setRxLanes_pending (s : State) (p mask : Nat) : (s.setRxLanes p mask).pending = s.pending := by simp [State.setRxLanes]
@[simp] theorem State.setTxMask_pending (s : State) (p mask : Nat) : (s.setTxMask p mask).pending = s.pending := by simp [State.setTxMask]
@[simp] theorem State.storeSettings_pending (s : State) (p : Nat) : (s.storeSettings p).pending = s.pending := by simp [State.storeSettings]
@[simp] theorem State.loadSettings_pending (s : State) (p : Nat) : (s.loadSettings p).pending = s.pending := by
  unfold State.loadSettings; split <;> simp
@[simp] theorem State.noWidth_pending (s : State) (p : Nat) : (s.noWidth p).pending = s.pending := by simp [State.noWidth]
@[simp] theorem State.startAttempt_pending (s : State) (p : Nat) (fast : Bool) : (s.startAttempt p fast).pending = s.pending := by
  simp -implicitDefEqProofs [State.startAttempt]
@[simp] theorem State.leaveService_pending (s : State) (p reason : Nat) : (s.leaveService p reason).pending = s.pending := by
  simp [State.leaveService]
@[simp] theorem State.failAttempt_pending (s : State) (p reason : Nat) (energy : Bool) : (s.failAttempt p reason energy).pending = s.pending := by
  simp -implicitDefEqProofs [State.failAttempt]
@[simp] theorem State.enterService_pending (s : State) (p rxMask partner : Nat) : (s.enterService p rxMask partner).pending = s.pending := by
  simp -implicitDefEqProofs [State.enterService]
@[simp] theorem State.adaptLanes_pending (s : State) (p : Nat) (r : LaneResult) : (s.adaptLanes p r).pending = s.pending := by simp [State.adaptLanes]
@[simp] theorem State.endEq_pending (s : State) (p : Nat) (r : LaneResult) : (s.endEq p r).pending = s.pending := by
  simp -implicitDefEqProofs [State.endEq]
@[simp] theorem State.partnerWakes_pending (s : State) (p : Nat) (r : LaneResult) : (s.partnerWakes p r).pending = s.pending := by
  simp [State.partnerWakes]
@[simp] theorem State.wakeAcked_pending (s : State) (p : Nat) : (s.wakeAcked p).pending = s.pending := by simp [State.wakeAcked]
@[simp] theorem doTrainingPhaseEnd_pending (s : State) (p : Nat) (r : LaneResult) : (doTrainingPhaseEnd s p r).pending = s.pending := by
  unfold doTrainingPhaseEnd; split <;> simp -implicitDefEqProofs
@[simp] theorem doTrainingTimeout_pending (s : State) (p : Nat) (r : LaneResult) : (doTrainingTimeout s p r).pending = s.pending := by
  unfold doTrainingTimeout; split <;> simp
@[simp] theorem doTs1Receive_pending (s : State) (p : Nat) (set : Bytes) : (doTs1Receive s p set).pending = s.pending := by simp [doTs1Receive]
@[simp] theorem doBackoffExpiry_pending (s : State) (p : Nat) : (doBackoffExpiry s p).pending = s.pending := by simp [doBackoffExpiry]
@[simp] theorem doEnergyDetected_pending (s : State) (p : Nat) : (doEnergyDetected s p).pending = s.pending := by simp [doEnergyDetected]
@[simp] theorem doBeacon_pending (s : State) (p : Nat) : (doBeacon s p).pending = s.pending := by simp [doBeacon]
@[simp] theorem doLaneFault_pending (s0 : State) (p l : Nat) (cause : LaneCause) (cv disp : Nat) :
    (doLaneFault s0 p l cause cv disp).pending = s0.pending := by
  simp -implicitDefEqProofs [doLaneFault]
@[simp] theorem doDegradeReceive_pending (s : State) (p : Nat) (set : Bytes) : (doDegradeReceive s p set).pending = s.pending := by
  simp [doDegradeReceive]
@[simp] theorem doDegradeTimeout_pending (s : State) (p : Nat) : (doDegradeTimeout s p).pending = s.pending := by simp [doDegradeTimeout]
@[simp] theorem doIdleHoldEntry_pending (s : State) (p : Nat) : (doIdleHoldEntry s p).pending = s.pending := by simp [doIdleHoldEntry]
@[simp] theorem doSleepReceive_pending (s : State) (p : Nat) (set : Bytes) : (doSleepReceive s p set).pending = s.pending := by simp [doSleepReceive]
@[simp] theorem doWakeTimeout_pending (s : State) (p : Nat) : (doWakeTimeout s p).pending = s.pending := by simp -implicitDefEqProofs [doWakeTimeout]
@[simp] theorem doFullRetrain_pending (s : State) (p : Nat) : (doFullRetrain s p).pending = s.pending := by simp [doFullRetrain]
@[simp] theorem doFastRetrain_pending (s : State) (p : Nat) : (doFastRetrain s p).pending = s.pending := by simp [doFastRetrain]
@[simp] theorem doTransmitDormant_pending (s : State) (p : Nat) : (doTransmitDormant s p).pending = s.pending := by simp [doTransmitDormant]
@[simp] theorem doTransmitWake_pending (s : State) (p : Nat) : (doTransmitWake s p).pending = s.pending := by simp [doTransmitWake]
@[simp] theorem doPortDormant_pending (s : State) (p : Nat) : (doPortDormant s p).pending = s.pending := by simp [doPortDormant]
@[simp] theorem doPortCmd_pending (s : State) (p op : Nat) : (doPortCmd s p op).pending = s.pending := by unfold doPortCmd; split <;> simp
@[simp] theorem doSettingsSave_pending (s : State) (p : Nat) : (doSettingsSave s p).pending = s.pending := by simp [doSettingsSave]
@[simp] theorem doEyeScanStart_pending (s : State) (p voff phase dwell : Nat) : (doEyeScanStart s p voff phase dwell).pending = s.pending := by
  simp [doEyeScanStart]
@[simp] theorem doEyeScanDone_pending (s : State) (p count : Nat) : (doEyeScanDone s p count).pending = s.pending := by simp [doEyeScanDone]
@[simp] theorem State.warmTrain_pending (s : State) (p : Nat) : (s.warmTrain p).pending = s.pending := by simp [State.warmTrain]
@[simp] theorem State.weftCommitted_pending (s old : State) (p : Nat) : (s.weftCommitted old p).pending = s.pending := by
  simp -implicitDefEqProofs [State.weftCommitted]

/-! ### Pushes and commits at a Sender -/

@[simp] theorem State.dmgRefused_pending (s : State) (f : Nat × Nat × Nat × Nat) : (s.dmgRefused f).pending = s.pending := by simp [State.dmgRefused]
@[simp] theorem State.dropTile_pending (s : State) (c p : Nat) : (s.dropTile c p).pending = s.pending := by simp [State.dropTile]
@[simp] theorem State.dmgCommitted_pending (s old : State) : (s.dmgCommitted old).pending = s.pending := by simp [State.dmgCommitted]
@[simp] theorem State.sweep_pending (s : State) (c : Nat) : (s.sweep c).pending = s.pending := by simp [State.sweep]
@[simp] theorem State.takePush_pending (s : State) (c : Nat) (e : PushEntry) : (s.takePush c e).pending = s.pending := by simp [State.takePush]
@[simp] theorem doPushSend_pending (s : State) (c : Nat) : (doPushSend s c).pending = s.pending := by
  unfold doPushSend; dsimp only; (repeat' split) <;> simp
@[simp] theorem State.judgeCatchup_pending (s : State) (c p : Nat) : (s.judgeCatchup c p).pending = s.pending := by simp [State.judgeCatchup]
@[simp] theorem State.countSkip_pending (s : State) (c p gen : Nat) : (s.countSkip c p gen).pending = s.pending := by simp [State.countSkip]
@[simp] theorem State.closeChain_pending (s : State) (c g : Nat) : (s.closeChain c g).pending = s.pending := by simp [State.closeChain]
@[simp] theorem State.decidePrepare_pending (s : State) : s.decidePrepare.pending = s.pending := by unfold State.decidePrepare; split <;> simp
@[simp] theorem State.nextWindow_pending (s : State) (g : Nat) : (s.nextWindow g).pending = s.pending := by simp [State.nextWindow]
@[simp] theorem doCommitSend_pending (s : State) : (doCommitSend s).pending = s.pending := by simp [doCommitSend]
@[simp] theorem State.judgeAlone_pending (s : State) (c p : Nat) : (s.judgeAlone c p).pending = s.pending := by simp [State.judgeAlone]
@[simp] theorem State.countGeneration_pending (s : State) (c p gen : Nat) (shown complete : Bool) :
    (s.countGeneration c p gen shown complete).pending = s.pending := by
  simp [State.countGeneration]
@[simp] theorem State.settleSet_pending (s : State) (c p gen : Nat) (miss : Bool) : (s.settleSet c p gen miss).pending = s.pending := by
  simp [State.settleSet]
@[simp] theorem State.judgeGeometry_pending (s : State) (c p w h : Nat) : (s.judgeGeometry c p w h).pending = s.pending := by
  simp [State.judgeGeometry]
@[simp] theorem State.reachTile_pending (s : State) (c p : Nat) : (s.reachTile c p).pending = s.pending := by simp [State.reachTile]
@[simp] theorem State.takeCommitReport_pending (s : State) (body : Bytes) : (s.takeCommitReport body).pending = s.pending := by
  simp [State.takeCommitReport]
@[simp] theorem doCommitReportReceive_pending (s : State) (p : Nat) (a : Arrival) : (doCommitReportReceive s p a).pending = s.pending := by
  simp [doCommitReportReceive]
@[simp] theorem State.reportMissing_pending (s : State) (c p gen : Nat) : (s.reportMissing c p gen).pending = s.pending := by
  simp [State.reportMissing]
@[simp] theorem doReportDeadline_pending (s : State) : (doReportDeadline s).pending = s.pending := by unfold doReportDeadline; split <;> simp
@[simp] theorem State.takeDerateReport_pending (s : State) (body : Bytes) : (s.takeDerateReport body).pending = s.pending := by
  simp [State.takeDerateReport]
@[simp] theorem doDerateReportReceive_pending (s : State) (p : Nat) (a : Arrival) : (doDerateReportReceive s p a).pending = s.pending := by
  simp [doDerateReportReceive]
@[simp] theorem doWallDerate_pending (s : State) : (doWallDerate s).pending = s.pending := by simp [doWallDerate]

/-! ### The Spindle -/

@[simp] theorem State.claimSpindle_pending (s : State) : s.claimSpindle.pending = s.pending := by simp [State.claimSpindle]
@[simp] theorem State.sendHeart_pending (s : State) (p : Nat) : (s.sendHeart p).pending = s.pending := by simp [State.sendHeart]
@[simp] theorem State.restPort_pending (s : State) (p : Nat) : (s.restPort p).pending = s.pending := by simp [State.restPort]
@[simp] theorem State.endDrill_pending (s : State) (result : Nat) : (s.endDrill result).pending = s.pending := by simp [State.endDrill]
@[simp] theorem State.drillHeart_pending (s : State) : s.drillHeart.pending = s.pending := by unfold State.drillHeart; split <;> simp
@[simp] theorem doHeartSend_pending (s : State) : (doHeartSend s).pending = s.pending := by simp [doHeartSend]
@[simp] theorem State.clearFloors_pending (s : State) : s.clearFloors.pending = s.pending := by simp [State.clearFloors]
@[simp] theorem State.followHeart_pending (s : State) (p epoch heard : Nat) : (s.followHeart p epoch heard).pending = s.pending := by
  simp [State.followHeart]
@[simp] theorem State.takeMaster_pending (s : State) (p epoch rank : Nat) : (s.takeMaster p epoch rank).pending = s.pending := by
  simp [State.takeMaster]
@[simp] theorem doHeartReceive_pending (s : State) (p : Nat) (a : Arrival) : (doHeartReceive s p a).pending = s.pending := by simp [doHeartReceive]
@[simp] theorem doMasterLapse_pending (s : State) : (doMasterLapse s).pending = s.pending := by simp [doMasterLapse]
@[simp] theorem State.wakeAndHeart_pending (s : State) (p : Nat) : (s.wakeAndHeart p).pending = s.pending := by simp [State.wakeAndHeart]
@[simp] theorem State.restartDispatch_pending (s : State) : s.restartDispatch.pending = s.pending := by simp [State.restartDispatch]
@[simp] theorem State.takeSpindle_pending (s : State) : s.takeSpindle.pending = s.pending := by simp [State.takeSpindle]
@[simp] theorem State.giveUp_pending (s : State) (epoch : Nat) : (s.giveUp epoch).pending = s.pending := by
  unfold State.giveUp; dsimp only; split <;> simp
@[simp] theorem State.leaveSplit_pending (s : State) (p : Nat) : (s.leaveSplit p).pending = s.pending := by
  unfold State.leaveSplit; dsimp only; (repeat' split) <;> simp
@[simp] theorem State.dropQuery_pending (s : State) (p : Nat) : (s.dropQuery p).pending = s.pending := by simp [State.dropQuery]
@[simp] theorem State.takePartnerHeart_pending (s : State) (p : Nat) (pkt : Packet) : (s.takePartnerHeart p pkt).pending = s.pending := by
  simp [State.takePartnerHeart]
@[simp] theorem State.learnHeart_pending (s : State) (pkt : Packet) : (s.learnHeart pkt).pending = s.pending := by simp [State.learnHeart]
@[simp] theorem doPartnerHeartReceive_pending (s : State) (p : Nat) (a : Arrival) : (doPartnerHeartReceive s p a).pending = s.pending := by
  simp [doPartnerHeartReceive]
@[simp] theorem State.askTiles_pending (s : State) (p : Nat) : (s.askTiles p).pending = s.pending := by unfold State.askTiles; split <;> simp
@[simp] theorem doHeartbeatLoss_pending (s : State) (p : Nat) : (doHeartbeatLoss s p).pending = s.pending := by simp [doHeartbeatLoss]
@[simp] theorem State.sendAnswer_pending (s : State) (p : Nat) : (s.sendAnswer p).pending = s.pending := by unfold State.sendAnswer; split <;> simp
@[simp] theorem State.afterWake_pending (s old : State) (p : Nat) : (s.afterWake old p).pending = s.pending := by simp [State.afterWake]
@[simp] theorem State.queryAnswer_pending (s : State) (id value : Nat) : (s.queryAnswer id value).pending = s.pending := by
  unfold State.queryAnswer; dsimp only; split <;> simp
@[simp] theorem State.enterSplit_pending (s : State) (p : Nat) (tiles : List Nat) : (s.enterSplit p tiles).pending = s.pending := by
  simp [State.enterSplit]
@[simp] theorem State.settleQuery_pending (s : State) (p : Nat) : (s.settleQuery p).pending = s.pending := by unfold State.settleQuery; split <;> simp
@[simp] theorem doQueryComplete_pending (s : State) (p : Nat) : (doQueryComplete s p).pending = s.pending := by unfold doQueryComplete; split <;> simp
@[simp] theorem State.takeYield_pending (s : State) (pkt : Packet) : (s.takeYield pkt).pending = s.pending := by simp [State.takeYield]
@[simp] theorem doYieldReceive_pending (s : State) (p : Nat) (a : Arrival) : (doYieldReceive s p a).pending = s.pending := by simp [doYieldReceive]
@[simp] theorem doYieldTimeout_pending (s : State) : (doYieldTimeout s).pending = s.pending := by unfold doYieldTimeout; split <;> simp
@[simp] theorem State.learnOffset_pending (s : State) (body : Bytes) : (s.learnOffset body).pending = s.pending := by
  unfold State.learnOffset; dsimp only; split <;> simp
@[simp] theorem doGenOffsetSync_pending (s : State) (p : Nat) (a : Arrival) : (doGenOffsetSync s p a).pending = s.pending := by simp [doGenOffsetSync]
@[simp] theorem State.shadowEntry_pending (s : State) (x : PieceRec) (own theirs : Nat) : (s.shadowEntry x own theirs).pending = s.pending := by
  simp [State.shadowEntry]

@[simp] theorem doShadowCompare_pending (s : State) (p : Nat) (a : Arrival) : (doShadowCompare s p a).pending = s.pending := by
  refine State.onPacket_pending s _ _ _ _ fun _ t => ⟨?_⟩
  dsimp only
  split
  · rfl
  · split
    · rfl
    · refine State.forAll_pending t _ _ fun e u => ⟨?_⟩
      dsimp only
      split
      · rfl
      · split <;> simp

@[simp] theorem State.orderDrill_pending (s : State) (out : Nat) : (s.orderDrill out).pending = s.pending := by simp [State.orderDrill]
@[simp] theorem doSpnDrillOut_pending (s : State) (out : Nat) : (doSpnDrillOut s out).pending = s.pending := by simp [doSpnDrillOut]
@[simp] theorem doDrillYield_pending (s : State) : (doDrillYield s).pending = s.pending := by unfold doDrillYield; split <;> simp -implicitDefEqProofs
@[simp] theorem doDrillRelease_pending (s : State) : (doDrillRelease s).pending = s.pending := by unfold doDrillRelease; (repeat' split) <;> simp
@[simp] theorem State.returnDrill_pending (s : State) : s.returnDrill.pending = s.pending := by simp [State.returnDrill]
@[simp] theorem doDrillTake_pending (s : State) : (doDrillTake s).pending = s.pending := by unfold doDrillTake; split <;> simp
@[simp] theorem doWatchdogKick_pending (s : State) (key : Nat) : (doWatchdogKick s key).pending = s.pending := by simp [doWatchdogKick]
@[simp] theorem doVerdict_pending (s : State) (code : Nat) : (doVerdict s code).pending = s.pending := by simp [doVerdict]

/-! ### Pushes and commits at a Tile -/

@[simp] theorem State.clearExpiry_pending (s : State) : s.clearExpiry.pending = s.pending := by simp [State.clearExpiry]
@[simp] theorem State.clearStore_pending (s : State) : s.clearStore.pending = s.pending := by simp [State.clearStore]
@[simp] theorem State.tfsCommitted_pending (s old : State) : (s.tfsCommitted old).pending = s.pending := by simp [State.tfsCommitted]
@[simp] theorem State.noteShow_pending (s : State) (show_ : Nat) : (s.noteShow show_).pending = s.pending := by simp [State.noteShow]
@[simp] theorem State.copyCell_pending (s : State) (b c : Nat) : (s.copyCell b c).pending = s.pending := by simp [State.copyCell]
@[simp] theorem State.copyPending_pending (s : State) (b c : Nat) : (s.copyPending b c).pending = s.pending := by simp [State.copyPending]
@[simp] theorem doCellCopy_pending (s : State) (b col row : Nat) : (doCellCopy s b col row).pending = s.pending := by simp [doCellCopy]
@[simp] theorem State.finishCopies_pending (s : State) : s.finishCopies.pending = s.pending := by simp [State.finishCopies]
@[simp] theorem State.countPush_pending (s : State) (epoch gen : Nat) (ok : Bool) : (s.countPush epoch gen ok).pending = s.pending := by
  simp [State.countPush]
@[simp] theorem State.adoptPhase_pending (s : State) (cx cy : Nat) : (s.adoptPhase cx cy).pending = s.pending := by simp [State.adoptPhase]
@[simp] theorem State.touchCell_pending (s : State) (c : Nat) : (s.touchCell c).pending = s.pending := by simp [State.touchCell]
@[simp] theorem State.writeBlock_pending (s : State) (x0 y0 : Int) (ps : List Pixel) : (s.writeBlock x0 y0 ps).pending = s.pending := by
  unfold State.writeBlock; dsimp only; split <;> simp
@[simp] theorem State.takePushPacket_pending (s : State) (epoch : Nat) (body : Bytes) : (s.takePushPacket epoch body).pending = s.pending := by
  unfold State.takePushPacket; dsimp only; split <;> simp
@[simp] theorem doPushReceive_pending (s : State) (p : Nat) (a : Arrival) : (doPushReceive s p a).pending = s.pending := by simp [doPushReceive]
@[simp] theorem State.bindBack_pending (s : State) (gen show_ : Nat) (late waits : Bool) : (s.bindBack gen show_ late waits).pending = s.pending := by
  simp [State.bindBack]
@[simp] theorem State.unbind_pending (s : State) : s.unbind.pending = s.pending := by simp [State.unbind]
@[simp] theorem State.acceptCommit_pending (s : State) (p epoch gen phase : Nat) : (s.acceptCommit p epoch gen phase).pending = s.pending := by
  unfold State.acceptCommit; split <;> simp

@[simp] theorem State.onCommit_pending (s : State) (p : Nat) (a : Arrival) (phase : Nat) (act : State → State) (h : KeepsQueue act) :
    (s.onCommit p a phase act).pending = s.pending := by
  unfold State.onCommit
  refine State.onPacket_pending s _ _ _ _ fun _ t => ⟨?_⟩
  dsimp only
  split
  · exact (h _).queue.trans (by simp)
  · rfl

@[simp] theorem State.judgeCommit_pending (s old : State) (p epoch : Nat) (body : Bytes) (asCommit : Bool) :
    (s.judgeCommit old p epoch body asCommit).pending = s.pending := by
  simp [State.judgeCommit]
@[simp] theorem doCommitReceive_pending (s : State) (p : Nat) (a : Arrival) : (doCommitReceive s p a).pending = s.pending := by simp [doCommitReceive]
@[simp] theorem doPrepareReceive_pending (s : State) (p : Nat) (a : Arrival) : (doPrepareReceive s p a).pending = s.pending := by
  simp [doPrepareReceive]
@[simp] theorem State.updNext_pending (s : State) (f : NextBind → Option NextBind) : (s.updNext f).pending = s.pending := by simp [State.updNext]
@[simp] theorem doGoReceive_pending (s : State) (p : Nat) (a : Arrival) : (doGoReceive s p a).pending = s.pending := by simp [doGoReceive]
@[simp] theorem doAbortReceive_pending (s : State) (p : Nat) (a : Arrival) : (doAbortReceive s p a).pending = s.pending := by simp [doAbortReceive]
@[simp] theorem doGoTimeout_pending (s : State) : (doGoTimeout s).pending = s.pending := by simp [doGoTimeout]
@[simp] theorem State.promoteNext_pending (s : State) : s.promoteNext.pending = s.pending := by unfold State.promoteNext; split <;> simp
@[simp] theorem State.swapBuffers_pending (s : State) : s.swapBuffers.pending = s.pending := by simp [State.swapBuffers]
@[simp] theorem State.feedBuffers_pending (s : State) (S : Nat) : (s.feedBuffers S).pending = s.pending := by simp [State.feedBuffers]

/-! ### Guard tables and the Tile's hallmarks -/

@[simp] theorem State.applyGuard_pending (s : State) (body : Bytes) : (s.applyGuard body).pending = s.pending := by simp [State.applyGuard]
@[simp] theorem State.keepHolderGuard_pending (s : State) (addr : Nat) (body : Bytes) : (s.keepHolderGuard addr body).pending = s.pending := by
  simp [State.keepHolderGuard]
@[simp] theorem doGuardReceive_pending (s : State) (p : Nat) (a : Arrival) : (doGuardReceive s p a).pending = s.pending := by simp [doGuardReceive]
@[simp] theorem State.takeStale_pending (s : State) (epoch : Nat) (body : Bytes) : (s.takeStale epoch body).pending = s.pending := by
  simp [State.takeStale]
@[simp] theorem doStaleReceive_pending (s : State) (p : Nat) (a : Arrival) : (doStaleReceive s p a).pending = s.pending := by simp [doStaleReceive]
@[simp] theorem doTileHallmark_pending (s : State) (bad : List Nat) : (doTileHallmark s bad).pending = s.pending := by simp [doTileHallmark]
@[simp] theorem doReaffirmReceive_pending (s : State) (p : Nat) (a : Arrival) : (doReaffirmReceive s p a).pending = s.pending := by
  simp [doReaffirmReceive]
@[simp] theorem State.judgeEntry_pending (s : State) (h : HeldAffirm) (shown : Nat) (own : List Nat) (e : Nat × Nat) :
    (s.judgeEntry h shown own e).pending = s.pending := by
  unfold State.judgeEntry; split <;> simp
@[simp] theorem State.judgeHeld_pending (s : State) (h : HeldAffirm) : (s.judgeHeld h).pending = s.pending := by
  unfold State.judgeHeld; dsimp only; split <;> simp
@[simp] theorem doReaffirmEvaluate_pending (s : State) : (doReaffirmEvaluate s).pending = s.pending := by simp [doReaffirmEvaluate]
@[simp] theorem doCountStep_pending (s : State) : (doCountStep s).pending = s.pending := by unfold doCountStep; split <;> simp

/-! ### Lamp correction -/

@[simp] theorem State.setTargets_pending (s : State) : s.setTargets.pending = s.pending := by simp [State.setTargets]
@[simp] theorem State.settleZones_pending (s : State) : s.settleZones.pending = s.pending := by simp [State.settleZones]
@[simp] theorem State.lmpCommitted_pending (s old : State) : (s.lmpCommitted old).pending = s.pending := by simp [State.lmpCommitted]
@[simp] theorem State.slewZones_pending (s : State) : s.slewZones.pending = s.pending := by simp [State.slewZones]
@[simp] theorem State.readSensor_pending (s : State) (i : Nat) (r : Option (BitVec 16)) : (s.readSensor i r).pending = s.pending := by
  unfold State.readSensor; split <;> simp
@[simp] theorem State.scanZone_pending (s : State) (z : Nat) : (s.scanZone z).pending = s.pending := by unfold State.scanZone; split <;> simp
@[simp] theorem State.scanZones_pending (s : State) : s.scanZones.pending = s.pending := by simp [State.scanZones]
@[simp] theorem State.scanSensors_pending (s : State) (readings : List (Option (BitVec 16))) : (s.scanSensors readings).pending = s.pending := by
  simp [State.scanSensors]
@[simp] theorem doSensorScan_pending (s : State) (readings : List (Option (BitVec 16))) : (doSensorScan s readings).pending = s.pending := by
  simp [doSensorScan]
@[simp] theorem State.noteBadLines_pending (s : State) (bad : List Nat) : (s.noteBadLines bad).pending = s.pending := by simp [State.noteBadLines]
@[simp] theorem State.slewDerate_pending (s : State) : s.slewDerate.pending = s.pending := by simp [State.slewDerate]
@[simp] theorem doDerateReportSend_pending (s : State) : (doDerateReportSend s).pending = s.pending := by simp [doDerateReportSend]
@[simp] theorem doWallminReceive_pending (s : State) (p : Nat) (a : Arrival) : (doWallminReceive s p a).pending = s.pending := by
  simp [doWallminReceive]

/-! ### Trims and current references -/

@[simp] theorem State.showTrims_pending (s : State) : s.showTrims.pending = s.pending := by simp [State.showTrims]
@[simp] theorem State.settleCref_pending (s : State) : s.settleCref.pending = s.pending := by simp [State.settleCref]
@[simp] theorem State.sweepStep_pending (s : State) (n : Nat) : (s.sweepStep n).pending = s.pending := by
  unfold State.sweepStep; (repeat' split) <;> simp
@[simp] theorem State.crefTick_pending (s : State) (n : Nat) : (s.crefTick n).pending = s.pending := by simp [State.crefTick]
@[simp] theorem doCrefSlew_pending (s : State) : (doCrefSlew s).pending = s.pending := by simp [doCrefSlew]
@[simp] theorem State.applyTrims_pending (s : State) : s.applyTrims.pending = s.pending := by simp [State.applyTrims]
@[simp] theorem doTrimUpdate_pending (s : State) (raw : BitVec 16) : (doTrimUpdate s raw).pending = s.pending := by simp [doTrimUpdate]

/-! ### Driver groups -/

@[simp] theorem State.showProfiles_pending (s : State) : s.showProfiles.pending = s.pending := by simp [State.showProfiles]
@[simp] theorem State.setLamp_pending (s : State) (n i st age : Nat) : (s.setLamp n i st age).pending = s.pending := by simp [State.setLamp]
@[simp] theorem State.showLamps_pending (s : State) (n : Nat) : (s.showLamps n).pending = s.pending := by simp [State.showLamps]
@[simp] theorem State.resetLamps_pending (s : State) (n : Nat) : (s.resetLamps n).pending = s.pending := by simp [State.resetLamps]
@[simp] theorem State.clearLamps_pending (s old : State) (n : Nat) : (s.clearLamps old n).pending = s.pending := by simp [State.clearLamps]
@[simp] theorem State.judgeRefresh_pending (s : State) (n : Nat) : (s.judgeRefresh n).pending = s.pending := by simp [State.judgeRefresh]
@[simp] theorem State.cutSweep_pending (s : State) (n : Nat) : (s.cutSweep n).pending = s.pending := by simp [State.cutSweep]
@[simp] theorem State.drvCommitted_pending (s old : State) (n : Nat) : (s.drvCommitted old n).pending = s.pending := by simp [State.drvCommitted]
@[simp] theorem State.slewKnee_pending (s : State) (n : Nat) : (s.slewKnee n).pending = s.pending := by simp [State.slewKnee]
@[simp] theorem State.keepGain_pending (s : State) (n : Nat) : (s.keepGain n).pending = s.pending := by simp [State.keepGain]
@[simp] theorem State.stageWords_pending (s : State) (n : Nat) (words : List Nat) : (s.stageWords n words).pending = s.pending := by
  simp [State.stageWords]
@[simp] theorem State.startFeed_pending (s : State) (bad : List Nat) (n : Nat) : (s.startFeed bad n).pending = s.pending := by simp [State.startFeed]
@[simp] theorem State.showDark_pending (s : State) (n : Nat) : (s.showDark n).pending = s.pending := by simp [State.showDark]
@[simp] theorem State.abortFeed_pending (s : State) (n row : Nat) (cnt : Fld) : (s.abortFeed n row cnt).pending = s.pending := by
  simp [State.abortFeed]
@[simp] theorem doUnderrun_pending (s : State) (n row : Nat) : (doUnderrun s n row).pending = s.pending := by simp [doUnderrun]
@[simp] theorem doLateFeed_pending (s : State) (n : Nat) : (doLateFeed s n).pending = s.pending := by simp [doLateFeed]
@[simp] theorem State.withholdSwap_pending (s : State) (n : Nat) : (s.withholdSwap n).pending = s.pending := by simp [State.withholdSwap]
@[simp] theorem State.swapBank_pending (s : State) (n : Nat) : (s.swapBank n).pending = s.pending := by simp [State.swapBank]
@[simp] theorem doBankSwap_pending (s : State) (n : Nat) : (doBankSwap s n).pending = s.pending := by simp [doBankSwap]
@[simp] theorem doGainTransfer_pending (s : State) (n : Nat) : (doGainTransfer s n).pending = s.pending := by simp [doGainTransfer]
@[simp] theorem doRefreshCycle_pending (s : State) (n : Nat) : (doRefreshCycle s n).pending = s.pending := by simp [doRefreshCycle]
@[simp] theorem State.readLamp_pending (s : State) (n : Nat) (ret : List (List Bool)) (k d ch r : Nat) (counts : Bool) :
    (s.readLamp n ret k d ch r counts).pending = s.pending := by
  simp [State.readLamp]
@[simp] theorem State.readRow_pending (s : State) (n : Nat) (ret : List (List Bool)) (r : Nat) (counts : Nat → Bool) :
    (s.readRow n ret r counts).pending = s.pending := by
  simp [State.readRow]
@[simp] theorem State.skipRead_pending (s : State) (n : Nat) : (s.skipRead n).pending = s.pending := by simp [State.skipRead]
@[simp] theorem doLampRead_pending (s : State) (n : Nat) (ret : List (List Bool)) : (doLampRead s n ret).pending = s.pending := by simp [doLampRead]
@[simp] theorem doLampProbe_pending (s : State) (n : Nat) (ret : List (List Bool)) : (doLampProbe s n ret).pending = s.pending := by
  unfold doLampProbe; split <;> simp

/-! ### Assay runs -/

@[simp] theorem State.useRecord_pending (s : State) (r : Option AsyRecord) : (s.useRecord r).pending = s.pending := by simp [State.useRecord]
@[simp] theorem State.loadAssay_pending (s : State) : s.loadAssay.pending = s.pending := by simp [State.loadAssay]
@[simp] theorem State.endRun_pending (s : State) (reason : Nat) : (s.endRun reason).pending = s.pending := by simp [State.endRun]
@[simp] theorem doAsyRunStart_pending (s : State) (sweep : Nat) (tsEn : Bool) (refTemp : Nat) :
    (doAsyRunStart s sweep tsEn refTemp).pending = s.pending := by
  simp [doAsyRunStart]
@[simp] theorem doAsyRunAbort_pending (s : State) : (doAsyRunAbort s).pending = s.pending := by simp [doAsyRunAbort]
@[simp] theorem State.endA1_pending (s : State) (r : AsyRun) : (s.endA1 r).pending = s.pending := by unfold State.endA1; (repeat' split) <;> simp
@[simp] theorem State.endA3_pending (s : State) (total : Int) : (s.endA3 total).pending = s.pending := by simp [State.endA3]
@[simp] theorem State.afterConverter_pending (s : State) : s.afterConverter.pending = s.pending := by simp [State.afterConverter]
@[simp] theorem State.endA4_pending (s : State) (r : AsyRun) (total : Int) : (s.endA4 r total).pending = s.pending := by simp [State.endA4]
@[simp] theorem State.endA5_pending (s : State) (r : AsyRun) (total : Int) : (s.endA5 r total).pending = s.pending := by simp [State.endA5]
@[simp] theorem State.endA6_pending (s : State) (r : AsyRun) (m : AsyMeasure) : (s.endA6 r m).pending = s.pending := by simp [State.endA6]
@[simp] theorem State.endA7_pending (s : State) (duty : List (BitVec 10)) : (s.endA7 duty).pending = s.pending := by simp [State.endA7]
@[simp] theorem State.endA8_pending (s : State) (r : AsyRun) : (s.endA8 r).pending = s.pending := by unfold State.endA8; split <;> simp
@[simp] theorem State.endA9_pending (s : State) (flashOk : Bool) : (s.endA9 flashOk).pending = s.pending := by
  unfold State.endA9; dsimp only; (repeat' split) <;> simp
@[simp] theorem doAssayStepEnd_pending (s : State) (m : AsyMeasure) : (doAssayStepEnd s m).pending = s.pending := by
  unfold doAssayStepEnd; (repeat' split) <;> simp

/-! ### Feed starts -/

@[simp] theorem State.feedPieces_pending (s : State) (S : Nat) : (s.feedPieces S).pending = s.pending := by simp [State.feedPieces]
@[simp] theorem State.feedDark_pending (s : State) : s.feedDark.pending = s.pending := by simp [State.feedDark]
@[simp] theorem State.reportGuard_pending (s : State) : s.reportGuard.pending = s.pending := by simp [State.reportGuard]
@[simp] theorem State.feedFactors_pending (s : State) : s.feedFactors.pending = s.pending := by simp [State.feedFactors]
@[simp] theorem State.feedFrame_pending (s : State) (S : Nat) (bad : List Nat) : (s.feedFrame S bad).pending = s.pending := by simp [State.feedFrame]
@[simp] theorem doFeedStart_pending (s : State) (bad : List Nat) : (doFeedStart s bad).pending = s.pending := by simp [doFeedStart]
@[simp] theorem State.glassPort_pending (s : State) (n k : Nat) (equal : Bool) : (s.glassPort n k equal).pending = s.pending := by
  simp [State.glassPort]
@[simp] theorem doGlassCompare_pending (s : State) (n : Nat) (ret : List (List Bool)) : (doGlassCompare s n ret).pending = s.pending := by
  simp [doGlassCompare]

/-! ### Tally units -/

@[simp] theorem State.noteTlyRefused_pending (s : State) : s.noteTlyRefused.pending = s.pending := by
  unfold State.noteTlyRefused
  refine State.forAll_pending s _ _ fun c t => ⟨?_⟩
  dsimp only
  split <;> simp

@[simp] theorem State.wrBoth_pending (s : State) (f : Fld) (v : Nat) : (s.wrBoth f v).pending = s.pending := by simp [State.wrBoth]
@[simp] theorem State.loadProfile_pending (s : State) (c u : Nat) (p : TallyParams) : (s.loadProfile c u p).pending = s.pending := by
  simp [State.loadProfile]
@[simp] theorem State.initUnit_pending (s : State) (c u : Nat) (restarted : Bool) : (s.initUnit c u restarted).pending = s.pending := by
  simp [State.initUnit]
@[simp] theorem State.tlyCommitted_pending (s old : State) : (s.tlyCommitted old).pending = s.pending := by simp [State.tlyCommitted]
@[simp] theorem State.feedUnit_pending (s : State) (c u : Nat) (bs : Bytes) : (s.feedUnit c u bs).pending = s.pending := by simp [State.feedUnit]
@[simp] theorem doTlyUData1_pending (s : State) (c u v : Nat) : (doTlyUData1 s c u v).pending = s.pending := by simp [doTlyUData1]
@[simp] theorem doTlyUData2_pending (s : State) (c u v : Nat) : (doTlyUData2 s c u v).pending = s.pending := by simp [doTlyUData2]
@[simp] theorem doTlyUData4_pending (s : State) (c u v : Nat) : (doTlyUData4 s c u v).pending = s.pending := by simp [doTlyUData4]
@[simp] theorem doTlyUInit_pending (s : State) (c u : Nat) : (doTlyUInit s c u).pending = s.pending := by simp [doTlyUInit]
@[simp] theorem State.scanReport_pending (s : State) (e : Nat) (stat irq : Fld) : (s.scanReport e stat irq).pending = s.pending := by
  simp [State.scanReport]
@[simp] theorem State.endScan_pending (s : State) (e : Nat) : (s.endScan e).pending = s.pending := by simp [State.endScan]
@[simp] theorem State.stopScan_pending (s : State) (e line : Nat) (ue : Bool) : (s.stopScan e line ue).pending = s.pending := by simp [State.stopScan]
@[simp] theorem doTlyMsStart_pending (s : State) (e profile : Nat) (again abort : Bool) :
    (doTlyMsStart s e profile again abort).pending = s.pending := by
  simp [doTlyMsStart]
@[simp] theorem doTlyMsAbort_pending (s : State) (e profile : Nat) (again : Bool) : (doTlyMsAbort s e profile again).pending = s.pending := by
  simp [doTlyMsAbort]
@[simp] theorem doScanPassEnd_pending (s : State) (e : Nat) : (doScanPassEnd s e).pending = s.pending := by
  unfold doScanPassEnd; (repeat' split) <;> simp
@[simp] theorem doScanStop_pending (s : State) (e line : Nat) (ue : Bool) : (doScanStop s e line ue).pending = s.pending := by
  unfold doScanStop; split <;> simp

/-! ### Commit groups and presets -/

@[simp] theorem State.passGroup_pending (s : State) (g : Nat) (late refused : Bool) : (s.passGroup g late refused).pending = s.pending := by
  simp [State.passGroup]
@[simp] theorem State.startActive_pending (s : State) (g : Nat) : (s.startActive g).pending = s.pending := by simp [State.startActive]
@[simp] theorem State.noteArea_pending (s : State) (g : Nat) : (s.noteArea g).pending = s.pending := by simp [State.noteArea]
@[simp] theorem State.noteCode_pending (s : State) (f : Fld) (code : Nat) : (s.noteCode f code).pending = s.pending := by simp [State.noteCode]
@[simp] theorem State.noteG1_pending (s : State) : s.noteG1.pending = s.pending := by unfold State.noteG1; (repeat' split) <;> simp
@[simp] theorem State.noteRefusal_pending (s : State) (g : Nat) : (s.noteRefusal g).pending = s.pending := by
  unfold State.noteRefusal; (repeat' split) <;> simp
@[simp] theorem State.afterCopy_pending (s old : State) (g : Nat) : (s.afterCopy old g).pending = s.pending := by simp [State.afterCopy]
@[simp] theorem State.commitGroup_pending (s : State) (g : Nat) (late : Bool) : (s.commitGroup g late).pending = s.pending := by
  simp [State.commitGroup]
@[simp] theorem State.armGroup_pending (s : State) (g : Nat) : (s.armGroup g).pending = s.pending := by simp [State.armGroup]
@[simp] theorem State.armMask_pending (s : State) (mask : Nat) : (s.armMask mask).pending = s.pending := by simp [State.armMask]
@[simp] theorem State.commitOne_pending (s : State) (g p : Nat) : (s.commitOne g p).pending = s.pending := by simp [State.commitOne]
@[simp] theorem State.commitPort_pending (s : State) (g p : Nat) : (s.commitPort g p).pending = s.pending := by simp [State.commitPort]
@[simp] theorem State.store_pending (s : State) (a : Nat) (v : Word) : (s.store a v).pending = s.pending := by unfold State.store; split <;> simp
@[simp] theorem State.storeAll_pending (s : State) (es : List (Nat × Word)) : (s.storeAll es).pending = s.pending := by simp [State.storeAll]
@[simp] theorem State.applyPreset_pending (s : State) (n : Nat) (pins : Bool) : (s.applyPreset n pins).pending = s.pending := by
  unfold State.applyPreset; split <;> simp
@[simp] theorem State.selectPreset_pending (s : State) (n : Nat) (pins : Bool) : (s.selectPreset n pins).pending = s.pending := by
  simp [State.selectPreset]
@[simp] theorem State.releaseHeld_pending (s : State) : s.releaseHeld.pending = s.pending := by unfold State.releaseHeld; split <;> simp
@[simp] theorem doArm_pending (s : State) (g : Nat) : (doArm s g).pending = s.pending := by simp [doArm]
@[simp] theorem doCommitPoint_pending (s : State) (g p : Nat) : (doCommitPoint s g p).pending = s.pending := by simp [doCommitPoint]

/-! ### The SRAM banks -/

@[simp] theorem State.resetBanks_pending (s : State) (role : Nat) (keep : List Nat) : (s.resetBanks role keep).pending = s.pending := by
  simp [State.resetBanks]
@[simp] theorem State.sramPiece_pending (s : State) (b : Nat) (a : SramAccess) : (s.sramPiece b a).1.pending = s.pending := by
  unfold State.sramPiece; split <;> simp

@[simp] theorem sramCycles_pending (b n : Nat) (stalled : Bool) (own : List SramAccess) (shr : List (Nat × SramAccess)) (r : State × Bytes × Tab Bytes) :
    (sramCycles b n stalled own shr r).1.pending = r.1.pending := by
  induction n generalizing stalled own shr r with
  | zero => rfl
  | succ n ih =>
    unfold sramCycles
    dsimp only
    split
    · rfl
    · simp [ih]
    · simp [ih]
    · split
      · simp [ih]
      · split <;> simp [ih]

@[simp] theorem State.sramError_pending (s : State) (owner : Bool) : (s.sramError owner).pending = s.pending := by simp [State.sramError]
@[simp] theorem State.refuseCycle_pending (s : State) (c : SramCycle) : (s.refuseCycle c).pending = s.pending := by simp [State.refuseCycle]
@[simp] theorem State.sramCycle_pending (s : State) (b : Nat) (c : SramCycle) : (s.sramCycle b c).pending = s.pending := by simp [State.sramCycle]
@[simp] theorem doSrbPwrMode_pending (s : State) (b mode : Nat) : (doSrbPwrMode s b mode).pending = s.pending := by simp [doSrbPwrMode]
@[simp] theorem doBankWakeDone_pending (s : State) (b : Nat) : (doBankWakeDone s b).pending = s.pending := by simp [doBankWakeDone]
@[simp] theorem doTestWindowStart_pending (s : State) : (doTestWindowStart s).pending = s.pending := by
  unfold doTestWindowStart; (repeat' split) <;> simp
@[simp] theorem State.restoreWindow_pending (s : State) : s.restoreWindow.pending = s.pending := by simp [State.restoreWindow]
@[simp] theorem doTestYield_pending (s : State) (b : Nat) (c : SramCycle) : (doTestYield s b c).pending = s.pending := by simp [doTestYield]
@[simp] theorem State.advanceTest_pending (s : State) : s.advanceTest.pending = s.pending := by
  unfold State.advanceTest; dsimp only; (repeat' split) <;> simp
@[simp] theorem State.testFailure_pending (s : State) : s.testFailure.pending = s.pending := by simp [State.testFailure]
@[simp] theorem doTestWindowEnd_pending (s : State) (failed : Bool) : (doTestWindowEnd s failed).pending = s.pending := by simp [doTestWindowEnd]

/-! ### How a start begins -/

@[simp] theorem State.cleared_pending (s : State) : s.cleared.pending = s.pending := by simp [State.cleared]
@[simp] theorem State.coldBegin_pending (s : State) (cause why : Nat) : (s.coldBegin cause why).pending = s.pending := by simp [State.coldBegin]
@[simp] theorem State.retained_pending (s : State) : s.retained.pending = s.pending := by simp [State.retained]
@[simp] theorem State.roleBuilt_pending (s : State) (keep : List Nat) : (s.roleBuilt keep).pending = s.pending := by simp [State.roleBuilt]
@[simp] theorem State.forgetRun_pending (s : State) : s.forgetRun.pending = s.pending := by unfold State.forgetRun; split <;> simp
@[simp] theorem State.warmBegin_pending (s : State) : s.warmBegin.pending = s.pending := by simp [State.warmBegin]
@[simp] theorem doPowerOn_pending (s : State) : (doPowerOn s).pending = s.pending := by simp [doPowerOn]
@[simp] theorem doPowerOnDetectorArm_pending (s : State) : (doPowerOnDetectorArm s).pending = s.pending := by simp [doPowerOnDetectorArm]
@[simp] theorem doResetAssert_pending (s : State) : (doResetAssert s).pending = s.pending := by simp [doResetAssert]
@[simp] theorem doResetRelease_pending (s : State) : (doResetRelease s).pending = s.pending := by simp [doResetRelease]
@[simp] theorem State.restart_pending (s : State) (key type : Nat) : (s.restart key type).pending = s.pending := by simp [State.restart]
@[simp] theorem doColdRestart_pending (s : State) (key : Nat) : (doColdRestart s key).pending = s.pending := by simp [doColdRestart]
@[simp] theorem doWarmRestart_pending (s : State) (key : Nat) : (doWarmRestart s key).pending = s.pending := by simp [doWarmRestart]

/-! ### Porter -/

@[simp] theorem State.porterState_pending (s : State) (n : Nat) : (s.porterState n).pending = s.pending := by simp [State.porterState]
@[simp] theorem State.porterResult_pending (s : State) (n : Nat) : (s.porterResult n).pending = s.pending := by simp [State.porterResult]
@[simp] theorem State.closeTransfer_pending (s : State) : s.closeTransfer.pending = s.pending := by simp [State.closeTransfer]
@[simp] theorem State.showTrial_pending (s : State) : s.showTrial.pending = s.pending := by simp [State.showTrial]
@[simp] theorem State.showBlocks_pending (s : State) (t : Transfer) : (s.showBlocks t).pending = s.pending := by simp [State.showBlocks]
@[simp] theorem State.beginTransfer_pending (s : State) (t : Transfer) : (s.beginTransfer t).pending = s.pending := by
  unfold State.beginTransfer; split <;> simp
@[simp] theorem State.takeBlock_pending (s : State) (transfer index bytes crc : Nat) (data : Bytes) :
    (s.takeBlock transfer index bytes crc data).pending = s.pending := by
  unfold State.takeBlock; (repeat' split) <;> simp

@[simp] theorem State.takeBlocks_pending (s : State) (n : Nat) (l : Bytes) : (s.takeBlocks n l).pending = s.pending := by
  induction n generalizing s l with
  | zero => rfl
  | succ n ih => unfold State.takeBlocks; split <;> simp [ih]

@[simp] theorem State.data_pending (s : State) (l : Bytes) : (s.data l).pending = s.pending := by simp [State.data]
@[simp] theorem State.eraseImage_pending (s : State) (off : Nat) : (s.eraseImage off).pending = s.pending := by simp [State.eraseImage]
@[simp] theorem State.writeImage_pending (s : State) (off : Nat) (img : Bytes) (errors : List (Nat × Byte)) :
    (s.writeImage off img errors).1.pending = s.pending := by
  simp [State.writeImage]
@[simp] theorem State.journalIdle_pending (s : State) (result : Nat) : (s.journalIdle result).pending = s.pending := by simp [State.journalIdle]
@[simp] theorem State.beginRestore_pending (s : State) (op : PorterOp) : (s.beginRestore op).pending = s.pending := by simp [State.beginRestore]
@[simp] theorem State.copyBack_pending (s : State) (errors : List (Nat × Byte)) : (s.copyBack errors).pending = s.pending := by simp [State.copyBack]
@[simp] theorem State.confirmImage_pending (s : State) : s.confirmImage.pending = s.pending := by
  unfold State.confirmImage; dsimp only; (repeat' split) <;> simp -implicitDefEqProofs

@[simp] theorem State.endCheck_pending (s : State) (t : Transfer) : (s.endCheck t).pending = s.pending := by
  unfold State.endCheck
  dsimp only
  split
  · simp
  · split
    · simp
    · split
      · next heq => simp [pending_of_eq_mk heq]
      · next heq => split <;> simp [pending_of_eq_mk heq]

@[simp] theorem State.beginActivation_pending (s : State) : s.beginActivation.pending = s.pending := by simp [State.beginActivation]
@[simp] theorem State.beginA2_pending (s : State) (again : Bool) : (s.beginA2 again).pending = s.pending := by simp [State.beginA2]

@[simp] theorem State.porterA2_pending (s : State) (again : Bool) (errors : List (Nat × Byte)) : (s.porterA2 again errors).pending = s.pending := by
  unfold State.porterA2
  dsimp only
  split <;> next heq => simp [pending_of_eq_mk heq]

@[simp] theorem State.porterA4_pending (s : State) (t : Transfer) (errors : List (Nat × Byte)) : (s.porterA4 t errors).pending = s.pending := by
  unfold State.porterA4
  split <;> next heq => simp [pending_of_eq_mk heq]
@[simp] theorem State.porterA5_pending (s : State) (t : Transfer) : (s.porterA5 t).pending = s.pending := by simp [State.porterA5]
@[simp] theorem State.endOp_pending (s : State) (errors : List (Nat × Byte)) : (s.endOp errors).pending = s.pending := by
  unfold State.endOp; split <;> simp
@[simp] theorem doPorterStepEnd_pending (s : State) (errors : List (Nat × Byte)) : (doPorterStepEnd s errors).pending = s.pending := by
  simp [doPorterStepEnd]
@[simp] theorem doTransferComplete_pending (s : State) : (doTransferComplete s).pending = s.pending := by unfold doTransferComplete; split <;> simp
@[simp] theorem doActivation_pending (s : State) : (doActivation s).pending = s.pending := by unfold doActivation; split <;> simp
@[simp] theorem State.activate_pending (s : State) (t : Transfer) (at_ : Nat) : (s.activate t at_).pending = s.pending := by simp [State.activate]
@[simp] theorem State.failTrial_pending (s : State) : s.failTrial.pending = s.pending := by simp [State.failTrial]
@[simp] theorem doTrialExpiry_pending (s : State) : (doTrialExpiry s).pending = s.pending := by simp [doTrialExpiry]
@[simp] theorem doChtConfirm_pending (s : State) (key : Nat) : (doChtConfirm s key).pending = s.pending := by simp [doChtConfirm]
@[simp] theorem doMgmtBlock_pending (s : State) (p : Nat) (a : Arrival) : (doMgmtBlock s p a).pending = s.pending := by simp [doMgmtBlock]

/-! ### The log -/

@[simp] theorem State.overwrite_pending (s : State) (i : Nat) : (s.overwrite i).pending = s.pending := by simp [State.overwrite]
@[simp] theorem State.logRecord_pending (s : State) (r : EventRec) : (s.logRecord r).pending = s.pending := by simp [State.logRecord]
@[simp] theorem doLogWrite_pending (s : State) : (doLogWrite s).pending = s.pending := by unfold doLogWrite; (repeat' split) <;> simp
@[simp] theorem State.logRefill_pending (s : State) : s.logRefill.pending = s.pending := by simp [State.logRefill]
@[simp] theorem State.catchUp_pending (s : State) (cur lost : Fld) (index first : Nat) : (s.catchUp cur lost index first).pending = s.pending := by
  simp [State.catchUp]
@[simp] theorem State.catchUpFw_pending (s : State) : s.catchUpFw.pending = s.pending := by simp [State.catchUpFw]
@[simp] theorem State.catchUpPort_pending (s : State) : s.catchUpPort.pending = s.pending := by simp [State.catchUpPort]
@[simp] theorem State.catchUpRemote_pending (s : State) : s.catchUpRemote.pending = s.pending := by simp [State.catchUpRemote]
@[simp] theorem doEventForward_pending (s : State) : (doEventForward s).pending = s.pending := by unfold doEventForward; dsimp only; split <;> simp
@[simp] theorem State.logRemote_pending (s : State) (r : RemoteRec) : (s.logRemote r).pending = s.pending := by simp [State.logRemote]

@[simp] theorem doEventForwardReceive_pending (s : State) (p : Nat) (a : Arrival) : (doEventForwardReceive s p a).pending = s.pending := by
  refine State.onPacket_pending s _ _ _ _ fun _ t => ⟨?_⟩
  dsimp only
  split
  · rfl
  · exact State.onForm_pending t _ _ _ _ _ fun u => ⟨by split <;> simp⟩

/-! ### Fatal errors and the dump -/

@[simp] theorem State.flagHeader_pending (s : State) (bits : Nat) : (s.flagHeader bits).pending = s.pending := by
  simp -implicitDefEqProofs [State.flagHeader]
@[simp] theorem State.beginDramDump_pending (s : State) : s.beginDramDump.pending = s.pending := by simp [State.beginDramDump]
@[simp] theorem State.endDramDump_pending (s : State) : s.endDramDump.pending = s.pending := by simp -implicitDefEqProofs [State.endDramDump]
@[simp] theorem State.beginFlashDump_pending (s : State) : s.beginFlashDump.pending = s.pending := by simp [State.beginFlashDump]
@[simp] theorem State.endFlashDump_pending (s : State) : s.endFlashDump.pending = s.pending := by simp -implicitDefEqProofs [State.endFlashDump]
@[simp] theorem State.fatalAction_pending (s : State) : s.fatalAction.pending = s.pending := by simp [State.fatalAction]
@[simp] theorem State.afterDramDump_pending (s : State) : s.afterDramDump.pending = s.pending := by simp [State.afterDramDump]
@[simp] theorem doFatalDumpStepEnd_pending (s : State) : (doFatalDumpStepEnd s).pending = s.pending := by simp [doFatalDumpStepEnd]
@[simp] theorem doDumpHoldExpiry_pending (s : State) : (doDumpHoldExpiry s).pending = s.pending := by simp [doDumpHoldExpiry]
@[simp] theorem State.flushControl_pending (s : State) : s.flushControl.pending = s.pending := by simp [State.flushControl]
@[simp] theorem State.fatalStop_pending (s : State) (cause reason : Nat) : (s.fatalStop cause reason).pending = s.pending := by simp [State.fatalStop]
@[simp] theorem State.fatalError_pending (s : State) (cause reason : Nat) : (s.fatalError cause reason).pending = s.pending := by
  simp [State.fatalError]
@[simp] theorem doFatalError_pending (s : State) (cause : Nat) : (doFatalError s cause).pending = s.pending := by simp [doFatalError]
@[simp] theorem doSysFatal_pending (s : State) (key reason : Nat) : (doSysFatal s key reason).pending = s.pending := by simp [doSysFatal]
@[simp] theorem doWatchdogExpiry_pending (s : State) : (doWatchdogExpiry s).pending = s.pending := by simp [doWatchdogExpiry]
@[simp] theorem doSkeinFlitCrcFail_pending (s : State) (lane : Bool) (nth : Nat) : (doSkeinFlitCrcFail s lane nth).pending = s.pending := by
  simp [doSkeinFlitCrcFail]
@[simp] theorem doSramParityError_pending (s : State) (b row : Nat) (cores : Bool) : (doSramParityError s b row cores).pending = s.pending := by
  simp [doSramParityError]

/-! ### Register accesses -/

@[simp] theorem State.plainWrite_pending (s : State) (d : RegDesc) (a : Nat) (v : Word) : (s.plainWrite d a v).pending = s.pending := by
  simp [State.plainWrite]
@[simp] theorem State.orderLane_pending (s : State) (d : RegDesc) (i a : Nat) (v : Word) : (s.orderLane d i a v).pending = s.pending := by
  simp [State.orderLane]
@[simp] theorem State.order_pending (s : State) (d : RegDesc) (i j a : Nat) (v : Word) : (s.order d i j a v).pending = s.pending := by
  simp [State.order]
@[simp] theorem State.writeWord_pending (s : State) (a : Nat) (v : Word) : (s.writeWord a v).1.pending = s.pending := by
  unfold State.writeWord; (repeat' split) <;> simp
@[simp] theorem State.writeAll_pending (s : State) (es : List (Nat × Word)) : (s.writeAll es).pending = s.pending := by simp [State.writeAll]
@[simp] theorem doRegisterWrite_pending (s : State) (a size : Nat) (v : Word) : (doRegisterWrite s a size v).pending = s.pending := by
  simp [doRegisterWrite]
@[simp] theorem State.clearRc_pending (s : State) (a : Nat) : (s.clearRc a).pending = s.pending := by unfold State.clearRc; split <;> simp
@[simp] theorem State.latchFw_pending (s : State) (a : Nat) : (s.latchFw a).pending = s.pending := by unfold State.latchFw; split <;> simp
@[simp] theorem doRegisterRead_pending (s : State) (a size : Nat) : (doRegisterRead s a size).pending = s.pending := by simp [doRegisterRead]

/-! ### Commands of the Counter port -/

@[simp] theorem State.setCmd_pending (s : State) (cmd result : Nat) : (s.setCmd cmd result).pending = s.pending := by simp [State.setCmd]
@[simp] theorem State.gate_pending (s : State) (cmd : Nat) (act : State → State) (h : KeepsQueue act) :
    (s.gate cmd act).pending = s.pending := by simp [State.gate, (h _).queue]
@[simp] theorem doSelect_pending (s : State) (n : Nat) : (doSelect s n).pending = s.pending := by simp [doSelect]
@[simp] theorem State.writeEntries_pending (s : State) (es : List (Nat × Word)) (mask : Nat) (allowed : Nat → Bool) :
    (s.writeEntries es mask allowed).pending = s.pending := by
  unfold State.writeEntries; split <;> simp
@[simp] theorem doLayout_pending (s : State) (arm : Bool) (es : List (Nat × Word)) : (doLayout s arm es).pending = s.pending := by simp [doLayout]
@[simp] theorem doConfig_pending (s : State) (arm : Nat) (es : List (Nat × Word)) : (doConfig s arm es).pending = s.pending := by simp [doConfig]
@[simp] theorem doDrill_pending (s : State) (out back : Nat) : (doDrill s out back).pending = s.pending := by simp [doDrill]
@[simp] theorem doAssay_pending (s : State) (refUv refTemp sweep : Nat) (tsEn abort : Bool) :
    (doAssay s refUv refTemp sweep tsEn abort).pending = s.pending := by
  simp [doAssay]
@[simp] theorem doRestart_pending (s : State) (type : Nat) : (doRestart s type).pending = s.pending := by simp [doRestart]
@[simp] theorem doBegin_pending (s : State) (x : Transfer) : (doBegin s x).pending = s.pending := by simp [doBegin]
@[simp] theorem doData_pending (s : State) (blocks : Bytes) : (doData s blocks).pending = s.pending := by simp [doData]
@[simp] theorem doActivate_pending (s : State) (transfer at_ : Nat) : (doActivate s transfer at_).pending = s.pending := by
  refine State.gate_pending s _ _ fun t => ⟨?_⟩
  split <;> simp
@[simp] theorem doAbort_pending (s : State) (transfer : Nat) : (doAbort s transfer).pending = s.pending := by
  refine State.gate_pending s _ _ fun t => ⟨?_⟩
  split <;> simp
@[simp] theorem doConfirm_pending (s : State) (transfer : Nat) : (doConfirm s transfer).pending = s.pending := by simp [doConfirm]
@[simp] theorem State.sendMgmt_pending (s : State) (addr : Nat) (body : Bytes) : (s.sendMgmt addr body).pending = s.pending := by
  simp [State.sendMgmt]
@[simp] theorem doRelay_pending (s : State) (addr : Nat) (inner : Bytes) : (doRelay s addr inner).pending = s.pending := by simp [doRelay]
@[simp] theorem doRelayData_pending (s : State) (addr : Nat) (blocks : Bytes) : (doRelayData s addr blocks).pending = s.pending := by
  simp [doRelayData]
@[simp] theorem State.runCommand_pending (s : State) (cmd : Nat) (b : Bytes) : (s.runCommand cmd b).pending = s.pending := by
  unfold State.runCommand; split <;> simp

@[simp] theorem State.checkEnvelope_pending (s : State) (e : Bytes) : (s.checkEnvelope e).1.pending = s.pending := by
  unfold State.checkEnvelope
  split
  · dsimp only
    split <;> next heq => simp [pending_of_eq_mk heq]
  · rfl

@[simp] theorem State.runEnvelope_pending (s : State) (e : Bytes) : (s.runEnvelope e).pending = s.pending := by simp [State.runEnvelope]
@[simp] theorem doEnvelopeChecked_pending (s : State) : (doEnvelopeChecked s).pending = s.pending := by unfold doEnvelopeChecked; split <;> simp
@[simp] theorem doMgmtEnvelope_pending (s : State) (p : Nat) (a : Arrival) : (doMgmtEnvelope s p a).pending = s.pending := by simp [doMgmtEnvelope]
@[simp] theorem doPresetSample_pending (s : State) (v : Nat) : (doPresetSample s v).pending = s.pending := by
  unfold doPresetSample; dsimp only; (repeat' split) <;> simp

/-! ### Transactions of the Counter port -/

@[simp] theorem State.afterDummy_pending (s : State) (bs : Bytes) : (s.afterDummy bs).pending = s.pending := by simp [State.afterDummy]
@[simp] theorem State.latchPort_pending (s : State) (a : Nat) : (s.latchPort a).pending = s.pending := by unfold State.latchPort; split <;> simp

@[simp] theorem State.portRead_pending (s : State) (a n : Nat) : (s.portRead a n).1.pending = s.pending := by
  induction n generalizing s a with
  | zero => rfl
  | succ n ih => simp [State.portRead, ih]

@[simp] theorem doEnvelope_pending (s : State) (bs : Bytes) : (doEnvelope s bs).pending = s.pending := by simp [doEnvelope]
@[simp] theorem doRead_pending (s : State) (a n : Nat) (late : List Nat) : (doRead s a n late).pending = s.pending := by simp [doRead]
@[simp] theorem doStatus_pending (s : State) : (doStatus s).pending = s.pending := by simp [doStatus]
@[simp] theorem doEvent_pending (s : State) (remote : Bool) (n : Nat) : (doEvent s remote n).pending = s.pending := by
  simp -implicitDefEqProofs [doEvent]
@[simp] theorem doDump_pending (s : State) (flash : Bool) (o n : Nat) : (doDump s flash o n).pending = s.pending := by simp [doDump]
@[simp] theorem State.setRemote_pending (s : State) (busy result count addr : Nat) : (s.setRemote busy result count addr).pending = s.pending := by
  simp [State.setRemote]
@[simp] theorem doRemote_pending (s : State) (addr reg count : Nat) : (doRemote s addr reg count).pending = s.pending := by simp [doRemote]
@[simp] theorem State.takeResponse_pending (s : State) (p : Nat) (b : Bytes) : (s.takeResponse p b).pending = s.pending := by
  unfold State.takeResponse; split <;> simp
@[simp] theorem doRemoteResponse_pending (s : State) (p : Nat) (a : Arrival) : (doRemoteResponse s p a).pending = s.pending := by
  simp [doRemoteResponse]
@[simp] theorem doRemoteTimeout_pending (s : State) : (doRemoteTimeout s).pending = s.pending := by unfold doRemoteTimeout; split <;> simp
@[simp] theorem State.answerRead_pending (s : State) (p : Nat) (b : Bytes) : (s.answerRead p b).pending = s.pending := by simp [State.answerRead]
@[simp] theorem doRegisterReadRequest_pending (s : State) (p : Nat) (a : Arrival) : (doRegisterReadRequest s p a).pending = s.pending := by
  simp [doRegisterReadRequest]

/-! ### The steps of a start -/

@[simp] theorem State.endStart_pending (s : State) : s.endStart.pending = s.pending := by simp [State.endStart]
@[simp] theorem State.setSession_pending (s : State) (f : Nat → Nat) : (s.setSession f).pending = s.pending := by simp [State.setSession]
@[simp] theorem State.drawSession_pending (s : State) : s.drawSession.pending = s.pending := by simp [State.drawSession]
@[simp] theorem State.endC2_pending (s : State) : s.endC2.pending = s.pending := by simp [State.endC2]
@[simp] theorem State.flashReset_pending (s : State) : s.flashReset.pending = s.pending := by simp [State.flashReset]
@[simp] theorem State.enterOctal_pending (s : State) (slow : Bool) : (s.enterOctal slow).pending = s.pending := by simp [State.enterOctal]
@[simp] theorem State.noImage_pending (s : State) : s.noImage.pending = s.pending := by simp [State.noImage]
@[simp] theorem State.noFlash_pending (s : State) (e : Nat) : (s.noFlash e).pending = s.pending := by simp [State.noFlash]
@[simp] theorem State.endC3_pending (s : State) (x : StartIn) : (s.endC3 x).pending = s.pending := by simp [State.endC3]
@[simp] theorem State.takeImage_pending (s : State) (img : Bytes) (slot : Nat) : (s.takeImage img slot).pending = s.pending := by
  simp [State.takeImage]
@[simp] theorem State.noteFault_pending (s : State) (f : Nat × Nat) : (s.noteFault f).pending = s.pending := by simp [State.noteFault]

@[simp] theorem State.loadImage_pending (s : State) : s.loadImage.pending = s.pending := by
  unfold State.loadImage
  dsimp only
  split
  · next heq => simp [pending_of_eq_mk heq]
  · next h1 => split <;> next h2 => simp [pending_of_eq_mk h2, pending_of_eq_mk h1]

@[simp] theorem State.firstClaim_pending (s : State) : s.firstClaim.pending = s.pending := by simp [State.firstClaim]
@[simp] theorem State.showJournal_pending (s : State) : s.showJournal.pending = s.pending := by simp [State.showJournal]
@[simp] theorem State.resumeJournal_pending (s : State) (warm : Bool) : (s.resumeJournal warm).pending = s.pending := by
  unfold State.resumeJournal; dsimp only; split <;> simp
@[simp] theorem State.restoreNow_pending (s : State) : s.restoreNow.pending = s.pending := by simp [State.restoreNow]
@[simp] theorem State.endC4_pending (s : State) (x : StartIn) : (s.endC4 x).pending = s.pending := by simp [State.endC4]
@[simp] theorem State.endW3_pending (s : State) (x : StartIn) : (s.endW3 x).pending = s.pending := by simp [State.endW3]

@[simp] theorem State.endW4_pending (s : State) (x : StartIn) : (s.endW4 x).pending = s.pending := by
  unfold State.endW4
  dsimp only
  split
  · simp
  · split <;> next heq => simp [pending_of_eq_mk heq]

@[simp] theorem State.showDump_pending (s : State) : s.showDump.pending = s.pending := by simp [State.showDump]
@[simp] theorem State.freeRunning_pending (s : State) : s.freeRunning.pending = s.pending := by simp [State.freeRunning]
@[simp] theorem State.startFirmware_pending (s : State) : s.startFirmware.pending = s.pending := by simp [State.startFirmware]
@[simp] theorem State.dropRole_pending (s : State) : s.dropRole.pending = s.pending := by simp [State.dropRole]
@[simp] theorem State.endC6_pending (s : State) (x : StartIn) : (s.endC6 x).pending = s.pending := by unfold State.endC6; dsimp only; split <;> simp
@[simp] theorem State.loadLedger_pending (s : State) (img : Bytes) : (s.loadLedger img).pending = s.pending := by simp [State.loadLedger]
@[simp] theorem State.readLedgers_pending (s : State) : s.readLedgers.pending = s.pending := by simp [State.readLedgers]
@[simp] theorem State.checkLedger_pending (s : State) : s.checkLedger.pending = s.pending := by unfold State.checkLedger; split <;> simp
@[simp] theorem State.endC7_pending (s : State) (x : StartIn) : (s.endC7 x).pending = s.pending := by simp [State.endC7]

@[simp] theorem State.encodeBales_pending (s : State) (x : StillImage) (l : List Nat) (sector : Nat) :
    (s.encodeBales x l sector).pending = s.pending := by
  induction l generalizing s sector with
  | nil => rfl
  | cons i l ih => unfold State.encodeBales; rw [ih, State.storeBale_pending]

@[simp] theorem State.encodeStill_pending (s : State) (x : StillImage) (at_ : Nat) : (s.encodeStill x at_).1.pending = s.pending := by
  simp [State.encodeStill]

/-- Encoding the surfaces one after another, each where the one before ended, keeps the queue. -/
theorem foldl_encodeStill_pending (l : List StillImage) (x : State × Nat) :
    (l.foldl (fun x r => x.1.encodeStill r x.2) x).1.pending = x.1.pending := by
  induction l generalizing x with
  | nil => rfl
  | cons r l ih => simp [ih]

@[simp] theorem State.encodeStills_pending (s : State) : s.encodeStills.pending = s.pending :=
  foldl_encodeStill_pending _ _

@[simp] theorem State.armPorts_pending (s : State) : s.armPorts.pending = s.pending := by simp [State.armPorts]
@[simp] theorem State.endC8_pending (s : State) : s.endC8.pending = s.pending := by simp [State.endC8]
@[simp] theorem State.endW6_pending (s : State) (x : StartIn) : (s.endW6 x).pending = s.pending := by simp [State.endW6]
@[simp] theorem State.endW7_pending (s : State) (x : StartIn) : (s.endW7 x).pending = s.pending := by simp [State.endW7]
@[simp] theorem State.beginC10_pending (s : State) : s.beginC10.pending = s.pending := by simp [State.beginC10]
@[simp] theorem State.endLock_pending (s : State) : s.endLock.pending = s.pending := by simp [State.endLock]
@[simp] theorem State.startPreset_pending (s : State) : s.startPreset.pending = s.pending := by simp [State.startPreset]
@[simp] theorem State.armRest_pending (s : State) : s.armRest.pending = s.pending := by simp [State.armRest]
@[simp] theorem State.endC11_pending (s : State) (x : StartIn) : (s.endC11 x).pending = s.pending := by simp [State.endC11]
@[simp] theorem State.endW9_pending (s : State) (x : StartIn) : (s.endW9 x).pending = s.pending := by simp [State.endW9]
@[simp] theorem State.endLast_pending (s : State) : s.endLast.pending = s.pending := by simp [State.endLast]
@[simp] theorem State.endCold_pending (s : State) (n : Nat) (x : StartIn) : (s.endCold n x).pending = s.pending := by
  unfold State.endCold; split <;> simp
@[simp] theorem State.endWarm_pending (s : State) (n : Nat) (x : StartIn) : (s.endWarm n x).pending = s.pending := by
  unfold State.endWarm; split <;> simp
@[simp] theorem doStartStepEnd_pending (s : State) (x : StartIn) : (doStartStepEnd s x).pending = s.pending := by
  unfold doStartStepEnd; (repeat' split) <;> simp
@[simp] theorem State.commitArmed_pending (s : State) : s.commitArmed.pending = s.pending := by simp [State.commitArmed]
@[simp] theorem State.showFirst_pending (s : State) : s.showFirst.pending = s.pending := by simp [State.showFirst]

@[simp] theorem State.runSteps_pending (s : State) (warm : Bool) (x : StartIn) (n : Nat) : (s.runSteps warm x n).pending = s.pending := by
  induction n generalizing s with
  | zero => rfl
  | succ n ih =>
    unfold State.runSteps
    split
    · split
      · rfl
      · simp [ih]
    · rfl

@[simp] theorem doColdStart_pending (s : State) (x : StartIn) : (doColdStart s x).pending = s.pending := by simp [doColdStart]
@[simp] theorem doWarmStart_pending (s : State) (x : StartIn) : (doWarmStart s x).pending = s.pending := by simp [doWarmStart]

/-! ### Enrolment -/

@[simp] theorem doTrngFail_pending (s : State) : (doTrngFail s).pending = s.pending := by simp [doTrngFail]
@[simp] theorem State.enrolFailed_pending (s : State) (reason : Nat) : (s.enrolFailed reason).pending = s.pending := by simp [State.enrolFailed]
@[simp] theorem State.offer_pending (s : State) (p : Nat) : (s.offer p).pending = s.pending := by simp [State.offer]
@[simp] theorem doEnrolOffer_pending (s : State) (p : Nat) : (doEnrolOffer s p).pending = s.pending := by simp [doEnrolOffer]
@[simp] theorem State.relay_pending (s : State) (p : Nat) (body : Bytes) : (s.relay p body).pending = s.pending := by simp [State.relay]
@[simp] theorem State.relayOffer_pending (s : State) (p : Nat) (body : Bytes) : (s.relayOffer p body).pending = s.pending := by
  simp [State.relayOffer]
@[simp] theorem State.answer_pending (s : State) (p : Nat) (body : Bytes) : (s.answer p body).pending = s.pending := by simp [State.answer]

@[simp] theorem doEnrolOfferReceive_pending (s : State) (p : Nat) (a : Arrival) : (doEnrolOfferReceive s p a).pending = s.pending := by
  refine State.onPacket_pending s _ _ _ _ fun _ t => ⟨?_⟩
  dsimp only
  split
  · rfl
  · split
    · simp
    · split
      · rfl
      · split <;> simp

@[simp] theorem State.takeAnswer_pending (s : State) (p : Nat) (r : OfferRec) (body : Bytes) : (s.takeAnswer p r body).pending = s.pending := by
  unfold State.takeAnswer; dsimp only; (repeat' split) <;> simp

@[simp] theorem doEnrolAnswerReceive_pending (s : State) (p : Nat) (a : Arrival) : (doEnrolAnswerReceive s p a).pending = s.pending := by
  refine State.onPacket_pending s _ _ _ _ fun _ t => ⟨?_⟩
  dsimp only
  split
  · rfl
  · split <;> simp

@[simp] theorem State.resetFloors_pending (s : State) (o : Nat) : (s.resetFloors o).pending = s.pending := by simp [State.resetFloors]
@[simp] theorem State.restAfter_pending (s : State) (p : Nat) (woke first : Bool) : (s.restAfter p woke first).pending = s.pending := by
  simp [State.restAfter]
@[simp] theorem State.install_pending (s : State) (wall : BitVec 256) (wid place form : Nat) :
    (s.install wall wid place form).pending = s.pending := by
  simp [State.install]
@[simp] theorem State.takeGrant_pending (s : State) (p : Nat) (r : AnswerRec) (body : Bytes) : (s.takeGrant p r body).pending = s.pending := by
  unfold State.takeGrant; dsimp only; split <;> simp

@[simp] theorem doEnrolGrantReceive_pending (s : State) (p : Nat) (a : Arrival) : (doEnrolGrantReceive s p a).pending = s.pending := by
  refine State.onPacket_pending s _ _ _ _ fun _ t => ⟨?_⟩
  dsimp only
  split
  · rfl
  · split
    · simp
    · split <;> simp

@[simp] theorem State.enrolDone_pending (s : State) (p pos : Nat) : (s.enrolDone p pos).pending = s.pending := by simp [State.enrolDone]

@[simp] theorem doEnrolDoneReceive_pending (s : State) (p : Nat) (a : Arrival) : (doEnrolDoneReceive s p a).pending = s.pending := by
  refine State.onPacket_pending s _ _ _ _ fun _ t => ⟨?_⟩
  dsimp only
  split
  · rfl
  · split
    · split <;> simp
    · simp

@[simp] theorem doEnrolTimeout_pending (s : State) (p : Nat) : (doEnrolTimeout s p).pending = s.pending := by
  unfold doEnrolTimeout; dsimp only; (repeat' split) <;> simp

end Sys2Proof.Machine
end

section
/-! SUPPORT. What a command does as a whole: it completes with the queue as it was, unless it is one of the three that R4, R73 and R508 leave open. -/

namespace Sys2Proof.Machine

/-- A command that is none of the five that always act is one update of a device that has power and is out of reset, and that update keeps the
queue. -/
theorem exec_of_not_actsAlways (c : Instr) (hc : actsAlways c = false) : ∃ f, KeepsQueue f ∧ ∀ s, exec c s = .next (s.whenAlive f) := by
  cases c
  case powerOn | powerOnDetectorArm | resetAssert | resetRelease | boundaryScanInstruction => cases hc
  all_goals exact ⟨_, fun t => ⟨by simp⟩, fun _ => rfl⟩

/-- A device without power or in reset stays as it is under such a command. -/
theorem exec_of_not_alive (c : Instr) (s : State) (hs : s.alive = false) (hc : actsAlways c = false) : exec c s = .next s := by
  obtain ⟨f, _, hexec⟩ := exec_of_not_actsAlways c hc
  rw [hexec, State.whenAlive, hs]
  rfl

/-- What holds of the state that a command's meaning answers holds after the command, in a device that has power and is out of reset. -/
theorem works_of_exec {c : Instr} {s : State} {f : State → State} {P : State → Prop} (hc : exec c s = .next (s.whenAlive f)) (h : P (f s)) :
    Works c s P :=
  fun halive => ⟨f s, by rw [hc, State.whenAlive, if_pos halive], h⟩

/-- A command whose effect the spec defines completes, with the queue as it was. -/
theorem exec_completes (c : Instr) (s : State) (h : specDefined s c = true) : ∃ t, exec c s = .next t ∧ t.pending = s.pending := by
  by_cases hc : actsAlways c = false
  · obtain ⟨f, hf, hexec⟩ := exec_of_not_actsAlways c hc
    exact ⟨_, hexec s, State.whenAlive_pending s f hf⟩
  · cases c
    case powerOn ok => exact ⟨_, if_pos h, doPowerOn_pending s⟩
    case powerOnDetectorArm => exact ⟨_, rfl, doPowerOnDetectorArm_pending s⟩
    case resetAssert => exact ⟨_, rfl, doResetAssert_pending s⟩
    case resetRelease ok => exact ⟨_, if_pos h, doResetRelease_pending s⟩
    case boundaryScanInstruction code => exact ⟨_, if_pos h, rfl⟩
    all_goals exact absurd rfl hc

/-- A command whose effect the spec leaves open never completes (R4, R73, R508). -/
theorem exec_ne_next (c : Instr) (s t : State) (h : specDefined s c = false) : exec c s ≠ .next t := by
  cases c
  case powerOn ok => cases h; exact nofun
  case resetRelease ok => cases h; exact nofun
  case boundaryScanInstruction code =>
    have hstop : exec (.boundaryScanInstruction code) s = .refused .undocumentedScanCode := if_neg (by simpa [specDefined] using h)
    rw [hstop]
    exact nofun
  all_goals cases h

/-- A step that runs the command at the front of the queue and answers a next state leaves the rest of the queue. -/
theorem step_pending (c : Instr) (rest : List Instr) (s t : State) (hs : s.pending = c :: rest) (ht : step s = .next t) : t.pending = rest := by
  have hexec : exec c { s with pending := rest } = .next t := by simpa [step, hs] using ht
  cases hd : specDefined { s with pending := rest } c with
  | false => exact absurd hexec (exec_ne_next c _ t hd)
  | true =>
    obtain ⟨u, hu, hqueue⟩ := exec_completes c _ hd
    obtain rfl : t = u := Host.Outcome.next.inj (hexec.symm.trans hu)
    exact hqueue

/-- Settles O7: every command but the five that always act is an update under `whenAlive` that keeps the queue, and those five are taken one by one. -/
theorem commandsLeaveTheQueue : Obligations.CommandsLeaveTheQueue := ⟨exec_completes, exec_ne_next, step_pending⟩

end Sys2Proof.Machine
end

section
/-! SUPPORT. The register map and the accesses of firmware (R10 to R12, R16, R17). -/

namespace Sys2Proof.Machine

/-! ### The map -/

/-- Where the strides of a register's repetition are whole words, so is the offset of each repetition. -/
theorem instanceOf_aligned (dims : List (Nat × Nat)) (off : Nat) (ix : List Nat) (hd : ∀ x ∈ dims, 4 ∣ x.2) (h : instanceOf dims off = some ix) :
    4 ∣ off := by
  induction dims generalizing off ix with
  | nil =>
    simp only [instanceOf, Option.ite_none_right_eq_some] at h
    exact h.1 ▸ dvd_zero 4
  | cons x rest ih =>
    obtain ⟨hx, hrest⟩ := List.forall_mem_cons.mp hd
    simp only [instanceOf, Option.ite_none_right_eq_some, Option.map_eq_some_iff] at h
    obtain ⟨_, js, hjs, _⟩ := h
    exact (Nat.dvd_mod_iff hx).mp (ih _ js hrest hjs)

/-- Every row of the register map has a word-aligned base and strides of whole words. -/
theorem RegTable.all_aligned : ∀ d ∈ RegTable.all, 4 ∣ d.base ∧ ∀ x ∈ d.dims, 4 ∣ x.2 := by decide +kernel

/-- Every register stands at a word-aligned address (R10). -/
theorem findReg_aligned (a : Nat) (d : RegDesc) (ix : List Nat) (h : findReg a = some (d, ix)) : a % 4 = 0 := by
  obtain ⟨e, he, hinst⟩ := List.exists_of_findSome?_eq_some h
  obtain ⟨hbase, hdims⟩ := RegTable.all_aligned e he
  simp only [RegDesc.inst, Option.map_eq_some_iff, Option.ite_none_right_eq_some] at hinst
  obtain ⟨js, ⟨hle, hjs⟩, _⟩ := hinst
  exact Nat.mod_eq_zero_of_dvd ((Nat.dvd_sub_iff_left hle hbase).mp (instanceOf_aligned _ _ _ hdims hjs))

/-! ### The fields of a word -/

/-- A bit of the mask of the fields that pass a test is set where one of these fields lies over it. -/
theorem maskWhere_getLsbD (d : RegDesc) (p : FieldDesc → Bool) (i : Nat) :
    (maskWhere d p).getLsbD i = (decide (i < 32) && d.fields.any fun f => decide (f.lo ≤ i ∧ i < f.lo + f.width) && p f) := by
  have hfold (l : List FieldDesc) (m : Word) :
      (l.foldl (fun m f => if p f then m ||| fieldMask f.lo f.width else m) m).getLsbD i =
        (m.getLsbD i || (decide (i < 32) && l.any fun f => decide (f.lo ≤ i ∧ i < f.lo + f.width) && p f)) := by
    induction l generalizing m with
    | nil => simp
    | cons f l ih =>
      rw [List.foldl_cons, ih, List.any_cons]
      cases p f <;> simp [fieldMask_getLsbD, Bool.and_or_distrib_left, Bool.or_assoc]
  rw [maskWhere, hfold]
  simp

/-- After a firmware read the RC bits of a word are 0 and the others stay (R11). -/
theorem RegDesc.afterRead_getLsbD (d : RegDesc) (v : Word) (i : Nat) (hi : i < 32) :
    (d.afterRead v).getLsbD i =
      (!(d.fields.any fun f => decide (f.lo ≤ i ∧ i < f.lo + f.width) && f.access == .rc) && v.getLsbD i) := by
  rw [RegDesc.afterRead, BitVec.getLsbD_and, BitVec.getLsbD_not, maskWhere_getLsbD]
  simp [hi, Bool.and_comm]

/-! ### What a read leaves behind -/

/-- Where no register stands, and in a powered-down region, a read leaves the registers. -/
theorem State.clearRc_of_dark (s : State) (a : Nat) (h : findReg a = none ∨ s.poweredDown a = true) : s.clearRc a = s := by
  unfold State.clearRc
  split
  · next d ix hreg => simp [h.resolve_left (by simp [hreg])]
  · rfl

/-- A read changes the register's own word alone, and that as its access kinds have it. -/
theorem State.clearRc_of_findReg (s : State) (a : Nat) (d : RegDesc) (ix : List Nat) (hreg : findReg a = some (d, ix))
    (hp : s.poweredDown a = false) :
    ∃ r, s.clearRc a = { s with regs := r } ∧ (s.clearRc a).wordAt a = d.afterRead (s.wordAt a) ∧
      ∀ x, x ≠ a → (s.clearRc a).wordAt x = s.wordAt x := by
  by_cases hm : maskWhere d (fun f => f.access == .rc) = 0
  · have hsame : s.clearRc a = s := by simp [State.clearRc, hreg, hm]
    have hword : d.afterRead (s.wordAt a) = s.wordAt a := by rw [RegDesc.afterRead, hm]; exact BitVec.and_allOnes
    rw [hsame]
    exact ⟨s.regs, rfl, hword.symm, fun _ _ => rfl⟩
  · have hput : s.clearRc a = { s with regs := Tab.put s.regs a (d.afterRead (s.wordAt a)) } := by
      rw [State.clearRc, hreg]
      exact if_neg (by simpa [hp] using hm)
    rw [hput]
    exact ⟨_, rfl, by simp [State.wordAt], fun x hx => by simp [State.wordAt, Tab.find_put_ne _ _ hx.symm]⟩

/-- Latching a high word changes the latch alone. -/
theorem State.latchFw_eq (s : State) (a : Nat) : ∃ l, s.latchFw a = { s with ctr := { s.ctr with latchFw := l } } := by
  unfold State.latchFw
  split
  · exact ⟨_, rfl⟩
  · exact ⟨s.ctr.latchFw, rfl⟩

/-! ### Accesses of firmware -/

/-- A size other than a word's, or an address that is no word's, makes no whole aligned word. -/
theorem wholeWord_eq_false {a size : Nat} (h : a % 4 ≠ 0 ∨ size ≠ 4) : wholeWord a size = false := by
  rcases h with h | h <;> simp [wholeWord, h]

/-- Where no register stands, and in a powered-down region, a read answers 0 (R12, R16, R17). -/
theorem State.readWord_of_dark (s : State) (latch : Tab Nat) (a : Nat) (h : findReg a = none ∨ s.poweredDown a = true) :
    s.readWord latch a = 0 := by
  unfold State.readWord
  split
  · rfl
  · next d ix hreg => exact if_pos (h.resolve_left (by simp [hreg]))

/-- Elsewhere a read answers what the register shows, with its WO bits 0 (R11). -/
theorem State.readWord_of_findReg (s : State) (latch : Tab Nat) (a : Nat) (d : RegDesc) (ix : List Nat) (hreg : findReg a = some (d, ix))
    (hp : s.poweredDown a = false) : s.readWord latch a = d.visible (s.viewWord latch d ix a) := by
  simp [State.readWord, hreg, hp]

/-- A whole-word read latches, clears and answers; only the firmware cursor of the log moves before (R481). -/
theorem doRegisterRead_of_ne (s : State) (a : Nat) (ha : a % 4 = 0) (h1 : a ≠ RegAddr.EVT_RD_FW) (h2 : a ≠ RegAddr.EVT_LOST_FW) :
    doRegisterRead s a 4 = ((s.latchFw a).clearRc a).busAnswer (s.readWord s.ctr.latchFw a) false := by
  simp [doRegisterRead, wholeWord, ha, h1, h2, State.onlyIf]

/-- Settles O8: the rows of the map are word-aligned, and both accesses check for a whole aligned word before anything else. -/
theorem registerAccessWholeWord : Obligations.RegisterAccessWholeWord := by
  refine ⟨findReg_aligned, fun a size v s h => ?_⟩
  have hw := wholeWord_eq_false h
  have hwrite : doRegisterWrite s a.toNat size.toNat v = s.busAnswer 0 true := by simp [doRegisterWrite, hw]
  have hread : doRegisterRead s a.toNat size.toNat = s.busAnswer 0 true := by simp [doRegisterRead, hw]
  exact ⟨works_of_exec rfl (hwrite ▸ ⟨rfl, rfl⟩), works_of_exec rfl (hread ▸ ⟨rfl, rfl, rfl⟩)⟩

/-- Settles O10: a read latches first, which changes the latch alone, and then clears the RC bits of the register's own word. -/
theorem registerReadAnswersAndClears : Obligations.RegisterReadAnswersAndClears := by
  refine ⟨fun a s ha hdark h1 h2 => works_of_exec rfl ?_, fun a s d ix hreg hp h1 h2 => works_of_exec rfl ?_⟩
  · obtain ⟨l, hlatch⟩ := s.latchFw_eq a.toNat
    have hclear : (s.latchFw a.toNat).clearRc a.toNat = s.latchFw a.toNat := State.clearRc_of_dark _ _ (by rw [hlatch]; exact hdark)
    rw [show (4 : BitVec 4).toNat = 4 from rfl, doRegisterRead_of_ne s _ ha h1 h2, s.readWord_of_dark _ _ hdark, hclear, hlatch]
    exact ⟨rfl, rfl, rfl⟩
  · obtain ⟨l, hlatch⟩ := s.latchFw_eq a.toNat
    obtain ⟨r, hregs, hself, hother⟩ := State.clearRc_of_findReg { s with ctr := { s.ctr with latchFw := l } } _ d ix hreg hp
    rw [show (4 : BitVec 4).toNat = 4 from rfl, doRegisterRead_of_ne s _ (findReg_aligned _ _ _ hreg) h1 h2,
      s.readWord_of_findReg _ _ d ix hreg hp, hlatch]
    refine ⟨rfl, rfl, by rw [hregs]; rfl, hother, fun i hi => ?_⟩
    exact (congrArg (·.getLsbD i) hself).trans (d.afterRead_getLsbD _ i hi)

end Sys2Proof.Machine
end

section
/-! SUPPORT. The state after reset, power, and the edges of RESET_N (R13, R66, R73, R74, R494). -/

namespace Sys2Proof.Machine

/-- At reset every word but the power words of banks B0 and B1 reads its reset word (R13, R382). -/
theorem State.reset_wordAt (a : Nat) (h0 : a ≠ RegAddr.SRB_PWR 0) (h1 : a ≠ RegAddr.SRB_PWR 1) : State.reset.wordAt a = resetWordAt a := by
  have hregs : Tab.find State.reset.regs a = none := by
    change Tab.find [(RegAddr.SRB_PWR 0, 0x22), (RegAddr.SRB_PWR 1, 0x22)] a = none
    simp [Tab.find, Ne.symm h0, Ne.symm h1]
  simp [State.wordAt, hregs]

/-- Settles O3: the state after reset lists two words, no active copy and no byte of any memory. -/
theorem resetStateIsAtC1 : Obligations.ResetStateIsAtC1 :=
  ⟨rfl, rfl, rfl, rfl, State.reset_wordAt, fun _ => rfl, by decide, by decide, by decide, fun _ => rfl, fun _ _ => rfl, fun _ => rfl⟩

/-- A cold start stands at C1, with its cause, in a device whose memories but flash and OTP are empty. -/
theorem State.coldBegin_spec (s : State) (cause why : Nat) (hc : cause < 8) :
    (s.coldBegin cause why).sys.step = some (false, 1) ∧ (s.coldBegin cause why).rd Reg.SYS_START_CAUSE = cause ∧
    (s.coldBegin cause why).flash = s.flash ∧ (s.coldBegin cause why).trs.otp = s.trs.otp ∧ (s.coldBegin cause why).dram = [] ∧
    (s.coldBegin cause why).sram = [] := by
  refine ⟨rfl, ?_, rfl, rfl, rfl, rfl⟩
  calc (s.coldBegin cause why).rd Reg.SYS_START_CAUSE
    _ = _ := State.rd_wr_other _ Reg.SYS_START_COLD_WHY _ why rfl rfl (by decide)
    _ = cause % 8 := State.rd_wr_self _ Reg.SYS_START_CAUSE cause (by decide)
    _ = cause := Nat.mod_eq_of_lt hc

/-- An armed detector that sees VIN rise while RESET_N is high begins a cold start (R66, R494). -/
theorem exec_powerOn_of_armed (s : State) (hdet : s.sys.detector = true) (hrst : s.sys.inReset = false) :
    exec (.powerOn true) s = .next (({ s with sys := { s.sys with powered := true, detector := false } } : State).coldBegin 0 0) := by
  change Host.Outcome.next (doPowerOn s) = _
  simp [doPowerOn, hdet, hrst]

/-- An unarmed detector sees nothing (R494). -/
theorem exec_powerOn_of_unarmed (s : State) (hdet : s.sys.detector = false) : exec (.powerOn true) s = .next s := by
  change Host.Outcome.next (doPowerOn s) = _
  simp [doPowerOn, hdet]

/-- The rise of RESET_N in a powered device begins a cold start, with CAUSE 1 after an earlier start (R74). -/
theorem exec_resetRelease_of_powered (s : State) (hrst : s.sys.inReset = true) (hpow : s.sys.powered = true) :
    exec (.resetRelease true) s =
      .next (({ s with sys := { s.sys with inReset := false } } : State).coldBegin (if s.sys.started then 1 else 0) 0) := by
  change Host.Outcome.next (doResetRelease s) = _
  simp [doResetRelease, hrst, hpow]

/-- Settles O11: the two starts are cold starts, the two falls leave what `State.cleared` keeps, and any other command waits for power and RESET_N. -/
theorem powerAndResetBeginAndClear : Obligations.PowerAndResetBeginAndClear := by
  refine fun s => ⟨fun hdet hrst => ?_, fun hdet => ?_, ?_, ?_, fun hrst hpow => ?_, rfl, rfl, fun c => exec_of_not_alive c s⟩
  · obtain ⟨hstep, hcause, hkept⟩ := State.coldBegin_spec { s with sys := { s.sys with powered := true, detector := false } } 0 0 (by decide)
    exact ⟨_, exec_powerOn_of_armed s hdet hrst, rfl, rfl, hstep, hcause, hkept⟩
  · exact exec_powerOn_of_unarmed s hdet
  · exact ⟨_, rfl, rfl, rfl, rfl, rfl, rfl, rfl, rfl, fun _ => rfl⟩
  · exact ⟨_, rfl, rfl, rfl, rfl, rfl, rfl, rfl, fun _ => rfl, fun _ => rfl⟩
  · obtain ⟨hstep, hcause, hkept⟩ :=
      State.coldBegin_spec { s with sys := { s.sys with inReset := false } } (if s.sys.started then 1 else 0) 0 (by split <;> decide)
    exact ⟨_, exec_resetRelease_of_powered s hrst hpow, rfl, hstep, hcause, hkept⟩

end Sys2Proof.Machine
end

section
/-! SUPPORT. The frame of the active copies: what the model does outside commit points, resets and starts leaves the table of active copies, so that a
statement's `SameRegs` is left with the registers themselves. One lemma for each operation that such a command's meaning is made of, in the order of
the model's files, as for the queue of waiting commands above; the operations that copy a group, and those that begin a start, have none.

Some of these proofs take `-implicitDefEqProofs`: without it `simp` leaves it to the kernel to see that a write to a register leaves the active copies,
and the kernel then evaluates the whole state below the write. -/

namespace Sys2Proof.Machine

/-! ### Updates that keep the active copies -/

/-- Two states have the same active copies. This is a structure and no mere equation, so that the kernel compares the states of two such
facts as they are written and evaluates neither. -/
structure SameActive (s t : State) : Prop where
  active : t.act = s.act

/-- An update leaves every active copy. -/
def KeepsActive (f : State → State) : Prop := ∀ t, SameActive t (f t)

@[simp] theorem sameActive_iff (s t : State) : SameActive s t ↔ t.act = s.act := ⟨SameActive.active, SameActive.mk⟩

@[simp] theorem keepsActive_iff (f : State → State) : KeepsActive f ↔ ∀ t, SameActive t (f t) := by constructor <;> exact id

@[simp] theorem ite_act (c : Prop) [Decidable c] (s t : State) : (if c then s else t).act = if c then s.act else t.act :=
  apply_ite State.act c s t

/-- The state of a pair has the active copies of the result that the pair is. -/
theorem act_of_eq_mk {α : Type} {r : State × α} {t : State} {a : α} (h : r = (t, a)) : t.act = r.1.act := by rw [h]

@[simp] theorem State.onlyIf_act (s : State) (c : Bool) (f : State → State) (h : KeepsActive f) : (s.onlyIf c f).act = s.act := by
  unfold State.onlyIf; split <;> simp [(h s).active]

@[simp] theorem State.whenAlive_act (s : State) (f : State → State) (h : KeepsActive f) : (s.whenAlive f).act = s.act := by
  unfold State.whenAlive; split <;> simp [(h s).active]

@[simp] theorem State.forAll_act {α : Type} (s : State) (l : List α) (f : State → α → State) (h : ∀ x, KeepsActive fun t => f t x) :
    (s.forAll l f).act = s.act :=
  State.forAll_keeps (fun t => t.act = s.act) f l s rfl fun t x _ ht => (h x t).active.trans ht

/-! ### Registers, memories and time -/

@[simp] theorem State.light_act (s : State) : s.light.act = s.act := by simp [State.light]

/-! ### Event records, alerts and the fault pin -/

@[simp] theorem State.raise_act (s : State) (src code arg : Nat) : (s.raise src code arg).act = s.act := by
  obtain ⟨_, _, _, hact, _⟩ := s.raise_frame src code arg
  exact hact

/-! ### The OTP, draws and signatures -/

@[simp] theorem State.otpSet_act (s : State) (o : Nat) (bs : Bytes) : (s.otpSet o bs).act = s.act := by simp [State.otpSet]
@[simp] theorem State.showOtp_act (s : State) : s.showOtp.act = s.act := by simp -implicitDefEqProofs [State.showOtp]
@[simp] theorem State.raiseFloor_act (s : State) (n : Nat) : (s.raiseFloor n).act = s.act := by simp [State.raiseFloor]
@[simp] theorem State.writeSlot_act (s : State) (i : Nat) (h : BitVec 256) : (s.writeSlot i h).act = s.act := by simp [State.writeSlot]
@[simp] theorem State.revokeSlot_act (s : State) (i : Nat) : (s.revokeSlot i).act = s.act := by simp [State.revokeSlot]
@[simp] theorem State.drawWallKey_act (s : State) : s.drawWallKey.act = s.act := by simp [State.drawWallKey]
@[simp] theorem State.needWallKey_act (s : State) : s.needWallKey.act = s.act := by simp [State.needWallKey]
@[simp] theorem State.sign_act (s : State) (msg : Bytes) : (s.sign msg).1.act = s.act := by simp [State.sign]
@[simp] theorem State.dropOffer_act (s : State) (p : Nat) : (s.dropOffer p).act = s.act := by simp [State.dropOffer]

/-! ### The Tile's cells -/

@[simp] theorem State.writePixel_act (s : State) (b x y : Nat) (p : Pixel) : (s.writePixel b x y p).act = s.act := by
  simp [State.writePixel]
@[simp] theorem State.markBehind_act (s : State) : s.markBehind.act = s.act := by simp [State.markBehind]

/-! ### Packets on the Weft -/

@[simp] theorem State.putOut_act (s : State) (p : Nat) (l : List Sent) : (s.putOut p l).act = s.act := by simp [State.putOut]
@[simp] theorem State.drainFwd_act (s : State) (out : Nat) : (s.drainFwd out).act = s.act := by simp [State.drainFwd]
@[simp] theorem State.send_act (s : State) (p : Nat) (t : PType) (dest : Nat) (body : Bytes) : (s.send p t dest body).act = s.act := by
  simp [State.send]
@[simp] theorem State.notePass_act (s : State) (p : Nat) (a : Arrival) : (s.notePass p a).act = s.act := by
  unfold State.notePass; split <;> simp
@[simp] theorem State.linkCount_act (s : State) (p : Nat) (a : Arrival) : (s.linkCount p a).act = s.act := by
  unfold State.linkCount; split <;> simp
@[simp] theorem State.forward_act (s : State) (p : Nat) (a : Arrival) : (s.forward p a).act = s.act := by simp [State.forward]
@[simp] theorem State.countMarks_act (s : State) (p : Nat) (l : List (Fin 4 × Bool)) : (s.countMarks p l).act = s.act := by
  simp [State.countMarks]
@[simp] theorem State.hearEpoch_act (s : State) (p : Nat) (a : Arrival) : (s.hearEpoch p a).act = s.act := by
  unfold State.hearEpoch; split <;> simp
@[simp] theorem State.arrive_act (s : State) (p : Nat) (a : Arrival) : (s.arrive p a).act = s.act := by simp [State.arrive]
@[simp] theorem doPacketForward_act (s : State) (p : Nat) (a : Arrival) : (doPacketForward s p a).act = s.act := by
  unfold doPacketForward; split <;> simp
@[simp] theorem State.dropOrder_act (s : State) (pkt : Packet) : (s.dropOrder pkt).act = s.act := by simp [State.dropOrder]
@[simp] theorem State.acceptPacket_act (s : State) (p : Nat) (pkt : Packet) (sq : Nat) (keeps : Bool) :
    (s.acceptPacket p pkt sq keeps).act = s.act := by
  simp [State.acceptPacket]
@[simp] theorem State.frameChecks_act (s : State) (p : Nat) (t : PType) (pkt : Packet) (q : Nat) :
    (s.frameChecks p t pkt q).1.act = s.act := by
  unfold State.frameChecks; (repeat' split) <;> simp

@[simp] theorem State.consume_act (s : State) (p : Nat) (t : PType) (a : Arrival) : (s.consume p t a).1.act = s.act := by
  unfold State.consume
  dsimp only
  split
  · split
    · simp
    · split <;> next heq => simp [act_of_eq_mk heq]
  · simp

@[simp] theorem State.badForm_act (s : State) (p : Nat) : (s.badForm p).act = s.act := by simp [State.badForm]
@[simp] theorem State.onForm_act (s : State) (p : Nat) (forms : List Nat) (body : Bytes) (form : Nat) (act : State → State) (h : KeepsActive act) :
    (s.onForm p forms body form act).act = s.act := by simp [State.onForm, (h s).active]

@[simp] theorem State.onPacket_act (s : State) (p : Nat) (t : PType) (a : Arrival) (act : State → Nat → State)
    (h : ∀ n, KeepsActive fun t => act t n) : (s.onPacket p t a act).act = s.act := by
  unfold State.onPacket
  split
  · next s1 q heq => exact (h q s1).active.trans (by simp [act_of_eq_mk heq])
  · next s1 heq => simp [act_of_eq_mk heq]

/-! ### Wheel time -/

@[simp] theorem State.setCount16_act (s : State) (t : Nat) : (s.setCount16 t).act = s.act := by simp [State.setCount16]
@[simp] theorem State.setFreq_act (s : State) (base slew : Int) : (s.setFreq base slew).act = s.act := by simp [State.setFreq]
@[simp] theorem State.endSlew_act (s : State) : s.endSlew.act = s.act := by simp [State.endSlew]
@[simp] theorem State.slewToward_act (s : State) (e : Int) : (s.slewToward e).act = s.act := by simp [State.slewToward]
@[simp] theorem State.slewOnChange_act (s : State) (changed : Bool) : (s.slewOnChange changed).act = s.act := by simp [State.slewOnChange]
@[simp] theorem State.setLock_act (s : State) (st : Nat) : (s.setLock st).act = s.act := by simp [State.setLock]
@[simp] theorem State.showSource_act (s : State) : s.showSource.act = s.act := by simp [State.showSource]
@[simp] theorem State.moveTimePort_act (s : State) (p : Nat) : (s.moveTimePort p).act = s.act := by simp [State.moveTimePort]
@[simp] theorem State.enterTrack_act (s : State) (e : Option Int) : (s.enterTrack e).act = s.act := by
  unfold State.enterTrack; split <;> simp
@[simp] theorem State.showPhase_act (s : State) (e : Int) : (s.showPhase e).act = s.act := by simp [State.showPhase]
@[simp] theorem State.discipline_act (s : State) (e : Int) (bound : Nat) : (s.discipline e bound).act = s.act := by
  simp [State.discipline]
@[simp] theorem State.trackStep_act (s : State) (e aim : Int) (bound need lose : Nat) (mayLose : Bool) :
    (s.trackStep e aim bound need lose mayLose).act = s.act := by
  simp [State.trackStep]
@[simp] theorem State.noteMissing_act (s : State) : s.noteMissing.act = s.act := by
  unfold State.noteMissing; dsimp only; (repeat' split) <;> simp
@[simp] theorem State.regainEdge_act (s : State) (e : Int) : (s.regainEdge e).act = s.act := by simp [State.regainEdge]
@[simp] theorem State.houseEdge_act (s : State) : s.houseEdge.act = s.act := by
  unfold State.houseEdge; dsimp only; (repeat' split) <;> simp
@[simp] theorem State.localEdge_act (s : State) : s.localEdge.act = s.act := by unfold State.localEdge; split <;> simp
@[simp] theorem State.oldEdge_act (s : State) (sync : Nat) : (s.oldEdge sync).act = s.act := by simp -implicitDefEqProofs [State.oldEdge]
@[simp] theorem doWsyncEdge_act (s : State) (long : Bool) : (doWsyncEdge s long).act = s.act := by
  unfold doWsyncEdge; dsimp only; (repeat' split) <;> simp
@[simp] theorem doSyncLoss_act (s : State) : (doSyncLoss s).act = s.act := by simp [doSyncLoss]
@[simp] theorem doHoldoverExpiry_act (s : State) : (doHoldoverExpiry s).act = s.act := by simp [doHoldoverExpiry]
@[simp] theorem State.chainLost_act (s : State) : s.chainLost.act = s.act := by simp [State.chainLost]
@[simp] theorem doMarkerTimeout_act (s : State) : (doMarkerTimeout s).act = s.act := by simp [doMarkerTimeout]
@[simp] theorem doWheelMarkerSend_act (s : State) : (doWheelMarkerSend s).act = s.act := by simp [doWheelMarkerSend]
@[simp] theorem State.regainChain_act (s : State) : s.regainChain.act = s.act := by unfold State.regainChain; split <;> simp
@[simp] theorem State.noteChain_act (s : State) (e : Int) : (s.noteChain e).act = s.act := by simp [State.noteChain]
@[simp] theorem doWheelMarkerReceive_act (s : State) (p : Nat) : (doWheelMarkerReceive s p).act = s.act := by
  unfold doWheelMarkerReceive; (repeat' split) <;> simp
@[simp] theorem doTimeRequestSend_act (s : State) : (doTimeRequestSend s).act = s.act := by simp [doTimeRequestSend]
@[simp] theorem doTimeRequestReceive_act (s : State) (p : Nat) (a : Arrival) : (doTimeRequestReceive s p a).act = s.act := by
  unfold doTimeRequestReceive; split <;> simp
@[simp] theorem doTimeResponseReceive_act (s : State) (p : Nat) (a : Arrival) : (doTimeResponseReceive s p a).act = s.act := by
  unfold doTimeResponseReceive; split <;> simp
@[simp] theorem State.useExchange_act (s : State) (p t1 t2 t3 t4 : Nat) : (s.useExchange p t1 t2 t3 t4).act = s.act := by
  simp [State.useExchange]

@[simp] theorem doTimeVerdict_act (s : State) : (doTimeVerdict s).act = s.act := by
  unfold doTimeVerdict
  split
  · rfl
  · dsimp only
    split <;> next heq => simp [act_of_eq_mk heq]

@[simp] theorem doCountCopyRefresh_act (s : State) : (doCountCopyRefresh s).act = s.act := by simp [doCountCopyRefresh]
@[simp] theorem doRateSwitch_act (s : State) : (doRateSwitch s).act = s.act := by unfold doRateSwitch; split <;> simp
@[simp] theorem doWsyncOutEdge_act (s : State) : (doWsyncOutEdge s).act = s.act := by unfold doWsyncOutEdge; split <;> simp
@[simp] theorem State.whlCommitted_act (s old : State) : (s.whlCommitted old).act = s.act := by simp [State.whlCommitted]
@[simp] theorem State.coarseCount_act (s : State) (sent : Nat) : (s.coarseCount sent).act = s.act := by simp [State.coarseCount]

/-! ### The right to order, verdicts and STALE orders -/

@[simp] theorem State.resumeOffset_act (s : State) : s.resumeOffset.act = s.act := by simp [State.resumeOffset]
@[simp] theorem State.sendOrder_act (s : State) (p : Nat) (t : PType) (dest : Nat) (body : Bytes) :
    (s.sendOrder p t dest body).act = s.act := by
  simp [State.sendOrder]
@[simp] theorem State.sendYield_act (s : State) (reason gen at_ : Nat) : (s.sendYield reason gen at_).act = s.act := by
  simp [State.sendYield]
@[simp] theorem State.yieldFor_act (s : State) (code : Nat) : (s.yieldFor code).act = s.act := by simp [State.yieldFor]
@[simp] theorem State.raiseVerdict_act (s : State) (code : Nat) : (s.raiseVerdict code).act = s.act := by simp [State.raiseVerdict]
@[simp] theorem State.raiseStale_act (s : State) (all : Bool) (regions : List Nat) : (s.raiseStale all regions).act = s.act := by
  simp [State.raiseStale]
@[simp] theorem State.loseEarly_act (s : State) (r : Nat) : (s.loseEarly r).act = s.act := by simp [State.loseEarly]
@[simp] theorem State.earlyPort_act (s : State) (p : Nat) : (s.earlyPort p).act = s.act := by unfold State.earlyPort; split <;> simp
@[simp] theorem State.settleOrders_act (s : State) : s.settleOrders.act = s.act := by simp [State.settleOrders]
@[simp] theorem doStaleSend_act (s : State) (p : Nat) : (doStaleSend s p).act = s.act := by unfold doStaleSend; split <;> simp
@[simp] theorem State.flushStale_act (s : State) : s.flushStale.act = s.act := by simp [State.flushStale]
@[simp] theorem doStaleOrder_act (s : State) (all : Bool) (region : Nat) : (doStaleOrder s all region).act = s.act := by
  simp [doStaleOrder]
@[simp] theorem doHmkHold_act (s : State) (i v : Nat) : (doHmkHold s i v).act = s.act := by simp [doHmkHold]

/-! ### The stacked DRAM -/

@[simp] theorem State.noteLine_act (s : State) (line : Nat) (r : LineRead) : (s.noteLine line r).act = s.act := by simp [State.noteLine]
@[simp] theorem State.mapFault_act (s : State) (line : Nat) : (s.mapFault line).act = s.act := by simp [State.mapFault]
@[simp] theorem State.wakeRank_act (s : State) (chan rank : Nat) : (s.wakeRank chan rank).act = s.act := by simp [State.wakeRank]
@[simp] theorem State.reportUe_act (s : State) : s.reportUe.act = s.act := by simp [State.reportUe]
@[simp] theorem State.noteUe_act (s : State) (line : Nat) : (s.noteUe line).act = s.act := by simp [State.noteUe]
@[simp] theorem State.requestArrives_act (s : State) (a : Nat) (op : DramOp) (m : DramMaster) (pattern : List (Nat × Byte)) :
    (s.requestArrives a op m pattern).act = s.act := by
  simp [State.requestArrives]
@[simp] theorem State.writeBackLine_act (s : State) (a : Nat) (r : LineRead) : (s.writeBackLine a r).act = s.act := by
  simp [State.writeBackLine]
@[simp] theorem State.promote_act (s : State) (chan : Nat) (which : DramRequest → Bool) : (s.promote chan which).act = s.act := by
  simp [State.promote]
@[simp] theorem State.performRequest_act (s : State) (p : DramRequest) : (s.performRequest p).act = s.act := by
  unfold State.performRequest; split <;> simp
@[simp] theorem State.issueNext_act (s : State) (chan : Nat) : (s.issueNext chan).act = s.act := by
  unfold State.issueNext; dsimp only; (repeat' split) <;> simp

@[simp] theorem State.issue_act (s : State) (chan n : Nat) : (s.issue chan n).act = s.act := by
  induction n generalizing s with
  | zero => rfl
  | succ n ih => unfold State.issue; split <;> simp [ih]

@[simp] theorem doDramRead_act (s : State) (a : Nat) (m : DramMaster) (pattern : List (Nat × Byte)) (turns : Nat) :
    (doDramRead s a m pattern turns).act = s.act := by
  unfold doDramRead; split <;> simp
@[simp] theorem doDramWrite_act (s : State) (a : Nat) (bytes : Bytes) (m : DramMaster) (pattern : List (Nat × Byte)) (turns : Nat) :
    (doDramWrite s a bytes m pattern turns).act = s.act := by
  unfold doDramWrite; split <;> simp
@[simp] theorem doRequestPromotion_act (s : State) (chan line turns : Nat) : (doRequestPromotion s chan line turns).act = s.act := by
  simp [doRequestPromotion]
@[simp] theorem doDramRefresh_act (s : State) (chan rank bank : Nat) : (doDramRefresh s chan rank bank).act = s.act := by
  simp [doDramRefresh]
@[simp] theorem doDramPowerDown_act (s : State) (chan rank : Nat) : (doDramPowerDown s chan rank).act = s.act := by simp [doDramPowerDown]
@[simp] theorem doPatrolScrub_act (s : State) (pattern : List (Nat × Byte)) (turns : Nat) :
    (doPatrolScrub s pattern turns).act = s.act := by
  simp [doPatrolScrub]
@[simp] theorem doReadRecentre_act (s : State) (chan : Nat) : (doReadRecentre s chan).act = s.act := by simp [doReadRecentre]
@[simp] theorem State.selfRefresh_act (s : State) : s.selfRefresh.act = s.act := by simp [State.selfRefresh]
@[simp] theorem doDramTemperatureRead_act (s : State) (temp : Int) : (doDramTemperatureRead s temp).act = s.act := by
  simp [doDramTemperatureRead]

/-! ### Source intake -/

@[simp] theorem State.freeSurface_act (s : State) (n : Nat) : (s.freeSurface n).act = s.act := by simp [State.freeSurface]
@[simp] theorem State.releaseSurface_act (s : State) (n : Nat) : (s.releaseSurface n).1.act = s.act := by
  unfold State.releaseSurface; (repeat' split) <;> simp

@[simp] theorem doRelease_act (s : State) (n : Nat) : (doRelease s n).act = s.act := by
  unfold doRelease
  dsimp only
  split
  · simp
  · split
    · simp
    · split <;> next heq => simp [act_of_eq_mk heq]

@[simp] theorem doReleaseDone_act (s : State) (n : Nat) : (doReleaseDone s n).act = s.act := by simp [doReleaseDone]
@[simp] theorem doEdidRead_act (s : State) (p blk : Nat) : (doEdidRead s p blk).act = s.act := by simp [doEdidRead]
@[simp] theorem State.setLaneStatus_act (s : State) (p lanes : Nat) : (s.setLaneStatus p lanes).act = s.act := by
  simp [State.setLaneStatus]
@[simp] theorem doDpcdAccess_act (s : State) (p a : Nat) (write : Option Byte) : (doDpcdAccess s p a write).act = s.act := by
  unfold doDpcdAccess; (repeat' split) <;> simp
@[simp] theorem State.judgePorts_act (s : State) (ps : List Nat) : (s.judgePorts ps).act = s.act := by simp [State.judgePorts]
@[simp] theorem State.judgePort_act (s : State) (p : Nat) : (s.judgePort p).act = s.act := by simp [State.judgePort]
@[simp] theorem State.resetPatches_act (s : State) (p : Nat) : (s.resetPatches p).act = s.act := by simp [State.resetPatches]
@[simp] theorem State.recount_act (s : State) : s.recount.act = s.act := by simp [State.recount]
@[simp] theorem State.dropWriting_act (s : State) (p : Nat) : (s.dropWriting p).act = s.act := by unfold State.dropWriting; split <;> simp
@[simp] theorem State.cutFrame_act (s : State) (p : Nat) : (s.cutFrame p).act = s.act := by simp [State.cutFrame]
@[simp] theorem State.refusePort_act (s : State) (p reason : Nat) : (s.refusePort p reason).act = s.act := by simp [State.refusePort]
@[simp] theorem State.grant_act (s : State) (ps : List Nat) (total : Nat) : (s.grant ps total).act = s.act := by simp [State.grant]
@[simp] theorem State.grantPair_act (s : State) (p q total : Nat) : (s.grantPair p q total).act = s.act := by simp [State.grantPair]
@[simp] theorem State.askAdmission_act (s : State) (p : Nat) : (s.askAdmission p).act = s.act := by
  unfold State.askAdmission; (repeat' split) <;> simp
@[simp] theorem State.askAgain_act (s : State) : s.askAgain.act = s.act := by simp [State.askAgain]
@[simp] theorem State.leaveBudget_act (s : State) (p : Nat) : (s.leaveBudget p).act = s.act := by simp [State.leaveBudget]
@[simp] theorem State.startVideo_act (s : State) (p : Nat) (m : Msa) : (s.startVideo p m).act = s.act := by simp [State.startVideo]
@[simp] theorem doVideoStart_act (s : State) (p : Nat) (m : Msa) : (doVideoStart s p m).act = s.act := by simp [doVideoStart]
@[simp] theorem doVideoStop_act (s : State) (p : Nat) : (doVideoStop s p).act = s.act := by simp [doVideoStop]
@[simp] theorem doTimingChange_act (s : State) (p : Nat) (m : Msa) : (doTimingChange s p m).act = s.act := by simp [doTimingChange]
@[simp] theorem doDpLinkTraining_act (s : State) (p : Nat) (r : DpTraining) : (doDpLinkTraining s p r).act = s.act := by
  simp [doDpLinkTraining]
@[simp] theorem doLinkLoss_act (s : State) (p : Nat) : (doLinkLoss s p).act = s.act := by simp [doLinkLoss]
@[simp] theorem State.pairSkew_act (s : State) (p skew : Nat) : (s.pairSkew p skew).act = s.act := by
  unfold State.pairSkew; split <;> simp
@[simp] theorem doSourceFrameStart_act (s : State) (p : Nat) (f : SourceFrame) : (doSourceFrameStart s p f).act = s.act := by
  unfold doSourceFrameStart; dsimp only; (repeat' split) <;> simp
@[simp] theorem State.setChangeBit_act (s : State) (n i : Nat) (b : Bool) : (s.setChangeBit n i b).act = s.act := by
  simp [State.setChangeBit]
@[simp] theorem State.storeBale_act (s : State) (n i sector : Nat) (ps : List Pixel) (changed : Bool) :
    (s.storeBale n i sector ps changed).act = s.act := by
  simp [State.storeBale]
@[simp] theorem doBaleWrite_act (s : State) (p i : Nat) : (doBaleWrite s p i).act = s.act := by unfold doBaleWrite; split <;> simp
@[simp] theorem State.patchQualified_act (s : State) (p t : Nat) : (s.patchQualified p t).act = s.act := by simp [State.patchQualified]
@[simp] theorem State.judgePatch_act (s : State) (p t : Nat) : (s.judgePatch p t).act = s.act := by
  unfold State.judgePatch; (repeat' split) <;> simp
@[simp] theorem doSourceFrameEnd_act (s : State) (p : Nat) : (doSourceFrameEnd s p).act = s.act := by simp [doSourceFrameEnd]
@[simp] theorem doPatchDeadline_act (s : State) (p t : Nat) : (doPatchDeadline s p t).act = s.act := by simp [doPatchDeadline]
@[simp] theorem doSurfacePublish_act (s : State) (p : Nat) : (doSurfacePublish s p).act = s.act := by
  unfold doSurfacePublish; (repeat' split) <;> simp

/-! ### The canvas -/

@[simp] theorem State.enterEntry_act (s : State) (c p b time gen : Nat) : (s.enterEntry c p b time gen).act = s.act := by
  simp [State.enterEntry]
@[simp] theorem State.enterPush_act (s : State) (c p b time : Nat) : (s.enterPush c p b time).act = s.act := by simp [State.enterPush]
@[simp] theorem State.damageBlock_act (s : State) (b time : Nat) : (s.damageBlock b time).act = s.act := by simp [State.damageBlock]
@[simp] theorem State.enterAll_act (s : State) (c p time : Nat) : (s.enterAll c p time).act = s.act := by simp [State.enterAll]
@[simp] theorem State.sendGuard_act (s : State) (t : PieceTable) (c p : Nat) : (s.sendGuard t c p).act = s.act := by
  simp [State.sendGuard]
@[simp] theorem State.fullRepush_act (s : State) (c p time : Nat) : (s.fullRepush c p time).act = s.act := by simp [State.fullRepush]
@[simp] theorem State.repushAll_act (s : State) (time : Nat) : (s.repushAll time).act = s.act := by simp [State.repushAll]
@[simp] theorem doRepush_act (s : State) (c p : Nat) : (doRepush s c p).act = s.act := by simp [doRepush]
@[simp] theorem doRepushAll_act (s : State) : (doRepushAll s).act = s.act := by simp [doRepushAll]

/-! ### Composition passes -/

@[simp] theorem State.storeBlock_act (s : State) (b : Nat) (ps : List Pixel) : (s.storeBlock b ps).act = s.act := by
  simp [State.storeBlock]
@[simp] theorem State.writeSlot0_act (s : State) : s.writeSlot0.act = s.act := by simp [State.writeSlot0]
@[simp] theorem State.uncoverBlock_act (s : State) (b g : Nat) : (s.uncoverBlock b g).act = s.act := by simp [State.uncoverBlock]
@[simp] theorem State.holdBlock_act (s : State) (b : Nat) : (s.holdBlock b).act = s.act := by simp [State.holdBlock]
@[simp] theorem State.markStripe_act (s : State) (t : Nat) : (s.markStripe t).act = s.act := by simp [State.markStripe]
@[simp] theorem State.fenceRecord_act (s : State) (kind i t : Nat) : (s.fenceRecord kind i t).act = s.act := by simp [State.fenceRecord]
@[simp] theorem State.moveStripe_act (s : State) (t i : Nat) : (s.moveStripe t i).act = s.act := by simp [State.moveStripe]
@[simp] theorem State.fenceSlice_act (s : State) (i : Nat) : (s.fenceSlice i).act = s.act := by simp [State.fenceSlice]

@[simp] theorem State.fenceStripes_act (s : State) (i : Nat) : (s.fenceStripes i).act = s.act := by
  unfold State.fenceStripes
  refine State.forAll_act s _ _ fun k t => ⟨?_⟩
  dsimp only
  split <;> simp

@[simp] theorem State.unfenceSlice_act (s : State) (i : Nat) : (s.unfenceSlice i).act = s.act := by simp [State.unfenceSlice]
@[simp] theorem State.judgeFences_act (s : State) : s.judgeFences.act = s.act := by simp [State.judgeFences]
@[simp] theorem State.applyFences_act (s : State) : s.applyFences.act = s.act := by simp [State.applyFences]
@[simp] theorem State.dueFence_act (s : State) (i : Nat) (parity : Bool) : (s.dueFence i parity).act = s.act := by simp [State.dueFence]
@[simp] theorem doBistFragment_act (s : State) (i : Nat) (failed : Bool) : (doBistFragment s i failed).act = s.act := by
  simp [doBistFragment]
@[simp] theorem doSliceParityError_act (s : State) (i b : Nat) : (doSliceParityError s i b).act = s.act := by simp [doSliceParityError]
@[simp] theorem State.takeLayer_act (s : State) (n : Nat) : (s.takeLayer n).act = s.act := by simp [State.takeLayer]
@[simp] theorem State.beginPass_act (s : State) (B : Nat) : (s.beginPass B).act = s.act := by simp [State.beginPass]
@[simp] theorem doCompositionPass_act (s : State) : (doCompositionPass s).act = s.act := by simp [doCompositionPass]
@[simp] theorem State.recordFault_act (s : State) (n : Nat) (x : Nat × Nat) (ue : Bool) : (s.recordFault n x ue).act = s.act := by
  simp [State.recordFault]
@[simp] theorem doBlockEncoded_act (s : State) (b : Nat) (ue : List (Nat × Nat)) : (doBlockEncoded s b ue).act = s.act := by
  simp [doBlockEncoded]
@[simp] theorem doCutoff_act (s : State) (started : List Nat) : (doCutoff s started).act = s.act := by simp [doCutoff]
@[simp] theorem State.recordPass_act (s : State) : s.recordPass.act = s.act := by simp [State.recordPass]
@[simp] theorem doPassEnd_act (s : State) : (doPassEnd s).act = s.act := by simp [doPassEnd]
@[simp] theorem State.commitLayer_act (s old : State) (n : Nat) : (s.commitLayer old n).act = s.act := by simp [State.commitLayer]
@[simp] theorem State.freeLoomSlot_act (s old : State) (b g : Nat) (bg : Bool) : (s.freeLoomSlot old b g bg).act = s.act := by
  simp [State.freeLoomSlot]
@[simp] theorem State.takeSlot_act (s : State) (b : Nat) : (s.takeSlot b).act = s.act := by simp [State.takeSlot]
@[simp] theorem State.commitSlots_act (s old : State) (g : Nat) (bg : Bool) : (s.commitSlots old g bg).act = s.act := by
  simp [State.commitSlots]
@[simp] theorem State.loomCommitted_act (s old : State) : (s.loomCommitted old).act = s.act := by simp [State.loomCommitted]

/-! ### Hallmarks at a Sender -/

@[simp] theorem State.showRegions_act (s : State) : s.showRegions.act = s.act := by simp [State.showRegions]
@[simp] theorem State.hmkCommitted_act (s old : State) : (s.hmkCommitted old).act = s.act := by simp [State.hmkCommitted]
@[simp] theorem State.putTable_act (s : State) (t : PieceTable) : (s.putTable t).act = s.act := by simp [State.putTable]
@[simp] theorem State.selfCheck_act (s : State) (t : PieceTable) (bad : Bool) : (s.selfCheck t bad).act = s.act := by
  simp [State.selfCheck]
@[simp] theorem doHallmarkCompute_act (s : State) (bad : Bool) : (doHallmarkCompute s bad).act = s.act := by simp [doHallmarkCompute]
@[simp] theorem State.showAffirmed_act (s : State) (r cls : Nat) (aff : Bool) : (s.showAffirmed r cls aff).act = s.act := by
  simp [State.showAffirmed]
@[simp] theorem State.notReady_act (s : State) (r : Nat) : (s.notReady r).act = s.act := by simp [State.notReady]
@[simp] theorem State.reaffirmTile_act (s : State) (t : PieceTable) (g show_ : Nat) (aff : List Nat) (c p : Nat) :
    (s.reaffirmTile t g show_ aff c p).act = s.act := by
  simp [State.reaffirmTile]
@[simp] theorem State.affirmGeneration_act (s : State) (g show_ : Nat) (guards : Bool) :
    (s.affirmGeneration g show_ guards).act = s.act := by
  simp [State.affirmGeneration]
@[simp] theorem State.takePieceState_act (s : State) (c p : Nat) (old : List (Nat × Nat)) (e : Nat × Nat) :
    (s.takePieceState c p old e).act = s.act := by
  simp [State.takePieceState]
@[simp] theorem State.takeGuardReport_act (s : State) (body : Bytes) : (s.takeGuardReport body).act = s.act := by
  simp [State.takeGuardReport]
@[simp] theorem doGuardReportReceive_act (s : State) (p : Nat) (a : Arrival) : (doGuardReportReceive s p a).act = s.act := by
  simp [doGuardReportReceive]

/-! ### The Weft ports as links -/

@[simp] theorem State.setRxLanes_act (s : State) (p mask : Nat) : (s.setRxLanes p mask).act = s.act := by simp [State.setRxLanes]
@[simp] theorem State.setTxMask_act (s : State) (p mask : Nat) : (s.setTxMask p mask).act = s.act := by simp [State.setTxMask]
@[simp] theorem State.storeSettings_act (s : State) (p : Nat) : (s.storeSettings p).act = s.act := by simp [State.storeSettings]
@[simp] theorem State.loadSettings_act (s : State) (p : Nat) : (s.loadSettings p).act = s.act := by
  unfold State.loadSettings; split <;> simp
@[simp] theorem State.noWidth_act (s : State) (p : Nat) : (s.noWidth p).act = s.act := by simp [State.noWidth]
@[simp] theorem State.startAttempt_act (s : State) (p : Nat) (fast : Bool) : (s.startAttempt p fast).act = s.act := by
  simp -implicitDefEqProofs [State.startAttempt]
@[simp] theorem State.leaveService_act (s : State) (p reason : Nat) : (s.leaveService p reason).act = s.act := by
  simp [State.leaveService]
@[simp] theorem State.failAttempt_act (s : State) (p reason : Nat) (energy : Bool) : (s.failAttempt p reason energy).act = s.act := by
  simp -implicitDefEqProofs [State.failAttempt]
@[simp] theorem State.enterService_act (s : State) (p rxMask partner : Nat) : (s.enterService p rxMask partner).act = s.act := by
  simp -implicitDefEqProofs [State.enterService]
@[simp] theorem State.adaptLanes_act (s : State) (p : Nat) (r : LaneResult) : (s.adaptLanes p r).act = s.act := by simp [State.adaptLanes]
@[simp] theorem State.endEq_act (s : State) (p : Nat) (r : LaneResult) : (s.endEq p r).act = s.act := by
  simp -implicitDefEqProofs [State.endEq]
@[simp] theorem State.partnerWakes_act (s : State) (p : Nat) (r : LaneResult) : (s.partnerWakes p r).act = s.act := by
  simp [State.partnerWakes]
@[simp] theorem State.wakeAcked_act (s : State) (p : Nat) : (s.wakeAcked p).act = s.act := by simp [State.wakeAcked]
@[simp] theorem doTrainingPhaseEnd_act (s : State) (p : Nat) (r : LaneResult) : (doTrainingPhaseEnd s p r).act = s.act := by
  unfold doTrainingPhaseEnd; split <;> simp -implicitDefEqProofs
@[simp] theorem doTrainingTimeout_act (s : State) (p : Nat) (r : LaneResult) : (doTrainingTimeout s p r).act = s.act := by
  unfold doTrainingTimeout; split <;> simp
@[simp] theorem doTs1Receive_act (s : State) (p : Nat) (set : Bytes) : (doTs1Receive s p set).act = s.act := by simp [doTs1Receive]
@[simp] theorem doBackoffExpiry_act (s : State) (p : Nat) : (doBackoffExpiry s p).act = s.act := by simp [doBackoffExpiry]
@[simp] theorem doEnergyDetected_act (s : State) (p : Nat) : (doEnergyDetected s p).act = s.act := by simp [doEnergyDetected]
@[simp] theorem doBeacon_act (s : State) (p : Nat) : (doBeacon s p).act = s.act := by simp [doBeacon]
@[simp] theorem doLaneFault_act (s0 : State) (p l : Nat) (cause : LaneCause) (cv disp : Nat) :
    (doLaneFault s0 p l cause cv disp).act = s0.act := by
  simp -implicitDefEqProofs [doLaneFault]
@[simp] theorem doDegradeReceive_act (s : State) (p : Nat) (set : Bytes) : (doDegradeReceive s p set).act = s.act := by
  simp [doDegradeReceive]
@[simp] theorem doDegradeTimeout_act (s : State) (p : Nat) : (doDegradeTimeout s p).act = s.act := by simp [doDegradeTimeout]
@[simp] theorem doIdleHoldEntry_act (s : State) (p : Nat) : (doIdleHoldEntry s p).act = s.act := by simp [doIdleHoldEntry]
@[simp] theorem doSleepReceive_act (s : State) (p : Nat) (set : Bytes) : (doSleepReceive s p set).act = s.act := by simp [doSleepReceive]
@[simp] theorem doWakeTimeout_act (s : State) (p : Nat) : (doWakeTimeout s p).act = s.act := by simp -implicitDefEqProofs [doWakeTimeout]
@[simp] theorem doFullRetrain_act (s : State) (p : Nat) : (doFullRetrain s p).act = s.act := by simp [doFullRetrain]
@[simp] theorem doFastRetrain_act (s : State) (p : Nat) : (doFastRetrain s p).act = s.act := by simp [doFastRetrain]
@[simp] theorem doTransmitDormant_act (s : State) (p : Nat) : (doTransmitDormant s p).act = s.act := by simp [doTransmitDormant]
@[simp] theorem doTransmitWake_act (s : State) (p : Nat) : (doTransmitWake s p).act = s.act := by simp [doTransmitWake]
@[simp] theorem doPortDormant_act (s : State) (p : Nat) : (doPortDormant s p).act = s.act := by simp [doPortDormant]
@[simp] theorem doSettingsSave_act (s : State) (p : Nat) : (doSettingsSave s p).act = s.act := by simp [doSettingsSave]
@[simp] theorem doEyeScanStart_act (s : State) (p voff phase dwell : Nat) : (doEyeScanStart s p voff phase dwell).act = s.act := by
  simp [doEyeScanStart]
@[simp] theorem doEyeScanDone_act (s : State) (p count : Nat) : (doEyeScanDone s p count).act = s.act := by simp [doEyeScanDone]

/-! ### Pushes and commits at a Sender -/

@[simp] theorem State.dropTile_act (s : State) (c p : Nat) : (s.dropTile c p).act = s.act := by simp [State.dropTile]
@[simp] theorem State.dmgCommitted_act (s old : State) : (s.dmgCommitted old).act = s.act := by simp [State.dmgCommitted]
@[simp] theorem State.sweep_act (s : State) (c : Nat) : (s.sweep c).act = s.act := by simp [State.sweep]
@[simp] theorem State.takePush_act (s : State) (c : Nat) (e : PushEntry) : (s.takePush c e).act = s.act := by simp [State.takePush]
@[simp] theorem doPushSend_act (s : State) (c : Nat) : (doPushSend s c).act = s.act := by
  unfold doPushSend; dsimp only; (repeat' split) <;> simp
@[simp] theorem State.judgeCatchup_act (s : State) (c p : Nat) : (s.judgeCatchup c p).act = s.act := by simp [State.judgeCatchup]
@[simp] theorem State.countSkip_act (s : State) (c p gen : Nat) : (s.countSkip c p gen).act = s.act := by simp [State.countSkip]
@[simp] theorem State.closeChain_act (s : State) (c g : Nat) : (s.closeChain c g).act = s.act := by simp [State.closeChain]
@[simp] theorem State.decidePrepare_act (s : State) : s.decidePrepare.act = s.act := by unfold State.decidePrepare; split <;> simp
@[simp] theorem State.nextWindow_act (s : State) (g : Nat) : (s.nextWindow g).act = s.act := by simp [State.nextWindow]
@[simp] theorem doCommitSend_act (s : State) : (doCommitSend s).act = s.act := by simp [doCommitSend]
@[simp] theorem State.judgeAlone_act (s : State) (c p : Nat) : (s.judgeAlone c p).act = s.act := by simp [State.judgeAlone]
@[simp] theorem State.countGeneration_act (s : State) (c p gen : Nat) (shown complete : Bool) :
    (s.countGeneration c p gen shown complete).act = s.act := by
  simp [State.countGeneration]
@[simp] theorem State.settleSet_act (s : State) (c p gen : Nat) (miss : Bool) : (s.settleSet c p gen miss).act = s.act := by
  simp [State.settleSet]
@[simp] theorem State.judgeGeometry_act (s : State) (c p w h : Nat) : (s.judgeGeometry c p w h).act = s.act := by
  simp [State.judgeGeometry]
@[simp] theorem State.reachTile_act (s : State) (c p : Nat) : (s.reachTile c p).act = s.act := by simp [State.reachTile]
@[simp] theorem State.takeCommitReport_act (s : State) (body : Bytes) : (s.takeCommitReport body).act = s.act := by
  simp [State.takeCommitReport]
@[simp] theorem doCommitReportReceive_act (s : State) (p : Nat) (a : Arrival) : (doCommitReportReceive s p a).act = s.act := by
  simp [doCommitReportReceive]
@[simp] theorem State.reportMissing_act (s : State) (c p gen : Nat) : (s.reportMissing c p gen).act = s.act := by
  simp [State.reportMissing]
@[simp] theorem doReportDeadline_act (s : State) : (doReportDeadline s).act = s.act := by unfold doReportDeadline; split <;> simp
@[simp] theorem State.takeDerateReport_act (s : State) (body : Bytes) : (s.takeDerateReport body).act = s.act := by
  simp [State.takeDerateReport]
@[simp] theorem doDerateReportReceive_act (s : State) (p : Nat) (a : Arrival) : (doDerateReportReceive s p a).act = s.act := by
  simp [doDerateReportReceive]
@[simp] theorem doWallDerate_act (s : State) : (doWallDerate s).act = s.act := by simp [doWallDerate]

/-! ### The Spindle -/

@[simp] theorem State.sendHeart_act (s : State) (p : Nat) : (s.sendHeart p).act = s.act := by simp [State.sendHeart]
@[simp] theorem State.restPort_act (s : State) (p : Nat) : (s.restPort p).act = s.act := by simp [State.restPort]
@[simp] theorem State.endDrill_act (s : State) (result : Nat) : (s.endDrill result).act = s.act := by simp [State.endDrill]
@[simp] theorem State.drillHeart_act (s : State) : s.drillHeart.act = s.act := by unfold State.drillHeart; split <;> simp
@[simp] theorem doHeartSend_act (s : State) : (doHeartSend s).act = s.act := by simp [doHeartSend]
@[simp] theorem State.clearFloors_act (s : State) : s.clearFloors.act = s.act := by simp [State.clearFloors]
@[simp] theorem State.followHeart_act (s : State) (p epoch heard : Nat) : (s.followHeart p epoch heard).act = s.act := by
  simp [State.followHeart]
@[simp] theorem State.takeMaster_act (s : State) (p epoch rank : Nat) : (s.takeMaster p epoch rank).act = s.act := by
  simp [State.takeMaster]
@[simp] theorem doHeartReceive_act (s : State) (p : Nat) (a : Arrival) : (doHeartReceive s p a).act = s.act := by simp [doHeartReceive]
@[simp] theorem doMasterLapse_act (s : State) : (doMasterLapse s).act = s.act := by simp [doMasterLapse]
@[simp] theorem State.wakeAndHeart_act (s : State) (p : Nat) : (s.wakeAndHeart p).act = s.act := by simp [State.wakeAndHeart]
@[simp] theorem State.restartDispatch_act (s : State) : s.restartDispatch.act = s.act := by simp [State.restartDispatch]
@[simp] theorem State.takeSpindle_act (s : State) : s.takeSpindle.act = s.act := by simp [State.takeSpindle]
@[simp] theorem State.giveUp_act (s : State) (epoch : Nat) : (s.giveUp epoch).act = s.act := by
  unfold State.giveUp; dsimp only; split <;> simp
@[simp] theorem State.leaveSplit_act (s : State) (p : Nat) : (s.leaveSplit p).act = s.act := by
  unfold State.leaveSplit; dsimp only; (repeat' split) <;> simp
@[simp] theorem State.dropQuery_act (s : State) (p : Nat) : (s.dropQuery p).act = s.act := by simp [State.dropQuery]
@[simp] theorem State.takePartnerHeart_act (s : State) (p : Nat) (pkt : Packet) : (s.takePartnerHeart p pkt).act = s.act := by
  simp [State.takePartnerHeart]
@[simp] theorem State.learnHeart_act (s : State) (pkt : Packet) : (s.learnHeart pkt).act = s.act := by simp [State.learnHeart]
@[simp] theorem doPartnerHeartReceive_act (s : State) (p : Nat) (a : Arrival) : (doPartnerHeartReceive s p a).act = s.act := by
  simp [doPartnerHeartReceive]
@[simp] theorem State.askTiles_act (s : State) (p : Nat) : (s.askTiles p).act = s.act := by unfold State.askTiles; split <;> simp
@[simp] theorem doHeartbeatLoss_act (s : State) (p : Nat) : (doHeartbeatLoss s p).act = s.act := by simp [doHeartbeatLoss]
@[simp] theorem State.sendAnswer_act (s : State) (p : Nat) : (s.sendAnswer p).act = s.act := by unfold State.sendAnswer; split <;> simp
@[simp] theorem State.afterWake_act (s old : State) (p : Nat) : (s.afterWake old p).act = s.act := by simp [State.afterWake]
@[simp] theorem State.queryAnswer_act (s : State) (id value : Nat) : (s.queryAnswer id value).act = s.act := by
  unfold State.queryAnswer; dsimp only; split <;> simp
@[simp] theorem State.enterSplit_act (s : State) (p : Nat) (tiles : List Nat) : (s.enterSplit p tiles).act = s.act := by
  simp [State.enterSplit]
@[simp] theorem State.settleQuery_act (s : State) (p : Nat) : (s.settleQuery p).act = s.act := by unfold State.settleQuery; split <;> simp
@[simp] theorem doQueryComplete_act (s : State) (p : Nat) : (doQueryComplete s p).act = s.act := by unfold doQueryComplete; split <;> simp
@[simp] theorem State.takeYield_act (s : State) (pkt : Packet) : (s.takeYield pkt).act = s.act := by simp [State.takeYield]
@[simp] theorem doYieldReceive_act (s : State) (p : Nat) (a : Arrival) : (doYieldReceive s p a).act = s.act := by simp [doYieldReceive]
@[simp] theorem doYieldTimeout_act (s : State) : (doYieldTimeout s).act = s.act := by unfold doYieldTimeout; split <;> simp
@[simp] theorem State.learnOffset_act (s : State) (body : Bytes) : (s.learnOffset body).act = s.act := by
  unfold State.learnOffset; dsimp only; split <;> simp
@[simp] theorem doGenOffsetSync_act (s : State) (p : Nat) (a : Arrival) : (doGenOffsetSync s p a).act = s.act := by simp [doGenOffsetSync]
@[simp] theorem State.shadowEntry_act (s : State) (x : PieceRec) (own theirs : Nat) : (s.shadowEntry x own theirs).act = s.act := by
  simp [State.shadowEntry]

@[simp] theorem doShadowCompare_act (s : State) (p : Nat) (a : Arrival) : (doShadowCompare s p a).act = s.act := by
  refine State.onPacket_act s _ _ _ _ fun _ t => ⟨?_⟩
  dsimp only
  split
  · rfl
  · split
    · rfl
    · refine State.forAll_act t _ _ fun e u => ⟨?_⟩
      dsimp only
      split
      · rfl
      · split <;> simp

@[simp] theorem State.orderDrill_act (s : State) (out : Nat) : (s.orderDrill out).act = s.act := by simp [State.orderDrill]
@[simp] theorem doSpnDrillOut_act (s : State) (out : Nat) : (doSpnDrillOut s out).act = s.act := by simp [doSpnDrillOut]
@[simp] theorem doDrillYield_act (s : State) : (doDrillYield s).act = s.act := by unfold doDrillYield; split <;> simp -implicitDefEqProofs
@[simp] theorem doDrillRelease_act (s : State) : (doDrillRelease s).act = s.act := by unfold doDrillRelease; (repeat' split) <;> simp
@[simp] theorem State.returnDrill_act (s : State) : s.returnDrill.act = s.act := by simp [State.returnDrill]
@[simp] theorem doDrillTake_act (s : State) : (doDrillTake s).act = s.act := by unfold doDrillTake; split <;> simp
@[simp] theorem doWatchdogKick_act (s : State) (key : Nat) : (doWatchdogKick s key).act = s.act := by simp [doWatchdogKick]
@[simp] theorem doVerdict_act (s : State) (code : Nat) : (doVerdict s code).act = s.act := by simp [doVerdict]

/-! ### Pushes and commits at a Tile -/

@[simp] theorem State.clearExpiry_act (s : State) : s.clearExpiry.act = s.act := by simp [State.clearExpiry]
@[simp] theorem State.clearStore_act (s : State) : s.clearStore.act = s.act := by simp [State.clearStore]
@[simp] theorem State.tfsCommitted_act (s old : State) : (s.tfsCommitted old).act = s.act := by simp [State.tfsCommitted]
@[simp] theorem State.noteShow_act (s : State) (show_ : Nat) : (s.noteShow show_).act = s.act := by simp [State.noteShow]
@[simp] theorem State.copyCell_act (s : State) (b c : Nat) : (s.copyCell b c).act = s.act := by simp [State.copyCell]
@[simp] theorem State.copyPending_act (s : State) (b c : Nat) : (s.copyPending b c).act = s.act := by simp [State.copyPending]
@[simp] theorem doCellCopy_act (s : State) (b col row : Nat) : (doCellCopy s b col row).act = s.act := by simp [doCellCopy]
@[simp] theorem State.finishCopies_act (s : State) : s.finishCopies.act = s.act := by simp [State.finishCopies]
@[simp] theorem State.countPush_act (s : State) (epoch gen : Nat) (ok : Bool) : (s.countPush epoch gen ok).act = s.act := by
  simp [State.countPush]
@[simp] theorem State.adoptPhase_act (s : State) (cx cy : Nat) : (s.adoptPhase cx cy).act = s.act := by simp [State.adoptPhase]
@[simp] theorem State.touchCell_act (s : State) (c : Nat) : (s.touchCell c).act = s.act := by simp [State.touchCell]
@[simp] theorem State.writeBlock_act (s : State) (x0 y0 : Int) (ps : List Pixel) : (s.writeBlock x0 y0 ps).act = s.act := by
  unfold State.writeBlock; dsimp only; split <;> simp
@[simp] theorem State.takePushPacket_act (s : State) (epoch : Nat) (body : Bytes) : (s.takePushPacket epoch body).act = s.act := by
  unfold State.takePushPacket; dsimp only; split <;> simp
@[simp] theorem doPushReceive_act (s : State) (p : Nat) (a : Arrival) : (doPushReceive s p a).act = s.act := by simp [doPushReceive]
@[simp] theorem State.bindBack_act (s : State) (gen show_ : Nat) (late waits : Bool) : (s.bindBack gen show_ late waits).act = s.act := by
  simp [State.bindBack]
@[simp] theorem State.unbind_act (s : State) : s.unbind.act = s.act := by simp [State.unbind]
@[simp] theorem State.acceptCommit_act (s : State) (p epoch gen phase : Nat) : (s.acceptCommit p epoch gen phase).act = s.act := by
  unfold State.acceptCommit; split <;> simp

@[simp] theorem State.onCommit_act (s : State) (p : Nat) (a : Arrival) (phase : Nat) (act : State → State) (h : KeepsActive act) :
    (s.onCommit p a phase act).act = s.act := by
  unfold State.onCommit
  refine State.onPacket_act s _ _ _ _ fun _ t => ⟨?_⟩
  dsimp only
  split
  · exact (h _).active.trans (by simp)
  · rfl

@[simp] theorem State.judgeCommit_act (s old : State) (p epoch : Nat) (body : Bytes) (asCommit : Bool) :
    (s.judgeCommit old p epoch body asCommit).act = s.act := by
  simp [State.judgeCommit]
@[simp] theorem doCommitReceive_act (s : State) (p : Nat) (a : Arrival) : (doCommitReceive s p a).act = s.act := by simp [doCommitReceive]
@[simp] theorem doPrepareReceive_act (s : State) (p : Nat) (a : Arrival) : (doPrepareReceive s p a).act = s.act := by
  simp [doPrepareReceive]
@[simp] theorem State.updNext_act (s : State) (f : NextBind → Option NextBind) : (s.updNext f).act = s.act := by simp [State.updNext]
@[simp] theorem doGoReceive_act (s : State) (p : Nat) (a : Arrival) : (doGoReceive s p a).act = s.act := by simp [doGoReceive]
@[simp] theorem doAbortReceive_act (s : State) (p : Nat) (a : Arrival) : (doAbortReceive s p a).act = s.act := by simp [doAbortReceive]
@[simp] theorem doGoTimeout_act (s : State) : (doGoTimeout s).act = s.act := by simp [doGoTimeout]
@[simp] theorem State.promoteNext_act (s : State) : s.promoteNext.act = s.act := by unfold State.promoteNext; split <;> simp
@[simp] theorem State.swapBuffers_act (s : State) : s.swapBuffers.act = s.act := by simp [State.swapBuffers]
@[simp] theorem State.feedBuffers_act (s : State) (S : Nat) : (s.feedBuffers S).act = s.act := by simp [State.feedBuffers]

/-! ### Guard tables and the Tile's hallmarks -/

@[simp] theorem State.applyGuard_act (s : State) (body : Bytes) : (s.applyGuard body).act = s.act := by simp [State.applyGuard]
@[simp] theorem State.keepHolderGuard_act (s : State) (addr : Nat) (body : Bytes) : (s.keepHolderGuard addr body).act = s.act := by
  simp [State.keepHolderGuard]
@[simp] theorem doGuardReceive_act (s : State) (p : Nat) (a : Arrival) : (doGuardReceive s p a).act = s.act := by simp [doGuardReceive]
@[simp] theorem State.takeStale_act (s : State) (epoch : Nat) (body : Bytes) : (s.takeStale epoch body).act = s.act := by
  simp [State.takeStale]
@[simp] theorem doStaleReceive_act (s : State) (p : Nat) (a : Arrival) : (doStaleReceive s p a).act = s.act := by simp [doStaleReceive]
@[simp] theorem doTileHallmark_act (s : State) (bad : List Nat) : (doTileHallmark s bad).act = s.act := by simp [doTileHallmark]
@[simp] theorem doReaffirmReceive_act (s : State) (p : Nat) (a : Arrival) : (doReaffirmReceive s p a).act = s.act := by
  simp [doReaffirmReceive]
@[simp] theorem State.judgeEntry_act (s : State) (h : HeldAffirm) (shown : Nat) (own : List Nat) (e : Nat × Nat) :
    (s.judgeEntry h shown own e).act = s.act := by
  unfold State.judgeEntry; split <;> simp
@[simp] theorem State.judgeHeld_act (s : State) (h : HeldAffirm) : (s.judgeHeld h).act = s.act := by
  unfold State.judgeHeld; dsimp only; split <;> simp
@[simp] theorem doReaffirmEvaluate_act (s : State) : (doReaffirmEvaluate s).act = s.act := by simp [doReaffirmEvaluate]
@[simp] theorem doCountStep_act (s : State) : (doCountStep s).act = s.act := by unfold doCountStep; split <;> simp

/-! ### Lamp correction -/

@[simp] theorem State.setTargets_act (s : State) : s.setTargets.act = s.act := by simp [State.setTargets]
@[simp] theorem State.settleZones_act (s : State) : s.settleZones.act = s.act := by simp [State.settleZones]
@[simp] theorem State.lmpCommitted_act (s old : State) : (s.lmpCommitted old).act = s.act := by simp [State.lmpCommitted]
@[simp] theorem State.slewZones_act (s : State) : s.slewZones.act = s.act := by simp [State.slewZones]
@[simp] theorem State.readSensor_act (s : State) (i : Nat) (r : Option (BitVec 16)) : (s.readSensor i r).act = s.act := by
  unfold State.readSensor; split <;> simp
@[simp] theorem State.scanZone_act (s : State) (z : Nat) : (s.scanZone z).act = s.act := by unfold State.scanZone; split <;> simp
@[simp] theorem State.scanZones_act (s : State) : s.scanZones.act = s.act := by simp [State.scanZones]
@[simp] theorem State.scanSensors_act (s : State) (readings : List (Option (BitVec 16))) : (s.scanSensors readings).act = s.act := by
  simp [State.scanSensors]
@[simp] theorem doSensorScan_act (s : State) (readings : List (Option (BitVec 16))) : (doSensorScan s readings).act = s.act := by
  simp [doSensorScan]
@[simp] theorem State.noteBadLines_act (s : State) (bad : List Nat) : (s.noteBadLines bad).act = s.act := by simp [State.noteBadLines]
@[simp] theorem State.slewDerate_act (s : State) : s.slewDerate.act = s.act := by simp [State.slewDerate]
@[simp] theorem doDerateReportSend_act (s : State) : (doDerateReportSend s).act = s.act := by simp [doDerateReportSend]
@[simp] theorem doWallminReceive_act (s : State) (p : Nat) (a : Arrival) : (doWallminReceive s p a).act = s.act := by
  simp [doWallminReceive]

/-! ### Trims and current references -/

@[simp] theorem State.showTrims_act (s : State) : s.showTrims.act = s.act := by simp [State.showTrims]
@[simp] theorem State.settleCref_act (s : State) : s.settleCref.act = s.act := by simp [State.settleCref]
@[simp] theorem State.sweepStep_act (s : State) (n : Nat) : (s.sweepStep n).act = s.act := by
  unfold State.sweepStep; (repeat' split) <;> simp
@[simp] theorem State.crefTick_act (s : State) (n : Nat) : (s.crefTick n).act = s.act := by simp [State.crefTick]
@[simp] theorem doCrefSlew_act (s : State) : (doCrefSlew s).act = s.act := by simp [doCrefSlew]
@[simp] theorem State.applyTrims_act (s : State) : s.applyTrims.act = s.act := by simp [State.applyTrims]
@[simp] theorem doTrimUpdate_act (s : State) (raw : BitVec 16) : (doTrimUpdate s raw).act = s.act := by simp [doTrimUpdate]

/-! ### Driver groups -/

@[simp] theorem State.setLamp_act (s : State) (n i st age : Nat) : (s.setLamp n i st age).act = s.act := by simp [State.setLamp]
@[simp] theorem State.showLamps_act (s : State) (n : Nat) : (s.showLamps n).act = s.act := by simp [State.showLamps]
@[simp] theorem State.resetLamps_act (s : State) (n : Nat) : (s.resetLamps n).act = s.act := by simp [State.resetLamps]
@[simp] theorem State.clearLamps_act (s old : State) (n : Nat) : (s.clearLamps old n).act = s.act := by simp [State.clearLamps]
@[simp] theorem State.judgeRefresh_act (s : State) (n : Nat) : (s.judgeRefresh n).act = s.act := by simp [State.judgeRefresh]
@[simp] theorem State.cutSweep_act (s : State) (n : Nat) : (s.cutSweep n).act = s.act := by simp [State.cutSweep]
@[simp] theorem State.drvCommitted_act (s old : State) (n : Nat) : (s.drvCommitted old n).act = s.act := by simp [State.drvCommitted]
@[simp] theorem State.slewKnee_act (s : State) (n : Nat) : (s.slewKnee n).act = s.act := by simp [State.slewKnee]
@[simp] theorem State.keepGain_act (s : State) (n : Nat) : (s.keepGain n).act = s.act := by simp [State.keepGain]
@[simp] theorem State.stageWords_act (s : State) (n : Nat) (words : List Nat) : (s.stageWords n words).act = s.act := by
  simp [State.stageWords]
@[simp] theorem State.startFeed_act (s : State) (bad : List Nat) (n : Nat) : (s.startFeed bad n).act = s.act := by simp [State.startFeed]
@[simp] theorem State.showDark_act (s : State) (n : Nat) : (s.showDark n).act = s.act := by simp [State.showDark]
@[simp] theorem State.abortFeed_act (s : State) (n row : Nat) (cnt : Fld) : (s.abortFeed n row cnt).act = s.act := by
  simp [State.abortFeed]
@[simp] theorem doUnderrun_act (s : State) (n row : Nat) : (doUnderrun s n row).act = s.act := by simp [doUnderrun]
@[simp] theorem doLateFeed_act (s : State) (n : Nat) : (doLateFeed s n).act = s.act := by simp [doLateFeed]
@[simp] theorem State.withholdSwap_act (s : State) (n : Nat) : (s.withholdSwap n).act = s.act := by simp [State.withholdSwap]
@[simp] theorem State.swapBank_act (s : State) (n : Nat) : (s.swapBank n).act = s.act := by simp [State.swapBank]
@[simp] theorem doBankSwap_act (s : State) (n : Nat) : (doBankSwap s n).act = s.act := by simp [doBankSwap]
@[simp] theorem doGainTransfer_act (s : State) (n : Nat) : (doGainTransfer s n).act = s.act := by simp [doGainTransfer]
@[simp] theorem doRefreshCycle_act (s : State) (n : Nat) : (doRefreshCycle s n).act = s.act := by simp [doRefreshCycle]
@[simp] theorem State.readLamp_act (s : State) (n : Nat) (ret : List (List Bool)) (k d ch r : Nat) (counts : Bool) :
    (s.readLamp n ret k d ch r counts).act = s.act := by
  simp [State.readLamp]
@[simp] theorem State.readRow_act (s : State) (n : Nat) (ret : List (List Bool)) (r : Nat) (counts : Nat → Bool) :
    (s.readRow n ret r counts).act = s.act := by
  simp [State.readRow]
@[simp] theorem State.skipRead_act (s : State) (n : Nat) : (s.skipRead n).act = s.act := by simp [State.skipRead]
@[simp] theorem doLampRead_act (s : State) (n : Nat) (ret : List (List Bool)) : (doLampRead s n ret).act = s.act := by simp [doLampRead]
@[simp] theorem doLampProbe_act (s : State) (n : Nat) (ret : List (List Bool)) : (doLampProbe s n ret).act = s.act := by
  unfold doLampProbe; split <;> simp

/-! ### Assay runs -/

@[simp] theorem State.useRecord_act (s : State) (r : Option AsyRecord) : (s.useRecord r).act = s.act := by simp [State.useRecord]
@[simp] theorem State.endRun_act (s : State) (reason : Nat) : (s.endRun reason).act = s.act := by simp [State.endRun]
@[simp] theorem doAsyRunStart_act (s : State) (sweep : Nat) (tsEn : Bool) (refTemp : Nat) :
    (doAsyRunStart s sweep tsEn refTemp).act = s.act := by
  simp [doAsyRunStart]
@[simp] theorem doAsyRunAbort_act (s : State) : (doAsyRunAbort s).act = s.act := by simp [doAsyRunAbort]
@[simp] theorem State.endA1_act (s : State) (r : AsyRun) : (s.endA1 r).act = s.act := by unfold State.endA1; (repeat' split) <;> simp
@[simp] theorem State.endA3_act (s : State) (total : Int) : (s.endA3 total).act = s.act := by simp [State.endA3]
@[simp] theorem State.afterConverter_act (s : State) : s.afterConverter.act = s.act := by simp [State.afterConverter]
@[simp] theorem State.endA4_act (s : State) (r : AsyRun) (total : Int) : (s.endA4 r total).act = s.act := by simp [State.endA4]
@[simp] theorem State.endA5_act (s : State) (r : AsyRun) (total : Int) : (s.endA5 r total).act = s.act := by simp [State.endA5]
@[simp] theorem State.endA6_act (s : State) (r : AsyRun) (m : AsyMeasure) : (s.endA6 r m).act = s.act := by simp [State.endA6]
@[simp] theorem State.endA7_act (s : State) (duty : List (BitVec 10)) : (s.endA7 duty).act = s.act := by simp [State.endA7]
@[simp] theorem State.endA8_act (s : State) (r : AsyRun) : (s.endA8 r).act = s.act := by unfold State.endA8; split <;> simp
@[simp] theorem State.endA9_act (s : State) (flashOk : Bool) : (s.endA9 flashOk).act = s.act := by
  unfold State.endA9; dsimp only; (repeat' split) <;> simp
@[simp] theorem doAssayStepEnd_act (s : State) (m : AsyMeasure) : (doAssayStepEnd s m).act = s.act := by
  unfold doAssayStepEnd; (repeat' split) <;> simp

/-! ### Feed starts -/

@[simp] theorem State.feedPieces_act (s : State) (S : Nat) : (s.feedPieces S).act = s.act := by simp [State.feedPieces]
@[simp] theorem State.feedDark_act (s : State) : s.feedDark.act = s.act := by simp [State.feedDark]
@[simp] theorem State.reportGuard_act (s : State) : s.reportGuard.act = s.act := by simp [State.reportGuard]
@[simp] theorem State.feedFactors_act (s : State) : s.feedFactors.act = s.act := by simp [State.feedFactors]
@[simp] theorem State.feedFrame_act (s : State) (S : Nat) (bad : List Nat) : (s.feedFrame S bad).act = s.act := by simp [State.feedFrame]
@[simp] theorem doFeedStart_act (s : State) (bad : List Nat) : (doFeedStart s bad).act = s.act := by simp [doFeedStart]
@[simp] theorem State.glassPort_act (s : State) (n k : Nat) (equal : Bool) : (s.glassPort n k equal).act = s.act := by
  simp [State.glassPort]
@[simp] theorem doGlassCompare_act (s : State) (n : Nat) (ret : List (List Bool)) : (doGlassCompare s n ret).act = s.act := by
  simp [doGlassCompare]

/-! ### Tally units -/

@[simp] theorem State.initUnit_act (s : State) (c u : Nat) (restarted : Bool) : (s.initUnit c u restarted).act = s.act := by
  simp [State.initUnit]
@[simp] theorem State.feedUnit_act (s : State) (c u : Nat) (bs : Bytes) : (s.feedUnit c u bs).act = s.act := by simp [State.feedUnit]
@[simp] theorem doTlyUData1_act (s : State) (c u v : Nat) : (doTlyUData1 s c u v).act = s.act := by simp [doTlyUData1]
@[simp] theorem doTlyUData2_act (s : State) (c u v : Nat) : (doTlyUData2 s c u v).act = s.act := by simp [doTlyUData2]
@[simp] theorem doTlyUData4_act (s : State) (c u v : Nat) : (doTlyUData4 s c u v).act = s.act := by simp [doTlyUData4]
@[simp] theorem doTlyUInit_act (s : State) (c u : Nat) : (doTlyUInit s c u).act = s.act := by simp [doTlyUInit]
@[simp] theorem State.scanReport_act (s : State) (e : Nat) (stat irq : Fld) : (s.scanReport e stat irq).act = s.act := by
  simp [State.scanReport]
@[simp] theorem State.endScan_act (s : State) (e : Nat) : (s.endScan e).act = s.act := by simp [State.endScan]
@[simp] theorem State.stopScan_act (s : State) (e line : Nat) (ue : Bool) : (s.stopScan e line ue).act = s.act := by simp [State.stopScan]
@[simp] theorem doTlyMsStart_act (s : State) (e profile : Nat) (again abort : Bool) :
    (doTlyMsStart s e profile again abort).act = s.act := by
  simp [doTlyMsStart]
@[simp] theorem doTlyMsAbort_act (s : State) (e profile : Nat) (again : Bool) : (doTlyMsAbort s e profile again).act = s.act := by
  simp [doTlyMsAbort]
@[simp] theorem doScanPassEnd_act (s : State) (e : Nat) : (doScanPassEnd s e).act = s.act := by
  unfold doScanPassEnd; (repeat' split) <;> simp
@[simp] theorem doScanStop_act (s : State) (e line : Nat) (ue : Bool) : (doScanStop s e line ue).act = s.act := by
  unfold doScanStop; split <;> simp

/-! ### Commit groups and presets -/

@[simp] theorem State.passGroup_act (s : State) (g : Nat) (late refused : Bool) : (s.passGroup g late refused).act = s.act := by
  simp [State.passGroup]
@[simp] theorem State.startActive_act (s : State) (g : Nat) : (s.startActive g).act = s.act := by simp [State.startActive]
@[simp] theorem State.noteCode_act (s : State) (f : Fld) (code : Nat) : (s.noteCode f code).act = s.act := by simp [State.noteCode]
@[simp] theorem State.store_act (s : State) (a : Nat) (v : Word) : (s.store a v).act = s.act := by unfold State.store; split <;> simp
@[simp] theorem State.storeAll_act (s : State) (es : List (Nat × Word)) : (s.storeAll es).act = s.act := by simp [State.storeAll]

/-! ### The SRAM banks -/

@[simp] theorem State.sramPiece_act (s : State) (b : Nat) (a : SramAccess) : (s.sramPiece b a).1.act = s.act := by
  unfold State.sramPiece; split <;> simp

@[simp] theorem sramCycles_act (b n : Nat) (stalled : Bool) (own : List SramAccess) (shr : List (Nat × SramAccess)) (r : State × Bytes × Tab Bytes) :
    (sramCycles b n stalled own shr r).1.act = r.1.act := by
  induction n generalizing stalled own shr r with
  | zero => rfl
  | succ n ih =>
    unfold sramCycles
    dsimp only
    split
    · rfl
    · simp [ih]
    · simp [ih]
    · split
      · simp [ih]
      · split <;> simp [ih]

@[simp] theorem State.refuseCycle_act (s : State) (c : SramCycle) : (s.refuseCycle c).act = s.act := by simp [State.refuseCycle]
@[simp] theorem State.sramCycle_act (s : State) (b : Nat) (c : SramCycle) : (s.sramCycle b c).act = s.act := by simp [State.sramCycle]
@[simp] theorem doSrbPwrMode_act (s : State) (b mode : Nat) : (doSrbPwrMode s b mode).act = s.act := by simp [doSrbPwrMode]
@[simp] theorem doBankWakeDone_act (s : State) (b : Nat) : (doBankWakeDone s b).act = s.act := by simp [doBankWakeDone]
@[simp] theorem doTestWindowStart_act (s : State) : (doTestWindowStart s).act = s.act := by
  unfold doTestWindowStart; (repeat' split) <;> simp
@[simp] theorem State.restoreWindow_act (s : State) : s.restoreWindow.act = s.act := by simp [State.restoreWindow]
@[simp] theorem doTestYield_act (s : State) (b : Nat) (c : SramCycle) : (doTestYield s b c).act = s.act := by simp [doTestYield]
@[simp] theorem State.advanceTest_act (s : State) : s.advanceTest.act = s.act := by
  unfold State.advanceTest; dsimp only; (repeat' split) <;> simp
@[simp] theorem State.testFailure_act (s : State) : s.testFailure.act = s.act := by simp [State.testFailure]
@[simp] theorem doTestWindowEnd_act (s : State) (failed : Bool) : (doTestWindowEnd s failed).act = s.act := by simp [doTestWindowEnd]

/-! ### Porter -/

@[simp] theorem State.porterState_act (s : State) (n : Nat) : (s.porterState n).act = s.act := by simp [State.porterState]
@[simp] theorem State.porterResult_act (s : State) (n : Nat) : (s.porterResult n).act = s.act := by simp [State.porterResult]
@[simp] theorem State.closeTransfer_act (s : State) : s.closeTransfer.act = s.act := by simp [State.closeTransfer]
@[simp] theorem State.showTrial_act (s : State) : s.showTrial.act = s.act := by simp [State.showTrial]
@[simp] theorem State.showBlocks_act (s : State) (t : Transfer) : (s.showBlocks t).act = s.act := by simp [State.showBlocks]
@[simp] theorem State.beginTransfer_act (s : State) (t : Transfer) : (s.beginTransfer t).act = s.act := by
  unfold State.beginTransfer; split <;> simp
@[simp] theorem State.takeBlock_act (s : State) (transfer index bytes crc : Nat) (data : Bytes) :
    (s.takeBlock transfer index bytes crc data).act = s.act := by
  unfold State.takeBlock; (repeat' split) <;> simp

@[simp] theorem State.takeBlocks_act (s : State) (n : Nat) (l : Bytes) : (s.takeBlocks n l).act = s.act := by
  induction n generalizing s l with
  | zero => rfl
  | succ n ih => unfold State.takeBlocks; split <;> simp [ih]

@[simp] theorem State.data_act (s : State) (l : Bytes) : (s.data l).act = s.act := by simp [State.data]
@[simp] theorem State.eraseImage_act (s : State) (off : Nat) : (s.eraseImage off).act = s.act := by simp [State.eraseImage]
@[simp] theorem State.journalIdle_act (s : State) (result : Nat) : (s.journalIdle result).act = s.act := by simp [State.journalIdle]
@[simp] theorem State.confirmImage_act (s : State) : s.confirmImage.act = s.act := by
  unfold State.confirmImage; dsimp only; (repeat' split) <;> simp -implicitDefEqProofs

@[simp] theorem State.beginActivation_act (s : State) : s.beginActivation.act = s.act := by simp [State.beginActivation]

@[simp] theorem doTransferComplete_act (s : State) : (doTransferComplete s).act = s.act := by unfold doTransferComplete; split <;> simp
@[simp] theorem doActivation_act (s : State) : (doActivation s).act = s.act := by unfold doActivation; split <;> simp
@[simp] theorem State.activate_act (s : State) (t : Transfer) (at_ : Nat) : (s.activate t at_).act = s.act := by simp [State.activate]
@[simp] theorem doChtConfirm_act (s : State) (key : Nat) : (doChtConfirm s key).act = s.act := by simp [doChtConfirm]
@[simp] theorem doMgmtBlock_act (s : State) (p : Nat) (a : Arrival) : (doMgmtBlock s p a).act = s.act := by simp [doMgmtBlock]

/-! ### The log -/

@[simp] theorem State.overwrite_act (s : State) (i : Nat) : (s.overwrite i).act = s.act := by simp [State.overwrite]
@[simp] theorem State.logRecord_act (s : State) (r : EventRec) : (s.logRecord r).act = s.act := by simp [State.logRecord]
@[simp] theorem doLogWrite_act (s : State) : (doLogWrite s).act = s.act := by unfold doLogWrite; (repeat' split) <;> simp
@[simp] theorem State.catchUp_act (s : State) (cur lost : Fld) (index first : Nat) : (s.catchUp cur lost index first).act = s.act := by
  simp [State.catchUp]
@[simp] theorem State.catchUpFw_act (s : State) : s.catchUpFw.act = s.act := by simp [State.catchUpFw]
@[simp] theorem State.catchUpPort_act (s : State) : s.catchUpPort.act = s.act := by simp [State.catchUpPort]
@[simp] theorem State.catchUpRemote_act (s : State) : s.catchUpRemote.act = s.act := by simp [State.catchUpRemote]
@[simp] theorem doEventForward_act (s : State) : (doEventForward s).act = s.act := by unfold doEventForward; dsimp only; split <;> simp
@[simp] theorem State.logRemote_act (s : State) (r : RemoteRec) : (s.logRemote r).act = s.act := by simp [State.logRemote]

@[simp] theorem doEventForwardReceive_act (s : State) (p : Nat) (a : Arrival) : (doEventForwardReceive s p a).act = s.act := by
  refine State.onPacket_act s _ _ _ _ fun _ t => ⟨?_⟩
  dsimp only
  split
  · rfl
  · exact State.onForm_act t _ _ _ _ _ fun u => ⟨by split <;> simp⟩

/-! ### Register accesses -/

@[simp] theorem State.clearRc_act (s : State) (a : Nat) : (s.clearRc a).act = s.act := by unfold State.clearRc; split <;> simp
@[simp] theorem State.latchFw_act (s : State) (a : Nat) : (s.latchFw a).act = s.act := by unfold State.latchFw; split <;> simp
@[simp] theorem doRegisterRead_act (s : State) (a size : Nat) : (doRegisterRead s a size).act = s.act := by simp [doRegisterRead]

/-! ### Commands of the Counter port -/

@[simp] theorem State.setCmd_act (s : State) (cmd result : Nat) : (s.setCmd cmd result).act = s.act := by simp [State.setCmd]
@[simp] theorem State.gate_act (s : State) (cmd : Nat) (act : State → State) (h : KeepsActive act) :
    (s.gate cmd act).act = s.act := by simp [State.gate, (h _).active]
@[simp] theorem doDrill_act (s : State) (out back : Nat) : (doDrill s out back).act = s.act := by simp [doDrill]
@[simp] theorem doAssay_act (s : State) (refUv refTemp sweep : Nat) (tsEn abort : Bool) :
    (doAssay s refUv refTemp sweep tsEn abort).act = s.act := by
  simp [doAssay]
@[simp] theorem doBegin_act (s : State) (x : Transfer) : (doBegin s x).act = s.act := by simp [doBegin]
@[simp] theorem doData_act (s : State) (blocks : Bytes) : (doData s blocks).act = s.act := by simp [doData]
@[simp] theorem doActivate_act (s : State) (transfer at_ : Nat) : (doActivate s transfer at_).act = s.act := by
  refine State.gate_act s _ _ fun t => ⟨?_⟩
  split <;> simp
@[simp] theorem doAbort_act (s : State) (transfer : Nat) : (doAbort s transfer).act = s.act := by
  refine State.gate_act s _ _ fun t => ⟨?_⟩
  split <;> simp
@[simp] theorem doConfirm_act (s : State) (transfer : Nat) : (doConfirm s transfer).act = s.act := by simp [doConfirm]
@[simp] theorem State.sendMgmt_act (s : State) (addr : Nat) (body : Bytes) : (s.sendMgmt addr body).act = s.act := by
  simp [State.sendMgmt]
@[simp] theorem doRelay_act (s : State) (addr : Nat) (inner : Bytes) : (doRelay s addr inner).act = s.act := by simp [doRelay]
@[simp] theorem doRelayData_act (s : State) (addr : Nat) (blocks : Bytes) : (doRelayData s addr blocks).act = s.act := by
  simp [doRelayData]

/-! ### Transactions of the Counter port -/

@[simp] theorem State.afterDummy_act (s : State) (bs : Bytes) : (s.afterDummy bs).act = s.act := by simp [State.afterDummy]
@[simp] theorem State.latchPort_act (s : State) (a : Nat) : (s.latchPort a).act = s.act := by unfold State.latchPort; split <;> simp

@[simp] theorem State.portRead_act (s : State) (a n : Nat) : (s.portRead a n).1.act = s.act := by
  induction n generalizing s a with
  | zero => rfl
  | succ n ih => simp [State.portRead, ih]

@[simp] theorem doEnvelope_act (s : State) (bs : Bytes) : (doEnvelope s bs).act = s.act := by simp [doEnvelope]
@[simp] theorem doRead_act (s : State) (a n : Nat) (late : List Nat) : (doRead s a n late).act = s.act := by simp [doRead]
@[simp] theorem doStatus_act (s : State) : (doStatus s).act = s.act := by simp [doStatus]
@[simp] theorem doEvent_act (s : State) (remote : Bool) (n : Nat) : (doEvent s remote n).act = s.act := by
  simp -implicitDefEqProofs [doEvent]
@[simp] theorem doDump_act (s : State) (flash : Bool) (o n : Nat) : (doDump s flash o n).act = s.act := by simp [doDump]
@[simp] theorem State.setRemote_act (s : State) (busy result count addr : Nat) : (s.setRemote busy result count addr).act = s.act := by
  simp [State.setRemote]
@[simp] theorem doRemote_act (s : State) (addr reg count : Nat) : (doRemote s addr reg count).act = s.act := by simp [doRemote]
@[simp] theorem State.takeResponse_act (s : State) (p : Nat) (b : Bytes) : (s.takeResponse p b).act = s.act := by
  unfold State.takeResponse; split <;> simp
@[simp] theorem doRemoteResponse_act (s : State) (p : Nat) (a : Arrival) : (doRemoteResponse s p a).act = s.act := by
  simp [doRemoteResponse]
@[simp] theorem doRemoteTimeout_act (s : State) : (doRemoteTimeout s).act = s.act := by unfold doRemoteTimeout; split <;> simp
@[simp] theorem State.answerRead_act (s : State) (p : Nat) (b : Bytes) : (s.answerRead p b).act = s.act := by simp [State.answerRead]
@[simp] theorem doRegisterReadRequest_act (s : State) (p : Nat) (a : Arrival) : (doRegisterReadRequest s p a).act = s.act := by
  simp [doRegisterReadRequest]

/-! ### Enrolment -/

@[simp] theorem doTrngFail_act (s : State) : (doTrngFail s).act = s.act := by simp [doTrngFail]
@[simp] theorem State.enrolFailed_act (s : State) (reason : Nat) : (s.enrolFailed reason).act = s.act := by simp [State.enrolFailed]
@[simp] theorem State.offer_act (s : State) (p : Nat) : (s.offer p).act = s.act := by simp [State.offer]
@[simp] theorem doEnrolOffer_act (s : State) (p : Nat) : (doEnrolOffer s p).act = s.act := by simp [doEnrolOffer]
@[simp] theorem State.relay_act (s : State) (p : Nat) (body : Bytes) : (s.relay p body).act = s.act := by simp [State.relay]
@[simp] theorem State.relayOffer_act (s : State) (p : Nat) (body : Bytes) : (s.relayOffer p body).act = s.act := by
  simp [State.relayOffer]
@[simp] theorem State.answer_act (s : State) (p : Nat) (body : Bytes) : (s.answer p body).act = s.act := by simp [State.answer]

@[simp] theorem doEnrolOfferReceive_act (s : State) (p : Nat) (a : Arrival) : (doEnrolOfferReceive s p a).act = s.act := by
  refine State.onPacket_act s _ _ _ _ fun _ t => ⟨?_⟩
  dsimp only
  split
  · rfl
  · split
    · simp
    · split
      · rfl
      · split <;> simp

@[simp] theorem State.takeAnswer_act (s : State) (p : Nat) (r : OfferRec) (body : Bytes) : (s.takeAnswer p r body).act = s.act := by
  unfold State.takeAnswer; dsimp only; (repeat' split) <;> simp

@[simp] theorem doEnrolAnswerReceive_act (s : State) (p : Nat) (a : Arrival) : (doEnrolAnswerReceive s p a).act = s.act := by
  refine State.onPacket_act s _ _ _ _ fun _ t => ⟨?_⟩
  dsimp only
  split
  · rfl
  · split <;> simp

@[simp] theorem State.resetFloors_act (s : State) (o : Nat) : (s.resetFloors o).act = s.act := by simp [State.resetFloors]
@[simp] theorem State.restAfter_act (s : State) (p : Nat) (woke first : Bool) : (s.restAfter p woke first).act = s.act := by
  simp [State.restAfter]
@[simp] theorem State.install_act (s : State) (wall : BitVec 256) (wid place form : Nat) :
    (s.install wall wid place form).act = s.act := by
  simp [State.install]
@[simp] theorem State.takeGrant_act (s : State) (p : Nat) (r : AnswerRec) (body : Bytes) : (s.takeGrant p r body).act = s.act := by
  unfold State.takeGrant; dsimp only; split <;> simp

@[simp] theorem doEnrolGrantReceive_act (s : State) (p : Nat) (a : Arrival) : (doEnrolGrantReceive s p a).act = s.act := by
  refine State.onPacket_act s _ _ _ _ fun _ t => ⟨?_⟩
  dsimp only
  split
  · rfl
  · split
    · simp
    · split <;> simp

@[simp] theorem State.enrolDone_act (s : State) (p pos : Nat) : (s.enrolDone p pos).act = s.act := by simp [State.enrolDone]

@[simp] theorem doEnrolDoneReceive_act (s : State) (p : Nat) (a : Arrival) : (doEnrolDoneReceive s p a).act = s.act := by
  refine State.onPacket_act s _ _ _ _ fun _ t => ⟨?_⟩
  dsimp only
  split
  · rfl
  · split
    · split <;> simp
    · simp

@[simp] theorem doEnrolTimeout_act (s : State) (p : Nat) : (doEnrolTimeout s p).act = s.act := by
  unfold doEnrolTimeout; dsimp only; (repeat' split) <;> simp

end Sys2Proof.Machine
end

section
/-! SUPPORT. Registers by their entries, what arming a group and selecting a preset change, and which commands may change an active copy (R56 to R58,
R62). -/

namespace Sys2Proof.Machine

/-! ### Registers by their entries -/

/-- Two states with one entry for a field's register read the same in it. -/
theorem State.rd_of_find {s t : State} {f : Fld} (h : Tab.find t.regs f.addr = Tab.find s.regs f.addr) : t.rd f = s.rd f := by
  rw [State.rd, State.word, h, ← State.word, ← State.rd]

theorem State.wordAt_of_find {s t : State} {a : Nat} (h : Tab.find t.regs a = Tab.find s.regs a) : t.wordAt a = s.wordAt a := by
  rw [State.wordAt, h, ← State.wordAt]

theorem State.wr_find (s : State) (f : Fld) (v : Nat) {a : Nat} (h : f.addr ≠ a) : Tab.find (s.wr f v).regs a = Tab.find s.regs a :=
  Tab.find_put_ne _ _ h

theorem State.wr_role (s : State) (f : Fld) (v : Nat) (h : f.addr ≠ RegAddr.SYS_ROLE) : (s.wr f v).role = s.role := s.rd_wr_ne _ _ v h

/-- Raising a record leaves the registers but SYS_ALERT. -/
theorem State.raise_find (s : State) (src code arg : Nat) {a : Nat} (h : a ≠ RegAddr.SYS_ALERT) :
    Tab.find (s.raise src code arg).regs a = Tab.find s.regs a := by
  obtain ⟨l, r, b, heq, hkeep⟩ := s.raise_only src code arg
  rw [heq]
  exact hkeep a h

/-- A group that passes changes SYS_COMMIT_STAT, SYS_COMMIT_ERR and SYS_ALERT (R57). -/
theorem State.passGroup_find (s : State) (g : Nat) (late refused : Bool) {a : Nat} (hstat : RegAddr.SYS_COMMIT_STAT ≠ a)
    (herr : RegAddr.SYS_COMMIT_ERR ≠ a) (halert : a ≠ RegAddr.SYS_ALERT) :
    Tab.find (s.passGroup g late refused).regs a = Tab.find s.regs a := by
  refine (State.raise_find _ _ _ _ halert).trans ?_
  have hdone (n : Nat) (b c : Bool) :
      Tab.find ((s.wrBit Reg.SYS_COMMIT_STAT_ARMED n b).wrBit Reg.SYS_COMMIT_STAT_DONE n c).regs a = Tab.find s.regs a :=
    (State.wr_find _ _ _ hstat).trans (State.wr_find _ _ _ hstat)
  cases refused <;> cases late
  · exact hdone _ _ _
  all_goals exact (State.wr_find _ _ _ herr).trans (hdone _ _ _)

/-! ### Arming -/

theorem State.armGroup_of_armed (s : State) (g : Nat) (h : s.armed g = true) : s.armGroup g = s := by rw [State.armGroup, if_pos h]

/-- A group without a field in the role passes its commit point as it is armed (R58). -/
theorem State.armGroup_of_absent (s : State) (g : Nat) (h : s.armed g = false) (hrole : s.role ≠ 0 ∨ g ≠ 1) (hhere : s.groupHere g = false) :
    s.armGroup g = (s.wrBit Reg.SYS_COMMIT_STAT_ARMED g true).passGroup g false false := by
  rw [State.armGroup, if_neg (by simp [h]), if_neg (by tauto), if_pos (by simp [hhere])]

/-- A group that holds a field in the role is armed, at its region's count (R57, R58). -/
theorem State.armGroup_of_here (s : State) (g : Nat) (h : s.armed g = false) (hhere : s.groupHere g = true) :
    ∃ left, s.armGroup g = { s.wrBit Reg.SYS_COMMIT_STAT_ARMED g true with
      sys := { s.sys with armAt := Tab.put s.sys.armAt g (s.groupClock g), portsLeft := left } } := by
  have hrole : s.role ≠ 0 := by
    intro hr
    simp [State.groupHere, State.isSender, State.isTile, hr] at hhere
  exact ⟨_, by rw [State.armGroup, if_neg (by simp [h]), if_neg (by tauto), if_neg (by simp [hhere])]; rfl⟩

/-- In a device with a role, arming a group changes SYS_COMMIT_STAT, SYS_COMMIT_ERR and SYS_ALERT, and copies nothing. -/
theorem State.armGroup_keeps (s : State) (g : Nat) (hrole : s.role ≠ 0 ∨ g ≠ 1) :
    (s.armGroup g).act = s.act ∧ ∀ a, RegAddr.SYS_COMMIT_STAT ≠ a → RegAddr.SYS_COMMIT_ERR ≠ a → a ≠ RegAddr.SYS_ALERT →
      Tab.find (s.armGroup g).regs a = Tab.find s.regs a := by
  cases harmed : s.armed g with
  | true => rw [State.armGroup_of_armed s g harmed]; exact ⟨rfl, fun _ _ _ _ => rfl⟩
  | false =>
    cases hhere : s.groupHere g with
    | true =>
      obtain ⟨left, heq⟩ := State.armGroup_of_here s g harmed hhere
      rw [heq]
      exact ⟨rfl, fun a hstat _ _ => State.wr_find _ _ _ hstat⟩
    | false =>
      rw [State.armGroup_of_absent s g harmed hrole hhere]
      refine ⟨by simp, fun a hstat herr halert => ?_⟩
      exact (State.passGroup_find _ _ _ _ hstat herr halert).trans (State.wr_find _ _ _ hstat)

theorem State.armGroup_role (s : State) (g : Nat) (hrole : s.role ≠ 0 ∨ g ≠ 1) : (s.armGroup g).role = s.role :=
  State.rd_of_find ((s.armGroup_keeps g hrole).2 _ (by decide) (by decide) (by decide))

/-- So does arming the groups of a mask. -/
theorem State.armMask_keeps (s : State) (mask : Nat) (hrole : s.role ≠ 0) : (s.armMask mask).act = s.act ∧
    ∀ a, RegAddr.SYS_COMMIT_STAT ≠ a → RegAddr.SYS_COMMIT_ERR ≠ a → a ≠ RegAddr.SYS_ALERT →
      Tab.find (s.armMask mask).regs a = Tab.find s.regs a := by
  refine State.forAll_keeps (fun t => t.act = s.act ∧ ∀ a, RegAddr.SYS_COMMIT_STAT ≠ a → RegAddr.SYS_COMMIT_ERR ≠ a → a ≠ RegAddr.SYS_ALERT →
    Tab.find t.regs a = Tab.find s.regs a) State.armGroup _ s ⟨rfl, fun _ _ _ _ => rfl⟩ fun t g _ ht => ?_
  obtain ⟨hact, hfind⟩ := ht
  have hsame : t.role = s.role := State.rd_of_find (hfind _ (by decide) (by decide) (by decide))
  obtain ⟨hact', hfind'⟩ := t.armGroup_keeps g (.inl (hsame ▸ hrole))
  exact ⟨hact'.trans hact, fun a hstat herr halert => (hfind' a hstat herr halert).trans (hfind a hstat herr halert)⟩

/-! ### Presets -/

/-- A write leaves the word of a register without a field that firmware writes (R11). -/
theorem RegDesc.merge_of_readOnly (d : RegDesc) (old v : Word) (hrw : maskWhere d (fun f => f.access == .rw || f.access == .rs) = 0)
    (hw1 : maskWhere d (fun f => f.access == .w1c) = 0) : d.merge old v = old := by
  rw [RegDesc.merge, hrw, hw1]
  change old &&& ~~~0#32 &&& ~~~(0#32 &&& v) ||| v &&& 0#32 = old
  rw [BitVec.zero_and, BitVec.and_zero, BitVec.or_zero, BitVec.not_zero, BitVec.and_allOnes, BitVec.and_allOnes]

/-- No entry of a preset writes the role (R14, R53). -/
theorem State.store_role (s : State) (a : Nat) (v : Word) : (s.store a v).role = s.role := by
  unfold State.store
  split
  · next d ix hreg =>
    by_cases ha : a = RegAddr.SYS_ROLE
    · subst ha
      obtain ⟨rfl, -⟩ := Prod.mk.inj (Option.some.inj (hreg.symm.trans (rfl : findReg RegAddr.SYS_ROLE = some (⟨"SYS_ROLE", 0x10FFF000, [],
        .const 0x0, [fd 12 1 .ro, fd 8 4 .ro, fd 4 1 .ro, fd 0 2 .ro]⟩, []))))
      rw [RegDesc.merge_of_readOnly _ _ _ (by decide) (by decide)]
      simp [State.role, State.rd, State.word, State.wordAt, Reg.SYS_ROLE_ROLE]
      rfl
    · exact State.rd_of_find (Tab.find_put_ne _ _ ha)
  · rfl

theorem State.storeAll_role (s : State) (es : List (Nat × Word)) : (s.storeAll es).role = s.role :=
  State.forAll_keeps (fun t => t.role = s.role) _ es s rfl fun t e _ ht => (t.store_role e.1 e.2).trans ht

/-- The state in which a selection that is made arms G0 and G1: the entries stand in the pending copies, and SYS_PRESET shows the selection (R62, R470). -/
def State.presetStored (s : State) (es : List (Nat × Word)) (n : Nat) (pins : Bool) : State :=
  let t := ((s.storeAll es).wr Reg.SYS_PRESET_CURRENT n).wrFlag Reg.SYS_PRESET_SRC !pins
  (if pins then t else t.wr Reg.CTR_CMD_RESULT 0).raise srcControl 0x0007 (n + 256 * pins.toNat)

theorem State.applyPreset_of_none (s : State) (n : Nat) (pins : Bool) (h : s.preset n = none) :
    s.applyPreset n pins = (s.onlyIf (!pins) fun t => t.wr Reg.CTR_CMD_RESULT 2).raise srcControl 0x4008 (n + 256 * pins.toNat) := by
  simp only [State.applyPreset, h]

theorem State.applyPreset_of_some (s : State) (n : Nat) (pins : Bool) (es : List (Nat × Word)) (h : s.preset n = some es) :
    s.applyPreset n pins = (s.presetStored es n pins).armMask 3 := by
  cases pins <;> simp only [State.applyPreset, h] <;> rfl

@[simp] theorem State.presetStored_act (s : State) (es : List (Nat × Word)) (n : Nat) (pins : Bool) : (s.presetStored es n pins).act = s.act := by
  simp [State.presetStored]

@[simp] theorem State.presetStored_role (s : State) (es : List (Nat × Word)) (n : Nat) (pins : Bool) : (s.presetStored es n pins).role = s.role := by
  have hmarks (b : Bool) : (((s.storeAll es).wr Reg.SYS_PRESET_CURRENT n).wrFlag Reg.SYS_PRESET_SRC b).role = s.role :=
    ((State.wr_role _ _ _ (by decide)).trans (State.wr_role _ _ _ (by decide))).trans (s.storeAll_role es)
  refine (State.raise_rd _ _ _ _ _ (by decide)).trans ?_
  cases pins
  · exact (State.wr_role _ _ _ (by decide)).trans (hmarks true)
  · exact hmarks false

/-- In a device with a role a selection that is made copies nothing: G0 and G1 wait for their commit points (R62, R470). -/
theorem State.applyPreset_act (s : State) (n : Nat) (pins : Bool) (hrole : s.role ≠ 0) : (s.applyPreset n pins).act = s.act := by
  cases hpreset : s.preset n with
  | none => rw [s.applyPreset_of_none n pins hpreset]; simp
  | some es =>
    rw [s.applyPreset_of_some n pins es hpreset, (State.armMask_keeps _ 3 (by simpa using hrole)).1, State.presetStored_act]

/-- In a device with a role a selection copies nothing, whether it is held or made. -/
theorem State.selectPreset_act (s : State) (n : Nat) (pins : Bool) (hrole : s.role ≠ 0) : (s.selectPreset n pins).act = s.act := by
  unfold State.selectPreset
  split
  · simp
  · exact s.applyPreset_act n pins hrole

theorem State.setCmd_role (s : State) (cmd result : Nat) : (s.setCmd cmd result).role = s.role :=
  (State.wr_role _ _ _ (by decide)).trans (State.wr_role _ _ _ (by decide))

theorem doSelect_act (s : State) (n : Nat) (hrole : s.role ≠ 0) : (doSelect s n).act = s.act := by
  unfold doSelect State.gate
  split
  · rfl
  · split
    · exact (State.selectPreset_act _ n false (s.setCmd_role 1 0 ▸ hrole)).trans (s.setCmd_act 1 0)
    · exact s.setCmd_act 1 4

/-- What the Wheel and the Counter port note of a sample of the PRESET pins (R251, R474). -/
def State.noted (s : State) (w : WhlSt) (c : CtrSt) : State := { s with whl := w, ctr := c }

/-- A sample of the PRESET pins is noted, shows a stable value, and may make a selection (R474). -/
theorem doPresetSample_cases (s : State) (v : Nat) : ∃ w c, doPresetSample s v = s.noted w c ∨
    doPresetSample s v = (s.noted w c).wr Reg.SYS_PRESET_PINS v ∨
    doPresetSample s v = ((s.noted w c).wr Reg.SYS_PRESET_PINS v).selectPreset v true := by
  unfold doPresetSample
  dsimp only
  generalize (if s.ctr.sample.1 = v ∧ 0 < s.ctr.sample.2 then min 8 (s.ctr.sample.2 + 1) else 1) = run
  split
  · exact ⟨s.whl, s.ctr, .inl rfl⟩
  · split
    · exact ⟨_, _, .inl rfl⟩
    · split
      · exact ⟨_, _, .inr (.inr rfl)⟩
      · exact ⟨_, _, .inr (.inl rfl)⟩

theorem doPresetSample_act (s : State) (v : Nat) (hrole : s.role ≠ 0) : (doPresetSample s v).act = s.act := by
  obtain ⟨w, c, heq | heq | heq⟩ := doPresetSample_cases s v <;> rw [heq]
  · rfl
  · rfl
  · have hshown : ((s.noted w c).wr Reg.SYS_PRESET_PINS v).role ≠ 0 := by
      rw [State.wr_role _ _ _ (by decide)]
      exact hrole
    exact State.selectPreset_act _ v true hshown

/-! ### Every command -/

/-- The commands that may change an active copy: those that the statement of R56 names, and, in a device without a role, those that arm G1. -/
def mayCommit : Instr → Bool
  | .powerOn _ | .resetAssert | .resetRelease _ | .powerOnDetectorArm | .coldStart _ | .warmStart _ | .coldRestart _ | .warmRestart _
  | .startStepEnd _ | .restart _ | .trialExpiry | .watchdogExpiry | .sysFatal _ _ | .fatalError _ | .fatalDumpStepEnd | .dumpHoldExpiry
  | .skeinFlitCrcFail _ _ | .registerWrite _ _ _ | .commitPoint _ _ | .sramParityError _ _ _ | .layout _ _ | .config _ _ | .mgmtEnvelope _ _
  | .envelopeChecked | .porterStepEnd _ | .arm _ | .select _ | .presetSample _ => true
  | _ => false

/-- Any other command but that of the boundary-scan port is one update of a device that has power and is out of reset, and that update leaves every active
copy. -/
theorem exec_keepsActive (c : Instr) (hcommit : mayCommit c = false) (hpower : actsAlways c = false) :
    ∃ f, KeepsActive f ∧ ∀ s, exec c s = .next (s.whenAlive f) := by
  cases c
  case boundaryScanInstruction => cases hpower
  case powerOn | resetAssert | resetRelease | powerOnDetectorArm | coldStart | warmStart | coldRestart | warmRestart | startStepEnd | restart | trialExpiry
    | watchdogExpiry | sysFatal | fatalError | fatalDumpStepEnd | dumpHoldExpiry | skeinFlitCrcFail | registerWrite | commitPoint | sramParityError | layout
    | config | mgmtEnvelope | envelopeChecked | porterStepEnd | arm | select | presetSample => cases hcommit
  all_goals exact ⟨_, fun t => ⟨by simp⟩, fun _ => rfl⟩

theorem exec_act (c : Instr) (s t : State) (hcommit : mayCommit c = false) (ht : exec c s = .next t) : t.act = s.act := by
  cases hpower : actsAlways c with
  | false =>
    obtain ⟨f, hf, hexec⟩ := exec_keepsActive c hcommit hpower
    obtain rfl : t = s.whenAlive f := Host.Outcome.next.inj (ht.symm.trans (hexec s))
    exact State.whenAlive_act s f hf
  | true =>
    cases c
    case boundaryScanInstruction code =>
      change execBoundaryScanInstruction code s = .next t at ht
      unfold execBoundaryScanInstruction at ht
      split at ht
      · cases ht; rfl
      · cases ht
    case powerOn | resetAssert | resetRelease | powerOnDetectorArm => cases hcommit
    all_goals cases hpower

/-- A command that acts under `whenAlive` leaves what its meaning leaves. -/
theorem actWordAt_of_whenAlive {s t : State} {f : State → State} (ht : Host.Outcome.next (s.whenAlive f) = (.next t : Host.Outcome State Fault Refusal))
    (hf : (f s).act = s.act) (a : Nat) : t.actWordAt a = s.actWordAt a := by
  obtain rfl := Host.Outcome.next.inj ht
  unfold State.whenAlive
  split
  · rw [State.actWordAt, hf, ← State.actWordAt]
  · rfl

/-- Settles O59: every command outside `mayCommit` keeps the table of active copies, and in a device with a role arming and selecting only mark groups. -/
theorem activeCopiesChangeAtCommitPoints : Obligations.ActiveCopiesChangeAtCommitPoints := by
  intro i s t ht
  have hother (hcommit : mayCommit i = false) (a : Nat) : t.actWordAt a = s.actWordAt a := by
    rw [State.actWordAt, exec_act i s t hcommit ht, ← State.actWordAt]
  cases i
  case arm g => exact fun hrole => actWordAt_of_whenAlive ht (s.armGroup_keeps g.toNat (.inl hrole)).1
  case select n => exact fun hrole => actWordAt_of_whenAlive ht (doSelect_act s n.toNat hrole)
  case presetSample v => exact fun hrole => actWordAt_of_whenAlive ht (doPresetSample_act s v.toNat hrole)
  case powerOn | resetAssert | resetRelease | powerOnDetectorArm | coldStart | warmStart | coldRestart | warmRestart | startStepEnd | restart | trialExpiry
    | watchdogExpiry | sysFatal | fatalError | fatalDumpStepEnd | dumpHoldExpiry | skeinFlitCrcFail | registerWrite | commitPoint | sramParityError | layout
    | config | mgmtEnvelope | envelopeChecked | porterStepEnd => trivial
  all_goals exact hother rfl

end Sys2Proof.Machine
end

section
/-! SUPPORT. The gate of role and mode, behind which each of the thirteen commands of an envelope stands (R75, R468). -/

namespace Sys2Proof.Machine

/-! ### CTR_CMD -/

theorem State.setCmd_find (s : State) (cmd result : Nat) {a : Nat} (h : RegAddr.CTR_CMD ≠ a) :
    Tab.find (s.setCmd cmd result).regs a = Tab.find s.regs a :=
  (State.wr_find _ _ _ h).trans (State.wr_find _ _ _ h)

theorem State.setCmd_command (s : State) (cmd result : Nat) (h : cmd < 2 ^ 16) : (s.setCmd cmd result).rd Reg.CTR_CMD_COMMAND = cmd := by
  rw [State.setCmd, State.rd_wr_other _ Reg.CTR_CMD_RESULT Reg.CTR_CMD_COMMAND _ rfl rfl (by decide), State.rd_wr_self _ _ _ (by decide)]
  exact Nat.mod_eq_of_lt h

theorem State.setCmd_result (s : State) (cmd result : Nat) (h : result < 2 ^ 4) : (s.setCmd cmd result).rd Reg.CTR_CMD_RESULT = result :=
  (State.rd_wr_self _ _ _ (by decide)).trans (Nat.mod_eq_of_lt h)

/-! ### The gate of role and mode -/

theorem State.gate_of_idle (s : State) (cmd : Nat) (act : State → State) (h : s.alive = false ∨ s.onHold = true) : s.gate cmd act = s := by
  rw [State.gate, if_pos (by simpa using h)]

theorem State.gate_of_refused (s : State) (cmd : Nat) (act : State → State) (ha : s.alive = true) (hh : s.onHold = false)
    (h : s.allows cmd = false) : s.gate cmd act = s.setCmd cmd 4 := by
  simp [State.gate, ha, hh, h]

theorem State.gate_of_allowed (s : State) (cmd : Nat) (act : State → State) (ha : s.alive = true) (hh : s.onHold = false)
    (h : s.allows cmd = true) : s.gate cmd act = act (s.setCmd cmd 0) := by
  simp [State.gate, ha, hh, h]

/-- A command, with its number in an envelope, that does all it does behind the gate of role and mode (R468). -/
def Gated (c : Nat × Instr) : Prop := c.1 < 2 ^ 16 ∧ ∃ act, ∀ s, exec c.2 s = .next (s.whenAlive fun u => u.gate c.1 act)

/-- Such a command does nothing without power, in reset and in a hold boot (R75). -/
theorem Gated.exec_of_idle {c : Nat × Instr} (hc : Gated c) (s : State) (h : s.alive = false ∨ s.onHold = true) : exec c.2 s = .next s := by
  obtain ⟨_, act, hexec⟩ := hc
  rw [hexec, State.whenAlive, s.gate_of_idle c.1 act h, ite_self]

/-- Where the role or the mode does not allow it, such a command shows its number and RESULT 4 (R468). -/
theorem Gated.exec_of_refused {c : Nat × Instr} (hc : Gated c) (s : State) (ha : s.alive = true) (hh : s.onHold = false) (h : s.allows c.1 = false) :
    exec c.2 s = .next (s.setCmd c.1 4) := by
  obtain ⟨_, act, hexec⟩ := hc
  rw [hexec, State.whenAlive, if_pos ha, s.gate_of_refused c.1 act ha hh h]

/-- Settles O24: each of the thirteen commands is its number's gate and nothing else. -/
theorem portCommandsNeedRoleAndMode : Obligations.PortCommandsNeedRoleAndMode := by
  intro s n b8 c8 d8 a16 w v x d h k f g es bs c hc
  have hgated : Gated c := by fin_cases hc <;> exact ⟨by simp, _, fun _ => rfl⟩
  refine ⟨hgated.exec_of_idle s, fun ha hh hnot _ => ⟨_, hgated.exec_of_refused s ha hh hnot, ?_⟩⟩
  exact ⟨s.setCmd_command _ _ hgated.1, s.setCmd_result _ _ (by decide), rfl, fun y hy => State.wordAt_of_find (s.setCmd_find _ _ (Ne.symm hy))⟩

end Sys2Proof.Machine
end

section
/-! SUPPORT. The frame of a commit: what the blocks do once the fields of a group are copied leaves the records of the Counter port, the held selection
among them, and SYS_COMMIT_ERR. One lemma for each operation, as for the active copies above. -/

namespace Sys2Proof.Machine

/-! ### What the blocks do at a commit leaves the commit registers and the Counter port -/

/-- Two states have the same records of the Counter port, held selection included, and the same SYS_COMMIT_ERR. This is a structure for the reason that
`SameQueue` is one. -/
structure SameControl (s t : State) : Prop where
  ctr : t.ctr = s.ctr
  err : Tab.find t.regs RegAddr.SYS_COMMIT_ERR = Tab.find s.regs RegAddr.SYS_COMMIT_ERR

/-- An update leaves the Counter port's records and SYS_COMMIT_ERR. -/
def KeepsControl (f : State → State) : Prop := ∀ t, SameControl t (f t)

@[simp] theorem sameControl_iff (s t : State) : SameControl s t ↔
    t.ctr = s.ctr ∧ Tab.find t.regs RegAddr.SYS_COMMIT_ERR = Tab.find s.regs RegAddr.SYS_COMMIT_ERR :=
  ⟨fun h => ⟨h.ctr, h.err⟩, fun h => ⟨h.1, h.2⟩⟩

@[simp] theorem keepsControl_iff (f : State → State) : KeepsControl f ↔ ∀ t, SameControl t (f t) := by constructor <;> exact id

@[simp] theorem ite_control (c : Prop) [Decidable c] (s t : State) :
    (if c then s else t).ctr = (if c then s.ctr else t.ctr) ∧
    Tab.find (if c then s else t).regs RegAddr.SYS_COMMIT_ERR =
      if c then Tab.find s.regs RegAddr.SYS_COMMIT_ERR else Tab.find t.regs RegAddr.SYS_COMMIT_ERR := by
  constructor <;> split <;> rfl

@[simp] theorem State.onlyIf_control (s : State) (c : Bool) (f : State → State) (h : KeepsControl f) :
    (s.onlyIf c f).ctr = s.ctr ∧ Tab.find (s.onlyIf c f).regs RegAddr.SYS_COMMIT_ERR = Tab.find s.regs RegAddr.SYS_COMMIT_ERR := by
  unfold State.onlyIf
  split
  · exact ⟨(h s).ctr, (h s).err⟩
  · exact ⟨rfl, rfl⟩

@[simp] theorem State.forAll_control {α : Type} (s : State) (l : List α) (f : State → α → State) (h : ∀ x, KeepsControl fun t => f t x) :
    (s.forAll l f).ctr = s.ctr ∧ Tab.find (s.forAll l f).regs RegAddr.SYS_COMMIT_ERR = Tab.find s.regs RegAddr.SYS_COMMIT_ERR :=
  State.forAll_keeps (fun t => t.ctr = s.ctr ∧ Tab.find t.regs RegAddr.SYS_COMMIT_ERR = Tab.find s.regs RegAddr.SYS_COMMIT_ERR) f l s ⟨rfl, rfl⟩
    fun t x _ ht => ⟨(h x t).ctr.trans ht.1, (h x t).err.trans ht.2⟩

@[simp] theorem State.wr_commitErr (s : State) (f : Fld) (v : Nat) (h : f.addr ≠ RegAddr.SYS_COMMIT_ERR) :
    Tab.find (s.wr f v).regs RegAddr.SYS_COMMIT_ERR = Tab.find s.regs RegAddr.SYS_COMMIT_ERR := s.wr_find f v h

@[simp] theorem State.wrFlag_commitErr (s : State) (f : Fld) (b : Bool) (h : f.addr ≠ RegAddr.SYS_COMMIT_ERR) :
    Tab.find (s.wrFlag f b).regs RegAddr.SYS_COMMIT_ERR = Tab.find s.regs RegAddr.SYS_COMMIT_ERR := s.wr_find f _ h

@[simp] theorem State.wrBit_commitErr (s : State) (f : Fld) (n : Nat) (b : Bool) (h : f.addr ≠ RegAddr.SYS_COMMIT_ERR) :
    Tab.find (s.wrBit f n b).regs RegAddr.SYS_COMMIT_ERR = Tab.find s.regs RegAddr.SYS_COMMIT_ERR := s.wr_find f _ h

@[simp] theorem State.raise_control (s : State) (src code arg : Nat) : (s.raise src code arg).ctr = s.ctr ∧
    Tab.find (s.raise src code arg).regs RegAddr.SYS_COMMIT_ERR = Tab.find s.regs RegAddr.SYS_COMMIT_ERR := by
  obtain ⟨l, r, b, heq, _⟩ := s.raise_only src code arg
  exact ⟨by rw [heq], s.raise_find src code arg (by decide)⟩

/-- The registers in which the blocks show what a commit has brought about lie above the commit registers: single ones, -/
@[simp] theorem addr_ne_commitErr :
    Reg.HMK_TABLE_VERSION.addr ≠ RegAddr.SYS_COMMIT_ERR ∧ Reg.ASY_STAT_SWEEP_CUT.addr ≠ RegAddr.SYS_COMMIT_ERR ∧
    Reg.ASY_STAT_CLIP.addr ≠ RegAddr.SYS_COMMIT_ERR ∧ Reg.ASY_STAT_SLEWING.addr ≠ RegAddr.SYS_COMMIT_ERR ∧
    Reg.WHL_STAT_RATE_PENDING.addr ≠ RegAddr.SYS_COMMIT_ERR ∧ Reg.WHL_STAT_SOURCE.addr ≠ RegAddr.SYS_COMMIT_ERR ∧
    Reg.WHL_STAT_TPORT.addr ≠ RegAddr.SYS_COMMIT_ERR ∧ Reg.WHL_STAT_STATE.addr ≠ RegAddr.SYS_COMMIT_ERR ∧
    Reg.WHL_STAT_SLEWING.addr ≠ RegAddr.SYS_COMMIT_ERR ∧ Reg.WHL_ERR_FREQ.addr ≠ RegAddr.SYS_COMMIT_ERR :=
  by decide

theorem ne_commitErr_of_index {a k : Nat} (h : RegAddr.SYS_COMMIT_ERR < a) : a + k ≠ RegAddr.SYS_COMMIT_ERR := Nat.ne_of_gt (Nat.lt_add_right k h)

/-- those of one index, -/
@[simp] theorem addr_ne_commitErr_of_index (i : Nat) :
    (Reg.LOOM_L_STAT_HATCH i).addr ≠ RegAddr.SYS_COMMIT_ERR ∧ (Reg.HMK_AFFIRM_AFF i).addr ≠ RegAddr.SYS_COMMIT_ERR ∧
    (Reg.LMP_ZONE_STAT_POS i).addr ≠ RegAddr.SYS_COMMIT_ERR ∧ (Reg.LMP_ZONE_STAT_TARGET i).addr ≠ RegAddr.SYS_COMMIT_ERR ∧
    (Reg.DRV_GRP_LAMPS_SHORT i).addr ≠ RegAddr.SYS_COMMIT_ERR ∧ (Reg.DRV_GRP_LAMPS_OPEN i).addr ≠ RegAddr.SYS_COMMIT_ERR ∧
    (Reg.DRV_GRP_UNVER_COUNT i).addr ≠ RegAddr.SYS_COMMIT_ERR ∧ (Reg.DRV_GRP_STAT_REFRESH_FIT i).addr ≠ RegAddr.SYS_COMMIT_ERR ∧
    (Reg.DRV_GRP_STAT_CREF_NOW i).addr ≠ RegAddr.SYS_COMMIT_ERR ∧ (Reg.ASY_DUTY_DUTY i).addr ≠ RegAddr.SYS_COMMIT_ERR ∧
    (Reg.ASY_CREF_RAW_RAW i).addr ≠ RegAddr.SYS_COMMIT_ERR ∧ (Reg.WHL_HOP_TIME_PORT i).addr ≠ RegAddr.SYS_COMMIT_ERR :=
  by
  refine ⟨?_, ?_, ?_, ?_, ?_, ?_, ?_, ?_, ?_, ?_, ?_, ?_⟩ <;> exact ne_commitErr_of_index (by decide)

/-- and those of two. -/
@[simp] theorem addr_ne_commitErr_of_indices (i j : Nat) :
    (Reg.HMK_REG_STAT_PIECES i j).addr ≠ RegAddr.SYS_COMMIT_ERR ∧ (Reg.HMK_REG_STAT_AFFIRMED i j).addr ≠ RegAddr.SYS_COMMIT_ERR ∧
    (Reg.TLY_U_CFG_WIDTH i j).addr ≠ RegAddr.SYS_COMMIT_ERR ∧ (Reg.TLY_U_CFG_REFIN i j).addr ≠ RegAddr.SYS_COMMIT_ERR ∧
    (Reg.TLY_U_CFG_REFOUT i j).addr ≠ RegAddr.SYS_COMMIT_ERR ∧ (Reg.TLY_U_POLY_LO_V i j).addr ≠ RegAddr.SYS_COMMIT_ERR ∧
    (Reg.TLY_U_POLY_HI_V i j).addr ≠ RegAddr.SYS_COMMIT_ERR ∧ (Reg.TLY_U_INIT_LO_V i j).addr ≠ RegAddr.SYS_COMMIT_ERR ∧
    (Reg.TLY_U_INIT_HI_V i j).addr ≠ RegAddr.SYS_COMMIT_ERR ∧ (Reg.TLY_U_XOR_LO_V i j).addr ≠ RegAddr.SYS_COMMIT_ERR ∧
    (Reg.TLY_U_XOR_HI_V i j).addr ≠ RegAddr.SYS_COMMIT_ERR ∧ (Reg.TLY_U_STAT_COUNT i j).addr ≠ RegAddr.SYS_COMMIT_ERR ∧
    (Reg.TLY_U_STAT_RESTARTED i j).addr ≠ RegAddr.SYS_COMMIT_ERR :=
  by
  refine ⟨?_, ?_, ?_, ?_, ?_, ?_, ?_, ?_, ?_, ?_, ?_, ?_, ?_⟩ <;> exact ne_commitErr_of_index (Nat.lt_add_right _ (by decide))

@[simp] theorem State.enterEntry_control (s : State) (c p b time gen : Nat) : (s.enterEntry c p b time gen).ctr = s.ctr ∧
    Tab.find (s.enterEntry c p b time gen).regs RegAddr.SYS_COMMIT_ERR = Tab.find s.regs RegAddr.SYS_COMMIT_ERR := by
  simp [State.enterEntry]
@[simp] theorem State.damageBlock_control (s : State) (b time : Nat) : (s.damageBlock b time).ctr = s.ctr ∧
    Tab.find (s.damageBlock b time).regs RegAddr.SYS_COMMIT_ERR = Tab.find s.regs RegAddr.SYS_COMMIT_ERR := by
  simp [State.damageBlock]
@[simp] theorem State.uncoverBlock_control (s : State) (b g : Nat) : (s.uncoverBlock b g).ctr = s.ctr ∧
    Tab.find (s.uncoverBlock b g).regs RegAddr.SYS_COMMIT_ERR = Tab.find s.regs RegAddr.SYS_COMMIT_ERR := by
  simp [State.uncoverBlock]
@[simp] theorem State.freeLoomSlot_control (s : State) (old : State) (b g : Nat) (bg : Bool) : (s.freeLoomSlot old b g bg).ctr = s.ctr ∧
    Tab.find (s.freeLoomSlot old b g bg).regs RegAddr.SYS_COMMIT_ERR = Tab.find s.regs RegAddr.SYS_COMMIT_ERR := by
  simp [State.freeLoomSlot]
@[simp] theorem State.takeSlot_control (s : State) (b : Nat) : (s.takeSlot b).ctr = s.ctr ∧
    Tab.find (s.takeSlot b).regs RegAddr.SYS_COMMIT_ERR = Tab.find s.regs RegAddr.SYS_COMMIT_ERR := by
  simp [State.takeSlot]
@[simp] theorem State.commitSlots_control (s : State) (old : State) (g : Nat) (bg : Bool) : (s.commitSlots old g bg).ctr = s.ctr ∧
    Tab.find (s.commitSlots old g bg).regs RegAddr.SYS_COMMIT_ERR = Tab.find s.regs RegAddr.SYS_COMMIT_ERR := by
  simp [State.commitSlots]
@[simp] theorem State.commitLayer_control (s : State) (old : State) (n : Nat) : (s.commitLayer old n).ctr = s.ctr ∧
    Tab.find (s.commitLayer old n).regs RegAddr.SYS_COMMIT_ERR = Tab.find s.regs RegAddr.SYS_COMMIT_ERR := by
  simp [State.commitLayer]
@[simp] theorem State.writeSlot0_control (s : State) : s.writeSlot0.ctr = s.ctr ∧
    Tab.find s.writeSlot0.regs RegAddr.SYS_COMMIT_ERR = Tab.find s.regs RegAddr.SYS_COMMIT_ERR := by
  simp [State.writeSlot0]
@[simp] theorem State.loomCommitted_control (s : State) (old : State) : (s.loomCommitted old).ctr = s.ctr ∧
    Tab.find (s.loomCommitted old).regs RegAddr.SYS_COMMIT_ERR = Tab.find s.regs RegAddr.SYS_COMMIT_ERR := by
  simp [State.loomCommitted]
@[simp] theorem State.enterPush_control (s : State) (c p b time : Nat) : (s.enterPush c p b time).ctr = s.ctr ∧
    Tab.find (s.enterPush c p b time).regs RegAddr.SYS_COMMIT_ERR = Tab.find s.regs RegAddr.SYS_COMMIT_ERR := by
  simp [State.enterPush]
@[simp] theorem State.enterAll_control (s : State) (c p time : Nat) : (s.enterAll c p time).ctr = s.ctr ∧
    Tab.find (s.enterAll c p time).regs RegAddr.SYS_COMMIT_ERR = Tab.find s.regs RegAddr.SYS_COMMIT_ERR := by
  simp [State.enterAll]
@[simp] theorem State.dropTile_control (s : State) (c p : Nat) : (s.dropTile c p).ctr = s.ctr ∧
    Tab.find (s.dropTile c p).regs RegAddr.SYS_COMMIT_ERR = Tab.find s.regs RegAddr.SYS_COMMIT_ERR := by
  simp [State.dropTile]
@[simp] theorem State.dmgCommitted_control (s : State) (old : State) : (s.dmgCommitted old).ctr = s.ctr ∧
    Tab.find (s.dmgCommitted old).regs RegAddr.SYS_COMMIT_ERR = Tab.find s.regs RegAddr.SYS_COMMIT_ERR := by
  simp [State.dmgCommitted]
@[simp] theorem State.showRegions_control (s : State) : s.showRegions.ctr = s.ctr ∧
    Tab.find s.showRegions.regs RegAddr.SYS_COMMIT_ERR = Tab.find s.regs RegAddr.SYS_COMMIT_ERR := by
  exact State.forAll_control s _ _ fun r t => (sameControl_iff _ _).mpr (by simp)
@[simp] theorem State.hmkCommitted_control (s : State) (old : State) : (s.hmkCommitted old).ctr = s.ctr ∧
    Tab.find (s.hmkCommitted old).regs RegAddr.SYS_COMMIT_ERR = Tab.find s.regs RegAddr.SYS_COMMIT_ERR := by
  simp [State.hmkCommitted]
@[simp] theorem State.clearStore_control (s : State) : s.clearStore.ctr = s.ctr ∧
    Tab.find s.clearStore.regs RegAddr.SYS_COMMIT_ERR = Tab.find s.regs RegAddr.SYS_COMMIT_ERR := by
  simp [State.clearStore]
@[simp] theorem State.clearExpiry_control (s : State) : s.clearExpiry.ctr = s.ctr ∧
    Tab.find s.clearExpiry.regs RegAddr.SYS_COMMIT_ERR = Tab.find s.regs RegAddr.SYS_COMMIT_ERR := by
  simp [State.clearExpiry]
@[simp] theorem State.tfsCommitted_control (s : State) (old : State) : (s.tfsCommitted old).ctr = s.ctr ∧
    Tab.find (s.tfsCommitted old).regs RegAddr.SYS_COMMIT_ERR = Tab.find s.regs RegAddr.SYS_COMMIT_ERR := by
  simp [State.tfsCommitted]
@[simp] theorem State.settleZones_control (s : State) : s.settleZones.ctr = s.ctr ∧
    Tab.find s.settleZones.regs RegAddr.SYS_COMMIT_ERR = Tab.find s.regs RegAddr.SYS_COMMIT_ERR := by
  simp [State.settleZones]
@[simp] theorem State.setTargets_control (s : State) : s.setTargets.ctr = s.ctr ∧
    Tab.find s.setTargets.regs RegAddr.SYS_COMMIT_ERR = Tab.find s.regs RegAddr.SYS_COMMIT_ERR := by
  simp [State.setTargets]
@[simp] theorem State.lmpCommitted_control (s : State) (old : State) : (s.lmpCommitted old).ctr = s.ctr ∧
    Tab.find (s.lmpCommitted old).regs RegAddr.SYS_COMMIT_ERR = Tab.find s.regs RegAddr.SYS_COMMIT_ERR := by
  simp [State.lmpCommitted]
@[simp] theorem State.showLamps_control (s : State) (n : Nat) : (s.showLamps n).ctr = s.ctr ∧
    Tab.find (s.showLamps n).regs RegAddr.SYS_COMMIT_ERR = Tab.find s.regs RegAddr.SYS_COMMIT_ERR := by
  simp [State.showLamps]
@[simp] theorem State.resetLamps_control (s : State) (n : Nat) : (s.resetLamps n).ctr = s.ctr ∧
    Tab.find (s.resetLamps n).regs RegAddr.SYS_COMMIT_ERR = Tab.find s.regs RegAddr.SYS_COMMIT_ERR := by
  simp [State.resetLamps]
@[simp] theorem State.clearLamps_control (s : State) (old : State) (n : Nat) : (s.clearLamps old n).ctr = s.ctr ∧
    Tab.find (s.clearLamps old n).regs RegAddr.SYS_COMMIT_ERR = Tab.find s.regs RegAddr.SYS_COMMIT_ERR := by
  simp [State.clearLamps]
@[simp] theorem State.judgeRefresh_control (s : State) (n : Nat) : (s.judgeRefresh n).ctr = s.ctr ∧
    Tab.find (s.judgeRefresh n).regs RegAddr.SYS_COMMIT_ERR = Tab.find s.regs RegAddr.SYS_COMMIT_ERR := by
  simp [State.judgeRefresh]
@[simp] theorem State.cutSweep_control (s : State) (n : Nat) : (s.cutSweep n).ctr = s.ctr ∧
    Tab.find (s.cutSweep n).regs RegAddr.SYS_COMMIT_ERR = Tab.find s.regs RegAddr.SYS_COMMIT_ERR := by
  simp [State.cutSweep]
@[simp] theorem State.showTrims_control (s : State) : s.showTrims.ctr = s.ctr ∧
    Tab.find s.showTrims.regs RegAddr.SYS_COMMIT_ERR = Tab.find s.regs RegAddr.SYS_COMMIT_ERR := by
  simp [State.showTrims]
@[simp] theorem State.settleCref_control (s : State) : s.settleCref.ctr = s.ctr ∧
    Tab.find s.settleCref.regs RegAddr.SYS_COMMIT_ERR = Tab.find s.regs RegAddr.SYS_COMMIT_ERR := by
  simp [State.settleCref]
@[simp] theorem State.drvCommitted_control (s : State) (old : State) (n : Nat) : (s.drvCommitted old n).ctr = s.ctr ∧
    Tab.find (s.drvCommitted old n).regs RegAddr.SYS_COMMIT_ERR = Tab.find s.regs RegAddr.SYS_COMMIT_ERR := by
  simp [State.drvCommitted]
@[simp] theorem State.setFreq_control (s : State) (base slew : Int) : (s.setFreq base slew).ctr = s.ctr ∧
    Tab.find (s.setFreq base slew).regs RegAddr.SYS_COMMIT_ERR = Tab.find s.regs RegAddr.SYS_COMMIT_ERR := by
  simp [State.setFreq]
@[simp] theorem State.endSlew_control (s : State) : s.endSlew.ctr = s.ctr ∧
    Tab.find s.endSlew.regs RegAddr.SYS_COMMIT_ERR = Tab.find s.regs RegAddr.SYS_COMMIT_ERR := by
  simp [State.endSlew]
@[simp] theorem State.setLock_control (s : State) (st : Nat) : (s.setLock st).ctr = s.ctr ∧
    Tab.find (s.setLock st).regs RegAddr.SYS_COMMIT_ERR = Tab.find s.regs RegAddr.SYS_COMMIT_ERR := by
  simp [State.setLock]
@[simp] theorem State.slewOnChange_control (s : State) (changed : Bool) : (s.slewOnChange changed).ctr = s.ctr ∧
    Tab.find (s.slewOnChange changed).regs RegAddr.SYS_COMMIT_ERR = Tab.find s.regs RegAddr.SYS_COMMIT_ERR := by
  simp [State.slewOnChange]
@[simp] theorem State.showSource_control (s : State) : s.showSource.ctr = s.ctr ∧
    Tab.find s.showSource.regs RegAddr.SYS_COMMIT_ERR = Tab.find s.regs RegAddr.SYS_COMMIT_ERR := by
  simp [State.showSource]
@[simp] theorem State.whlCommitted_control (s : State) (old : State) : (s.whlCommitted old).ctr = s.ctr ∧
    Tab.find (s.whlCommitted old).regs RegAddr.SYS_COMMIT_ERR = Tab.find s.regs RegAddr.SYS_COMMIT_ERR := by
  simp [State.whlCommitted]
@[simp] theorem State.wrBoth_control (s : State) (f : Fld) (v : Nat) (h : f.addr ≠ RegAddr.SYS_COMMIT_ERR) : (s.wrBoth f v).ctr = s.ctr ∧
    Tab.find (s.wrBoth f v).regs RegAddr.SYS_COMMIT_ERR = Tab.find s.regs RegAddr.SYS_COMMIT_ERR := by
  simp [State.wrBoth, h]
@[simp] theorem State.loadProfile_control (s : State) (c u : Nat) (p : TallyParams) : (s.loadProfile c u p).ctr = s.ctr ∧
    Tab.find (s.loadProfile c u p).regs RegAddr.SYS_COMMIT_ERR = Tab.find s.regs RegAddr.SYS_COMMIT_ERR := by
  simp [State.loadProfile]
@[simp] theorem State.initUnit_control (s : State) (c u : Nat) (restarted : Bool) : (s.initUnit c u restarted).ctr = s.ctr ∧
    Tab.find (s.initUnit c u restarted).regs RegAddr.SYS_COMMIT_ERR = Tab.find s.regs RegAddr.SYS_COMMIT_ERR := by
  simp [State.initUnit]
@[simp] theorem State.tlyCommitted_control (s : State) (old : State) : (s.tlyCommitted old).ctr = s.ctr ∧
    Tab.find (s.tlyCommitted old).regs RegAddr.SYS_COMMIT_ERR = Tab.find s.regs RegAddr.SYS_COMMIT_ERR := by
  simp [State.tlyCommitted]

end Sys2Proof.Machine
end

section
/-! SUPPORT. Commit points (R57 to R62): what copying a group, passing its point and refusing its set change. -/

namespace Sys2Proof.Machine

/-! ### Copying a group -/

/-- The bits that a mask takes from one word and those that it leaves in the same word make that word. -/
theorem mergeBits_self (w m : Word) : (w &&& ~~~m) ||| (w &&& m) = w := by
  ext i
  simp only [BitVec.getElem_or, BitVec.getElem_and, BitVec.getElem_not]
  cases m[i] <;> simp

theorem mergeBits_again (x w m : Word) : (((x &&& ~~~m) ||| (w &&& m)) &&& ~~~m) ||| (w &&& m) = (x &&& ~~~m) ||| (w &&& m) := by
  ext i
  simp only [BitVec.getElem_or, BitVec.getElem_and, BitVec.getElem_not]
  cases m[i] <;> simp

theorem mergeBits_zero (x w : Word) : (x &&& ~~~0) ||| (w &&& 0) = x := by
  change (x &&& ~~~0#32) ||| (w &&& 0#32) = x
  rw [BitVec.not_zero, BitVec.and_allOnes, BitVec.and_zero, BitVec.or_zero]

/-- The active word at an address of register `d` once group `g` has been copied there (R57). -/
def State.copiedWord (s : State) (g a : Nat) (d : RegDesc) (ix : List Nat) : Word :=
  (s.actWordAt a &&& ~~~(d.groupMask ix g)) ||| (s.wordAt a &&& d.groupMask ix g)

/-- Copying the fields of a group at one address. -/
def State.copyAt (g : Nat) (t : State) (a : Nat) : State :=
  match findReg a with
  | none => t
  | some (d, ix) => if d.groupMask ix g = 0 then t else { t with act := Tab.put t.act a (t.copiedWord g a d ix) }

theorem State.copyGroup_eq (s : State) (g : Nat) (sel : Nat → Bool) :
    s.copyGroup g sel = ((s.regs.map (·.1) ++ s.act.map (·.1)).filter sel).foldl (State.copyAt g) s := rfl

theorem State.copyAt_only (g : Nat) (t : State) (a : Nat) : ∃ ac, t.copyAt g a = { t with act := ac } := by
  unfold State.copyAt
  split
  · exact ⟨t.act, rfl⟩
  · split
    · exact ⟨t.act, rfl⟩
    · exact ⟨_, rfl⟩

theorem State.copyAt_actWordAt_ne (g : Nat) (t : State) {a b : Nat} (h : a ≠ b) : (t.copyAt g a).actWordAt b = t.actWordAt b := by
  unfold State.copyAt
  split
  · rfl
  · split
    · rfl
    · rw [State.actWordAt, Tab.find_put_ne _ _ h, ← State.actWordAt]

theorem State.copyAt_actWordAt_self (g : Nat) (t : State) {a : Nat} {d : RegDesc} {ix : List Nat} (hreg : findReg a = some (d, ix)) :
    (t.copyAt g a).actWordAt a = t.copiedWord g a d ix := by
  unfold State.copyAt
  simp only [hreg]
  split
  · next hm => rw [State.copiedWord, hm, mergeBits_zero]
  · simp only [State.actWordAt, Tab.find_put_self, Option.getD_some]

/-- Copying changes the active copies alone, and brings every register that it comes to up to its pending copies. -/
theorem State.copyAt_foldl (g : Nat) (l : List Nat) (t : State) : (∃ ac, l.foldl (State.copyAt g) t = { t with act := ac }) ∧
    ∀ a d ix, findReg a = some (d, ix) → (l.foldl (State.copyAt g) t).actWordAt a = if a ∈ l then t.copiedWord g a d ix else t.actWordAt a := by
  induction l generalizing t with
  | nil => exact ⟨⟨t.act, rfl⟩, fun a d ix _ => by simp⟩
  | cons b l ih =>
    obtain ⟨ac, hstep⟩ := t.copyAt_only g b
    obtain ⟨⟨ac', honly⟩, hword⟩ := ih (t.copyAt g b)
    refine ⟨⟨ac', by rw [List.foldl_cons, honly, hstep]⟩, fun a d ix hreg => ?_⟩
    have hpend : (t.copyAt g b).wordAt a = t.wordAt a := by rw [hstep]; rfl
    rw [List.foldl_cons, hword a d ix hreg, State.copiedWord, hpend]
    by_cases hab : b = a
    · subst hab
      rw [t.copyAt_actWordAt_self g hreg, State.copiedWord, mergeBits_again]
      simp
    · rw [t.copyAt_actWordAt_ne g hab, ← State.copiedWord]
      simp [Ne.symm hab]

theorem State.copyGroup_only (s : State) (g : Nat) (sel : Nat → Bool) : ∃ ac, s.copyGroup g sel = { s with act := ac } :=
  (State.copyAt_foldl g _ s).1

theorem Tab.find_eq_none {α : Type} (t : Tab α) (a : Nat) (h : a ∉ t.map (·.1)) : Tab.find t a = none := by
  induction t with
  | nil => rfl
  | cons e t ih =>
    obtain ⟨k, v⟩ := e
    rw [List.map_cons, List.mem_cons, not_or] at h
    rw [Tab.find, if_neg (Ne.symm h.1), ih h.2]

/-- Copying a whole group gives every register its pending bits of that group (R57). -/
theorem State.copyGroup_actWordAt (s : State) (g : Nat) {a : Nat} {d : RegDesc} {ix : List Nat} (hreg : findReg a = some (d, ix)) :
    (s.copyGroup g fun _ => true).actWordAt a = s.copiedWord g a d ix := by
  rw [State.copyGroup_eq, (State.copyAt_foldl g _ s).2 a d ix hreg]
  split
  · rfl
  · next hmem =>
    simp only [List.filter_true, List.mem_append, not_or] at hmem
    have hsame : s.actWordAt a = s.wordAt a := by
      rw [State.actWordAt, State.wordAt, Tab.find_eq_none _ _ hmem.1, Tab.find_eq_none _ _ hmem.2]
    rw [State.copiedWord, hsame, mergeBits_self]

/-! ### What the blocks do with a copied group -/

theorem State.wrBoth_actWordAt (s : State) (f : Fld) (v : Nat) {a : Nat} (h : f.addr ≠ a) : (s.wrBoth f v).actWordAt a = s.actWordAt a := by
  rw [State.actWordAt, State.wrBoth, Tab.find_put_ne _ _ h]
  rfl

/-- A Tally unit takes a profile into its own parameter registers (R393). -/
theorem State.loadProfile_actWordAt (s : State) (c u : Nat) (p : TallyParams) {a : Nat} (hc : c < 4) (hu : u < 8) (ha : a / 0x1000000 ≠ 0x16) :
    (s.loadProfile c u p).actWordAt a = s.actWordAt a := by
  have hne (base : Nat) (hlo : 0x16000000 ≤ base) (hhi : base < 0x16001000) : base + c * 0x40000 + u * 0x1000 ≠ a := by omega
  unfold State.loadProfile
  repeat rw [State.wrBoth_actWordAt _ _ _ (hne _ (by decide) (by decide))]

theorem State.tlyCommitted_actWordAt (s old : State) {a : Nat} (ha : a / 0x1000000 ≠ 0x16) : (s.tlyCommitted old).actWordAt a = s.actWordAt a := by
  unfold State.tlyCommitted
  dsimp only
  refine State.forAll_keeps (fun t => t.actWordAt a = s.actWordAt a) _ _ _ (State.forAll_keeps (fun t => t.actWordAt a = s.actWordAt a) _ _ _ rfl ?_) ?_
  · intro t q hq ht
    have hq : q.1 < 4 ∧ q.2 < 8 := by
      simp only [List.mem_flatMap, List.mem_map, List.mem_range, List.mem_cons, List.not_mem_nil, or_false] at hq
      obtain ⟨c, hc, u, hu, rfl⟩ := hq
      omega
    unfold State.onlyIf
    split
    · exact (t.loadProfile_actWordAt _ _ _ hq.1 hq.2 ha).trans ht
    · exact ht
  · intro t q _ ht
    unfold State.onlyIf
    split
    · rw [State.actWordAt, State.initUnit_act, ← State.actWordAt, ht]
    · exact ht

theorem State.afterCopy_actWordAt (s old : State) (g : Nat) {a : Nat} (ha : a / 0x1000000 ≠ 0x16) : (s.afterCopy old g).actWordAt a = s.actWordAt a := by
  have hact {t : State} (h : t.act = s.act) : t.actWordAt a = s.actWordAt a := by rw [State.actWordAt, h, ← State.actWordAt]
  unfold State.afterCopy
  split_ifs
  · exact hact (s.loomCommitted_act old)
  · rw [State.actWordAt, State.hmkCommitted_act, State.dmgCommitted_act, ← State.actWordAt, s.tlyCommitted_actWordAt old ha]
  · exact s.tlyCommitted_actWordAt old ha
  · exact hact (s.tfsCommitted_act old)
  · exact hact (s.lmpCommitted_act old)
  · exact hact (s.drvCommitted_act old _)
  · exact hact (s.whlCommitted_act old)
  · rfl

theorem State.afterCopy_control (s old : State) (g : Nat) : (s.afterCopy old g).ctr = s.ctr ∧
    Tab.find (s.afterCopy old g).regs RegAddr.SYS_COMMIT_ERR = Tab.find s.regs RegAddr.SYS_COMMIT_ERR := by
  unfold State.afterCopy
  split_ifs <;> simp

/-! ### Passing a commit point -/

theorem natSetBit_testBit_self (m n : Nat) (b : Bool) : (natSetBit m n b).testBit n = b := by
  cases b with
  | true => simp [natSetBit]
  | false =>
    by_cases hm : m.testBit n = true
    · obtain ⟨x, rfl⟩ := Nat.exists_eq_add_of_le (Nat.ge_two_pow_of_testBit hm)
      rw [natSetBit, if_neg Bool.false_ne_true, if_pos hm, Nat.add_sub_cancel_left]
      simpa only [Nat.testBit_two_pow_add_eq, Bool.not_eq_true'] using hm
    · simp [natSetBit, hm]

/-- A bit of a field reads as it was set. -/
theorem State.bit_wrBit_self (s : State) (f : Fld) (n : Nat) (b : Bool) (hf : f.lo + f.width ≤ 32) (hn : n < f.width) : (s.wrBit f n b).bit f n = b := by
  rw [State.bit, State.wrBit, State.rd_wr_self _ _ _ hf, Nat.testBit_mod_two_pow, natSetBit_testBit_self]
  simp [hn]

/-- SYS_COMMIT_STAT after a group has passed: ARMED is clear and DONE set (R57). -/
theorem State.passGroup_stat (s : State) (g : Nat) (late refused : Bool) (hg : g < 16) :
    (s.passGroup g late refused).armed g = false ∧ (s.passGroup g late refused).bit Reg.SYS_COMMIT_STAT_DONE g = true := by
  let marked := (s.wrBit Reg.SYS_COMMIT_STAT_ARMED g false).wrBit Reg.SYS_COMMIT_STAT_DONE g true
  have hfind : Tab.find (s.passGroup g late refused).regs RegAddr.SYS_COMMIT_STAT = Tab.find marked.regs RegAddr.SYS_COMMIT_STAT := by
    refine (State.raise_find _ _ _ _ (by decide)).trans ?_
    cases refused <;> cases late
    · rfl
    all_goals exact State.wr_find _ _ _ (by decide)
  have harmed : marked.armed g = false := by
    have hother : marked.rd Reg.SYS_COMMIT_STAT_ARMED = (s.wrBit Reg.SYS_COMMIT_STAT_ARMED g false).rd Reg.SYS_COMMIT_STAT_ARMED :=
      State.rd_wr_other _ _ _ _ rfl rfl (by decide)
    rw [State.armed, State.bit, hother]
    exact State.bit_wrBit_self _ _ _ _ (by decide) hg
  have hdone : marked.bit Reg.SYS_COMMIT_STAT_DONE g = true := State.bit_wrBit_self _ _ _ _ (by decide) hg
  exact ⟨by rw [State.armed, State.bit, State.rd_of_find hfind]; exact harmed, by rw [State.bit, State.rd_of_find hfind]; exact hdone⟩

/-- A refused group shows in REFUSED (R62). -/
theorem State.passGroup_refused (s : State) (g : Nat) (late : Bool) (hg : g < 16) :
    (s.passGroup g late true).bit Reg.SYS_COMMIT_ERR_REFUSED g = true := by
  rw [State.bit, State.passGroup, State.raise_rd _ _ _ _ _ (by decide), ← State.bit]
  exact State.bit_wrBit_self _ Reg.SYS_COMMIT_ERR_REFUSED _ _ (by decide) hg

/-- A group that was not refused leaves REFUSED as it was. -/
theorem State.passGroup_rd_refused (s : State) (g : Nat) (late : Bool) :
    (s.passGroup g late false).rd Reg.SYS_COMMIT_ERR_REFUSED = s.rd Reg.SYS_COMMIT_ERR_REFUSED := by
  have hmarked : ((s.wrBit Reg.SYS_COMMIT_STAT_ARMED g false).wrBit Reg.SYS_COMMIT_STAT_DONE g true).rd Reg.SYS_COMMIT_ERR_REFUSED =
      s.rd Reg.SYS_COMMIT_ERR_REFUSED := (State.rd_wr_ne _ _ _ _ (by decide)).trans (State.rd_wr_ne _ _ _ _ (by decide))
  rw [State.passGroup, State.raise_rd _ _ _ _ _ (by decide)]
  cases late
  · exact hmarked
  · exact (State.rd_wr_other _ Reg.SYS_COMMIT_ERR_LATE Reg.SYS_COMMIT_ERR_REFUSED _ rfl rfl (by decide)).trans hmarked

@[simp] theorem State.passGroup_ctr (s : State) (g : Nat) (late refused : Bool) : (s.passGroup g late refused).ctr = s.ctr := by
  cases late <;> cases refused <;> simp [State.passGroup]

@[simp] theorem State.startActive_control (s : State) (g : Nat) : (s.startActive g).ctr = s.ctr ∧ (s.startActive g).regs = s.regs := by
  unfold State.startActive
  split <;> exact ⟨rfl, rfl⟩

/-! ### What a refusal leaves -/

/-- The second state differs from the first in registers alone. -/
def OnlyRegs (s t : State) : Prop := ∃ r, t = { s with regs := r }

theorem OnlyRegs.refl (s : State) : OnlyRegs s s := ⟨s.regs, rfl⟩

theorem OnlyRegs.wr {s t : State} (h : OnlyRegs s t) (f : Fld) (v : Nat) : OnlyRegs s (t.wr f v) := by
  obtain ⟨r, rfl⟩ := h
  exact ⟨_, rfl⟩

theorem OnlyRegs.noteCode {s t : State} (h : OnlyRegs s t) (f : Fld) (code : Nat) : OnlyRegs s (t.noteCode f code) := by
  unfold State.noteCode State.onlyIf
  split
  · exact h.wr f code
  · exact h

theorem OnlyRegs.noteTlyRefused {s t : State} (h : OnlyRegs s t) : OnlyRegs s t.noteTlyRefused :=
  State.forAll_keeps (OnlyRegs s) _ _ t h fun u c _ hu => by
    split
    · exact (hu.wr _ _).wr _ _
    · exact hu

/-- Each block of G1 that refuses records its own reason, in registers. -/
theorem State.noteG1_only (s : State) : OnlyRegs s s.noteG1 := by
  have hs := OnlyRegs.refl s
  unfold State.noteG1
  extract_lets s1 s2 s3
  have h1 : OnlyRegs s s1 := by
    unfold s1
    (repeat' split)
    · exact (((hs.wr _ _).wr _ _).wr _ _).wr _ _
    all_goals exact hs
  have h2 : OnlyRegs s s2 := by
    unfold s2
    split
    · exact (((h1.wr _ _).wr _ _).wr _ _).wr _ _
    · exact h1
  have h3 : OnlyRegs s s3 := by
    unfold s3
    split
    · exact hs
    · exact h2.noteCode _ _
  unfold State.onlyIf
  split
  · exact (h3.noteCode _ _).noteTlyRefused
  · exact h3.noteCode _ _

/-- The reason of a refusal stands in registers, and a refusal changes nothing else (R62). -/
theorem State.noteRefusal_only (s : State) (g : Nat) : OnlyRegs s (s.noteRefusal g) := by
  have harea {t : State} (ht : OnlyRegs s t) : OnlyRegs s (t.noteArea g) := by
    unfold State.noteArea State.onlyIf
    split
    · exact (ht.wr _ _).wr _ _
    · exact ht
  have hs := OnlyRegs.refl s
  refine harea ?_
  split_ifs
  · split
    · exact (((hs.wr _ _).wr _ _).wr _ _).wr _ _
    · exact hs
  · exact s.noteG1_only
  all_goals exact hs.noteCode _ _

/-! ### A whole group -/

theorem State.commitGroup_of_refused (s : State) (g : Nat) (late : Bool) (h : s.refuses g = true) :
    ∃ w, s.commitGroup g late = { ((s.noteRefusal g).startActive g).passGroup g late true with whl := w } := by
  rw [State.commitGroup, if_pos h]
  dsimp only
  split
  · exact ⟨_, rfl⟩
  · exact ⟨(((s.noteRefusal g).startActive g).passGroup g late true).whl, rfl⟩

theorem State.commitGroup_of_good (s : State) (g : Nat) (late : Bool) (h : s.refuses g = false) :
    s.commitGroup g late = (((s.copyGroup g fun _ => true).startActive g).afterCopy s g).passGroup g late false := by
  rw [State.commitGroup, if_neg (by simp [h])]

/-- A set that is refused (R62): the group has passed, REFUSED shows it, and no field is copied. -/
theorem State.commitGroup_refused_spec (s : State) (g : Nat) (late : Bool) (hg : g < 16) (h : s.refuses g = true) :
    (s.commitGroup g late).ctr = s.ctr ∧ (s.commitGroup g late).armed g = false ∧ (s.commitGroup g late).bit Reg.SYS_COMMIT_STAT_DONE g = true ∧
    (s.commitGroup g late).bit Reg.SYS_COMMIT_ERR_REFUSED g = true ∧ (s.commitGroup g late).act = s.act := by
  obtain ⟨w, heq⟩ := s.commitGroup_of_refused g late h
  obtain ⟨r, hnote⟩ := s.noteRefusal_only g
  obtain ⟨harmed, hdone⟩ := ((s.noteRefusal g).startActive g).passGroup_stat g late true hg
  have href := ((s.noteRefusal g).startActive g).passGroup_refused g late hg
  rw [heq]
  exact ⟨by simp [hnote], harmed, hdone, href, by simp [hnote]⟩

/-- A set that is good (R57): the group has passed, REFUSED stays, and every register takes the group's pending bits, the Tally region aside. -/
theorem State.commitGroup_good_spec (s : State) (g : Nat) (late : Bool) (hg : g < 16) (h : s.refuses g = false) :
    (s.commitGroup g late).ctr = s.ctr ∧ (s.commitGroup g late).armed g = false ∧ (s.commitGroup g late).bit Reg.SYS_COMMIT_STAT_DONE g = true ∧
    (s.commitGroup g late).rd Reg.SYS_COMMIT_ERR_REFUSED = s.rd Reg.SYS_COMMIT_ERR_REFUSED ∧
    ∀ a d ix, findReg a = some (d, ix) → a / 0x1000000 ≠ 0x16 → (s.commitGroup g late).actWordAt a = s.copiedWord g a d ix := by
  obtain ⟨ac, hcopy⟩ := s.copyGroup_only g fun _ => true
  obtain ⟨hctr, herr⟩ := ((s.copyGroup g fun _ => true).startActive g).afterCopy_control s g
  obtain ⟨harmed, hdone⟩ := (((s.copyGroup g fun _ => true).startActive g).afterCopy s g).passGroup_stat g late false hg
  rw [s.commitGroup_of_good g late h]
  refine ⟨by rw [State.passGroup_ctr, hctr]; simp [hcopy], harmed, hdone, ?_, fun a d ix hreg ha => ?_⟩
  · rw [State.passGroup_rd_refused]
    exact State.rd_of_find (herr.trans (by rw [(State.startActive_control _ g).2, hcopy]; rfl))
  · rw [State.actWordAt, State.passGroup_act, ← State.actWordAt, State.afterCopy_actWordAt _ _ _ ha, State.actWordAt, State.startActive_act,
      ← State.actWordAt, s.copyGroup_actWordAt g hreg]

theorem State.releaseHeld_of_none (s : State) (h : s.ctr.held = none) : s.releaseHeld = s := by
  simp only [State.releaseHeld, h]

/-! ### COMMIT_POINT -/

theorem doCommitPoint_of_unarmed (s : State) (g p : Nat) (h : s.armed g = false) : doCommitPoint s g p = s := by simp [doCommitPoint, h]

theorem doCommitPoint_of_port (s : State) (g p : Nat) (h : s.armed g = true) (hg : g = 12 ∨ g = 14) : doCommitPoint s g p = s.commitPort g p := by
  simp [doCommitPoint, h, hg]

theorem doCommitPoint_of_not_due (s : State) (g p : Nat) (h12 : g ≠ 12) (h14 : g ≠ 14) (h : s.pointDue g = false) : doCommitPoint s g p = s := by
  simp [doCommitPoint, h, h12, h14]

/-- A group armed after its deadline lets the point pass (R58). -/
theorem doCommitPoint_of_early (s : State) (g p : Nat) (harmed : s.armed g = true) (h12 : g ≠ 12) (h14 : g ≠ 14) (hdue : s.pointDue g = true)
    (hmissed : s.sys.missed.contains g = false) (hlate : (s.groupPoint g).2 < Tab.get s.sys.armAt g + armDeadline g) :
    doCommitPoint s g p = { s.perform g (s.groupPoint g).1 with sys := { s.sys with missed := g :: s.sys.missed } } := by
  rw [doCommitPoint, if_neg (by simp [harmed]), if_neg (by simp [h12, h14]), if_neg (by simp [hdue])]
  exact if_pos (by rw [hmissed]; simpa using hlate)

/-- Any other group is committed, and a held selection follows it. -/
theorem doCommitPoint_of_due (s : State) (g p : Nat) (harmed : s.armed g = true) (h12 : g ≠ 12) (h14 : g ≠ 14) (hdue : s.pointDue g = true)
    (htime : s.sys.missed.contains g = true ∨ Tab.get s.sys.armAt g + armDeadline g ≤ (s.groupPoint g).2) :
    doCommitPoint s g p = ((s.perform g (s.groupPoint g).1).commitGroup g (s.sys.missed.contains g)).releaseHeld := by
  rw [doCommitPoint, if_neg (by simp [harmed]), if_neg (by simp [h12, h14]), if_neg (by simp [hdue])]
  refine if_neg ?_
  rcases htime with hmissed | hon
  · rw [hmissed]; simp
  · simp [Nat.not_lt.mpr hon]

/-- A port that has taken its commit takes no other. -/
theorem State.commitPort_of_taken (s : State) (g p : Nat) (h : (Tab.get s.sys.portsLeft g).contains p = false) : s.commitPort g p = s := by
  rw [State.commitPort, if_pos (by rw [h]; rfl)]

/-- A set of a port group with a bad port is refused whole (R62). -/
theorem State.commitPort_of_refused (s : State) (g p : Nat) (h : (Tab.get s.sys.portsLeft g).contains p = true) (hbad : s.portsRefuse g = true) :
    s.commitPort g p = ((s.forAll (s.groupPorts g) fun t q => t.noteCode (portRefuseField g q) (s.portRefusal g q)).startActive g).passGroup g false true := by
  rw [State.commitPort, if_neg (by rw [h]; simp), if_pos hbad]

/-- A port group has passed with its last port (R58). -/
theorem State.commitPort_of_last (s : State) (g p : Nat) (h : (Tab.get s.sys.portsLeft g).contains p = true) (hgood : s.portsRefuse g = false)
    (hlast : (Tab.get s.sys.portsLeft g).filter (· != p) = []) : s.commitPort g p = ((s.commitOne g p).startActive g).passGroup g false false := by
  rw [State.commitPort, if_neg (by rw [h]; simp), if_neg (by simp [hgood])]
  exact if_pos (by rw [hlast]; rfl)

/-- Settles O17: a due point commits the state in which its occurrence counts as performed, and no block's part in a commit touches REFUSED or a held
selection. -/
theorem commitPointCopiesOrRefuses : Obligations.CommitPointCopiesOrRefuses := by
  intro g p s
  have hexec {t : State} (h : doCommitPoint s g.toNat p.val = t) : exec (.commitPoint g p) s = .next (if s.alive then t else s) := by
    rw [← h]
    rfl
  have hstay (h : doCommitPoint s g.toNat p.val = s) : exec (.commitPoint g p) s = .next s := by rw [hexec h, ite_self]
  have hworks {P : State → Prop} (h : P (doCommitPoint s g.toNat p.val)) : Works (.commitPoint g p) s P := works_of_exec (f := fun u =>
    doCommitPoint u g.toNat p.val) rfl h
  refine ⟨fun h => hstay (doCommitPoint_of_unarmed s _ _ h), fun _ h12 h14 h => hstay (doCommitPoint_of_not_due s _ _ h12 h14 h),
    fun harmed h12 h14 hheld hdue => ⟨fun hmissed hlate => hworks ?_, fun htime => ⟨fun href => hworks ?_, fun hgood => hworks ?_⟩⟩,
    fun harmed hports => ⟨fun htaken => hstay ?_, fun hleft hbad => hworks ?_, fun hleft hgood hlast => hworks ?_⟩⟩
  · rw [doCommitPoint_of_early s _ _ harmed h12 h14 hdue hmissed hlate]
    exact ⟨rfl, rfl⟩
  · obtain ⟨hctr, hspec⟩ := (s.perform g.toNat (s.groupPoint g.toNat).1).commitGroup_refused_spec g.toNat (s.sys.missed.contains g.toNat) g.isLt href
    rw [doCommitPoint_of_due s _ _ harmed h12 h14 hdue htime, State.releaseHeld_of_none _ (by rw [hctr]; exact hheld)]
    exact hspec
  · obtain ⟨hctr, hspec⟩ := (s.perform g.toNat (s.groupPoint g.toNat).1).commitGroup_good_spec g.toNat (s.sys.missed.contains g.toNat) g.isLt hgood
    rw [doCommitPoint_of_due s _ _ harmed h12 h14 hdue htime, State.releaseHeld_of_none _ (by rw [hctr]; exact hheld)]
    exact hspec
  · rw [doCommitPoint_of_port s _ _ harmed hports, s.commitPort_of_taken _ _ htaken]
  · rw [doCommitPoint_of_port s _ _ harmed hports, s.commitPort_of_refused _ _ hleft hbad]
    obtain ⟨hstat, hdone⟩ := State.passGroup_stat _ g.toNat false true g.isLt
    exact ⟨hstat, hdone, State.passGroup_refused _ _ _ g.isLt, by simp⟩
  · rw [doCommitPoint_of_port s _ _ harmed hports, s.commitPort_of_last _ _ hleft hgood hlast]
    exact State.passGroup_stat _ g.toNat false false g.isLt

end Sys2Proof.Machine
end

section
/-! SUPPORT. Arming a group (R57, R58, R392). -/

namespace Sys2Proof.Machine

/-! ### Bytes -/

/-- Two states have the same three memories. -/
def SameMemory (s t : State) : Prop := t.dram = s.dram ∧ t.sram = s.sram ∧ t.flash = s.flash

theorem SameMemory.sameBytes {s t : State} (h : SameMemory s t) : SameBytes s t := by
  obtain ⟨hdram, hsram, hflash⟩ := h
  exact ⟨fun a => by rw [State.dramByte, hdram, ← State.dramByte], fun b o => by rw [State.sramByte, hsram, ← State.sramByte],
    fun a => by rw [State.flashByte, hflash, ← State.flashByte]⟩

theorem State.passGroup_memory (s : State) (g : Nat) (late refused : Bool) : SameMemory s (s.passGroup g late refused) := by
  obtain ⟨l, r, b, heq, _⟩ := State.raise_only _ srcControl (if refused then 0x4003 else if late then 0x4002 else 0x0001) g
  rw [State.passGroup, heq]
  cases late <;> cases refused <;> exact ⟨rfl, rfl, rfl⟩

theorem SameMemory.refl (s : State) : SameMemory s s := ⟨rfl, rfl, rfl⟩

theorem SameMemory.trans {s t u : State} (h : SameMemory s t) (k : SameMemory t u) : SameMemory s u :=
  ⟨k.1.trans h.1, k.2.1.trans h.2.1, k.2.2.trans h.2.2⟩

theorem SameMemory.onlyIf {s : State} (c : Bool) {f : State → State} (h : SameMemory s (f s)) : SameMemory s (s.onlyIf c f) := by
  unfold State.onlyIf
  split
  · exact h
  · exact .refl s

theorem OnlyRegs.memory {s t : State} (h : OnlyRegs s t) : SameMemory s t := by
  obtain ⟨r, rfl⟩ := h
  exact ⟨rfl, rfl, rfl⟩

/-! ### A commit of G1 in a device without a role -/

@[simp] theorem State.wrBoth_memory (s : State) (f : Fld) (v : Nat) :
    (s.wrBoth f v).dram = s.dram ∧ (s.wrBoth f v).sram = s.sram ∧ (s.wrBoth f v).flash = s.flash := ⟨rfl, rfl, rfl⟩

/-- The Tally units take their parameters in registers and active copies, and begin anew (R393, R394). -/
theorem State.tlyCommitted_memory (s old : State) : SameMemory s (s.tlyCommitted old) := by
  have hprofile (t : State) (c u : Nat) (p : TallyParams) : SameMemory t (t.loadProfile c u p) := by simp [SameMemory, State.loadProfile]
  have hinit (t : State) (c u : Nat) : SameMemory t (t.initUnit c u true) := ⟨rfl, rfl, rfl⟩
  exact State.forAll_keeps (SameMemory s) _ _ _
    (State.forAll_keeps (SameMemory s) _ _ s (.refl s) fun t q _ ht => ht.trans (.onlyIf _ (hprofile t _ _ _)))
    fun t q _ ht => ht.trans (.onlyIf _ (hinit t _ _))

theorem State.startActive_memory (s : State) (g : Nat) : SameMemory s (s.startActive g) := by
  unfold State.startActive
  split <;> exact ⟨rfl, rfl, rfl⟩

/-- Without a role only the Tally units act on a commit of G1 (R392). -/
theorem State.afterCopy_one_of_roleless (s old : State) (hrole : s.role = 0) : s.afterCopy old 1 = s.tlyCommitted old := by
  simp [State.afterCopy, State.isSender, hrole]

/-- Without a role a commit of G1 changes no memory (R392). -/
theorem State.commitGroup_one_memory (s : State) (late : Bool) (hrole : s.role = 0) : SameMemory s (s.commitGroup 1 late) := by
  cases href : s.refuses 1 with
  | true =>
    obtain ⟨w, heq⟩ := s.commitGroup_of_refused 1 late href
    rw [heq]
    exact ((s.noteRefusal_only 1).memory.trans (State.startActive_memory _ 1)).trans (State.passGroup_memory _ 1 late true)
  | false =>
    obtain ⟨ac, hcopy⟩ := s.copyGroup_only 1 fun _ => true
    have hcopied : SameMemory s ((s.copyGroup 1 fun _ => true).startActive 1) := by
      rw [hcopy]
      exact State.startActive_memory { s with act := ac } 1
    have hrole' : ((s.copyGroup 1 fun _ => true).startActive 1).role = 0 := by
      rw [← hrole]
      exact State.rd_of_find (by rw [(State.startActive_control _ 1).2, hcopy])
    rw [s.commitGroup_of_good 1 late href, State.afterCopy_one_of_roleless _ _ hrole']
    exact (hcopied.trans (State.tlyCommitted_memory _ _)).trans (State.passGroup_memory _ 1 late false)

/-- Without a role arming G1 commits it at once (R392). -/
theorem State.armGroup_of_roleless (s : State) (harmed : s.armed 1 = false) (hrole : s.role = 0) :
    s.armGroup 1 = (s.wrBit Reg.SYS_COMMIT_STAT_ARMED 1 true).commitGroup 1 false := by
  rw [State.armGroup, if_neg (by simp [harmed])]
  exact if_pos ⟨hrole, rfl⟩

/-- SYS_COMMIT_STAT holds no staged field. -/
theorem copiedWord_of_armed (s : State) (g h a : Nat) (d : RegDesc) (ix : List Nat) (hreg : findReg a = some (d, ix)) :
    (s.wrBit Reg.SYS_COMMIT_STAT_ARMED g true).copiedWord h a d ix = s.copiedWord h a d ix := by
  by_cases ha : Reg.SYS_COMMIT_STAT_ARMED.addr = a
  · subst ha
    have hrow : findReg RegAddr.SYS_COMMIT_STAT =
        some (⟨"SYS_COMMIT_STAT", 0x10FFF024, [], .const 0x0, [fd 16 16 .w1c, fd 0 16 .ro]⟩, []) := rfl
    obtain ⟨rfl, rfl⟩ := Prod.mk.inj (Option.some.inj (hreg.symm.trans hrow))
    rw [State.copiedWord, State.copiedWord, show RegDesc.groupMask _ _ h = 0 from rfl, mergeBits_zero, mergeBits_zero]
    rfl
  · rw [State.copiedWord, State.wrBit, State.wordAt_of_find (s.wr_find _ _ ha)]
    rfl

/-! ### ARM -/

theorem execArm_eq {g : BitVec 4} {s t : State} (h : s.armGroup g.toNat = t) : exec (.arm g) s = .next (if s.alive then t else s) := by
  rw [← h]
  rfl

/-- Arming a group marks SYS_COMMIT_STAT, SYS_COMMIT_ERR and SYS_ALERT, in no memory (R57, R58). -/
theorem State.armGroup_memory (s : State) (g : Nat) (hrole : s.role ≠ 0 ∨ g ≠ 1) : SameMemory s (s.armGroup g) := by
  cases harmed : s.armed g with
  | true => rw [s.armGroup_of_armed g harmed]; exact ⟨rfl, rfl, rfl⟩
  | false =>
    cases hhere : s.groupHere g with
    | true =>
      obtain ⟨left, heq⟩ := s.armGroup_of_here g harmed hhere
      rw [heq]
      exact ⟨rfl, rfl, rfl⟩
    | false =>
      rw [s.armGroup_of_absent g harmed hrole hhere]
      exact (s.wrBit Reg.SYS_COMMIT_STAT_ARMED g true).passGroup_memory g false false

theorem State.armGroup_here_spec (s : State) (g : Nat) (hg : g < 16) (harmed : s.armed g = false) (hhere : s.groupHere g = true) :
    (s.armGroup g).armed g = true ∧ Tab.get (s.armGroup g).sys.armAt g = s.groupClock g ∧
    (s.armGroup g).bit Reg.SYS_COMMIT_STAT_DONE g = s.bit Reg.SYS_COMMIT_STAT_DONE g := by
  obtain ⟨left, heq⟩ := s.armGroup_of_here g harmed hhere
  rw [heq]
  refine ⟨State.bit_wrBit_self s _ _ true (by decide) hg, Tab.get_put_self _ _ _, ?_⟩
  exact congrArg (·.testBit g) (s.rd_wr_other Reg.SYS_COMMIT_STAT_ARMED Reg.SYS_COMMIT_STAT_DONE _ rfl rfl (by decide))

/-- Settles O16: arming marks a group that holds a field, passes one that holds none, and commits G1 in a device without a role. -/
theorem armMarksTheGroup : Obligations.ArmMarksTheGroup := by
  intro g s
  refine ⟨fun harmed => ?_, fun harmed hrole => works_of_exec rfl ?_, fun harmed hrole hg => works_of_exec rfl ?_⟩
  · rw [execArm_eq (s.armGroup_of_armed _ harmed), ite_self]
  · obtain ⟨hact, hfind⟩ := s.armGroup_keeps g.toNat hrole
    refine ⟨s.armGroup_here_spec _ g.isLt harmed, fun habsent => ?_, (s.armGroup_memory _ hrole).sameBytes, fun a ha => ?_, fun a => ?_⟩
    · change (s.armGroup _).armed _ = false ∧ (s.armGroup _).bit _ _ = true
      rw [s.armGroup_of_absent _ harmed hrole habsent]
      exact State.passGroup_stat _ _ false false g.isLt
    · have hne : a ≠ RegAddr.SYS_COMMIT_STAT ∧ a ≠ RegAddr.SYS_COMMIT_ERR ∧ a ≠ RegAddr.SYS_ALERT := by simpa using ha
      obtain ⟨hstat, herr, halert⟩ := hne
      exact State.wordAt_of_find (hfind a hstat.symm herr.symm halert)
    · exact congrArg (fun t => (Tab.find t a).getD (resetWordAt a)) hact
  · have hself : (s.armGroup g.toNat) = (s.wrBit Reg.SYS_COMMIT_STAT_ARMED 1 true).commitGroup 1 false := by
      rw [hg, s.armGroup_of_roleless (hg ▸ harmed) hrole]
    have hrole' : (s.wrBit Reg.SYS_COMMIT_STAT_ARMED 1 true).role = 0 := (State.wr_role _ _ _ (by decide)).trans hrole
    change (s.armGroup g.toNat).armed 1 = false ∧ (s.armGroup g.toNat).bit _ 1 = true ∧ SameBytes s (s.armGroup g.toNat) ∧ (_ → ∀ a d ix, _ → _ →
      (s.armGroup g.toNat).actWordAt a = s.copiedWord 1 a d ix)
    rw [hself]
    have hmem := (State.commitGroup_one_memory (s.wrBit Reg.SYS_COMMIT_STAT_ARMED 1 true) false hrole').sameBytes
    cases href : (s.wrBit Reg.SYS_COMMIT_STAT_ARMED 1 true).refuses 1 with
    | true =>
      obtain ⟨-, hstat, hdone, -, -⟩ := State.commitGroup_refused_spec _ 1 false (by decide) href
      exact ⟨hstat, hdone, hmem, fun h => absurd h (by simp)⟩
    | false =>
      obtain ⟨-, hstat, hdone, -, hcopy⟩ := State.commitGroup_good_spec _ 1 false (by decide) href
      exact ⟨hstat, hdone, hmem, fun _ a d ix hreg ha => (hcopy a d ix hreg ha).trans (copiedWord_of_armed s 1 1 a d ix hreg)⟩

end Sys2Proof.Machine
end

section
/-! SUPPORT. Selections and entries (R62, R468 to R470, R474). -/

namespace Sys2Proof.Machine

/-! ### Arming several groups -/

theorem natSetBit_testBit_true (m n i : Nat) (h : m.testBit i = true) : (natSetBit m n true).testBit i = true := by
  simp [natSetBit, h]

theorem State.role_of_groupHere (s : State) (g : Nat) (h : s.groupHere g = true) : s.role ≠ 0 := by
  intro hr
  simp [State.groupHere, State.isSender, State.isTile, hr] at h

/-- Arming a group that holds a field leaves every armed group armed. -/
theorem State.armGroup_armed_of_armed (s : State) (g h : Nat) (hh : s.groupHere h = true) (hg : s.armed g = true) :
    (s.armGroup h).armed g = true := by
  cases harmed : s.armed h with
  | true => rwa [s.armGroup_of_armed h harmed]
  | false =>
    obtain ⟨left, heq⟩ := s.armGroup_of_here h harmed hh
    have hlt : g < Reg.SYS_COMMIT_STAT_ARMED.width := by
      by_contra hge
      have hbig := Nat.lt_of_lt_of_le (s.rd_lt Reg.SYS_COMMIT_STAT_ARMED) (Nat.pow_le_pow_right Nat.two_pos (Nat.le_of_not_lt hge))
      rw [State.armed, State.bit, Nat.testBit_lt_two_pow hbig] at hg
      cases hg
    rw [heq]
    change ((s.wr Reg.SYS_COMMIT_STAT_ARMED _).rd Reg.SYS_COMMIT_STAT_ARMED).testBit g = true
    rw [State.rd_wr_self _ _ _ (by decide), Nat.testBit_mod_two_pow, natSetBit_testBit_true _ h g hg, decide_eq_true hlt]
    rfl

theorem State.armGroup_armed_self (s : State) (g : Nat) (hg : g < 16) (hh : s.groupHere g = true) : (s.armGroup g).armed g = true := by
  cases harmed : s.armed g with
  | true => rwa [s.armGroup_of_armed g harmed]
  | false => exact (s.armGroup_here_spec g hg harmed hh).1

/-- Groups that hold a field in the role are all armed, one after another (R57, R58). -/
theorem State.forAll_armGroup_armed (l : List Nat) (s : State) (hl : ∀ h ∈ l, h < 16 ∧ s.groupHere h = true) (g : Nat)
    (hg : g ∈ l ∨ s.armed g = true) :
    (s.forAll l State.armGroup).armed g = true := by
  induction l generalizing s with
  | nil => exact hg.resolve_left (by simp)
  | cons x l ih =>
    obtain ⟨⟨hx, hhere⟩, hrest⟩ := List.forall_mem_cons.mp hl
    have hrole : (s.armGroup x).role = s.role := s.armGroup_role x (.inl (s.role_of_groupHere x hhere))
    have hsame (h : Nat) : (s.armGroup x).groupHere h = s.groupHere h := by
      unfold State.groupHere State.isSender State.isTile
      rw [hrole]
    refine ih (s.armGroup x) (fun h hh => ⟨(hrest h hh).1, (hsame h).trans (hrest h hh).2⟩) ?_
    rcases hg with hmem | harmed
    · rcases List.mem_cons.mp hmem with rfl | hmem
      · exact .inr (s.armGroup_armed_self g hx hhere)
      · exact .inl hmem
    · exact .inr (s.armGroup_armed_of_armed g x hhere harmed)

theorem State.armMask_armed (s : State) (mask g : Nat) (hg : g < 16) (hm : mask.testBit g = true)
    (hh : ∀ h < 16, mask.testBit h = true → s.groupHere h = true) : (s.armMask mask).armed g = true := by
  refine State.forAll_armGroup_armed _ s (fun h hmem => ?_) g (.inl (List.mem_filter.mpr ⟨List.mem_range.mpr hg, hm⟩))
  obtain ⟨hlt, hbit⟩ := List.mem_filter.mp hmem
  exact ⟨List.mem_range.mp hlt, hh h (List.mem_range.mp hlt) hbit⟩

theorem State.armMask_zero (s : State) : s.armMask 0 = s := by
  simp [State.armMask, State.forAll]

/-- In a Sender the mask of G0 and G1 arms both. -/
theorem State.armMask_three (s : State) (hs : s.isSender = true) : (s.armMask 3).armed 0 = true ∧ (s.armMask 3).armed 1 = true := by
  have hh (h : Nat) (_ : h < 16) (hbit : (3 : Nat).testBit h = true) : s.groupHere h = true := by
    have : h < 2 := by
      by_contra hge
      rw [Nat.testBit_lt_two_pow (Nat.lt_of_lt_of_le (by decide : 3 < 2 ^ 2) (Nat.pow_le_pow_right Nat.two_pos (Nat.le_of_not_lt hge)))] at hbit
      cases hbit
    simp [State.groupHere, hs, this]
  exact ⟨s.armMask_armed 3 0 (by decide) (by decide) hh, s.armMask_armed 3 1 (by decide) (by decide) hh⟩

/-! ### CTR_CMD and the groups -/

theorem State.setCmd_armed (s : State) (cmd result g : Nat) : (s.setCmd cmd result).armed g = s.armed g :=
  congrArg (·.testBit g) (State.rd_of_find (s.setCmd_find cmd result (by decide)))

theorem State.setCmd_isSender (s : State) (cmd result : Nat) : (s.setCmd cmd result).isSender = s.isSender := by
  rw [State.isSender, s.setCmd_role, ← State.isSender]

/-- Two states in which the same groups are armed give entries the same result (R469). -/
theorem State.setCmd_entriesResult (s : State) (cmd result : Nat) (es : List (Nat × Word)) (allowed : Nat → Bool) :
    (s.setCmd cmd result).entriesResult es allowed = s.entriesResult es allowed := by
  have harmed : (s.setCmd cmd result).armed = s.armed := funext (s.setCmd_armed cmd result)
  have hentry : (s.setCmd cmd result).entryArmed = s.entryArmed := by
    funext a
    simp only [State.entryArmed, State.locked, harmed]
  simp only [State.entriesResult, hentry]

/-- SELECT and LAYOUT are a Sender's (R468, R473). -/
theorem State.isSender_of_allows (s : State) (cmd : Nat) (hcmd : cmd = 1 ∨ cmd = 2) (h : s.allows cmd = true) : s.isSender = true := by
  by_contra hs
  unfold State.allows at h
  rw [if_neg hs] at h
  rcases hcmd with rfl | rfl
  all_goals
    split_ifs at h
    all_goals exact absurd h (by decide)

/-! ### SELECT -/

theorem State.selectPreset_of_free (s : State) (n : Nat) (pins : Bool) (h : s.preset n = none ∨ s.armed 0 = false ∧ s.armed 1 = false) :
    s.selectPreset n pins = s.applyPreset n pins := by
  rw [State.selectPreset, if_neg]
  rcases h with hnone | ⟨h0, h1⟩
  · simp [hnone]
  · simp [h0, h1]

/-- A selection that is made while G0 or G1 is armed is held (R470). -/
theorem State.selectPreset_of_armed (s : State) (n : Nat) (pins : Bool) (h : s.preset n ≠ none) (ha : s.armed 0 = true ∨ s.armed 1 = true) :
    s.selectPreset n pins =
      ({ s with ctr := { s.ctr with held := some (n, pins) } } : State).onlyIf (!pins) fun t => t.wr Reg.CTR_CMD_RESULT 1 := by
  rw [State.selectPreset, if_pos]
  simpa [Option.isSome_iff_ne_none, h] using ha

/-- SYS_PRESET shows a selection that is made (R470). -/
theorem State.presetStored_shown (s : State) (es : List (Nat × Word)) (n : Nat) (pins : Bool) :
    (s.presetStored es n pins).rd Reg.SYS_PRESET_CURRENT = n % 64 ∧ (s.presetStored es n pins).flag Reg.SYS_PRESET_SRC = !pins := by
  have hcurrent (b : Bool) : (((s.storeAll es).wr Reg.SYS_PRESET_CURRENT n).wrFlag Reg.SYS_PRESET_SRC b).rd Reg.SYS_PRESET_CURRENT = n % 64 :=
    (State.rd_wr_other _ Reg.SYS_PRESET_SRC Reg.SYS_PRESET_CURRENT _ rfl rfl (by decide)).trans (State.rd_wr_self _ _ _ (by decide))
  have hsrc (b : Bool) : (((s.storeAll es).wr Reg.SYS_PRESET_CURRENT n).wrFlag Reg.SYS_PRESET_SRC b).flag Reg.SYS_PRESET_SRC = b := by
    rw [State.flag, State.wrFlag, State.rd_wr_self _ _ _ (by decide)]
    cases b <;> rfl
  unfold State.presetStored State.flag
  rw [State.raise_rd _ _ _ _ _ (by decide), State.raise_rd _ _ _ _ _ (by decide)]
  cases pins
  · exact ⟨(State.rd_wr_ne _ _ _ _ (by decide)).trans (hcurrent true),
      (congrArg (· == 1) (State.rd_wr_ne _ Reg.CTR_CMD_RESULT Reg.SYS_PRESET_SRC _ (by decide))).trans (hsrc true)⟩
  · exact ⟨hcurrent false, hsrc false⟩

/-- A selection that is made in a Sender shows in SYS_PRESET and arms G0 and G1 (R62, R470). -/
theorem State.applyPreset_spec (s : State) (n : Nat) (pins : Bool) (es : List (Nat × Word)) (hpreset : s.preset n = some es)
    (hs : s.isSender = true) : (s.applyPreset n pins).rd Reg.SYS_PRESET_CURRENT = n % 64 ∧ (s.applyPreset n pins).flag Reg.SYS_PRESET_SRC = (!pins) ∧
      (s.applyPreset n pins).armed 0 = true ∧ (s.applyPreset n pins).armed 1 = true := by
  have hstored : (s.presetStored es n pins).isSender = true := by rw [State.isSender, State.presetStored_role]; exact hs
  have hrole : (s.presetStored es n pins).role ≠ 0 := by
    intro h
    simp [State.isSender, h] at hstored
  obtain ⟨hcurrent, hsrc⟩ := s.presetStored_shown es n pins
  have hfind := ((s.presetStored es n pins).armMask_keeps 3 hrole).2 RegAddr.SYS_PRESET (by decide) (by decide) (by decide)
  rw [s.applyPreset_of_some n pins es hpreset]
  exact ⟨(State.rd_of_find hfind).trans hcurrent, (congrArg (· == 1) (State.rd_of_find hfind)).trans hsrc, State.armMask_three _ hstored⟩

/-- A command that runs leaves the registers but CTR_CMD to its meaning. -/
theorem works_of_gate {c : Instr} {s : State} {cmd : Nat} {act : State → State} {P : State → Prop}
    (hc : exec c s = .next (s.whenAlive fun u => u.gate cmd act)) (hh : s.onHold = false) (ha : s.allows cmd = true) (h : P (act (s.setCmd cmd 0))) :
    Works c s P := by
  intro halive
  exact works_of_exec hc (by rwa [s.gate_of_allowed cmd act halive hh ha]) halive

theorem select_spec (n : BitVec 8) (s : State) (hh : s.onHold = false) (hallow : s.allows 1 = true) :
    (s.preset n.toNat = none → Works (.select n) s fun t => t.rd Reg.CTR_CMD_RESULT = 2 ∧ t.ctr.held = s.ctr.held ∧
      SameRegs s t fun x => x == RegAddr.CTR_CMD || x == RegAddr.SYS_ALERT) ∧
    (s.preset n.toNat ≠ none → s.armed 0 = false → s.armed 1 = false → Works (.select n) s fun t =>
      t.rd Reg.SYS_PRESET_CURRENT = n.toNat % 64 ∧ t.flag Reg.SYS_PRESET_SRC = true ∧ t.armed 0 = true ∧ t.armed 1 = true) ∧
    (s.preset n.toNat ≠ none → (s.armed 0 = true ∨ s.armed 1 = true) → Works (.select n) s fun t => t.ctr.held = some (n.toNat, false) ∧
      t.rd Reg.CTR_CMD_RESULT = 1 ∧ SameRegs s t fun x => x == RegAddr.CTR_CMD) := by
  have hworks {P : State → Prop} (h : P ((s.setCmd 1 0).selectPreset n.toNat false)) : Works (.select n) s P := works_of_gate rfl hh hallow h
  refine ⟨fun hnone => hworks ?_, fun hsome h0 h1 => hworks ?_, fun hsome harmed => hworks ?_⟩
  · rw [State.selectPreset_of_free (s.setCmd 1 0) _ _ (.inl hnone), State.applyPreset_of_none (s.setCmd 1 0) _ _ hnone]
    refine ⟨?_, by simp [State.onlyIf, State.setCmd], fun a ha => ?_, fun a => ?_⟩
    · exact (State.raise_rd _ _ _ _ _ (by decide)).trans (State.rd_wr_self _ _ _ (by decide))
    · have hne : a ≠ RegAddr.CTR_CMD ∧ a ≠ RegAddr.SYS_ALERT := by simpa using ha
      exact State.wordAt_of_find (((State.raise_find _ _ _ _ hne.2).trans (State.wr_find _ _ _ hne.1.symm)).trans (s.setCmd_find 1 0 hne.1.symm))
    · rw [State.actWordAt, State.raise_act]
      rfl
  · obtain ⟨es, hes⟩ := Option.ne_none_iff_exists'.mp hsome
    rw [State.selectPreset_of_free (s.setCmd 1 0) _ _ (.inr ⟨(s.setCmd_armed 1 0 0).trans h0, (s.setCmd_armed 1 0 1).trans h1⟩)]
    exact State.applyPreset_spec _ _ false es hes ((s.setCmd_isSender 1 0).trans (s.isSender_of_allows 1 (.inl rfl) hallow))
  · rw [State.selectPreset_of_armed (s.setCmd 1 0) _ _ hsome (by simpa only [State.setCmd_armed] using harmed)]
    refine ⟨rfl, State.rd_wr_self _ _ _ (by decide), fun a ha => ?_, fun a => rfl⟩
    have hne : a ≠ RegAddr.CTR_CMD := by simpa using ha
    exact State.wordAt_of_find ((State.wr_find _ _ _ hne.symm).trans (s.setCmd_find 1 0 hne.symm))

/-! ### LAYOUT and CONFIG -/

theorem State.entriesResult_lt (s : State) (es : List (Nat × Word)) (allowed : Nat → Bool) : s.entriesResult es allowed < 4 := by
  unfold State.entriesResult
  split_ifs <;> decide

theorem State.writeEntries_of_bad (s : State) (es : List (Nat × Word)) (mask : Nat) (allowed : Nat → Bool) (h : s.entriesResult es allowed ≠ 0) :
    s.writeEntries es mask allowed = s.wr Reg.CTR_CMD_RESULT (s.entriesResult es allowed) := by
  unfold State.writeEntries
  split
  · contradiction
  · rfl

theorem State.writeEntries_of_good (s : State) (es : List (Nat × Word)) (mask : Nat) (allowed : Nat → Bool) (h : s.entriesResult es allowed = 0) :
    s.writeEntries es mask allowed = (s.writeAll es).armMask mask := by
  simp only [State.writeEntries, h]

/-- Entries that the check refuses change CTR_CMD alone (R469). -/
theorem State.writeEntries_bad_spec (s : State) (cmd : Nat) (es : List (Nat × Word)) (mask : Nat) (allowed : Nat → Bool)
    (h : s.entriesResult es allowed ≠ 0) : let t := (s.setCmd cmd 0).writeEntries es mask allowed
    t.rd Reg.CTR_CMD_RESULT = s.entriesResult es allowed ∧ { t with regs := s.regs } = s ∧ SameRegs s t fun x => x == RegAddr.CTR_CMD := by
  have hres := s.setCmd_entriesResult cmd 0 es allowed
  dsimp only
  rw [State.writeEntries_of_bad _ _ _ _ (hres ▸ h), hres]
  refine ⟨?_, rfl, fun a ha => ?_, fun a => rfl⟩
  · rw [State.rd_wr_self _ _ _ (by decide)]
    exact Nat.mod_eq_of_lt (Nat.lt_trans (s.entriesResult_lt es allowed) (by decide))
  · have hne : a ≠ RegAddr.CTR_CMD := by simpa using ha
    exact State.wordAt_of_find ((State.wr_find _ _ _ hne.symm).trans (s.setCmd_find cmd 0 hne.symm))

/-- A single entry that the check passes names a register, at a whole word's address. -/
theorem State.entry_aligned (s : State) (a : Nat) (v : Word) (allowed : Nat → Bool) (h : s.entriesResult [(a, v)] allowed = 0) : a % 4 = 0 := by
  cases hreg : findReg a with
  | none => simp [State.entriesResult, entryRefused, hreg] at h
  | some r => exact findReg_aligned a r.1 r.2 hreg

/-- A single good entry is written as firmware writes a register (R468, R469). -/
theorem State.writeEntries_single (s : State) (halive : s.alive = true) (cmd : Nat) (e : Word × Word) (allowed : Nat → Bool)
    (h : s.entriesResult (entriesOf [e]) allowed = 0) : let t := (s.setCmd cmd 0).writeEntries (entriesOf [e]) 0 allowed
    ∃ v, exec (.registerWrite e.1 4 e.2) (s.setCmd cmd 0) = .next v ∧ t = { v with bus := t.bus } := by
  have hwrite : exec (.registerWrite e.1 4 e.2) (s.setCmd cmd 0) = .next (((s.setCmd cmd 0).writeWord e.1.toNat e.2).1.busAnswer 0
      ((s.setCmd cmd 0).writeWord e.1.toNat e.2).2) := by
    have halive' : (s.setCmd cmd 0).alive = true := halive
    change Host.Outcome.next ((s.setCmd cmd 0).whenAlive fun u => doRegisterWrite u e.1.toNat 4 e.2) = _
    rw [State.whenAlive, if_pos halive', doRegisterWrite, if_neg]
    simp [wholeWord, s.entry_aligned _ _ allowed h]
  refine ⟨_, hwrite, ?_⟩
  rw [State.writeEntries_of_good _ _ _ _ ((s.setCmd_entriesResult cmd 0 _ allowed).trans h), State.armMask_zero]
  rfl

theorem layout_spec (f : Bool) (es : List (Word × Word)) (s : State) (halive : s.alive = true) (hh : s.onHold = false) (hallow : s.allows 2 = true) :
    let bad := s.entriesResult (entriesOf es) fun a => addrInGroup a 0 || addrInGroup a 1
    (bad ≠ 0 → Works (.layout f es) s fun t => t.rd Reg.CTR_CMD_RESULT = bad ∧ { t with regs := s.regs } = s ∧
      SameRegs s t fun x => x == RegAddr.CTR_CMD) ∧
    (bad = 0 → f = false → ∀ e, es = [e] → Works (.layout f es) s fun t => ∃ v, exec (.registerWrite e.1 4 e.2) (s.setCmd 2 0) = .next v ∧
      t = { v with bus := t.bus }) ∧
    (f = true → es = [] → Works (.layout f es) s fun t => t.armed 0 = true ∧ t.armed 1 = true) := by
  refine ⟨fun hbad => works_of_gate rfl hh hallow ?_, ?_, ?_⟩
  · exact s.writeEntries_bad_spec 2 _ _ _ hbad
  · rintro hgood rfl e rfl
    exact works_of_gate rfl hh hallow (s.writeEntries_single halive 2 e _ hgood)
  · rintro rfl rfl
    exact works_of_gate rfl hh hallow (State.armMask_three _ ((s.setCmd_isSender 2 0).trans (s.isSender_of_allows 2 (.inr rfl) hallow)))

theorem config_spec (w : Word) (es : List (Word × Word)) (s : State) (halive : s.alive = true) (hh : s.onHold = false) (hallow : s.allows 3 = true) :
    let bad := s.entriesResult (entriesOf es) fun _ => true
    (bad ≠ 0 → Works (.config w es) s fun t => t.rd Reg.CTR_CMD_RESULT = bad ∧ { t with regs := s.regs } = s ∧
      SameRegs s t fun x => x == RegAddr.CTR_CMD) ∧
    (bad = 0 → w = 0 → ∀ e, es = [e] → Works (.config w es) s fun t => ∃ v, exec (.registerWrite e.1 4 e.2) (s.setCmd 3 0) = .next v ∧
      t = { v with bus := t.bus }) ∧
    (es = [] → ∀ g < 16, w.toNat = 2 ^ g → s.groupHere g = true → Works (.config w es) s fun t => t.armed g = true) := by
  refine ⟨fun hbad => works_of_gate rfl hh hallow ?_, ?_, ?_⟩
  · exact s.writeEntries_bad_spec 3 _ _ _ hbad
  · rintro hgood rfl e rfl
    exact works_of_gate rfl hh hallow (s.writeEntries_single halive 3 e _ hgood)
  · rintro rfl g hg hw hhere
    refine works_of_gate rfl hh hallow ?_
    have hsame : (s.setCmd 3 0).groupHere g = true := by
      unfold State.groupHere State.isSender State.isTile at hhere ⊢
      rwa [s.setCmd_role]
    refine State.armMask_armed (s.setCmd 3 0) w.toNat g hg (by rw [hw, Nat.testBit_two_pow_self]) fun h _ hbit => ?_
    rw [hw, Nat.testBit_two_pow, decide_eq_true_eq] at hbit
    exact hbit ▸ hsame

/-! ### The PRESET pins -/

/-- The sample of a whole millisecond that a Sender takes at its pins (R251, R474). -/
def State.sampled (s : State) (v run : Nat) : State :=
  { s.perform actPins (s.now / 1000000 * 1000000) with ctr := { s.ctr with sample := (v, run) } }

/-- The stable value that eight samples in a row make (R474). -/
def State.settled (s : State) (v : Nat) : State :=
  ({ s.sampled v 8 with ctr := { s.ctr with sample := (v, 8), stable := some v } } : State).wr Reg.SYS_PRESET_PINS v

theorem doPresetSample_of_idle (s : State) (v : Nat) (h : s.isSender = false ∨ s.cfg 1 Reg.SYS_PRESET_PIN_EN ≠ 1 ∨
    s.due actPins (s.now / 1000000 * 1000000) (s.now / 1000000 * 1000000) s.now = false) : doPresetSample s v = s := by
  rw [doPresetSample]
  exact if_pos (by simpa [or_assoc] using h)

/-- The pins of a Sender that samples them, at a whole millisecond that has not been sampled (R474). -/
structure PinsDue (s : State) : Prop where
  sender : s.isSender = true
  enabled : s.cfg 1 Reg.SYS_PRESET_PIN_EN = 1
  due : s.due actPins (s.now / 1000000 * 1000000) (s.now / 1000000 * 1000000) s.now = true

theorem doPresetSample_of_first (s : State) (v : Nat) (hdue : PinsDue s) (hnew : s.ctr.sample.1 ≠ v) : doPresetSample s v = s.sampled v 1 := by
  simp [doPresetSample, hdue.sender, hdue.enabled, hdue.due, hnew]
  rfl

theorem doPresetSample_of_eighth (s : State) (v : Nat) (hdue : PinsDue s) (hrun : s.ctr.sample = (v, 7)) (hnew : s.ctr.stable ≠ some v) :
    doPresetSample s v = if s.selecting then (s.settled v).selectPreset v true else s.settled v := by
  simp [doPresetSample, hdue.sender, hdue.enabled, hdue.due, hrun, hnew]
  rfl

theorem State.settled_pins (s : State) (v : BitVec 6) : (s.settled v.toNat).rd Reg.SYS_PRESET_PINS = v.toNat :=
  (State.rd_wr_self _ _ _ (by decide)).trans (Nat.mod_eq_of_lt v.isLt)

theorem presetSample_spec (v : BitVec 6) (s : State) :
    let whole := s.now / 1000000 * 1000000
    ((s.isSender = false ∨ s.cfg 1 Reg.SYS_PRESET_PIN_EN ≠ 1 ∨ s.due actPins whole whole s.now = false) → exec (.presetSample v) s = .next s) ∧
    (s.isSender = true → s.cfg 1 Reg.SYS_PRESET_PIN_EN = 1 → s.due actPins whole whole s.now = true →
      (s.ctr.sample.1 ≠ v.toNat → Leads (.presetSample v) s { s.perform actPins whole with ctr := { s.ctr with sample := (v.toNat, 1) } }) ∧
      (s.ctr.sample = (v.toNat, 7) → s.ctr.stable ≠ some v.toNat → s.selecting = false → Works (.presetSample v) s fun t =>
        t.ctr.stable = some v.toNat ∧ t.rd Reg.SYS_PRESET_PINS = v.toNat ∧ SameRegs s t fun x => x == RegAddr.SYS_PRESET) ∧
      (s.ctr.sample = (v.toNat, 7) → s.ctr.stable ≠ some v.toNat → s.selecting = true → s.preset v.toNat ≠ none →
        (s.armed 0 = true ∨ s.armed 1 = true) → Works (.presetSample v) s fun t => t.ctr.stable = some v.toNat ∧
          t.rd Reg.SYS_PRESET_PINS = v.toNat ∧ t.ctr.held = some (v.toNat, true))) := by
  have hexec {t : State} (h : doPresetSample s v.toNat = t) : exec (.presetSample v) s = .next (if s.alive then t else s) := by
    rw [← h]
    rfl
  have hworks {P : State → Prop} (h : P (doPresetSample s v.toNat)) : Works (.presetSample v) s P :=
    works_of_exec (f := fun u => doPresetSample u v.toNat) rfl h
  refine ⟨fun hidle => by rw [hexec (doPresetSample_of_idle s _ hidle), ite_self], fun hsender hpins htime => ?_⟩
  have hdue : PinsDue s := ⟨hsender, hpins, htime⟩
  refine ⟨fun hnew halive => ?_, fun hrun hnew hsel => hworks ?_, fun hrun hnew hsel hpreset harmed => hworks ?_⟩
  · rw [hexec (doPresetSample_of_first s _ hdue hnew), if_pos halive]
    rfl
  · rw [doPresetSample_of_eighth s _ hdue hrun hnew, hsel]
    refine ⟨rfl, s.settled_pins v, fun a ha => ?_, fun a => rfl⟩
    have hne : a ≠ RegAddr.SYS_PRESET := by simpa using ha
    exact State.wordAt_of_find (State.wr_find _ _ _ hne.symm)
  · have hsame (g : Nat) : (s.settled v.toNat).armed g = s.armed g := congrArg (·.testBit g) (State.rd_wr_ne _ _ _ _ (by decide))
    rw [doPresetSample_of_eighth s _ hdue hrun hnew, if_pos hsel,
      State.selectPreset_of_armed (s.settled v.toNat) _ _ hpreset (by simpa only [hsame] using harmed)]
    exact ⟨rfl, s.settled_pins v, rfl⟩

/-- Settles O25: the selection, the entries and the pins each act behind their own check, and what arms a group is `State.armMask`. -/
theorem selectionsAndEntriesReachTheGroups : Obligations.SelectionsAndEntriesReachTheGroups :=
  ⟨fun n s _ => select_spec n s, fun f es s => layout_spec f es s, fun w es s => config_spec w es s, presetSample_spec⟩

end Sys2Proof.Machine
end

section
/-! SUPPORT. Restart requests: what a warm start keeps (R65, R68, R69). -/

namespace Sys2Proof.Machine

/-! ### What outlives a warm start -/

/-- Two states have the same count, flash, OTP and role (R68). -/
abbrev SameLasting (s t : State) : Prop :=
  t.count = s.count ∧ t.flash = s.flash ∧ t.trs.otp = s.trs.otp ∧ Tab.find t.regs RegAddr.SYS_ROLE = Tab.find s.regs RegAddr.SYS_ROLE

theorem SameLasting.trans {s t u : State} (h : SameLasting s t) (k : SameLasting t u) : SameLasting s u := by
  obtain ⟨hcount, hflash, hotp, hrole⟩ := h
  obtain ⟨kcount, kflash, kotp, krole⟩ := k
  exact ⟨kcount.trans hcount, kflash.trans hflash, kotp.trans hotp, krole.trans hrole⟩

/-- An update leaves what outlives a warm start. This is a structure for the reason that `SameQueue` is one. -/
structure KeepsLasting (f : State → State) : Prop where
  same : ∀ t, SameLasting t (f t)

@[simp] theorem keepsLasting_iff (f : State → State) : KeepsLasting f ↔ ∀ t, SameLasting t (f t) := ⟨KeepsLasting.same, KeepsLasting.mk⟩

@[simp] theorem ite_lasting (c : Prop) [Decidable c] (s t : State) :
    (if c then s else t).count = (if c then s.count else t.count) ∧ (if c then s else t).flash = (if c then s.flash else t.flash) ∧
    (if c then s else t).trs.otp = (if c then s.trs.otp else t.trs.otp) ∧
    Tab.find (if c then s else t).regs RegAddr.SYS_ROLE = if c then Tab.find s.regs RegAddr.SYS_ROLE else Tab.find t.regs RegAddr.SYS_ROLE := by
  split <;> exact ⟨rfl, rfl, rfl, rfl⟩

@[simp] theorem State.onlyIf_lasting (s : State) (c : Bool) (f : State → State) (h : KeepsLasting f) : SameLasting s (s.onlyIf c f) := by
  unfold State.onlyIf
  split
  · exact h.same s
  · exact ⟨rfl, rfl, rfl, rfl⟩

@[simp] theorem State.forAll_lasting {α : Type} (s : State) (l : List α) (f : State → α → State) (h : ∀ x, KeepsLasting fun t => f t x) :
    SameLasting s (s.forAll l f) :=
  State.forAll_keeps (SameLasting s) f l s ⟨rfl, rfl, rfl, rfl⟩ fun t x _ ht => ht.trans ((h x).same t)

@[simp] theorem State.wr_find_role (s : State) (f : Fld) (v : Nat) (h : f.addr ≠ RegAddr.SYS_ROLE) :
    Tab.find (s.wr f v).regs RegAddr.SYS_ROLE = Tab.find s.regs RegAddr.SYS_ROLE := s.wr_find f v h
@[simp] theorem State.wrFlag_find_role (s : State) (f : Fld) (b : Bool) (h : f.addr ≠ RegAddr.SYS_ROLE) :
    Tab.find (s.wrFlag f b).regs RegAddr.SYS_ROLE = Tab.find s.regs RegAddr.SYS_ROLE := s.wr_find f _ h
@[simp] theorem State.bump_find_role (s : State) (f : Fld) (h : f.addr ≠ RegAddr.SYS_ROLE) :
    Tab.find (s.bump f).regs RegAddr.SYS_ROLE = Tab.find s.regs RegAddr.SYS_ROLE := s.wr_find f _ h

@[simp] theorem State.raise_lasting (s : State) (src code arg : Nat) : SameLasting s (s.raise src code arg) := by
  obtain ⟨l, r, b, heq, _⟩ := s.raise_only src code arg
  exact ⟨by rw [heq], by rw [heq], by rw [heq], s.raise_find src code arg (by decide)⟩

theorem ne_role_of_index {a k : Nat} (h : RegAddr.SYS_ROLE < a) : a + k ≠ RegAddr.SYS_ROLE := Nat.ne_of_gt (Nat.lt_add_right k h)

@[simp] theorem addr_ne_role :
    Reg.DMC_ECC_CNT_UE.addr ≠ RegAddr.SYS_ROLE ∧ Reg.DMC_ECC_CNT_CE.addr ≠ RegAddr.SYS_ROLE ∧ Reg.DMC_ECC_LAST_UE.addr ≠ RegAddr.SYS_ROLE ∧
    Reg.DMC_ECC_LAST_SYMBOLS.addr ≠ RegAddr.SYS_ROLE ∧ Reg.DMC_ECC_LAST_LINE.addr ≠ RegAddr.SYS_ROLE ∧ Reg.SPN_CNT_YIELDS.addr ≠ RegAddr.SYS_ROLE ∧
    Reg.SPN_STAT_STATE.addr ≠ RegAddr.SYS_ROLE ∧ Reg.SPN_STAT_YIELDED.addr ≠ RegAddr.SYS_ROLE ∧ Reg.SPN_STAT_VERDICT.addr ≠ RegAddr.SYS_ROLE ∧
    Reg.WHL_STAT_STATE.addr ≠ RegAddr.SYS_ROLE ∧ Reg.WHL_STAT_SOURCE.addr ≠ RegAddr.SYS_ROLE ∧ Reg.WHL_STAT_TPORT.addr ≠ RegAddr.SYS_ROLE ∧
    Reg.WHL_STAT_SLEWING.addr ≠ RegAddr.SYS_ROLE ∧ Reg.WHL_ERR_FREQ.addr ≠ RegAddr.SYS_ROLE ∧ Reg.ASY_TEMP_TEMP.addr ≠ RegAddr.SYS_ROLE ∧
    Reg.ASY_ADC_OFF.addr ≠ RegAddr.SYS_ROLE ∧ Reg.ASY_ADC_GADJ.addr ≠ RegAddr.SYS_ROLE ∧ Reg.ASY_STAT_CLIP.addr ≠ RegAddr.SYS_ROLE ∧
    Reg.ASY_STAT_SLEWING.addr ≠ RegAddr.SYS_ROLE ∧ Reg.ASY_STAT_POINTS.addr ≠ RegAddr.SYS_ROLE ∧ Reg.ASY_STAT_RUN.addr ≠ RegAddr.SYS_ROLE ∧
    Reg.ASY_STAT_NO_RECORD.addr ≠ RegAddr.SYS_ROLE ∧ Reg.DRV_PROF_STAT_PRESENT.addr ≠ RegAddr.SYS_ROLE ∧
    Reg.DRV_PROF_STAT_VALID.addr ≠ RegAddr.SYS_ROLE ∧ Reg.DMC_STAT_STATE.addr ≠ RegAddr.SYS_ROLE :=
  by decide

@[simp] theorem addr_ne_role_of_index (i : Nat) :
    (Reg.DMC_CH_STAT_PR0 i).addr ≠ RegAddr.SYS_ROLE ∧ (Reg.DMC_CH_STAT_PR1 i).addr ≠ RegAddr.SYS_ROLE ∧
    (Reg.DMC_CH_CLASS_PROMOTED i).addr ≠ RegAddr.SYS_ROLE ∧ (Reg.DMC_CH_CLASS_LATE i).addr ≠ RegAddr.SYS_ROLE ∧
    (Reg.WFT_PORT_STAT_TX_POWER i).addr ≠ RegAddr.SYS_ROLE ∧ (Reg.WHL_HOP_TIME_PORT i).addr ≠ RegAddr.SYS_ROLE ∧
    (Reg.ASY_CREF_OFF i).addr ≠ RegAddr.SYS_ROLE ∧ (Reg.ASY_CREF_GADJ i).addr ≠ RegAddr.SYS_ROLE ∧ (Reg.ASY_DUTY_DUTY i).addr ≠ RegAddr.SYS_ROLE ∧
    (Reg.ASY_CREF_RAW_RAW i).addr ≠ RegAddr.SYS_ROLE ∧ (Reg.DRV_GRP_STAT_CREF_NOW i).addr ≠ RegAddr.SYS_ROLE := by
  refine ⟨?_, ?_, ?_, ?_, ?_, ?_, ?_, ?_, ?_, ?_, ?_⟩ <;> exact ne_role_of_index (by decide)

@[simp] theorem addr_ne_role_of_indices (i j : Nat) : (Reg.DRV_PROF_BODY i j).addr ≠ RegAddr.SYS_ROLE :=
  ne_role_of_index (Nat.lt_add_right _ (by decide))

@[simp] theorem State.setFreq_lasting (s : State) (base slew : Int) : SameLasting s (s.setFreq base slew) := by simp [SameLasting, State.setFreq]
@[simp] theorem State.endSlew_lasting (s : State) : SameLasting s s.endSlew := by simp [SameLasting, State.endSlew]
@[simp] theorem State.slewOnChange_lasting (s : State) (changed : Bool) : SameLasting s (s.slewOnChange changed) := by
  simp [SameLasting, State.slewOnChange]
@[simp] theorem State.setLock_lasting (s : State) (st : Nat) : SameLasting s (s.setLock st) := by simp [SameLasting, State.setLock]
@[simp] theorem State.showSource_lasting (s : State) : SameLasting s s.showSource := by simp [SameLasting, State.showSource]
@[simp] theorem State.putOut_lasting (s : State) (p : Nat) (l : List Sent) : SameLasting s (s.putOut p l) := by simp [SameLasting, State.putOut]
@[simp] theorem State.drainFwd_lasting (s : State) (out : Nat) : SameLasting s (s.drainFwd out) := by simp [SameLasting, State.drainFwd]
@[simp] theorem State.send_lasting (s : State) (p : Nat) (t : PType) (dest : Nat) (body : Bytes) : SameLasting s (s.send p t dest body) := by
  simp [SameLasting, State.send]
@[simp] theorem State.sendYield_lasting (s : State) (reason gen at_ : Nat) : SameLasting s (s.sendYield reason gen at_) := by
  simp [SameLasting, State.sendYield]
@[simp] theorem State.yieldFor_lasting (s : State) (code : Nat) : SameLasting s (s.yieldFor code) := by simp [SameLasting, State.yieldFor]
@[simp] theorem State.raiseVerdict_lasting (s : State) (code : Nat) : SameLasting s (s.raiseVerdict code) := by
  simp [SameLasting, State.raiseVerdict]
@[simp] theorem State.noteLine_lasting (s : State) (line : Nat) (r : LineRead) : SameLasting s (s.noteLine line r) := by
  simp [SameLasting, State.noteLine]
@[simp] theorem State.reportUe_lasting (s : State) : SameLasting s s.reportUe := by simp [SameLasting, State.reportUe]
@[simp] theorem State.wakeRank_lasting (s : State) (chan rank : Nat) : SameLasting s (s.wakeRank chan rank) := by simp [SameLasting, State.wakeRank]
@[simp] theorem State.writeBackLine_lasting (s : State) (a : Nat) (r : LineRead) : SameLasting s (s.writeBackLine a r) := by
  simp [SameLasting, State.writeBackLine, State.requestArrives]
@[simp] theorem State.promote_lasting (s : State) (chan : Nat) (which : DramRequest → Bool) : SameLasting s (s.promote chan which) := by
  simp [SameLasting, State.promote]
@[simp] theorem State.performRequest_lasting (s : State) (p : DramRequest) : SameLasting s (s.performRequest p) := by
  unfold State.performRequest
  split <;> simp [SameLasting]
@[simp] theorem State.issueNext_lasting (s : State) (chan : Nat) : SameLasting s (s.issueNext chan) := by
  unfold State.issueNext
  dsimp only
  split <;> simp [SameLasting]
@[simp] theorem State.issue_lasting (s : State) (chan n : Nat) : SameLasting s (s.issue chan n) := by
  induction n generalizing s with
  | zero => exact ⟨rfl, rfl, rfl, rfl⟩
  | succ n ih =>
    unfold State.issue
    split
    · exact (s.issueNext_lasting chan).trans (ih _)
    · exact ⟨rfl, rfl, rfl, rfl⟩

/-- The requests that are under way end without a change of what outlives a warm start (R372). -/
theorem State.finishRequests_lasting (s : State) : SameLasting s s.finishRequests := by simp [SameLasting, State.finishRequests]

/-! ### What follows in a warm request keeps DRAM too -/

/-- An update keeps DRAM. This is a structure for the reason that `SameQueue` is one. -/
structure KeepsDram (f : State → State) : Prop where
  same : ∀ t, (f t).dram = t.dram

@[simp] theorem keepsDram_iff (f : State → State) : KeepsDram f ↔ ∀ t, (f t).dram = t.dram := ⟨KeepsDram.same, KeepsDram.mk⟩

@[simp] theorem ite_dram (c : Prop) [Decidable c] (s t : State) : (if c then s else t).dram = if c then s.dram else t.dram := by split <;> rfl

@[simp] theorem State.forAll_dram {α : Type} (s : State) (l : List α) (f : State → α → State) (h : ∀ x, KeepsDram fun t => f t x) :
    (s.forAll l f).dram = s.dram :=
  State.forAll_keeps (fun t => t.dram = s.dram) f l s rfl fun t x _ ht => ((h x).same t).trans ht

/-- Two states have the same DRAM, and the same of what outlives a warm start. -/
abbrev SameKept (s t : State) : Prop := t.dram = s.dram ∧ SameLasting s t

theorem SameKept.trans {s t u : State} (h : SameKept s t) (k : SameKept t u) : SameKept s u := ⟨k.1.trans h.1, h.2.trans k.2⟩

@[simp] theorem State.showTrims_kept (s : State) : SameKept s s.showTrims := by simp [SameKept, SameLasting, State.showTrims]
@[simp] theorem State.settleCref_kept (s : State) : SameKept s s.settleCref := by simp [SameKept, SameLasting, State.settleCref]
@[simp] theorem State.applyTrims_kept (s : State) : SameKept s s.applyTrims := by simp [SameKept, SameLasting, State.applyTrims]
@[simp] theorem State.useRecord_kept (s : State) (r : Option AsyRecord) : SameKept s (s.useRecord r) := by
  simp [SameKept, SameLasting, State.useRecord]
@[simp] theorem State.forgetRun_kept (s : State) : SameKept s s.forgetRun := by
  unfold State.forgetRun
  split
  · split
    · simp [SameKept, SameLasting]
    · exact ⟨rfl, rfl, rfl, rfl, rfl⟩
  · exact ⟨rfl, rfl, rfl, rfl, rfl⟩
@[simp] theorem State.selfRefresh_kept (s : State) : SameKept s s.selfRefresh := by simp [SameKept, SameLasting, State.selfRefresh]
@[simp] theorem State.showProfiles_kept (s : State) : SameKept s s.showProfiles := by simp [SameKept, SameLasting, State.showProfiles]

/-- The reset of a bank writes its power word and clears its bytes (R382). -/
theorem State.resetBanks_only (s : State) (role : Nat) (keep : List Nat) : ∃ r m, s.resetBanks role keep = { s with regs := r, sram := m } ∧
    ∀ a, (∀ b < 6, RegAddr.SRB_PWR b ≠ a) → Tab.find r a = Tab.find s.regs a := by
  refine State.forAll_keeps (fun t => ∃ r m, t = { s with regs := r, sram := m } ∧
    ∀ a, (∀ b < 6, RegAddr.SRB_PWR b ≠ a) → Tab.find r a = Tab.find s.regs a) _ _ s ⟨s.regs, s.sram, rfl, fun _ _ => rfl⟩ ?_
  rintro t b hb ⟨r, m, rfl, hkeep⟩
  have hfind (t : State) (x y z a : Nat) (ha : ∀ b < 6, RegAddr.SRB_PWR b ≠ a) :
      Tab.find (((t.wr (Reg.SRB_PWR_MODE b) x).wr (Reg.SRB_PWR_STATE b) y).wr (Reg.SRB_PWR_REFUSED b) z).regs a = Tab.find t.regs a :=
    have hne := ha b (List.mem_range.mp hb)
    (State.wr_find _ _ _ hne).trans ((State.wr_find _ _ _ hne).trans (State.wr_find _ _ _ hne))
  dsimp only
  split
  · exact ⟨_, _, rfl, fun a ha => (hfind _ _ _ _ a ha).trans (hkeep a ha)⟩
  · exact ⟨_, _, rfl, fun a ha => (hfind _ _ _ _ a ha).trans (hkeep a ha)⟩

@[simp] theorem State.resetBanks_kept (s : State) (role : Nat) (keep : List Nat) : SameKept s (s.resetBanks role keep) := by
  obtain ⟨r, m, heq, hkeep⟩ := s.resetBanks_only role keep
  rw [heq]
  exact ⟨rfl, rfl, rfl, rfl, hkeep _ (by decide)⟩

theorem State.roleBuilt_kept (s : State) (keep : List Nat) : SameKept s (s.roleBuilt keep) := by
  unfold State.roleBuilt
  dsimp only
  split
  · exact (s.resetBanks_kept _ keep).trans ⟨rfl, rfl, rfl, rfl,
      (State.wr_find _ _ _ (by decide)).trans ((State.wr_find _ _ _ (by decide)).trans (State.wr_find _ _ _ (by decide)))⟩
  · split
    · exact (s.resetBanks_kept _ keep).trans (State.showProfiles_kept _)
    · exact s.resetBanks_kept _ keep

theorem Tab.find_filter {α : Type} (t : Tab α) (p : Nat → Bool) (a : Nat) (h : p a = true) : Tab.find (t.filter fun e => p e.1) a = Tab.find t a := by
  induction t with
  | nil => rfl
  | cons e t ih =>
    by_cases he : e.1 = a
    · simp [Tab.find, he, h]
    · by_cases hp : p e.1 = true <;> simp [Tab.find, he, hp, ih]

/-- What is retained keeps DRAM, and SYS_ROLE with the rest that is kept whole (R68). -/
theorem State.retained_kept (s : State) : SameKept s s.retained := by
  have hne : ∀ f ∈ keptFields, f.addr ≠ RegAddr.SYS_ROLE := by decide
  refine State.forAll_keeps (SameKept s) _ keptFields _ ⟨rfl, rfl, rfl, rfl, ?_⟩ fun t f hf ht =>
    ht.trans ⟨rfl, rfl, rfl, rfl, t.wr_find f _ (hne f hf)⟩
  exact Tab.find_filter s.regs (keptWord s.role) RegAddr.SYS_ROLE rfl

/-! ### Restart requests -/

/-- A device without a fatal error, with a role and a record of its last start, can start warm (R69). -/
theorem State.warmBegin_of_retained (s : State) (hfatal : s.sys.fatal = none) (hrole : s.role ≠ 0) (hdigest : s.sys.digest ≠ none) :
    s.warmBegin.sys.step = some (true, 1) ∧ s.warmBegin.rd Reg.SYS_START_TYPE = 2 ∧ s.warmBegin.rd Reg.SYS_START_CAUSE = 3 ∧
    SameKept s.finishRequests s.warmBegin := by
  have heq : s.warmBegin = (let t := (s.finishRequests.forgetRun.retained.roleBuilt [1]).selfRefresh
    let v := ((t.wr Reg.SYS_START_TYPE 2).wr Reg.SYS_START_CAUSE 3).wr (Reg.SRB_PWR_STATE 1) 1
    { v with sys := { v.sys with step := some (true, 1) } }) := by
    simp [State.warmBegin, hfatal, hrole, hdigest]
  have hkept : SameKept s.finishRequests (s.finishRequests.forgetRun.retained.roleBuilt [1]).selfRefresh :=
    (s.finishRequests.forgetRun_kept.trans (State.retained_kept _)).trans ((State.roleBuilt_kept _ _).trans (State.selfRefresh_kept _))
  rw [heq]
  generalize (s.finishRequests.forgetRun.retained.roleBuilt [1]).selfRefresh = t at hkept
  refine ⟨rfl, ?_, ?_, hkept.trans ⟨rfl, rfl, rfl, rfl, ?_⟩⟩
  · calc ((((t.wr Reg.SYS_START_TYPE 2).wr Reg.SYS_START_CAUSE 3).wr (Reg.SRB_PWR_STATE 1) 1).rd Reg.SYS_START_TYPE)
      _ = ((t.wr Reg.SYS_START_TYPE 2).wr Reg.SYS_START_CAUSE 3).rd Reg.SYS_START_TYPE := State.rd_wr_ne _ _ _ _ (by decide)
      _ = (t.wr Reg.SYS_START_TYPE 2).rd Reg.SYS_START_TYPE := State.rd_wr_other _ Reg.SYS_START_CAUSE Reg.SYS_START_TYPE 3 rfl rfl (by decide)
      _ = 2 := State.rd_wr_self _ _ _ (by decide)
  · exact (State.rd_wr_ne _ (Reg.SRB_PWR_STATE 1) Reg.SYS_START_CAUSE _ (by decide)).trans (State.rd_wr_self _ _ _ (by decide))
  · exact (State.wr_find _ _ _ (by decide)).trans ((State.wr_find _ _ _ (by decide)).trans (State.wr_find _ _ _ (by decide)))

theorem State.warmBegin_of_fatal (s : State) (h : s.sys.fatal ≠ none) : s.warmBegin = s.coldBegin 3 0 := by
  rw [State.warmBegin, if_pos (by simpa [Option.isSome_iff_ne_none] using h)]

theorem State.warmBegin_of_unretained (s : State) (hfatal : s.sys.fatal = none) (h : s.role = 0 ∨ s.sys.digest = none) :
    s.warmBegin = s.coldBegin 3 1 := by
  rw [State.warmBegin, if_neg (by simp [hfatal]), if_pos (by simpa using h)]

/-- A cold start shows the conditions that forced it (R69). -/
theorem State.coldBegin_why (s : State) (cause why : Nat) (h : why < 2 ^ 6) : (s.coldBegin cause why).rd Reg.SYS_START_COLD_WHY = why :=
  (State.rd_wr_self _ Reg.SYS_START_COLD_WHY why (by decide)).trans (Nat.mod_eq_of_lt h)

/-- Settles O12: with the key, a cold start is `State.coldBegin` and a warm one `State.warmBegin`, whose three branches are the three cases. -/
theorem restartRequestsNeedTheKey : Obligations.RestartRequestsNeedTheKey := by
  intro key s
  refine ⟨fun h => ?_, fun hkey halive => ?_⟩
  · have hnone (type : Nat) : s.whenAlive (fun u => u.restart key.toNat type) = s := by
      unfold State.whenAlive
      split
      · next halive => exact if_pos (by simpa [halive] using h)
      · rfl
    exact ⟨congrArg Host.Outcome.next (hnone 1), congrArg Host.Outcome.next (hnone 2)⟩
  · have hrun (type : Nat) : s.restart key.toNat type = if type = 1 then s.coldBegin 2 0 else if type = 2 then s.warmBegin else s := by
      rw [State.restart, if_neg (by simp [hkey, halive])]
    have hcold {P : State → Prop} (h : P (s.coldBegin 2 0)) : Works (.coldRestart key) s P :=
      works_of_exec (f := fun u => doColdRestart u key.toNat) rfl (by rwa [doColdRestart, hrun 1])
    have hwarm {P : State → Prop} (h : P s.warmBegin) : Works (.warmRestart key) s P :=
      works_of_exec (f := fun u => doWarmRestart u key.toNat) rfl (by rwa [doWarmRestart, hrun 2])
    refine ⟨hcold ?_, fun hfatal hrole hdigest => hwarm ?_, fun hfatal => hwarm ?_, fun hfatal hbare => hwarm ?_⟩
    · obtain ⟨hstep, hcause, hflash, hotp, hdram, _⟩ := s.coldBegin_spec 2 0 (by decide)
      exact ⟨hstep, hcause, s.coldBegin_why 2 0 (by decide), hflash, hotp, hdram⟩
    · obtain ⟨hstep, htype, hcause, hdram, hlast⟩ := s.warmBegin_of_retained hfatal hrole hdigest
      obtain ⟨hcount, hflash, hotp, hfind⟩ := s.finishRequests_lasting.trans hlast
      exact ⟨hstep, htype, hcause, hdram, hflash, hotp, hcount, State.rd_of_find hfind⟩
    · obtain ⟨hstep, hcause, _, _, hdram, _⟩ := s.coldBegin_spec 3 0 (by decide)
      rw [s.warmBegin_of_fatal hfatal]
      exact ⟨hstep, hcause, hdram⟩
    · obtain ⟨hstep, hcause, _⟩ := s.coldBegin_spec 3 1 (by decide)
      rw [s.warmBegin_of_unretained hfatal hbare]
      exact ⟨hstep, hcause, s.coldBegin_why 3 1 (by decide)⟩

end Sys2Proof.Machine
end

section
/-! SUPPORT. The ends of the steps of a start (R49, R66, R67, R69, R72, R76). -/

namespace Sys2Proof.Machine

/-! ### The ends of single steps -/

/-- In a running device without a fatal error, a command ends the step that the start stands at. -/
theorem doStartStepEnd_of_step (s : State) (x : StartIn) {w : Bool} {n : Nat} (halive : s.alive = true) (hfatal : s.sys.fatal = none)
    (hstep : s.sys.step = some (w, n)) : doStartStepEnd s x = if w then s.endWarm n x else s.endCold n x := by
  cases w <;> simp [doStartStepEnd, halive, hfatal, hstep]

theorem doStartStepEnd_of_idle (s : State) (x : StartIn) (h : s.sys.step = none ∨ s.sys.fatal ≠ none ∨ s.alive = false) : doStartStepEnd s x = s := by
  unfold doStartStepEnd
  split
  · rfl
  · next hrun =>
    have hstep : s.sys.step = none := by
      rcases h with h | h | h
      · exact h
      · simp [h] at hrun
      · simp [h] at hrun
    rw [hstep]

/-- A record leaves the start, the directory and the fatal error as they are; the pin of a fault stays low. -/
theorem State.raise_sys (s : State) (src code arg : Nat) : ∃ b, (s.raise src code arg).sys = { s.sys with faultLow := b } ∧
    (s.sys.faultLow = true → b = true) := by
  unfold State.raise
  split <;> split
  · exact ⟨true, rfl, fun _ => rfl⟩
  · exact ⟨s.sys.faultLow, rfl, id⟩
  · exact ⟨true, rfl, fun _ => rfl⟩
  · exact ⟨s.sys.faultLow, rfl, id⟩

/-- A flash that gives no image shows why in CHT_STATUS; the device goes on with its start (R76). -/
theorem State.noFlash_spec (s : State) (e : Nat) (he : e < 2 ^ 8) : (∃ b, (s.noFlash e).sys = { s.sys with faultLow := b }) ∧
    (s.noFlash e).rd Reg.CHT_STATUS_STATE = 5 ∧ (s.noFlash e).rd Reg.CHT_STATUS_ERR = e ∧
    ∀ a, a ≠ RegAddr.CHT_STATUS → a ≠ RegAddr.SYS_ALERT → Tab.find (s.noFlash e).regs a = Tab.find s.regs a := by
  obtain ⟨b, hsys, _⟩ := (((s.wr Reg.CHT_STATUS_ERR e).wr Reg.CHT_STATUS_RECORD 0xFFFF).wr Reg.CHT_STATUS_STATE 5).raise_sys srcControl 0xC006
    ((((s.wr Reg.CHT_STATUS_ERR e).wr Reg.CHT_STATUS_RECORD 0xFFFF).wr Reg.CHT_STATUS_STATE 5).wordAt RegAddr.CHT_STATUS).toNat
  refine ⟨⟨b, hsys⟩, ?_, ?_, fun a ha halert => ?_⟩
  · exact (State.raise_rd _ _ _ _ _ (by decide)).trans (State.rd_wr_self _ _ _ (by decide))
  · calc (s.noFlash e).rd Reg.CHT_STATUS_ERR
      _ = _ := State.raise_rd _ _ _ _ _ (by decide)
      _ = _ := State.rd_wr_other _ Reg.CHT_STATUS_STATE Reg.CHT_STATUS_ERR _ rfl rfl (by decide)
      _ = _ := State.rd_wr_other _ Reg.CHT_STATUS_RECORD Reg.CHT_STATUS_ERR _ rfl rfl (by decide)
      _ = e % 2 ^ 8 := State.rd_wr_self _ Reg.CHT_STATUS_ERR e (by decide)
      _ = e := Nat.mod_eq_of_lt he
  · calc Tab.find (s.noFlash e).regs a
      _ = _ := State.raise_find _ _ _ _ halert
      _ = _ := State.wr_find _ Reg.CHT_STATUS_STATE _ ha.symm
      _ = _ := State.wr_find _ Reg.CHT_STATUS_RECORD _ ha.symm
      _ = _ := State.wr_find _ Reg.CHT_STATUS_ERR _ ha.symm

/-- The state in which C3 leaves a device whose directory gives an error or none (R48 to R50). -/
def State.directoryJudged (s : State) (e : Nat) : State := ({ s.flashReset with sys := { s.sys with directory := e == 0 } } : State).toStep false 4

theorem State.endC3_of_error (s : State) (x : StartIn) (e : Nat) (h : s.directoryError x = e) (he : e ≠ 0) :
    s.endC3 x = (s.directoryJudged e).noFlash e := by
  rw [State.endC3]
  simp only [h]
  exact if_neg he

theorem State.endC3_of_good (s : State) (x : StartIn) (h : s.directoryError x = 0) :
    s.endC3 x = ((s.directoryJudged 0).enterOctal x.slow).wr Reg.CHT_STATUS_STATE 2 := by
  rw [State.endC3]
  simp only [h]
  exact if_pos trivial

/-- A directory that gives an error leaves the device without one (R76). -/
theorem State.endC3_error_spec (s : State) (x : StartIn) (e : Nat) (h : s.directoryError x = e) (he : e ≠ 0) (hlt : e < 2 ^ 8) :
    (s.endC3 x).sys.step = some (false, 4) ∧ (s.endC3 x).rd Reg.CHT_STATUS_STATE = 5 ∧ (s.endC3 x).rd Reg.CHT_STATUS_ERR = e ∧
      (s.endC3 x).sys.directory = false := by
  obtain ⟨⟨b, hsys⟩, hstate, herr, _⟩ := (s.directoryJudged e).noFlash_spec e hlt
  rw [s.endC3_of_error x e h he, hsys]
  exact ⟨rfl, hstate, herr, beq_eq_false_iff_ne.mpr he⟩

/-- A directory that is accepted is used at once (R50). -/
theorem State.endC3_good_spec (s : State) (x : StartIn) (h : s.directoryError x = 0) :
    (s.endC3 x).sys.step = some (false, 4) ∧ (s.endC3 x).rd Reg.CHT_STATUS_STATE = 2 ∧ (s.endC3 x).sys.directory = true ∧
      (s.endC3 x).flag Reg.CHT_STATUS_SLOW = x.slow := by
  have hsys (t : State) : (t.enterOctal x.slow).sys = t.sys := by cases hslow : x.slow <;> rfl
  have hslow (t : State) : (t.enterOctal x.slow).flag Reg.CHT_STATUS_SLOW = x.slow := by
    rw [State.flag, State.enterOctal, State.wrFlag, State.rd_wr_self _ _ _ (by decide)]
    cases x.slow <;> rfl
  rw [s.endC3_of_good x h, State.wr_sys, hsys]
  refine ⟨rfl, State.rd_wr_self _ _ _ (by decide), rfl, ?_⟩
  exact (congrArg (· == 1) (State.rd_wr_other _ Reg.CHT_STATUS_STATE Reg.CHT_STATUS_SLOW _ rfl rfl (by decide))).trans (hslow _)

/-- Whatever it finds, C3 leads to C4 (R66). -/
theorem State.endC3_step (s : State) (x : StartIn) : (s.endC3 x).sys.step = some (false, 4) := by
  by_cases herr : s.directoryError x = 0
  · exact (s.endC3_good_spec x herr).1
  · have hlt : s.directoryError x < 2 ^ 8 := by
      unfold State.directoryError
      split_ifs <;> decide
    exact (s.endC3_error_spec x _ rfl herr hlt).1

/-- The state in which a start ends, before its record (R72). -/
def State.startOver (s : State) : State := { s with sys := { s.sys with step := none, digest := if s.role = 0 then none else some s.charter.digest } }

theorem State.endStart_eq (s : State) : s.endStart =
    (if s.role = 0 then s.startOver.faultPin else s.startOver).raise srcControl 0x0004 (s.wordAt RegAddr.SYS_START).toNat := rfl

/-- A start that ends leaves its digest, and in a device without a role the pin of a fault (R72). -/
theorem State.endStart_spec (s : State) : s.endStart.sys.step = none ∧ s.endStart.sys.digest = (if s.role = 0 then none else some s.charter.digest) ∧
    (s.role = 0 → s.endStart.sys.faultLow = true) ∧ ∀ a, a ≠ RegAddr.SYS_ALERT → Tab.find s.endStart.regs a = Tab.find s.regs a := by
  rw [s.endStart_eq]
  obtain ⟨b, hsys, hlow⟩ := (if s.role = 0 then s.startOver.faultPin else s.startOver).raise_sys srcControl 0x0004 (s.wordAt RegAddr.SYS_START).toNat
  rw [hsys]
  refine ⟨?_, ?_, fun hrole => hlow (by rw [if_pos hrole]; rfl), fun a ha => (State.raise_find _ _ _ _ ha).trans ?_⟩
  · split <;> rfl
  · change (if s.role = 0 then s.startOver.faultPin else s.startOver).sys.digest = s.startOver.sys.digest
    split <;> rfl
  · split <;> rfl

/-- The last step ends with first light (R66, R67). -/
theorem State.endLast_of_light (s : State) (h : s.sys.firstLight = true) : s.endLast = s.endStart := if_pos h

/-! ### The steps in order -/

/-- Settles O13: each step's end is one branch of `State.endCold` or `State.endWarm`. -/
theorem startStepsFollowOneAnother : Obligations.StartStepsFollowOneAnother := by
  intro x s
  have hexec {t : State} (h : doStartStepEnd s x = t) : exec (.startStepEnd x) s = .next (if s.alive then t else s) := by
    rw [← h]
    rfl
  refine ⟨fun hidle => by rw [hexec (doStartStepEnd_of_idle s x hidle), ite_self], fun halive hfatal => ?_⟩
  have hnext {w : Bool} {n : Nat} (hstep : s.sys.step = some (w, n)) :
      exec (.startStepEnd x) s = .next (if w then s.endWarm n x else s.endCold n x) := by
    rw [hexec (doStartStepEnd_of_step s x halive hfatal hstep), if_pos halive]
  have hworks {w : Bool} {n : Nat} {P : State → Prop} (hstep : s.sys.step = some (w, n)) (h : P (if w then s.endWarm n x else s.endCold n x)) :
      Works (.startStepEnd x) s P := fun _ => ⟨_, hnext hstep, h⟩
  refine ⟨fun h1 => ?_, fun h3 => ?_, fun h10 _ => hnext h10, fun w1 => ⟨fun hconfirmed => ?_, fun hunconfirmed => ?_⟩,
    fun w8 => ⟨fun hin hdone _ => ?_, fun hin hpending => ?_, fun hover => ?_⟩, fun hlast hlight => ?_⟩
  · exact hworks h1 ⟨rfl, (State.rd_wr_self _ _ _ (by decide)).trans (Nat.mod_eq_of_lt x.boot.isLt)⟩
  · refine hworks h3 ⟨s.endC3_step x, fun hsilent => ?_, fun hloud hbad => ?_, fun hloud hgood => ?_⟩
    · exact (s.endC3_error_spec x 2 (by simp [State.directoryError, hsilent]) (by decide) (by decide)).2
    · exact (s.endC3_error_spec x 1 (by simp [State.directoryError, hloud, hbad]) (by decide) (by decide)).2
    · exact (s.endC3_good_spec x (by simp [State.directoryError, hloud, hgood])).2
  · refine hworks w1 ?_
    simp only [State.endWarm, hconfirmed]
    exact ⟨rfl, State.rd_wr_self _ _ _ (by decide)⟩
  · refine hworks w1 ?_
    obtain ⟨hstep, hcause, _⟩ := s.coldBegin_spec 3 2 (by decide)
    simp only [State.endWarm, hunconfirmed]
    exact ⟨hstep, hcause, s.coldBegin_why 3 2 (by decide)⟩
  · rw [hnext w8]
    simp [State.endWarm, hin, hdone]
    rfl
  · rw [hnext w8]
    simp [State.endWarm, hin, hpending]
  · refine hworks w8 ?_
    simp only [State.endWarm, hover]
    exact ⟨rfl, s.coldBegin_why 3 32 (by decide)⟩
  · obtain ⟨hstep, hdigest, hlow, _⟩ := s.endStart_spec
    rw [← s.endLast_of_light hlight] at hstep hdigest hlow
    rcases hlast with h | h <;> exact hworks h ⟨hstep, hdigest, hlow⟩

end Sys2Proof.Machine
end

section
/-! SUPPORT. Starts that run to their end (R66, R67, R69, R72, R75, R76). -/

namespace Sys2Proof.Machine

/-! ### What a start without an image leaves -/

/-- The words of SYS_ROLE, SYS_START and CHT_STATUS in a table of registers. -/
def startWords (r : Tab Word) : Option Word × Option Word × Option Word :=
  (Tab.find r RegAddr.SYS_ROLE, Tab.find r RegAddr.SYS_START, Tab.find r RegAddr.CHT_STATUS)

/-- Two states run on alike in a start: power, RESET_N, the fatal error, the step and the directory, and the words of `startWords`. -/
abbrev SameStart (s t : State) : Prop :=
  t.sys.powered = s.sys.powered ∧ t.sys.inReset = s.sys.inReset ∧ t.sys.fatal = s.sys.fatal ∧ t.sys.step = s.sys.step ∧
  t.sys.directory = s.sys.directory ∧ startWords t.regs = startWords s.regs

theorem SameStart.trans {s t u : State} (h : SameStart s t) (k : SameStart t u) : SameStart s u := by
  obtain ⟨h1, h2, h3, h4, h5, h6⟩ := h
  obtain ⟨k1, k2, k3, k4, k5, k6⟩ := k
  exact ⟨k1.trans h1, k2.trans h2, k3.trans h3, k4.trans h4, k5.trans h5, k6.trans h6⟩

/-- An update lets the start run on alike. This is a structure for the reason that `SameQueue` is one. -/
structure KeepsStart (f : State → State) : Prop where
  same : ∀ t, SameStart t (f t)

@[simp] theorem keepsStart_iff (f : State → State) : KeepsStart f ↔ ∀ t, SameStart t (f t) := ⟨KeepsStart.same, KeepsStart.mk⟩

@[simp] theorem State.onlyIf_start (s : State) (c : Bool) (f : State → State) (h : KeepsStart f) : SameStart s (s.onlyIf c f) := by
  unfold State.onlyIf
  split
  · exact h.same s
  · exact ⟨rfl, rfl, rfl, rfl, rfl, rfl⟩

@[simp] theorem State.forAll_start {α : Type} (s : State) (l : List α) (f : State → α → State) (h : ∀ x, KeepsStart fun t => f t x) :
    SameStart s (s.forAll l f) :=
  State.forAll_keeps (SameStart s) f l s ⟨rfl, rfl, rfl, rfl, rfl, rfl⟩ fun t x _ ht => ht.trans ((h x).same t)

theorem startWords_of_find {r q : Tab Word} (hrole : Tab.find r RegAddr.SYS_ROLE = Tab.find q RegAddr.SYS_ROLE)
    (hstart : Tab.find r RegAddr.SYS_START = Tab.find q RegAddr.SYS_START) (hstatus : Tab.find r RegAddr.CHT_STATUS = Tab.find q RegAddr.CHT_STATUS) :
    startWords r = startWords q := by simp only [startWords, hrole, hstart, hstatus]

/-- A register is none of SYS_ROLE, SYS_START and CHT_STATUS. -/
def offStart (a : Nat) : Bool := a != RegAddr.SYS_ROLE && a != RegAddr.SYS_START && a != RegAddr.CHT_STATUS

@[simp] theorem State.wr_startWords (s : State) (f : Fld) (v : Nat) (h : offStart f.addr = true) : startWords (s.wr f v).regs = startWords s.regs := by
  have hne : (f.addr ≠ RegAddr.SYS_ROLE ∧ f.addr ≠ RegAddr.SYS_START) ∧ f.addr ≠ RegAddr.CHT_STATUS := by simpa [offStart] using h
  exact startWords_of_find (s.wr_find f v hne.1.1) (s.wr_find f v hne.1.2) (s.wr_find f v hne.2)
@[simp] theorem State.wrFlag_startWords (s : State) (f : Fld) (b : Bool) (h : offStart f.addr = true) :
    startWords (s.wrFlag f b).regs = startWords s.regs := s.wr_startWords f _ h
@[simp] theorem State.wrBit_startWords (s : State) (f : Fld) (n : Nat) (b : Bool) (h : offStart f.addr = true) :
    startWords (s.wrBit f n b).regs = startWords s.regs := s.wr_startWords f _ h

@[simp] theorem State.raise_start (s : State) (src code arg : Nat) : SameStart s (s.raise src code arg) := by
  obtain ⟨l, r, b, heq, hkeep⟩ := s.raise_only src code arg
  rw [heq]
  exact ⟨rfl, rfl, rfl, rfl, rfl, startWords_of_find (hkeep _ (by decide)) (hkeep _ (by decide)) (hkeep _ (by decide))⟩

theorem offStart_of_lt {a : Nat} (h : RegAddr.CHT_STATUS < a) : offStart a = true := by
  have hrole : RegAddr.SYS_ROLE < a := Nat.lt_trans (by decide) h
  have hstart : RegAddr.SYS_START < a := Nat.lt_trans (by decide) h
  simp [offStart, Nat.ne_of_gt h, Nat.ne_of_gt hrole, Nat.ne_of_gt hstart]

theorem offStart_of_index {a k : Nat} (h : RegAddr.CHT_STATUS < a) : offStart (a + k) = true := offStart_of_lt (Nat.lt_add_right k h)

@[simp] theorem offStart_addr_of_index (i : Nat) : offStart (Reg.TRS_ID_PUB_KEY i).addr = true ∧ offStart (Reg.TRS_OWNER_HASH i).addr = true ∧
    offStart (Reg.DMC_CH_STAT_DEAD_WIRE i).addr = true :=
  ⟨offStart_of_index (by decide), offStart_of_index (by decide), offStart_of_index (by decide)⟩

@[simp] theorem offStart_addr : offStart Reg.TRS_SERIAL_SERIAL.addr = true ∧ offStart Reg.TRS_STAT_CLAIMED.addr = true ∧
    offStart Reg.TRS_STAT_DEBUG_LOCK.addr = true ∧ offStart Reg.TRS_STAT_OWNER_SLOT.addr = true ∧ offStart Reg.TRS_STAT_VENDOR_REVOKE.addr = true ∧
    offStart Reg.TRS_STAT_OWNER_REVOKED.addr = true ∧ offStart Reg.TRS_STAT_FLOOR.addr = true ∧ offStart Reg.TRS_NONCE_LO_NONCE.addr = true ∧
    offStart Reg.TRS_NONCE_HI_NONCE.addr = true ∧ offStart Reg.SYS_DUMP_STAT_FLASH_VALID.addr = true ∧ offStart Reg.SYS_DUMP_STAT_CAUSE.addr = true ∧
    offStart Reg.DMC_STAT_STATE.addr = true ∧ offStart Reg.DMC_STAT_DEAD.addr = true ∧ offStart Reg.DMC_TRAIN_TEMP.addr = true := by decide

@[simp] theorem State.showOtp_start (s : State) : SameStart s s.showOtp := by
  simp -implicitDefEqProofs [SameStart, State.showOtp]
@[simp] theorem State.setSession_start (s : State) (f : Nat → Nat) : SameStart s (s.setSession f) := by simp [SameStart, State.setSession]

@[simp] theorem State.drawSession_start (s : State) : SameStart s s.drawSession := by
  unfold State.drawSession
  split
  · exact ⟨rfl, rfl, rfl, rfl, rfl, rfl⟩
  · simp [SameStart]

@[simp] theorem State.nvmRead_start (s : State) (off n : Nat) : SameStart s (s.nvmRead off n) := ⟨rfl, rfl, rfl, rfl, rfl, rfl⟩
@[simp] theorem State.showDump_start (s : State) : SameStart s s.showDump := by simp [SameStart, State.showDump]

theorem State.role_of_start {s t : State} (h : SameStart s t) : t.role = s.role := by
  obtain ⟨_, _, _, _, _, hwords⟩ := h
  exact State.rd_of_find (congrArg (·.1) hwords)

theorem State.boot_of_start {s t : State} (h : SameStart s t) : t.rd Reg.SYS_START_BOOT = s.rd Reg.SYS_START_BOOT := by
  obtain ⟨_, _, _, _, _, hwords⟩ := h
  exact State.rd_of_find (congrArg (·.2.1) hwords)

theorem State.status_of_start {s t : State} (h : SameStart s t) : Tab.find t.regs RegAddr.CHT_STATUS = Tab.find s.regs RegAddr.CHT_STATUS := by
  obtain ⟨_, _, _, _, _, hwords⟩ := h
  exact congrArg (·.2.2) hwords

/-! ### Runs of steps -/

/-- A running device without a fatal error stands at step `n` of a cold start. -/
structure AtCold (s : State) (n : Nat) : Prop where
  alive : s.alive = true
  fatal : s.sys.fatal = none
  step : s.sys.step = some (false, n)

theorem AtCold.same {s t : State} {n : Nat} (h : AtCold s n) (k : SameStart s t) : AtCold t n := by
  obtain ⟨hpow, hrst, hfatal, hstep, _, _⟩ := k
  refine ⟨?_, hfatal.trans h.fatal, hstep.trans h.step⟩
  rw [State.alive, hpow, hrst]
  exact h.alive

/-- A device at one step goes on with the next. -/
theorem AtCold.toStep {s : State} {n : Nat} (h : AtCold s n) (m : Nat) : AtCold (s.toStep false m) m := ⟨h.alive, h.fatal, rfl⟩

theorem AtCold.runSteps {s : State} {n : Nat} (h : AtCold s n) (hn : n ≠ 12) (x : StartIn) (k : Nat) :
    s.runSteps false x (k + 1) = (s.endCold n x).runSteps false x k := by
  simp only [State.runSteps, h.step, ne_eq, not_true_eq_false, if_false, if_neg hn, Bool.false_eq_true]
  rw [doStartStepEnd_of_step s x h.alive h.fatal h.step]
  rfl

theorem State.runSteps_of_none (s : State) (warm : Bool) (x : StartIn) (k : Nat) (h : s.sys.step = none) : s.runSteps warm x k = s := by
  cases k with
  | zero => rfl
  | succ k => simp only [State.runSteps, h]

/-- C2 of a hold boot is the last step (R75). -/
theorem State.endC2_of_hold (s : State) (h : s.rd Reg.SYS_START_BOOT = 2) : s.endC2 = s.showOtp.drawSession.endStart := by
  rw [State.endC2]
  exact if_pos ((State.boot_of_start (s.showOtp_start.trans s.showOtp.drawSession_start)).trans h)

theorem State.endC2_of_other (s : State) (h : s.rd Reg.SYS_START_BOOT ≠ 2) :
    s.endC2 = (s.showOtp.drawSession.wr Reg.CHT_STATUS_STATE 1).toStep false 3 := by
  rw [State.endC2]
  exact if_neg ((State.boot_of_start (s.showOtp_start.trans s.showOtp.drawSession_start)).symm ▸ h)

theorem State.roleBuilt_of_roleless (s : State) (keep : List Nat) (h : s.role = 0) : s.roleBuilt keep = s.resetBanks 0 keep := by
  simp [State.roleBuilt, h]

/-- A device that drops its role holds none, and keeps CHT_STATUS (R76). -/
theorem State.dropRole_spec (s : State) : s.dropRole.role = 0 ∧ Tab.find s.dropRole.regs RegAddr.CHT_STATUS = Tab.find s.regs RegAddr.CHT_STATUS := by
  have hnone : ({ s with regs := Tab.put s.regs RegAddr.SYS_ROLE 0 } : State).role = 0 := by
    simp only [State.role, State.rd, State.word]
    rw [show (Reg.SYS_ROLE_ROLE).addr = RegAddr.SYS_ROLE from rfl, Tab.find_put_self]
    rfl
  obtain ⟨r, m, heq, hkeep⟩ := ({ s with regs := Tab.put s.regs RegAddr.SYS_ROLE 0 } : State).resetBanks_only 0 [0, 1]
  rw [State.dropRole, State.roleBuilt_of_roleless _ _ hnone]
  refine ⟨(State.rd_of_find ?_).trans hnone, ?_⟩
  · rw [heq]
    exact hkeep _ (by decide)
  · rw [heq]
    exact (hkeep _ (by decide)).trans (Tab.find_put_ne _ _ (by decide))

/-- Channels that are in service with dead wires leave the start as it is (R369). -/
theorem State.deadWires_start (s : State) (wires : List (Fin 8 × BitVec 8)) (temp : Nat) : SameStart s
    (((s.forAll wires fun v w => ((v.wr (Reg.DMC_CH_STAT_DEAD_WIRE w.1.val) w.2.toNat).wrBit Reg.DMC_STAT_DEAD w.1.val true).raise srcMemory 0x8E03
      w.1.val).wr Reg.DMC_TRAIN_TEMP temp).wr Reg.DMC_STAT_STATE 2) := by simp [SameStart]

/-- Without a role C6 is the last step, and CHT_STATUS stays (R76). -/
theorem State.endC6_of_roleless (s : State) (x : StartIn) (hrole : s.role = 0) :
    ∃ t : State, s.endC6 x = t.endStart ∧ t.role = 0 ∧ Tab.find t.regs RegAddr.CHT_STATUS = Tab.find s.regs RegAddr.CHT_STATUS := by
  unfold State.endC6
  dsimp only
  generalize x.untrained.or _ = failed
  cases failed with
  | some c =>
    obtain ⟨hnone, hstatus⟩ := ((s.raise srcMemory 0xCE04 c.val).wr Reg.DMC_STAT_STATE 4).dropRole_spec
    exact ⟨_, if_pos hnone, hnone, hstatus.trans ((State.wr_find _ _ _ (by decide)).trans (s.raise_find _ _ _ (by decide)))⟩
  | none =>
    have hsame := s.deadWires_start x.wires (unsignedOf 16 (s.startTemp x))
    have hnone := (State.role_of_start hsame).trans hrole
    exact ⟨_, if_pos hnone, hnone, State.status_of_start hsame⟩

/-- A device without a role that stands at step `n` of a cold start. -/
structure Bare (s : State) (n : Nat) : Prop extends AtCold s n where
  role : s.role = 0

theorem Bare.same {s t : State} {n : Nat} (h : Bare s n) (k : SameStart s t) : Bare t n := ⟨h.toAtCold.same k, (State.role_of_start k).trans h.role⟩

theorem Bare.toStep {s : State} {n : Nat} (h : Bare s n) (m : Nat) : Bare (s.toStep false m) m := ⟨h.toAtCold.toStep m, h.role⟩

/-- A field of CHT_STATUS leaves the device as it stands. -/
theorem Bare.wrStatus {s : State} {n : Nat} (h : Bare s n) (f : Fld) (v : Nat) (hf : f.addr = RegAddr.CHT_STATUS) : Bare (s.wr f v) n :=
  ⟨⟨h.alive, h.fatal, h.step⟩, (s.wr_role f v (by rw [hf]; decide)).trans h.role⟩

/-- The steps C2 to C5 of a device without a role whose flash is silent (R66, R76). -/
theorem Bare.endC2 {s : State} (h : Bare s 2) (hboot : s.rd Reg.SYS_START_BOOT ≠ 2) : Bare s.endC2 3 := by
  rw [s.endC2_of_other hboot]
  exact ((h.same (s.showOtp_start.trans s.showOtp.drawSession_start)).wrStatus Reg.CHT_STATUS_STATE 1 rfl).toStep 3

theorem Bare.endC3 {s : State} (h : Bare s 3) (x : StartIn) (hsilent : x.silent = true) :
    Bare (s.endC3 x) 4 ∧ (s.endC3 x).sys.directory = false ∧ (s.endC3 x).rd Reg.CHT_STATUS_ERR = 2 := by
  have herr : s.directoryError x = 2 := by simp [State.directoryError, hsilent]
  obtain ⟨hstep, _, hcode, hdir⟩ := s.endC3_error_spec x 2 herr (by decide) (by decide)
  obtain ⟨⟨b, hsys⟩, _, _, hfind⟩ := (s.directoryJudged 2).noFlash_spec 2 (by decide)
  rw [← s.endC3_of_error x 2 herr (by decide)] at hsys hfind
  refine ⟨⟨⟨?_, ?_, hstep⟩, (State.rd_of_find (hfind _ (by decide) (by decide))).trans h.role⟩, hdir, hcode⟩
  · rw [State.alive, hsys]
    exact h.alive
  · rw [hsys]
    exact h.fatal

theorem Bare.endC4 {s : State} (h : Bare s 4) (x : StartIn) (hdir : s.sys.directory = false) (hcode : s.rd Reg.CHT_STATUS_ERR = 2) :
    Bare (s.endC4 x) 5 ∧ (s.endC4 x).rd Reg.CHT_STATUS_STATE = 5 ∧ (s.endC4 x).rd Reg.CHT_STATUS_ERR = 2 := by
  have hnone : s.noLoader = true := by simp [State.noLoader, hdir]
  rw [State.endC4, if_pos hnone]
  exact ⟨(h.wrStatus Reg.CHT_STATUS_STATE 5 rfl).toStep 5, State.rd_wr_self _ _ _ (by decide),
    (State.rd_wr_other _ Reg.CHT_STATUS_STATE Reg.CHT_STATUS_ERR 5 rfl rfl (by decide)).trans hcode⟩

theorem Bare.endC5 {s : State} (h : Bare s 5) (x : StartIn) :
    Bare (s.endCold 5 x) 6 ∧ Tab.find (s.endCold 5 x).regs RegAddr.CHT_STATUS = Tab.find s.regs RegAddr.CHT_STATUS := by
  have hidle : s.startFirmware = s.showDump := if_pos ((State.role_of_start s.showDump_start).trans h.role)
  have heq : s.endCold 5 x = s.showDump.toStep false 6 := by rw [← hidle]; rfl
  have hstatus := State.status_of_start s.showDump_start
  rw [heq]
  exact ⟨(h.same s.showDump_start).toStep 6, hstatus⟩

/-- A cold start of a device without a role whose flash is silent ends after C6, with the error on record and the pin of a fault low (R76). -/
theorem Bare.runSteps {s : State} (h : Bare s 2) (x : StartIn) (hboot : s.rd Reg.SYS_START_BOOT ≠ 2) (hsilent : x.silent = true) (k : Nat) :
    let t := s.runSteps false x (k + 5)
    t.sys.step = none ∧ t.role = 0 ∧ t.sys.faultLow = true ∧ t.rd Reg.CHT_STATUS_STATE = 5 ∧ t.rd Reg.CHT_STATUS_ERR = 2 := by
  have h3 := h.endC2 hboot
  obtain ⟨h4, hdir, hcode⟩ := h3.endC3 x hsilent
  obtain ⟨h5, hstate, hcode⟩ := h4.endC4 x hdir hcode
  obtain ⟨h6, hfind⟩ := h5.endC5 x
  obtain ⟨u, hend, hrole, hstatus⟩ := State.endC6_of_roleless _ x h6.role
  obtain ⟨hstep, _, hlow, hkeep⟩ := u.endStart_spec
  have hsame (f : Fld) (hf : f.addr = RegAddr.CHT_STATUS) : u.endStart.rd f = ((s.endC2.endC3 x).endC4 x).rd f :=
    State.rd_of_find (by rw [hf]; exact (hkeep _ (by decide)).trans (hstatus.trans hfind))
  have hrun : s.runSteps false x (k + 5) = u.endStart := by
    calc s.runSteps false x (k + 5)
      _ = s.endC2.runSteps false x (k + 4) := h.toAtCold.runSteps (by decide) x _
      _ = (s.endC2.endC3 x).runSteps false x (k + 3) := h3.toAtCold.runSteps (by decide) x _
      _ = ((s.endC2.endC3 x).endC4 x).runSteps false x (k + 2) := h4.toAtCold.runSteps (by decide) x _
      _ = (((s.endC2.endC3 x).endC4 x).endCold 5 x).runSteps false x (k + 1) := h5.toAtCold.runSteps (by decide) x _
      _ = u.endStart.runSteps false x k := by rw [h6.toAtCold.runSteps (by decide) x k, ← hend]; rfl
      _ = u.endStart := State.runSteps_of_none _ _ _ _ hstep
  dsimp only
  rw [hrun]
  exact ⟨hstep, (State.rd_of_find (hkeep _ (by decide))).trans hrole, hlow hrole, (hsame _ rfl).trans hstate, (hsame _ rfl).trans hcode⟩

/-! ### The last step, and the first of a warm start -/

/-- Where no group is armed and first light has come, the last step has nothing left to wait for. -/
theorem State.lastStep_of_light (s : State) (hlight : s.sys.firstLight = true) (hnone : s.rd Reg.SYS_COMMIT_STAT_ARMED = 0) :
    s.commitArmed.showFirst = s := by
  have hidle : s.commitArmed = s := by
    have hempty : (List.range 16).filter s.armed = [] := by simp [State.armed, State.bit, hnone]
    rw [State.commitArmed, hempty]
    rfl
  rw [hidle]
  exact if_pos hlight

/-- The last step of a start, with first light reached and no group armed, ends it (R66, R67). -/
theorem State.runSteps_of_last (s : State) (warm : Bool) (x : StartIn) (k : Nat) (halive : s.alive = true) (hfatal : s.sys.fatal = none)
    (hstep : s.sys.step = some (warm, if warm then 10 else 12)) (hlight : s.sys.firstLight = true) (hnone : s.rd Reg.SYS_COMMIT_STAT_ARMED = 0) :
    s.runSteps warm x (k + 1) = s.endStart := by
  have hend : doStartStepEnd s x = s.endStart := by
    rw [doStartStepEnd_of_step s x halive hfatal hstep]
    cases warm <;> exact s.endLast_of_light hlight
  simp only [State.runSteps, hstep, ne_eq, not_true_eq_false, if_false, if_true, s.lastStep_of_light hlight hnone, hend]
  exact State.runSteps_of_none _ _ _ _ s.endStart_spec.1

/-- A warm start whose self-refresh is not confirmed turns cold at its first step, and the warm steps end there (R69). -/
theorem State.runSteps_of_unconfirmed (s : State) (x : StartIn) (k : Nat) (halive : s.alive = true) (hfatal : s.sys.fatal = none)
    (hstep : s.sys.step = some (true, 1)) (hunconfirmed : x.unconfirmed = true) : s.runSteps true x (k + 2) = s.coldBegin 3 2 := by
  have hend : doStartStepEnd s x = s.coldBegin 3 2 := by
    rw [doStartStepEnd_of_step s x halive hfatal hstep]
    exact if_pos hunconfirmed
  have hcold : (s.coldBegin 3 2).sys.step = some (false, 1) := rfl
  simp [State.runSteps, hstep, hend, hcold]

/-- Settles O14: the steps are run one after another, each by its own end. -/
theorem startsRunToTheirEnd : Obligations.StartsRunToTheirEnd := by
  intro x s
  refine ⟨fun hidle => ?_, fun halive hfatal => ?_⟩
  · have hnone (warm : Bool) (k : Nat) : s.whenAlive (fun u => u.runSteps warm x k) = s := by
      rw [State.whenAlive, s.runSteps_of_none warm x k hidle, ite_self]
    exact ⟨congrArg Host.Outcome.next (hnone false 12), congrArg Host.Outcome.next (hnone true 10)⟩
  have hcold {t : State} {P : State → Prop} (ht : s.runSteps false x 12 = t) (h : P t) : Works (.coldStart x) s P :=
    works_of_exec (f := fun u => doColdStart u x) rfl (by rwa [doColdStart, ht])
  have hwarm {t : State} {P : State → Prop} (ht : s.runSteps true x 10 = t) (h : P t) : Works (.warmStart x) s P :=
    works_of_exec (f := fun u => doWarmStart u x) rfl (by rwa [doWarmStart, ht])
  have hboot : (s.endCold 1 x).rd Reg.SYS_START_BOOT = x.boot.toNat :=
    (State.rd_wr_self _ _ _ (by decide)).trans (Nat.mod_eq_of_lt x.boot.isLt)
  have hfirst (hstep : s.sys.step = some (false, 1)) : AtCold (s.endCold 1 x) 2 ∧ s.runSteps false x 12 = (s.endCold 1 x).runSteps false x 11 :=
    ⟨⟨halive, hfatal, rfl⟩, AtCold.runSteps ⟨halive, hfatal, hstep⟩ (by decide) x 11⟩
  refine ⟨fun hstep hhold => ?_, fun hstep hother hsilent hrole => ?_, fun hstep hlight hnone => ?_, fun hstep hlight hnone => ?_, fun hstep hbad => ?_⟩
  · obtain ⟨hat, hrun⟩ := hfirst hstep
    have h2 : (s.endCold 1 x).rd Reg.SYS_START_BOOT = 2 := by rw [hboot, hhold]; rfl
    have hsame := (s.endCold 1 x).showOtp_start.trans (State.drawSession_start _)
    obtain ⟨hended, _, _, hkeep⟩ := (s.endCold 1 x).showOtp.drawSession.endStart_spec
    refine hcold (t := (s.endCold 1 x).showOtp.drawSession.endStart) ?_ ⟨hended, ?_⟩
    · rw [hrun, hat.runSteps (by decide) x 10]
      change (s.endCold 1 x).endC2.runSteps false x 10 = _
      rw [State.endC2_of_hold _ h2]
      exact State.runSteps_of_none _ _ _ _ hended
    · exact (State.rd_of_find (hkeep _ (by decide))).trans ((State.boot_of_start hsame).trans h2)
  · obtain ⟨hat, hrun⟩ := hfirst hstep
    have hne : (s.endCold 1 x).rd Reg.SYS_START_BOOT ≠ 2 := by
      rw [hboot]
      exact fun h => hother (BitVec.eq_of_toNat_eq h)
    exact hcold hrun (Bare.runSteps ⟨hat, (s.wr_role Reg.SYS_START_BOOT _ (by decide)).trans hrole⟩ x hne hsilent 6)
  · obtain ⟨hended, hdigest, _⟩ := s.endStart_spec
    exact hcold (s.runSteps_of_last false x 11 halive hfatal hstep hlight hnone) ⟨hended, hdigest⟩
  · obtain ⟨hended, hdigest, _⟩ := s.endStart_spec
    exact hwarm (s.runSteps_of_last true x 9 halive hfatal hstep hlight hnone) ⟨hended, hdigest⟩
  · obtain ⟨hcoldStep, hcause, _⟩ := s.coldBegin_spec 3 2 (by decide)
    exact hwarm (s.runSteps_of_unconfirmed x 8 halive hfatal hstep hbad) ⟨hcoldStep, hcause, s.coldBegin_why 3 2 (by decide)⟩

end Sys2Proof.Machine
end

section
/-! SUPPORT. The requests that a device finishes before it restarts warm (R361 to R368, R372): what their DRAM depends on. -/

namespace Sys2Proof.Machine

/-! ### What a diagnosis leaves of the DRAM controller -/

/-- The words of DMC_CH_STAT, the dead wires among them, in a table of registers. -/
def stackWords (r : Tab Word) : List (Option Word) := (List.range 8).map fun c => Tab.find r (RegAddr.DMC_CH_STAT c)

/-- A register is none of DMC_CH_STAT. -/
def offStacks (a : Nat) : Bool := (List.range 8).all fun c => a != RegAddr.DMC_CH_STAT c

theorem offStacks_of_lt {a : Nat} (h : RegAddr.DMC_CH_STAT 7 < a) : offStacks a = true := by
  simp only [offStacks, List.all_eq_true, List.mem_range, bne_iff_ne]
  intro c hc
  have hle : RegAddr.DMC_CH_STAT c ≤ RegAddr.DMC_CH_STAT 7 := Nat.add_le_add_left (Nat.mul_le_mul_right _ (by omega)) _
  exact Nat.ne_of_gt (Nat.lt_of_le_of_lt hle h)

theorem stackWords_of_find {r q : Tab Word} (h : ∀ c < 8, Tab.find r (RegAddr.DMC_CH_STAT c) = Tab.find q (RegAddr.DMC_CH_STAT c)) :
    stackWords r = stackWords q := List.map_congr_left fun c hc => h c (List.mem_range.mp hc)

theorem find_of_stackWords {r q : Tab Word} (h : stackWords r = stackWords q) {c : Nat} (hc : c < 8) :
    Tab.find r (RegAddr.DMC_CH_STAT c) = Tab.find q (RegAddr.DMC_CH_STAT c) := List.map_inj_left.mp h c (List.mem_range.mpr hc)

@[simp] theorem State.wr_stackWords (s : State) (f : Fld) (v : Nat) (h : offStacks f.addr = true) : stackWords (s.wr f v).regs = stackWords s.regs := by
  refine stackWords_of_find fun c hc => s.wr_find f v ?_
  simp only [offStacks, List.all_eq_true, List.mem_range, bne_iff_ne] at h
  exact h c hc
@[simp] theorem State.wrFlag_stackWords (s : State) (f : Fld) (b : Bool) (h : offStacks f.addr = true) :
    stackWords (s.wrFlag f b).regs = stackWords s.regs := s.wr_stackWords f _ h
@[simp] theorem State.bump_stackWords (s : State) (f : Fld) (h : offStacks f.addr = true) :
    stackWords (s.bump f).regs = stackWords s.regs := s.wr_stackWords f _ h

/-- Two states have the same DRAM, the same records of its controller, and the same DMC_CH_STAT. -/
abbrev SameDmc (s t : State) : Prop := t.dram = s.dram ∧ t.dmc = s.dmc ∧ stackWords t.regs = stackWords s.regs

theorem SameDmc.trans {s t u : State} (h : SameDmc s t) (k : SameDmc t u) : SameDmc s u := ⟨k.1.trans h.1, k.2.1.trans h.2.1, k.2.2.trans h.2.2⟩

/-- An update leaves DRAM and its controller. This is a structure for the reason that `SameQueue` is one. -/
structure KeepsDmc (f : State → State) : Prop where
  same : ∀ t, SameDmc t (f t)

@[simp] theorem keepsDmc_iff (f : State → State) : KeepsDmc f ↔ ∀ t, SameDmc t (f t) := ⟨KeepsDmc.same, KeepsDmc.mk⟩

@[simp] theorem ite_dmc (c : Prop) [Decidable c] (s t : State) : (if c then s else t).dmc = (if c then s.dmc else t.dmc) ∧
    stackWords (if c then s else t).regs = if c then stackWords s.regs else stackWords t.regs := by split <;> exact ⟨rfl, rfl⟩

@[simp] theorem State.onlyIf_dmc (s : State) (c : Bool) (f : State → State) (h : KeepsDmc f) : SameDmc s (s.onlyIf c f) := by
  unfold State.onlyIf
  split
  · exact h.same s
  · exact ⟨rfl, rfl, rfl⟩

@[simp] theorem State.forAll_dmc {α : Type} (s : State) (l : List α) (f : State → α → State) (h : ∀ x, KeepsDmc fun t => f t x) :
    SameDmc s (s.forAll l f) :=
  State.forAll_keeps (SameDmc s) f l s ⟨rfl, rfl, rfl⟩ fun t x _ ht => ht.trans ((h x).same t)

@[simp] theorem State.raise_dmc (s : State) (src code arg : Nat) : SameDmc s (s.raise src code arg) := by
  obtain ⟨l, r, b, heq, hkeep⟩ := s.raise_only src code arg
  rw [heq]
  exact ⟨rfl, rfl, stackWords_of_find fun c _ => hkeep _ (Nat.ne_of_gt (Nat.lt_add_right _ (by decide)))⟩

@[simp] theorem offStacks_addr :
    offStacks Reg.DMC_ECC_CNT_UE.addr = true ∧ offStacks Reg.DMC_ECC_CNT_CE.addr = true ∧ offStacks Reg.DMC_ECC_LAST_UE.addr = true ∧
    offStacks Reg.DMC_ECC_LAST_SYMBOLS.addr = true ∧ offStacks Reg.DMC_ECC_LAST_LINE.addr = true ∧ offStacks Reg.SPN_CNT_YIELDS.addr = true ∧
    offStacks Reg.SPN_STAT_STATE.addr = true ∧ offStacks Reg.SPN_STAT_YIELDED.addr = true ∧ offStacks Reg.SPN_STAT_VERDICT.addr = true ∧
    offStacks Reg.WHL_STAT_STATE.addr = true ∧ offStacks Reg.WHL_STAT_SOURCE.addr = true ∧ offStacks Reg.WHL_STAT_TPORT.addr = true ∧
    offStacks Reg.WHL_STAT_SLEWING.addr = true ∧ offStacks Reg.WHL_ERR_FREQ.addr = true ∧ offStacks RegAddr.CTR_CMD = true := by decide

@[simp] theorem offStacks_addr_of_index (i : Nat) :
    offStacks (Reg.WFT_PORT_STAT_TX_POWER i).addr = true ∧ offStacks (Reg.WHL_HOP_TIME_PORT i).addr = true :=
  ⟨offStacks_of_lt (Nat.lt_add_right _ (by decide)), offStacks_of_lt (Nat.lt_add_right _ (by decide))⟩

@[simp] theorem State.setFreq_dmc (s : State) (base slew : Int) : SameDmc s (s.setFreq base slew) := by simp [SameDmc, State.setFreq]
@[simp] theorem State.endSlew_dmc (s : State) : SameDmc s s.endSlew := by simp [SameDmc, State.endSlew]
@[simp] theorem State.slewOnChange_dmc (s : State) (changed : Bool) : SameDmc s (s.slewOnChange changed) := by simp [SameDmc, State.slewOnChange]
@[simp] theorem State.setLock_dmc (s : State) (st : Nat) : SameDmc s (s.setLock st) := by simp [SameDmc, State.setLock]
@[simp] theorem State.showSource_dmc (s : State) : SameDmc s s.showSource := by simp [SameDmc, State.showSource]
@[simp] theorem State.putOut_dmc (s : State) (p : Nat) (l : List Sent) : SameDmc s (s.putOut p l) := by simp [SameDmc, State.putOut]
@[simp] theorem State.drainFwd_dmc (s : State) (out : Nat) : SameDmc s (s.drainFwd out) := by simp [SameDmc, State.drainFwd]
@[simp] theorem State.send_dmc (s : State) (p : Nat) (t : PType) (dest : Nat) (body : Bytes) : SameDmc s (s.send p t dest body) := by
  simp [SameDmc, State.send]
@[simp] theorem State.sendYield_dmc (s : State) (reason gen at_ : Nat) : SameDmc s (s.sendYield reason gen at_) := by simp [SameDmc, State.sendYield]
@[simp] theorem State.yieldFor_dmc (s : State) (code : Nat) : SameDmc s (s.yieldFor code) := by simp [SameDmc, State.yieldFor]
@[simp] theorem State.raiseVerdict_dmc (s : State) (code : Nat) : SameDmc s (s.raiseVerdict code) := by simp [SameDmc, State.raiseVerdict]
@[simp] theorem State.noteLine_dmc (s : State) (line : Nat) (r : LineRead) : SameDmc s (s.noteLine line r) := by simp [SameDmc, State.noteLine]

/-! ### The requests that a device finishes depend on DRAM and its controller alone -/

/-- Two states finish their requests alike (R361 to R368): DRAM, what waits, open rows, passes and the cycle, and what the choice among requests and the
decoding of a line look at. -/
structure SameRequests (s t : State) : Prop where
  dram : t.dram = s.dram
  waiting : t.dmc.waiting = s.dmc.waiting
  openRow : t.dmc.openRow = s.dmc.openRow
  passes : t.dmc.passes = s.dmc.passes
  cycle : t.dmc.cycle = s.dmc.cycle
  act : t.act = s.act
  count : t.count = s.count
  role : t.role = s.role
  dead : ∀ c < 8, t.rd (Reg.DMC_CH_STAT_DEAD_WIRE c) = s.rd (Reg.DMC_CH_STAT_DEAD_WIRE c)

theorem SameRequests.refl (s : State) : SameRequests s s := ⟨rfl, rfl, rfl, rfl, rfl, rfl, rfl, rfl, fun _ _ => rfl⟩

theorem SameRequests.symm {s t : State} (h : SameRequests s t) : SameRequests t s :=
  ⟨h.dram.symm, h.waiting.symm, h.openRow.symm, h.passes.symm, h.cycle.symm, h.act.symm, h.count.symm, h.role.symm, fun c hc => (h.dead c hc).symm⟩

theorem SameRequests.trans {s t u : State} (h : SameRequests s t) (k : SameRequests t u) : SameRequests s u :=
  ⟨k.dram.trans h.dram, k.waiting.trans h.waiting, k.openRow.trans h.openRow, k.passes.trans h.passes, k.cycle.trans h.cycle, k.act.trans h.act,
    k.count.trans h.count, k.role.trans h.role, fun c hc => (k.dead c hc).trans (h.dead c hc)⟩

/-- An update that leaves the controller, the active copies, the count and the role leaves the requests alike. -/
theorem sameRequests_of_dmc {s t : State} (hdmc : SameDmc s t) (hact : t.act = s.act) (hlast : SameLasting s t) : SameRequests s t := by
  obtain ⟨hdram, hctl, hwords⟩ := hdmc
  obtain ⟨hcount, _, _, hrole⟩ := hlast
  exact ⟨hdram, by rw [hctl], by rw [hctl], by rw [hctl], by rw [hctl], hact, hcount, State.rd_of_find hrole,
    fun c hc => State.rd_of_find (find_of_stackWords hwords hc)⟩

/-- Two states that stay alike under updates which each leave the requests alike. -/
theorem SameRequests.both {s t u v : State} (h : SameRequests s t) (hs : SameRequests s u) (ht : SameRequests t v) : SameRequests u v :=
  hs.symm.trans (h.trans ht)

theorem State.raiseVerdict_requests (s : State) (code : Nat) : SameRequests s (s.raiseVerdict code) :=
  sameRequests_of_dmc (s.raiseVerdict_dmc code) (s.raiseVerdict_act code) (s.raiseVerdict_lasting code)

theorem State.noteLine_requests (s : State) (line : Nat) (r : LineRead) : SameRequests s (s.noteLine line r) :=
  sameRequests_of_dmc (s.noteLine_dmc line r) (s.noteLine_act line r) (s.noteLine_lasting line r)

theorem State.reportUe_requests (s : State) : SameRequests s s.reportUe := by
  have htimes (l : List Nat) : SameRequests s { s with dmc := { s.dmc with ueTimes := l } } := ⟨rfl, rfl, rfl, rfl, rfl, rfl, rfl, rfl, fun _ _ => rfl⟩
  unfold State.reportUe
  dsimp only
  split
  · exact (htimes _).trans (State.raiseVerdict_requests _ 1)
  · exact htimes _

theorem State.onlyIf_requests (s : State) (c : Bool) {f : State → State} (h : SameRequests s (f s)) : SameRequests s (s.onlyIf c f) := by
  unfold State.onlyIf
  split
  · exact h
  · exact .refl s

/-- A write that no dead wire is shown in leaves the requests alike. -/
theorem State.wr_requests (s : State) (f : Fld) (v : Nat) (hrole : f.addr ≠ RegAddr.SYS_ROLE) (h : offStacks f.addr = true) :
    SameRequests s (s.wr f v) := sameRequests_of_dmc ⟨rfl, rfl, s.wr_stackWords f v h⟩ rfl ⟨rfl, rfl, rfl, s.wr_find f v hrole⟩

/-- A field of DMC_CH_STAT below the dead wire leaves the requests alike. -/
theorem State.wrStack_requests (s : State) (f : Fld) (v chan : Nat) (haddr : f.addr = RegAddr.DMC_CH_STAT chan) (hrst : f.rst = 0xFF000000)
    (hlo : f.lo + f.width ≤ 24) : SameRequests s (s.wr f v) := by
  refine ⟨rfl, rfl, rfl, rfl, rfl, rfl, rfl, s.wr_role f v ?_, fun c _ => ?_⟩
  · rw [haddr]
    exact ne_role_of_index (by decide)
  · by_cases hc : c = chan
    · subst hc
      exact State.rd_wr_other s f _ v haddr hrst (.inl hlo)
    · refine State.rd_wr_ne s f _ v ?_
      rw [haddr]
      change 0x1203F000 + chan * 0x40000 ≠ 0x1203F000 + c * 0x40000
      omega

theorem State.wakeRank_requests (s : State) (chan rank : Nat) : SameRequests s (s.wakeRank chan rank) := by
  unfold State.wakeRank
  split
  · exact s.wrStack_requests (Reg.DMC_CH_STAT_PR0 chan) 0 chan rfl rfl (Nat.le_of_ble_eq_true rfl)
  · exact s.wrStack_requests (Reg.DMC_CH_STAT_PR1 chan) 0 chan rfl rfl (Nat.le_of_ble_eq_true rfl)

theorem offStacks_class (chan : Nat) : offStacks (RegAddr.DMC_CH_CLASS chan) = true := by
  simp only [offStacks, List.all_eq_true, bne_iff_ne]
  intro c _
  change 0x1203F004 + chan * 0x40000 ≠ 0x1203F000 + c * 0x40000
  omega

/-- The request that a channel issues next waits on it. -/
theorem State.nextRequest_chan {s : State} {chan : Nat} {p : DramRequest} {n : Nat} (h : s.nextRequest chan = some (p, n)) : p.chan = chan := by
  have hmem : p ∈ s.issuable chan := by
    unfold State.nextRequest at h
    dsimp only at h
    split at h
    · next q hq =>
      obtain ⟨rfl, _⟩ : q = p ∧ _ := by simpa using h
      exact List.mem_of_find?_eq_some hq
    · split at h
      · cases h
      · next l hl =>
        have hsub : ∀ q ∈ l, q ∈ s.issuable chan := by
          obtain ⟨c, _, rfl⟩ := List.mem_map.mp (List.mem_of_find?_eq_some hl)
          exact fun q hq => (List.mem_filter.mp hq).1
        split at h
        · next q r hq hr =>
          split at h
          · obtain ⟨rfl, _⟩ : q = p ∧ _ := by simpa using h
            exact hsub _ (List.mem_of_mem_head? hq)
          · obtain ⟨rfl, _⟩ : r = p ∧ _ := by simpa using h
            exact hsub _ (List.mem_of_find?_eq_some hr)
        · next q hq _ =>
          obtain ⟨rfl, _⟩ : q = p ∧ _ := by simpa using h
          exact hsub _ (List.mem_of_mem_head? hq)
        · cases h
  simp only [State.issuable, List.mem_filter, Bool.and_eq_true, beq_iff_eq] at hmem
  exact hmem.2.1

/-- A request that a channel has chosen no longer waits; its row is open (R361, R362). -/
def State.picked (s : State) (chan : Nat) (p : DramRequest) (passed : Nat) : State :=
  { s with dmc := { s.dmc with
    waiting := s.dmc.waiting.erase p
    openRow := Tab.put s.dmc.openRow (s.bankOf p.addr) (s.rowOf p.addr)
    passes := Tab.put s.dmc.passes (chan * 4 + p.cls) passed } }

theorem State.issueNext_of_none (s : State) (chan : Nat) (h : (s.promote chan fun _ => true).nextRequest chan = none) :
    s.issueNext chan = s.promote chan fun _ => true := by
  rw [State.issueNext]
  simp only [h]

theorem State.issueNext_of_some (s : State) (chan : Nat) {p : DramRequest} {passed : Nat}
    (h : (s.promote chan fun _ => true).nextRequest chan = some (p, passed)) :
    s.issueNext chan = (((((s.promote chan fun _ => true).picked chan p passed).onlyIf (p.promoted.any fun t => decide (t + 500 < s.now))
      fun t => t.bump (Reg.DMC_CH_CLASS_LATE chan)).wakeRank chan (chanRank ((s.promote chan fun _ => true).dramPlace p.addr).2)).performRequest p) := by
  rw [State.issueNext]
  simp only [h]
  cases p.promoted <;> rfl

/-! Each operation on requests then makes the same of states that are alike. -/

section
variable {s t : State} (h : SameRequests s t)
include h

theorem SameRequests.dramPlace (a : Nat) : t.dramPlace a = s.dramPlace a := by simp only [State.dramPlace, State.windowAt, h.role]

theorem SameRequests.rowOf (a : Nat) : t.rowOf a = s.rowOf a := by simp only [State.rowOf, h.dramPlace]

theorem SameRequests.bankOf (a : Nat) : t.bankOf a = s.bankOf a := by simp only [State.bankOf, h.dramPlace]

theorem SameRequests.lineRead (a chan : Nat) (pattern : List (Nat × Byte)) (hc : chan < 8) : t.lineRead a chan pattern = s.lineRead a chan pattern := by
  simp only [State.lineRead, State.dramRead, h.dram, h.dead chan hc]

theorem SameRequests.dramWrite (a : Nat) (bs : Bytes) : SameRequests (s.dramWrite a bs) (t.dramWrite a bs) :=
  ⟨by simp only [State.dramWrite, h.dram], h.waiting, h.openRow, h.passes, h.cycle, h.act, h.count, h.role, h.dead⟩

theorem SameRequests.onlyIf (c : Bool) {f : State → State} (hf : SameRequests (f s) (f t)) : SameRequests (s.onlyIf c f) (t.onlyIf c f) := by
  unfold State.onlyIf
  split
  · exact hf
  · exact h

theorem SameRequests.writeBackLine (a : Nat) (r : LineRead) : SameRequests (s.writeBackLine a r) (t.writeBackLine a r) := by
  unfold State.writeBackLine
  rw [h.waiting]
  dsimp only
  split
  · exact h
  · exact ⟨h.dram, by simp only [State.requestArrives, h.waiting, h.cycle, h.dramPlace, State.now, h.count], h.openRow, h.passes,
      by simp only [State.requestArrives, h.cycle], h.act, h.count, h.role, h.dead⟩

theorem SameRequests.nextRequest (chan : Nat) : t.nextRequest chan = s.nextRequest chan := by
  have hrow : t.rowOf = s.rowOf := funext h.rowOf
  have hbank : t.bankOf = s.bankOf := funext h.bankOf
  simp only [State.nextRequest, State.issuable, h.waiting, h.openRow, h.passes, h.cycle, hrow, hbank]

theorem SameRequests.promote (chan : Nat) (which : DramRequest → Bool) : SameRequests (s.promote chan which) (t.promote chan which) := by
  have hac (f : Fld) : t.ac f = s.ac f := by simp only [State.ac, State.actWord, h.act]
  have hage : t.ageLimit = s.ageLimit := funext fun c => by simp only [State.ageLimit, hac]
  have hnow : t.now = s.now := congrArg BitVec.toNat h.count
  have hdue : t.promotable = s.promotable := funext fun p => by simp only [State.promotable, hage, hnow]
  have hcounted (u : State) (l : List DramRequest) : SameRequests u (u.forAll l fun v _ => v.bump (Reg.DMC_CH_CLASS_PROMOTED chan)) :=
    State.forAll_keeps (SameRequests u) _ l u (.refl u) fun v _ _ hv =>
      hv.trans (v.wr_requests _ _ (ne_role_of_index (by decide)) (offStacks_class chan))
  unfold State.promote
  simp only [h.waiting, hage, hdue]
  refine SameRequests.both ?_ (hcounted _ _) (hcounted _ _)
  exact ⟨h.dram, rfl, h.openRow, h.passes, h.cycle, h.act, h.count, h.role, h.dead⟩

theorem SameRequests.performRequest (p : DramRequest) (hc : p.chan < 8) : SameRequests (s.performRequest p) (t.performRequest p) := by
  have hread := h.lineRead p.addr p.chan p.pattern hc
  have hanswer (u : State) (r : DramResult) : SameRequests u (u.dramAnswer r) := ⟨rfl, rfl, rfl, rfl, rfl, rfl, rfl, rfl, fun _ _ => rfl⟩
  have hnoted (r : LineRead) : SameRequests ((s.noteLine p.line r).onlyIf r.bad State.reportUe) ((t.noteLine p.line r).onlyIf r.bad State.reportUe) :=
    h.both ((s.noteLine_requests _ _).trans (State.onlyIf_requests _ _ (State.reportUe_requests _)))
      ((t.noteLine_requests _ _).trans (State.onlyIf_requests _ _ (State.reportUe_requests _)))
  unfold State.performRequest
  simp only [hread]
  cases p.op with
  | read => exact ((hnoted _).writeBackLine _ _).both (hanswer _ _) (hanswer _ _)
  | scrub => exact (h.both (s.noteLine_requests _ _) (t.noteLine_requests _ _)).writeBackLine _ _
  | writeBack line => exact h.dramWrite _ _
  | write bs =>
    dsimp only
    split
    · exact h.dramWrite _ _
    · exact ((hnoted _).onlyIf _ ((hnoted _).dramWrite _ _)).dramWrite _ _

theorem SameRequests.picked (chan : Nat) (p : DramRequest) (passed : Nat) : SameRequests (s.picked chan p passed) (t.picked chan p passed) :=
  ⟨h.dram, congrArg (·.erase p) h.waiting, by simp only [State.picked, h.openRow, h.bankOf, h.rowOf], by simp only [State.picked, h.passes], h.cycle,
    h.act, h.count, h.role, h.dead⟩

theorem SameRequests.issueNext (chan : Nat) (hc : chan < 8) : SameRequests (s.issueNext chan) (t.issueNext chan) := by
  have hp := h.promote chan fun _ => true
  have hnow : t.now = s.now := congrArg BitVec.toNat h.count
  cases hreq : (s.promote chan fun _ => true).nextRequest chan with
  | none =>
    rw [s.issueNext_of_none chan hreq, t.issueNext_of_none chan ((hp.nextRequest chan).trans hreq)]
    exact hp
  | some r =>
    obtain ⟨p, passed⟩ := r
    have hchan : p.chan < 8 := (State.nextRequest_chan hreq).symm ▸ hc
    rw [s.issueNext_of_some chan hreq, t.issueNext_of_some chan ((hp.nextRequest chan).trans hreq), hnow, hp.dramPlace]
    have hcounted (u : State) (c : Bool) (rank : Nat) :
        SameRequests u ((u.onlyIf c fun v => v.bump (Reg.DMC_CH_CLASS_LATE chan)).wakeRank chan rank) :=
      (u.onlyIf_requests c (u.wr_requests _ _ (ne_role_of_index (by decide)) (offStacks_class chan))).trans (State.wakeRank_requests _ _ _)
    exact ((hp.picked chan p passed).both (hcounted _ _ _) (hcounted _ _ _)).performRequest p hchan

end

theorem SameRequests.forAll {α : Type} {s t : State} (h : SameRequests s t) (l : List α) (f : State → α → State)
    (hf : ∀ u v x, x ∈ l → SameRequests u v → SameRequests (f u x) (f v x)) : SameRequests (s.forAll l f) (t.forAll l f) := by
  induction l generalizing s t with
  | nil => exact h
  | cons x l ih => exact ih (hf s t x (by simp) h) fun u v y hy => hf u v y (by simp [hy])

theorem SameRequests.issue {s t : State} (h : SameRequests s t) (chan n : Nat) (hc : chan < 8) : SameRequests (s.issue chan n) (t.issue chan n) := by
  induction n generalizing s t with
  | zero => exact h
  | succ n ih =>
    unfold State.issue
    rw [h.waiting]
    split
    · exact ih (h.issueNext chan hc)
    · exact h

/-- States that are alike leave the same DRAM when their requests are finished (R372). -/
theorem SameRequests.finishRequests {s t : State} (h : SameRequests s t) : SameRequests s.finishRequests t.finishRequests := by
  unfold State.finishRequests
  rw [h.waiting]
  exact SameRequests.forAll h _ _ fun u v c hc huv => huv.issue c _ (List.mem_range.mp hc)

end Sys2Proof.Machine
end

section
/-! SUPPORT. Commands that drill, assay, restart and relay (R65, R344, R348, R427, R468, R471). -/

namespace Sys2Proof.Machine

/-! ### A command that is shown changes CTR_CMD alone -/

theorem State.setCmd_rd (s : State) (cmd result : Nat) (f : Fld) (h : RegAddr.CTR_CMD ≠ f.addr) : (s.setCmd cmd result).rd f = s.rd f :=
  State.rd_of_find (s.setCmd_find cmd result h)

theorem cmd_ne_portStat (p : Nat) : RegAddr.CTR_CMD ≠ RegAddr.WFT_PORT_STAT p := Nat.ne_of_lt (Nat.lt_add_right _ (by decide))

theorem State.setCmd_canSend (s : State) (cmd result p : Nat) : (s.setCmd cmd result).canSend p = s.canSend p := by
  simp only [State.canSend, State.inService, s.setCmd_rd _ _ (Reg.WFT_PORT_STAT_STATE p) (cmd_ne_portStat p),
    s.setCmd_rd _ _ (Reg.WFT_PORT_STAT_TX_POWER p) (cmd_ne_portStat p)]

theorem State.setCmd_leaving (s : State) (cmd result p : Nat) : (s.setCmd cmd result).leaving p = s.leaving p := by
  have hlanes : (s.setCmd cmd result).portLanes p = s.portLanes p := by
    rw [State.portLanes, s.setCmd_rd _ _ (Reg.WFT_PORT_STAT_TX_WIDTH p) (cmd_ne_portStat p), ← State.portLanes]
  have hacross : (s.setCmd cmd result).acrossMarker p = s.acrossMarker p := funext fun n => by
    simp only [State.acrossMarker, State.airNs, hlanes]
    rfl
  rw [State.leaving, hacross]
  rfl

theorem State.setCmd_formPacket (s : State) (cmd result p : Nat) (t : PType) (dest : Nat) (body : Bytes) :
    (s.setCmd cmd result).formPacket p t dest body = s.formPacket p t dest body := by
  simp (disch := decide) only [State.formPacket, State.nextCount, State.syncDue, State.portDir, State.ownRank, State.ownOrigin, State.ownEpoch,
    State.portField, State.portPlace, State.isTile, State.role, State.flag, State.setCmd_rd]
  rfl

theorem State.setCmd_relayOk (s : State) (cmd result addr : Nat) : (s.setCmd cmd result).relayOk addr = s.relayOk addr := by
  simp (disch := decide) only [State.relayOk, State.ownTile, State.setCmd_rd]
  rfl

/-! ### Packets that leave -/

/-- A packet that is sent leaves its port behind the transit packets that wait there (R226). -/
theorem State.send_sent (s : State) (p : Nat) (t : PType) (dest : Nat) (body : Bytes) (hcan : s.canSend p = true) (hmay : s.mayTag t = true)
    (ht : t ≠ .time) : (s.send p t dest body).weft.sent = s.weft.sent ++ s.leaving p ++ [⟨p, s.formPacket p t dest body, true, none⟩] := by
  have hdrained : (s.onlyIf (t != .time) fun u => u.drainFwd p).weft.sent = s.weft.sent ++ s.leaving p := by
    rw [State.onlyIf, if_pos (by simpa using ht), State.drainFwd]
    split
    · next hidle =>
      have hnone : s.leaving p = [] := by simpa [hcan] using hidle
      rw [hnone, List.append_nil]
    · rfl
  have hlast (u : State) (c : Bool) : (u.onlyIf c State.spend).weft = u.weft := by cases c <;> rfl
  rw [State.send, if_pos (by simp [hcan, hmay]), ← hdrained, hlast]
  rfl

/-- A packet that is sent leaves the registers but WFT_PORT_STAT of its port. -/
theorem State.send_find (s : State) (p : Nat) (t : PType) (dest : Nat) (body : Bytes) {a : Nat} (h : RegAddr.WFT_PORT_STAT p ≠ a) :
    Tab.find (s.send p t dest body).regs a = Tab.find s.regs a := by
  have hdrained (u : State) : Tab.find (u.drainFwd p).regs a = Tab.find u.regs a := by
    unfold State.drainFwd
    dsimp only
    split
    · rfl
    · exact State.wr_find _ _ _ h
  have honly (u : State) (c : Bool) (f : State → State) (hf : Tab.find (f u).regs a = Tab.find u.regs a) :
      Tab.find (u.onlyIf c f).regs a = Tab.find u.regs a := by cases c <;> [rfl; exact hf]
  have hport (u : State) (f : WeftPort → WeftPort) (l : List Sent) : Tab.find ((u.setPort p f).putOut p l).regs a = Tab.find u.regs a := rfl
  unfold State.send
  split
  · exact (honly _ _ _ rfl).trans ((State.wr_find _ _ _ h).trans ((hport _ _ _).trans (honly s _ _ (hdrained s))))
  · rfl

/-- What a command sends to a Tile as MGMT leaves as it would leave before the command, with RESULT 0. -/
theorem State.sendMgmt_spec (s : State) (cmd addr : Nat) (body : Bytes) (hcan : s.canSend (addr / 64 % 4) = true) (hkey : s.trs.wallKey ≠ none) :
    ((s.setCmd cmd 0).sendMgmt addr body).rd Reg.CTR_CMD_RESULT = 0 ∧ ((s.setCmd cmd 0).sendMgmt addr body).weft.sent =
      s.weft.sent ++ s.leaving (addr / 64 % 4) ++ [⟨addr / 64 % 4, s.formPacket (addr / 64 % 4) .mgmt addr body, true, none⟩] := by
  have hmay : (s.setCmd cmd 0).mayTag .mgmt = true := by
    have hsome : (s.setCmd cmd 0).trs.wallKey.isSome = true := Option.isSome_iff_ne_none.mpr hkey
    simp [State.mayTag, hsome]
  refine ⟨(State.rd_of_find (State.send_find _ _ _ _ _ (cmd_ne_portStat _).symm)).trans (State.rd_wr_self _ _ _ (by decide)), ?_⟩
  rw [State.sendMgmt, State.send_sent _ _ _ _ _ ((s.setCmd_canSend cmd 0 _).trans hcan) hmay (by decide), State.setCmd_leaving, State.setCmd_formPacket]
  rfl

theorem works_of_gate_eq {c : Instr} {s t : State} {cmd : Nat} {act : State → State} {P : State → Prop}
    (hc : exec c s = .next (s.whenAlive fun u => u.gate cmd act)) (hh : s.onHold = false) (ha : s.allows cmd = true)
    (ht : act (s.setCmd cmd 0) = t) (h : P t) : Works c s P := works_of_gate hc hh ha (ht ▸ h)

/-! ### DRILL -/

/-- A protected holder takes an order for a drill far enough ahead (R427). -/
theorem State.orderDrill_spec (s : State) (out : Nat) (hback : s.spn.drillBack = 0) (hholds : s.holdsSpindle = true)
    (hprot : s.flag Reg.SYS_ROLE_PROTECTED = true) (hfar : 4 ≤ genAfter out (s.rd Reg.DMG_GEN_GEN)) :
    (s.orderDrill out).spn.drill = some ⟨out, 0, 1, 0, false⟩ ∧ (s.orderDrill out).flag Reg.SPN_STAT_DRILL = true ∧
      (s.orderDrill out).spn.drillBack = 0 := by
  have hgo : ¬((!s.holdsSpindle) = true ∨ (!s.flag Reg.SYS_ROLE_PROTECTED) = true ∨ genAfter out (s.rd Reg.DMG_GEN_GEN) < 4 ∨
      (s.spn.drillBack ≠ 0 ∧ genAfter s.spn.drillBack out < 64)) := by simp [hback, hholds, hprot, hfar]
  have heq : s.orderDrill out = { ((s.wr Reg.SPN_STAT_DRILL 1).wr Reg.SPN_DRILL_STAT_RESULT 0).wr Reg.SPN_DRILL_STAT_MISSING 0 with
      spn := { s.spn with drill := some ⟨out, 0, 1, 0, false⟩ } } := (if_neg hgo).trans (by rw [hback]; rfl)
  rw [heq]
  refine ⟨rfl, ?_, hback⟩
  calc (((s.wr Reg.SPN_STAT_DRILL 1).wr Reg.SPN_DRILL_STAT_RESULT 0).wr Reg.SPN_DRILL_STAT_MISSING 0).flag Reg.SPN_STAT_DRILL
    _ = ((s.wr Reg.SPN_STAT_DRILL 1).wr Reg.SPN_DRILL_STAT_RESULT 0).flag Reg.SPN_STAT_DRILL :=
      congrArg (· == 1) (State.rd_wr_ne _ _ _ _ (by decide))
    _ = (s.wr Reg.SPN_STAT_DRILL 1).flag Reg.SPN_STAT_DRILL := congrArg (· == 1) (State.rd_wr_ne _ _ _ _ (by decide))
    _ = true := by rw [State.flag, State.rd_wr_self _ _ _ (by decide)]; rfl

theorem drill_spec (s : State) (out : Word) (hh : s.onHold = false) (hallow : s.allows 4 = true) (hs : s.isSender = true)
    (hholds : s.holdsSpindle = true) (hprot : s.flag Reg.SYS_ROLE_PROTECTED = true) (hfar : 4 ≤ genAfter out.toNat (s.rd Reg.DMG_GEN_GEN)) :
    Works (.drill out 0) s fun t => t.spn.drill = some ⟨out.toNat, 0, 1, 0, false⟩ ∧ t.flag Reg.SPN_STAT_DRILL = true ∧ t.spn.drillBack = 0 := by
  let u : State := { s.setCmd 4 0 with spn := { s.spn with drillBack := 0 } }
  have hrd (f : Fld) (hf : RegAddr.CTR_CMD ≠ f.addr) : u.rd f = s.rd f := s.setCmd_rd 4 0 f hf
  have hsender : u.isSender = true := (s.setCmd_isSender 4 0).trans hs
  have heq : doSpnDrillOut u out.toNat = u.orderDrill out.toNat := if_pos hsender
  refine works_of_gate_eq rfl hh hallow heq (u.orderDrill_spec out.toNat rfl ?_ ?_ ?_)
  · rw [State.holdsSpindle, hsender, hrd Reg.SPN_STAT_STATE (by decide)]
    simpa [State.holdsSpindle, hs] using hholds
  · rw [State.flag, hrd Reg.SYS_ROLE_PROTECTED (by decide)]
    exact hprot
  · rwa [hrd Reg.DMG_GEN_GEN (by decide)]

/-! ### ASSAY -/

/-- A run that starts stands at step 1, with the reference that was written (R344). -/
theorem doAsyRunStart_spec (s : State) (sweep refTemp : Nat) (tsEn : Bool) (hrole : s.role ≠ 0) (hrun : s.asy.run = none) :
    (doAsyRunStart s sweep tsEn refTemp).rd Reg.ASY_STAT_STEP = 1 ∧ (doAsyRunStart s sweep tsEn refTemp).flag Reg.ASY_RUN_START = true ∧
    (doAsyRunStart s sweep tsEn refTemp).rd Reg.ASY_STAT_REASON = 0 ∧
    ∃ r, (doAsyRunStart s sweep tsEn refTemp).asy.run = some r ∧ r.refUv = s.rd Reg.ASY_REF_REF_UV ∧ r.tsEn = tsEn := by
  have hidle : ¬s.asy.run.isSome = true := by simp [hrun]
  rw [doAsyRunStart, if_neg hrole, if_neg hidle]
  refine ⟨?_, ?_, State.rd_wr_self _ _ _ (by decide), _, rfl, rfl, rfl⟩
  · exact (State.rd_wr_other _ Reg.ASY_STAT_REASON Reg.ASY_STAT_STEP 0 rfl rfl (by decide)).trans (State.rd_wr_self _ _ _ (by decide))
  · refine (congrArg (· == 1) ((State.rd_wr_ne _ Reg.ASY_STAT_REASON Reg.ASY_RUN_START 0 (by decide)).trans
      (State.rd_wr_ne _ Reg.ASY_STAT_STEP Reg.ASY_RUN_START 1 (by decide)))).trans ?_
    rw [State.rd_wr_self _ _ _ (by decide)]
    rfl

/-- A run that ends leaves its reason (R344 to R349). -/
theorem State.endRun_spec (s : State) (reason : Nat) (h : reason < 2 ^ 4) : (s.endRun reason).asy.run = none ∧
    (s.endRun reason).rd Reg.ASY_STAT_STEP = 0 ∧ (s.endRun reason).rd Reg.ASY_STAT_REASON = reason :=
  ⟨rfl, (State.rd_wr_other _ Reg.ASY_STAT_REASON Reg.ASY_STAT_STEP reason rfl rfl (by decide)).trans (State.rd_wr_self _ _ _ (by decide)),
    (State.rd_wr_self _ _ _ (by decide)).trans (Nat.mod_eq_of_lt h)⟩

theorem State.role_of_allows_assay (s : State) (h : s.allows 5 = true) : s.role ≠ 0 := by
  intro hrole
  unfold State.allows at h
  split at h
  · exact absurd h (by decide)
  · simp [State.isSender, State.isTile, hrole] at h

theorem assay_spec (s : State) (uv : Word) (temp : BitVec 16) (ts : Bool) (sweep : BitVec 8) (hh : s.onHold = false) (hallow : s.allows 5 = true) :
    (s.asy.run = none → Works (.assay uv temp ts false sweep) s fun t => t.rd Reg.ASY_STAT_STEP = 1 ∧ t.flag Reg.ASY_RUN_START = true ∧
      t.rd Reg.ASY_STAT_REASON = 0 ∧ ∃ r, t.asy.run = some r ∧ r.refUv = uv.toNat % 2 ^ (Reg.ASY_REF_REF_UV).width ∧ r.tsEn = ts) ∧
    (s.asy.run ≠ none → s.rd Reg.ASY_STAT_STEP < 8 → Works (.assay uv temp ts true sweep) s fun t => t.asy.run = none ∧
      t.rd Reg.ASY_STAT_STEP = 0 ∧ t.rd Reg.ASY_STAT_REASON = 6) := by
  let u := (s.setCmd 5 0).wr Reg.ASY_REF_REF_UV uv.toNat
  have hrole : u.role = s.role := ((s.setCmd 5 0).wr_role _ _ (by decide)).trans (s.setCmd_role 5 0)
  refine ⟨fun hidle => works_of_gate rfl hh hallow ?_, fun hrun hstep => ?_⟩
  · have huv : u.rd Reg.ASY_REF_REF_UV = uv.toNat % 2 ^ (Reg.ASY_REF_REF_UV).width := State.rd_wr_self _ _ _ (by decide)
    rw [← huv]
    exact doAsyRunStart_spec u sweep.toNat (temp.toNat % 4096) ts (hrole ▸ s.role_of_allows_assay hallow) hidle
  · have hsame : u.rd Reg.ASY_STAT_STEP = s.rd Reg.ASY_STAT_STEP := (State.rd_wr_ne _ _ _ _ (by decide)).trans (s.setCmd_rd 5 0 _ (by decide))
    have hend : doAsyRunAbort u = u.endRun 6 := if_pos ⟨Option.isSome_iff_ne_none.mpr hrun, hsame ▸ hstep⟩
    exact works_of_gate_eq rfl hh hallow hend (u.endRun_spec 6 (by decide))

/-! ### RESTART -/

/-- The word of a command leaves the requests that are under way alike. -/
theorem State.setCmd_requests (s : State) (cmd result : Nat) : SameRequests s (s.setCmd cmd result) :=
  (s.wr_requests Reg.CTR_CMD_COMMAND cmd (by decide) (by decide)).trans (State.wr_requests _ Reg.CTR_CMD_RESULT result (by decide) (by decide))

theorem restart_spec (s : State) (halive : s.alive = true) (hh : s.onHold = false) (hallow : s.allows 6 = true) :
    (Works (.restart 1) s fun t => t.sys.step = some (false, 1) ∧ t.rd Reg.SYS_START_CAUSE = 2) ∧
    (s.sys.fatal = none → s.role ≠ 0 → s.sys.digest ≠ none → Works (.restart 2) s fun t => t.sys.step = some (true, 1) ∧
      t.rd Reg.SYS_START_TYPE = 2 ∧ t.dram = s.finishRequests.dram) := by
  have halive' : (s.setCmd 6 0).alive = true := halive
  have hkey (type : Nat) : (s.setCmd 6 0).restart 0xA5C3 type =
      if type = 1 then (s.setCmd 6 0).coldBegin 2 0 else if type = 2 then (s.setCmd 6 0).warmBegin else s.setCmd 6 0 := by
    rw [State.restart, if_neg (by simp [halive'])]
  refine ⟨works_of_gate_eq rfl hh hallow (hkey 1) ?_, fun hfatal hrole hdigest => works_of_gate_eq rfl hh hallow (hkey 2) ?_⟩
  · obtain ⟨hstep, hcause, _⟩ := (s.setCmd 6 0).coldBegin_spec 2 0 (by decide)
    exact ⟨hstep, hcause⟩
  · obtain ⟨hstep, htype, _, hdram, _⟩ := (s.setCmd 6 0).warmBegin_of_retained hfatal ((s.setCmd_role 6 0).symm ▸ hrole) hdigest
    exact ⟨hstep, htype, hdram.trans (s.setCmd_requests 6 0).finishRequests.dram⟩

/-! ### RELAY and RELAY_DATA -/

theorem relay_spec (s : State) (addr : BitVec 16) (bs : Bytes) (hh : s.onHold = false) (hallow : s.allows 0x20 = true) :
    (s.relayOk addr.toNat = true → bs.length ≤ 2332 → s.canSend (addr.toNat / 64 % 4) = true → s.trs.wallKey ≠ none →
      Works (.relay addr bs) s fun t => t.rd Reg.CTR_CMD_RESULT = 0 ∧
        t.weft.sent = s.weft.sent ++ s.leaving (addr.toNat / 64 % 4) ++ [⟨addr.toNat / 64 % 4, s.formPacket (addr.toNat / 64 % 4) .mgmt addr.toNat (leBytes 1 0x40 ++ leBytes 1 1 ++ zeros 2 ++ bs), true, none⟩]) ∧
    ((s.relayOk addr.toNat = false ∨ 2332 < bs.length) → Works (.relay addr bs) s fun t => t.rd Reg.CTR_CMD_RESULT = 2 ∧ t.weft = s.weft) := by
  have hok := s.setCmd_relayOk 0x20 0 addr.toNat
  refine ⟨fun hrelay hlen hcan hkey => works_of_gate_eq rfl hh hallow (if_pos ⟨hok.trans hrelay, hlen⟩) ?_,
    fun hbad => works_of_gate_eq rfl hh hallow (if_neg ?_) ?_⟩
  · exact s.sendMgmt_spec 0x20 addr.toNat _ hcan hkey
  · rw [hok]
    rintro ⟨hrelay, hlen⟩
    rcases hbad with h | h
    · simp [h] at hrelay
    · omega
  · exact ⟨State.rd_wr_self _ _ _ (by decide), rfl⟩

theorem relayData_spec (s : State) (addr : BitVec 16) (bs : Bytes) (hh : s.onHold = false) (hallow : s.allows 0x21 = true) :
    (∀ b, blocksOf (bs.length / 16) bs = [b] → s.relayOk addr.toNat = true → b.length ≤ 2332 → s.canSend (addr.toNat / 64 % 4) = true →
      s.trs.wallKey ≠ none → Works (.relayData addr bs) s fun t => t.rd Reg.CTR_CMD_RESULT = 0 ∧
        t.weft.sent = s.weft.sent ++ s.leaving (addr.toNat / 64 % 4) ++ [⟨addr.toNat / 64 % 4, s.formPacket (addr.toNat / 64 % 4) .mgmt addr.toNat (leBytes 1 0x40 ++ leBytes 1 2 ++ zeros 2 ++ b), true, none⟩]) ∧
    (s.relayOk addr.toNat = false → Works (.relayData addr bs) s fun t => t.rd Reg.CTR_CMD_RESULT = 2 ∧ t.weft = s.weft) := by
  have hok := s.setCmd_relayOk 0x21 0 addr.toNat
  refine ⟨fun b hone hrelay hlen hcan hkey => works_of_gate_eq rfl hh hallow (if_pos (hok.trans hrelay)) ?_,
    fun hbad => works_of_gate_eq rfl hh hallow (if_neg ?_) ?_⟩
  · have hfit : [b].filter (fun b : Bytes => decide (b.length ≤ 2332)) = [b] := by simp [hlen]
    rw [hone, hfit]
    exact s.sendMgmt_spec 0x21 addr.toNat _ hcan hkey
  · simp [hok, hbad]
  · exact ⟨State.rd_wr_self _ _ _ (by decide), rfl⟩

/-- Settles O26: each command acts behind the gate as its block's own operation does. -/
theorem drillsRestartsAndRelaysByCommand : Obligations.DrillsRestartsAndRelaysByCommand := by
  intro s halive hh
  refine ⟨fun out hallow => drill_spec s out hh hallow, fun uv temp ts sweep hallow => (assay_spec s uv temp ts sweep hh hallow).1,
    fun uv temp ts sweep hallow => (assay_spec s uv temp ts sweep hh hallow).2, restart_spec s halive hh,
    fun addr bs hallow => relay_spec s addr bs hh hallow, fun addr bs hallow => relayData_spec s addr bs hh hallow⟩

end Sys2Proof.Machine
end

section
/-! SUPPORT. The register fields of an intake port, and which of them an update may touch. -/

namespace Sys2Proof.Machine

/-! ### Commands and lists of steps -/

/-- A command whose meaning leaves the state completes in the same state, in every device. -/
theorem exec_unchanged {c : Instr} {s : State} {f : State → State} (hc : exec c s = .next (s.whenAlive f)) (h : f s = s) : exec c s = .next s := by
  rw [hc, State.whenAlive, h, ite_self]

/-- Steps over a list, seen from one element: where `R` holds until that element's own step, which makes `P`, and the steps of the others keep both,
`P` holds at the end. -/
theorem State.forAll_at {α : Type} {R P : State → Prop} {f : State → α → State} {l : List α} {s : State} {x : α} (hx : x ∈ l) (hl : l.Nodup) (hs : R s)
    (hR : ∀ t, ∀ y ∈ l, y ≠ x → R t → R (f t y)) (hmake : ∀ t, R t → P (f t x)) (hP : ∀ t, ∀ y ∈ l, y ≠ x → P t → P (f t y)) :
    P (s.forAll l f) := by
  obtain ⟨before, after, rfl⟩ := List.append_of_mem hx
  have hnd : x ∉ before ∧ x ∉ after := by
    have hnot := (List.nodup_middle.mp hl).notMem
    simpa only [List.mem_append, not_or] using hnot
  have hne {y : α} {k : List α} (hk : x ∉ k) (hy : y ∈ k) : y ≠ x := fun h => hk (h ▸ hy)
  have hR' : R (s.forAll before f) :=
    State.forAll_keeps R f before s hs fun t y hy ht => hR t y (List.mem_append_left _ hy) (hne hnd.1 hy) ht
  have hP' : P ((f (s.forAll before f) x).forAll after f) :=
    State.forAll_keeps P f after _ (hmake _ hR') fun t y hy ht => hP t y (List.mem_append_right _ (List.mem_cons_of_mem _ hy)) (hne hnd.2 hy) ht
  simpa only [State.forAll, List.foldl_append, List.foldl_cons] using hP'

/-! ### The fields of a port -/

/-- The fields that an intake port shows, those of its four patches among them. -/
inductive PortSlot where
  | link | lanes | linkRate | format | bpc | admitted | live | paired | reason | hActive | vActive | counted
  | fom (i : Fin 4) | patchLive (i : Fin 4) | patchSeen (i : Fin 4) | patchCount (i : Fin 4)
deriving DecidableEq, Fintype

/-- The register field of port `p` that a slot stands for. -/
def PortSlot.fld : PortSlot → Nat → Fld
  | .link => Reg.DPI_PORT_STAT_LINK
  | .lanes => Reg.DPI_PORT_STAT_LANES
  | .linkRate => Reg.DPI_PORT_STAT_RATE
  | .format => Reg.DPI_PORT_STAT_FORMAT
  | .bpc => Reg.DPI_PORT_STAT_BPC
  | .admitted => Reg.DPI_PORT_STAT_ADMITTED
  | .live => Reg.DPI_PORT_STAT_LIVE
  | .paired => Reg.DPI_PORT_STAT_PAIRED
  | .reason => Reg.DPI_PORT_STAT_REASON
  | .hActive => Reg.DPI_PORT_TIMING_H_ACTIVE
  | .vActive => Reg.DPI_PORT_TIMING_V_ACTIVE
  | .counted => Reg.DPI_PORT_RATE_RATE
  | .fom 0 => Reg.DPI_PORT_FOM_FOM_0
  | .fom 1 => Reg.DPI_PORT_FOM_FOM_1
  | .fom 2 => Reg.DPI_PORT_FOM_FOM_2
  | .fom 3 => Reg.DPI_PORT_FOM_FOM_3
  | .patchLive i => fun p => Reg.DPI_TT_STAT_LIVE p i
  | .patchSeen i => fun p => Reg.DPI_TT_STAT_SEEN p i
  | .patchCount i => fun p => Reg.DPI_TT_STAT_COUNT p i

/-- The registers of a port stand in a page of 256 KiB for each port, at the same offset in each. -/
theorem PortSlot.fld_eq (a : PortSlot) (p : Nat) : a.fld p = { a.fld 0 with addr := (a.fld 0).addr + p * 0x40000 } := by
  have hpatch (j : Nat) : RegAddr.DPI_TT_STAT p j = RegAddr.DPI_TT_STAT 0 j + p * 0x40000 := by unfold RegAddr.DPI_TT_STAT; omega
  cases a with
  | fom i => fin_cases i <;> rfl
  | patchLive i => simp only [PortSlot.fld, Reg.DPI_TT_STAT_LIVE, hpatch]
  | patchSeen i => simp only [PortSlot.fld, Reg.DPI_TT_STAT_SEEN, hpatch]
  | patchCount i => simp only [PortSlot.fld, Reg.DPI_TT_STAT_COUNT, hpatch]
  | _ => rfl

/-- The slots of one port have no bit in common, and each lies within its register and the page. -/
theorem PortSlot.apart_zero : ∀ a b : PortSlot, a ≠ b → (a.fld 0).addr ≠ (b.fld 0).addr ∨ (a.fld 0).rst = (b.fld 0).rst ∧
    ((a.fld 0).lo + (a.fld 0).width ≤ (b.fld 0).lo ∨ (b.fld 0).lo + (b.fld 0).width ≤ (a.fld 0).lo) := by decide +kernel

theorem PortSlot.addr_zero : ∀ a : PortSlot, 0x21000000 ≤ (a.fld 0).addr ∧ (a.fld 0).addr < 0x21040000 ∧ (a.fld 0).addr ≠ 0x2103F000 := by
  decide +kernel

theorem PortSlot.bits_le (a : PortSlot) (p : Nat) : (a.fld p).lo + (a.fld p).width ≤ 32 := by
  have hzero : ∀ b : PortSlot, (b.fld 0).lo + (b.fld 0).width ≤ 32 := by decide +kernel
  rw [a.fld_eq]
  exact hzero a

/-- A slot reads what was written to it, and what is written to another slot or port leaves it. -/
theorem State.rd_wr_slot (s : State) (a b : PortSlot) (p q v : Nat) :
    (s.wr (a.fld p) v).rd (b.fld q) = if a = b ∧ p = q then v % 2 ^ (b.fld q).width else s.rd (b.fld q) := by
  split
  · next h =>
    obtain ⟨rfl, rfl⟩ := h
    exact s.rd_wr_self _ v (a.bits_le p)
  · next h =>
    obtain ⟨ha, ha', _⟩ := a.addr_zero
    obtain ⟨hb, hb', _⟩ := b.addr_zero
    by_cases haddr : (a.fld p).addr = (b.fld q).addr
    · have hpage : p = q ∧ (a.fld 0).addr = (b.fld 0).addr := by
        rw [a.fld_eq, b.fld_eq] at haddr
        dsimp only at haddr
        omega
      obtain ⟨hrst, hbits⟩ := (a.apart_zero b fun hab => h ⟨hab, hpage.1⟩).resolve_left (not_not_intro hpage.2)
      rw [a.fld_eq] at haddr ⊢
      rw [b.fld_eq] at haddr ⊢
      exact s.rd_wr_other _ _ v haddr hrst hbits
    · exact s.rd_wr_ne _ _ v haddr

theorem State.flag_wr_slot (s : State) (a b : PortSlot) (p q v : Nat) :
    (s.wr (a.fld p) v).flag (b.fld q) = if a = b ∧ p = q then v % 2 ^ (b.fld q).width == 1 else s.flag (b.fld q) := by
  simp only [State.flag, State.rd_wr_slot]
  split <;> rfl

/-- A one-bit slot shows what was set. -/
theorem State.flag_wrFlag_slot (s : State) (a : PortSlot) (p : Nat) (b : Bool) (hw : (a.fld p).width = 1) : (s.wrFlag (a.fld p) b).flag (a.fld p) = b := by
  rw [State.flag, State.wrFlag, State.rd_wr_slot, if_pos ⟨rfl, rfl⟩, hw]
  cases b <;> rfl

/-- The budget and the latch of SYS_ALERT are no fields of a port. -/
theorem PortSlot.addr_ne (a : PortSlot) (p : Nat) : (a.fld p).addr ≠ RegAddr.DPI_BUDGET ∧ (a.fld p).addr ≠ RegAddr.SYS_ALERT := by
  obtain ⟨hlow, hhigh, hcfg⟩ := a.addr_zero
  rw [a.fld_eq, RegAddr.DPI_BUDGET, RegAddr.SYS_ALERT]
  dsimp only
  omega

theorem State.rd_wr_used (s : State) (v : Nat) (a : PortSlot) (p : Nat) : (s.wr Reg.DPI_BUDGET_USED v).rd (a.fld p) = s.rd (a.fld p) :=
  s.rd_wr_ne _ _ v (a.addr_ne p).1.symm

theorem State.used_wr_slot (s : State) (a : PortSlot) (p v : Nat) : (s.wr (a.fld p) v).rd Reg.DPI_BUDGET_USED = s.rd Reg.DPI_BUDGET_USED :=
  s.rd_wr_ne _ _ v (a.addr_ne p).1

theorem State.rd_raise_slot (s : State) (src code arg : Nat) (a : PortSlot) (p : Nat) : (s.raise src code arg).rd (a.fld p) = s.rd (a.fld p) :=
  s.raise_rd src code arg _ (a.addr_ne p).2

/-- Several slots of a port written one after the other. -/
def State.wrSlots (s : State) (p : Nat) : List (PortSlot × Nat) → State
  | [] => s
  | (a, v) :: l => (s.wr (a.fld p) v).wrSlots p l

/-- Slots that are written leave every other slot and port. -/
theorem State.rd_wrSlots_of_notMem (s : State) {a : PortSlot} {p q : Nat} {l : List (PortSlot × Nat)} (h : p = q → a ∉ l.map (·.1)) :
    (s.wrSlots p l).rd (a.fld q) = s.rd (a.fld q) := by
  induction l generalizing s with
  | nil => rfl
  | cons e l ih =>
    obtain ⟨b, v⟩ := e
    simp only [List.map_cons, List.mem_cons, not_or] at h
    rw [State.wrSlots, ih _ fun hpq => (h hpq).2, State.rd_wr_slot, if_neg fun ⟨hba, hpq⟩ => (h hpq).1 hba.symm]

/-- A slot that is written once reads what was written to it. -/
theorem State.rd_wrSlots_of_mem (s : State) {a : PortSlot} {p v : Nat} {l : List (PortSlot × Nat)} (hl : (l.map (·.1)).Nodup) (h : (a, v) ∈ l) :
    (s.wrSlots p l).rd (a.fld p) = v % 2 ^ (a.fld p).width := by
  induction l generalizing s with
  | nil => cases h
  | cons e l ih =>
    obtain ⟨hnot, hl⟩ := List.nodup_cons.mp hl
    obtain rfl | h := List.mem_cons.mp h
    · rw [State.wrSlots, State.rd_wrSlots_of_notMem _ fun _ => hnot, State.rd_wr_slot, if_pos ⟨rfl, rfl⟩]
    · exact ih _ hl h

/-! ### Updates of slots -/

/-- An update touches no slot of any port but those that `W` names. -/
def Touches (W : PortSlot → Nat → Prop) (s t : State) : Prop := ∀ a p, ¬ W a p → t.rd (a.fld p) = s.rd (a.fld p)

theorem Touches.of_regs {W : PortSlot → Nat → Prop} {s t : State} (h : t.regs = s.regs) : Touches W s t :=
  fun a p _ => State.rd_of_find (congrArg (Tab.find · (a.fld p).addr) h)

theorem Touches.trans {W : PortSlot → Nat → Prop} {s t u : State} (h : Touches W s t) (k : Touches W t u) : Touches W s u :=
  fun a p hW => (k a p hW).trans (h a p hW)

theorem Touches.mono {W V : PortSlot → Nat → Prop} {s t : State} (h : Touches W s t) (hW : ∀ a p, W a p → V a p) : Touches V s t :=
  fun a p hV => h a p fun hw => hV (hW a p hw)

theorem Touches.wr {W : PortSlot → Nat → Prop} (s : State) (a : PortSlot) (p v : Nat) (h : W a p) : Touches W s (s.wr (a.fld p) v) :=
  fun b q hW => by rw [State.rd_wr_slot, if_neg fun ⟨hab, hpq⟩ => hW (hab ▸ hpq ▸ h)]

theorem Touches.flag {W : PortSlot → Nat → Prop} {s t : State} (h : Touches W s t) {a : PortSlot} {p : Nat} (hW : ¬ W a p) :
    t.flag (a.fld p) = s.flag (a.fld p) :=
  congrArg (· == 1) (h a p hW)

end Sys2Proof.Machine
end

section
/-! SUPPORT. What the operations of an intake port leave: verdicts and patches (R108, R109), frames (R100), and admission (R78, R83, R87, R88). -/

namespace Sys2Proof.Machine

/-! ### Ports and surfaces -/

@[simp] theorem State.setIp_ip_self (s : State) (p : Nat) (f : IntakePort → IntakePort) : (s.setIp p f).ip p = f (s.ip p) := Tab.get_upd_self _ _ _
theorem State.setIp_ip_ne (s : State) {p q : Nat} (f : IntakePort → IntakePort) (h : p ≠ q) : (s.setIp p f).ip q = s.ip q := Tab.get_upd_ne _ _ h
@[simp] theorem State.setIp_surface (s : State) (p : Nat) (f : IntakePort → IntakePort) (n : Nat) : (s.setIp p f).surface n = s.surface n := rfl
@[simp] theorem State.wr_patch (s : State) (f : Fld) (v q i : Nat) : (s.wr f v).patch q i = s.patch q i := rfl
@[simp] theorem State.setPatch_patch_self (s : State) (p i : Nat) (f : Patch → Patch) : (s.setPatch p i f).patch p i = f (s.patch p i) :=
  Tab.get_upd_self _ _ _
theorem State.setPatch_patch_ne (s : State) (p : Nat) {i j : Nat} (f : Patch → Patch) (h : i ≠ j) : (s.setPatch p i f).patch p j = s.patch p j :=
  Tab.get_upd_ne _ _ (by omega)
@[simp] theorem State.setSurface_ip (s : State) (n : Nat) (f : Surface → Surface) (q : Nat) : (s.setSurface n f).ip q = s.ip q := rfl
@[simp] theorem State.setSurface_surface_self (s : State) (n : Nat) (f : Surface → Surface) : (s.setSurface n f).surface n = f (s.surface n) :=
  Tab.get_upd_self _ _ _
theorem State.setSurface_surface_ne (s : State) {n m : Nat} (f : Surface → Surface) (h : n ≠ m) : (s.setSurface n f).surface m = s.surface m :=
  Tab.get_upd_ne _ _ h

/-- An intake port but for the time from which it has been live. -/
def IntakePort.still (x : IntakePort) : IntakePort := { x with liveSince := 0 }

/-- What the source and its link have set up in a port, which its admission leaves. -/
def IntakePort.source (x : IntakePort) : Option Msa × Tab Byte × Nat × Bool := (x.msa, x.dpcd, x.irqHpd, x.hpd)

theorem IntakePort.source_of_still {x y : IntakePort} (h : x.still = y.still) : x.source = y.source := by
  change x.still.source = y.still.source
  rw [h]

/-! ### Verdicts -/

@[simp] theorem State.raise_intake (s : State) (src code arg : Nat) : (s.raise src code arg).intake = s.intake := by
  obtain ⟨l, r, b, heq, _⟩ := s.raise_only src code arg
  rw [heq]

@[simp] theorem State.raise_ip (s : State) (src code arg q : Nat) : (s.raise src code arg).ip q = s.ip q := by
  rw [State.ip, State.raise_intake, State.ip]

/-- Hatching EARLY regions changes the hallmark block alone (R196). -/
theorem State.earlyPort_only (s : State) (p : Nat) : ∃ h, s.earlyPort p = { s with hmk := h } := by
  unfold State.earlyPort
  split
  · exact ⟨s.hmk, rfl⟩
  · refine State.forAll_keeps (fun t => ∃ h, t = { s with hmk := h }) _ _ s ⟨s.hmk, rfl⟩ ?_
    rintro t r - ⟨h, rfl⟩
    unfold State.loseEarly
    dsimp only
    split
    · exact ⟨_, rfl⟩
    · exact ⟨h, rfl⟩

/-- An update of what ports show that touches none but the slots that `W` names, and neither the budget nor, but for the time from which it has been
live, the state of any port. -/
structure Shows (W : PortSlot → Nat → Prop) (s t : State) : Prop where
  slots : Touches W s t
  used : t.rd Reg.DPI_BUDGET_USED = s.rd Reg.DPI_BUDGET_USED
  still : ∀ q, (t.ip q).still = (s.ip q).still

theorem Shows.refl (W : PortSlot → Nat → Prop) (s : State) : Shows W s s := ⟨Touches.of_regs rfl, rfl, fun _ => rfl⟩

theorem Shows.trans {W : PortSlot → Nat → Prop} {s t u : State} (h : Shows W s t) (k : Shows W t u) : Shows W s u :=
  ⟨h.slots.trans k.slots, k.used.trans h.used, fun q => (k.still q).trans (h.still q)⟩

theorem Shows.mono {W V : PortSlot → Nat → Prop} {s t : State} (h : Shows W s t) (hW : ∀ a p, W a p → V a p) : Shows V s t :=
  ⟨h.slots.mono hW, h.used, h.still⟩

theorem Shows.wr {W : PortSlot → Nat → Prop} (s : State) (a : PortSlot) (p v : Nat) (h : W a p) : Shows W s (s.wr (a.fld p) v) :=
  ⟨Touches.wr s a p v h, s.used_wr_slot a p v, fun _ => rfl⟩

/-- A judgement shows verdicts of the ports that are judged, and leaves the patches and the active copies. -/
structure Judged (ps : List Nat) (s t : State) : Prop extends Shows (fun a q => a = .live ∧ q ∈ ps) s t where
  patches : t.intake.patches = s.intake.patches
  act : t.act = s.act

theorem Judged.refl (ps : List Nat) (s : State) : Judged ps s s := ⟨Shows.refl _ s, rfl, rfl⟩

theorem Judged.trans {ps : List Nat} {s t u : State} (h : Judged ps s t) (k : Judged ps t u) : Judged ps s u :=
  ⟨h.toShows.trans k.toShows, k.patches.trans h.patches, k.act.trans h.act⟩

theorem Judged.mono {ps qs : List Nat} {s t : State} (h : Judged ps s t) (hsub : ps ⊆ qs) : Judged qs s t :=
  ⟨h.toShows.mono fun _ _ hW => ⟨hW.1, hsub hW.2⟩, h.patches, h.act⟩

/-- The verdict of a port, raised where it changes. -/
theorem State.judgePorts_single (s : State) (p : Nat) : Judged [p] s (s.judgePorts [p]) ∧
    (s.judgePorts [p]).flag (Reg.DPI_PORT_STAT_LIVE p) = s.portLive p := by
  change Judged [p] s (if s.portLive p = s.flag (Reg.DPI_PORT_STAT_LIVE p) then s else _) ∧
    (if s.portLive p = s.flag (Reg.DPI_PORT_STAT_LIVE p) then s else _).flag (Reg.DPI_PORT_STAT_LIVE p) = _
  split
  · next hlive => exact ⟨Judged.refl _ s, hlive.symm⟩
  · generalize hu : (s.wrFlag (Reg.DPI_PORT_STAT_LIVE p) (s.portLive p)).raise (srcIntake p) 0x4301 (p + if s.portLive p = true then 256 else 0) = u
    have hraise : Judged [p] s u := by
      subst hu
      refine Judged.trans (t := s.wrFlag (PortSlot.live.fld p) (s.portLive p)) ⟨Shows.wr s .live p _ ⟨rfl, by simp⟩, rfl, rfl⟩
        ⟨⟨fun a q _ => State.rd_raise_slot _ _ _ _ a q, State.raise_rd _ _ _ _ _ (by decide), fun q => congrArg _ (State.raise_ip _ _ _ _ q)⟩,
          congrArg _ (State.raise_intake _ _ _ _), State.raise_act _ _ _ _⟩
    have hflag : u.flag (Reg.DPI_PORT_STAT_LIVE p) = s.portLive p := by
      subst hu
      exact (congrArg (· == 1) (State.rd_raise_slot _ _ _ _ .live p)).trans (s.flag_wrFlag_slot .live p _ rfl)
    split
    · refine ⟨hraise.trans ⟨⟨Touches.of_regs rfl, rfl, fun q => ?_⟩, rfl, rfl⟩, hflag⟩
      by_cases hq : p = q
      · subst hq
        rw [State.setIp_ip_self]
        rfl
      · rw [State.setIp_ip_ne _ _ hq]
    · obtain ⟨h, heq⟩ := u.earlyPort_only p
      rw [heq]
      exact ⟨hraise.trans ⟨⟨Touches.of_regs rfl, rfl, fun _ => rfl⟩, rfl, rfl⟩, hflag⟩

theorem State.judgePorts_judged (s : State) (ps : List Nat) : Judged ps s (s.judgePorts ps) := by
  induction ps generalizing s with
  | nil => exact Judged.refl _ s
  | cons p ps ih => exact ((s.judgePorts_single p).1.mono (by simp)).trans ((ih _).mono (List.subset_cons_self p ps))

theorem State.judgePort_judged (s : State) (p : Nat) : Judged (p :: (s.runsWith p).toList) s (s.judgePort p) := s.judgePorts_judged _

theorem partnerOf_ne (p : Nat) : partnerOf p ≠ p := by unfold partnerOf; split <;> omega

/-- The partner with which a port runs is another port. -/
theorem State.partner_of_mem_runsWith {s : State} {p q : Nat} (h : q ∈ (s.runsWith p).toList) : q = partnerOf p := by
  unfold State.runsWith at h
  split at h <;> simp_all

/-- What a verdict depends on is no verdict: the verdicts that would be given stay as verdicts are shown. -/
theorem Judged.halfLive {ps : List Nat} {s t : State} (h : Judged ps s t) (p : Nat) : t.halfLive p = s.halfLive p := by
  have hadm : t.flag (Reg.DPI_PORT_STAT_ADMITTED p) = s.flag (Reg.DPI_PORT_STAT_ADMITTED p) := h.slots.flag (a := .admitted) (by simp)
  have hlink : t.rd (Reg.DPI_PORT_STAT_LINK p) = s.rd (Reg.DPI_PORT_STAT_LINK p) := h.slots .link p (by simp)
  have hreason : t.rd (Reg.DPI_PORT_STAT_REASON p) = s.rd (Reg.DPI_PORT_STAT_REASON p) := h.slots .reason p (by simp)
  have hpatch : ∀ i < 4, t.flag (Reg.DPI_TT_STAT_LIVE p i) = s.flag (Reg.DPI_TT_STAT_LIVE p i) :=
    fun i hi => h.slots.flag (a := .patchLive ⟨i, hi⟩) (by simp)
  have hon (i : Nat) : t.acFlag (Reg.DPI_TT_CFG_ENABLE p i) = s.acFlag (Reg.DPI_TT_CFG_ENABLE p i) := by
    simp only [State.acFlag, State.ac, State.actWord, h.act]
  simp [State.halfLive, hadm, hlink, hreason, hon, hpatch]

theorem Judged.runsWith {ps : List Nat} {s t : State} (h : Judged ps s t) (p : Nat) : t.runsWith p = s.runsWith p := by
  have hpaired : t.flag (Reg.DPI_PORT_STAT_PAIRED p) = s.flag (Reg.DPI_PORT_STAT_PAIRED p) := h.slots.flag (a := .paired) (by simp)
  rw [State.runsWith, hpaired, State.runsWith]

theorem Judged.portLive {ps : List Nat} {s t : State} (h : Judged ps s t) (p : Nat) : t.portLive p = s.portLive p := by
  simp only [State.portLive, h.runsWith, h.halfLive]

/-- A port that has been judged shows its verdict (R109). -/
theorem State.judgePort_live (s : State) (p : Nat) : (s.judgePort p).flag (Reg.DPI_PORT_STAT_LIVE p) = (s.judgePort p).portLive p := by
  obtain ⟨_, hlive⟩ := s.judgePorts_single p
  have hnot : p ∉ (s.runsWith p).toList := fun h => partnerOf_ne p (State.partner_of_mem_runsWith h).symm
  have hkept := (State.judgePorts_judged (s.judgePorts [p]) (s.runsWith p).toList).slots.flag (a := .live) (p := p) fun h => hnot h.2
  rw [(s.judgePort_judged p).portLive, ← hlive]
  exact hkept

end Sys2Proof.Machine
end

section
/-! SUPPORT. What an event of R108 leaves, and the admission of ports to the budget (R78, R83, R87, R88, R100). -/

namespace Sys2Proof.Machine

/-! ### Events of R108 -/

/-- The slots of a patch that an event of R108 clears. -/
def PortSlot.ofPatch : PortSlot → Bool
  | .patchLive _ | .patchSeen _ => true
  | _ => false

/-- An event of R108 at a port clears its patches and shows verdicts. -/
def ResetSlot (p : Nat) (a : PortSlot) (q : Nat) : Prop := a = .live ∨ q = p ∧ a.ofPatch = true

theorem lt_four_of_mem {i : Nat} (h : i ∈ [0, 1, 2, 3]) : i < 4 := by
  simp at h
  omega

theorem mem_of_lt_four {i : Nat} (h : i < 4) : i ∈ [0, 1, 2, 3] := by
  simp only [List.mem_cons, List.not_mem_nil]
  omega

/-- The slot of a patch loses LIVE and SEEN, with its base and its run (R108). -/
theorem State.clearPatch_shows (s : State) (p : Nat) {i : Nat} (hi : i < 4) : Shows (ResetSlot p) s
    (((s.setPatch p i fun x => { x with base := none, run := 0 }).wr (Reg.DPI_TT_STAT_LIVE p i) 0).wr (Reg.DPI_TT_STAT_SEEN p i) 0) := by
  refine Shows.trans (t := s.setPatch p i fun x => { x with base := none, run := 0 }) ⟨Touches.of_regs rfl, rfl, fun _ => rfl⟩ ?_
  exact (Shows.wr _ (.patchLive ⟨i, hi⟩) p 0 (.inr ⟨rfl, rfl⟩)).trans (Shows.wr _ (.patchSeen ⟨i, hi⟩) p 0 (.inr ⟨rfl, rfl⟩))

theorem State.judgePort_shows (s : State) (p q : Nat) : Shows (ResetSlot p) s (s.judgePort q) := (s.judgePort_judged q).toShows.mono fun _ _ hW => .inl hW.1

theorem State.resetPatches_shows (s : State) (p : Nat) : Shows (ResetSlot p) s (s.resetPatches p) := by
  refine Shows.trans ?_ (State.judgePort_shows _ p p)
  exact State.forAll_keeps (Shows (ResetSlot p) s) _ _ s (Shows.refl _ s) fun t i hi ht => ht.trans (t.clearPatch_shows p (lt_four_of_mem hi))

/-- After an event of R108 no patch of the port is LIVE. -/
theorem State.resetPatches_patchLive (s : State) (p : Nat) {i : Nat} (hi : i < 4) : (s.resetPatches p).flag (Reg.DPI_TT_STAT_LIVE p i) = false := by
  refine ((State.judgePort_judged _ p).slots.flag (a := .patchLive ⟨i, hi⟩) (by simp)).trans ?_
  have hclear (t : State) {j : Nat} (hj : j < 4) : (((t.setPatch p j fun x => { x with base := none, run := 0 }).wr (Reg.DPI_TT_STAT_LIVE p j) 0).wr
      (Reg.DPI_TT_STAT_SEEN p j) 0).flag (Reg.DPI_TT_STAT_LIVE p i) = if j = i then false else t.flag (Reg.DPI_TT_STAT_LIVE p i) := by
    change (State.wr (State.wr (t.setPatch p j _) (PortSlot.fld (.patchLive ⟨j, hj⟩) p) 0) (PortSlot.fld (.patchSeen ⟨j, hj⟩) p) 0).flag
      (PortSlot.fld (.patchLive ⟨i, hi⟩) p) = if j = i then false else t.flag (PortSlot.fld (.patchLive ⟨i, hi⟩) p)
    simp [State.flag_wr_slot]
    rfl
  refine State.forAll_at (R := fun _ => True) (P := fun t => t.flag (Reg.DPI_TT_STAT_LIVE p i) = false) (mem_of_lt_four hi) (by decide) trivial
    (fun _ _ _ _ _ => trivial) (fun t _ => ?_) fun t j hj hne ht => ?_
  · rw [hclear t hi, if_pos rfl]
  · rw [hclear t (lt_four_of_mem hj), if_neg hne, ht]

/-! ### What the admission of ports may change -/

/-- The slots that the admission of a port sets. -/
def PortSlot.ofAdmission : PortSlot → Bool
  | .reason | .admitted | .paired | .patchLive _ | .patchSeen _ => true
  | _ => false

/-- What the admission of the ports that `Q` names may change: their admission and patches, the verdict of any port, the budget, and what no source
has set up. -/
structure Admits (Q : Nat → Prop) (s t : State) : Prop where
  slots : Touches (fun a q => a = .live ∨ Q q ∧ a.ofAdmission = true) s t
  still : ∀ q, ¬ Q q → (t.ip q).still = (s.ip q).still
  source : ∀ q, (t.ip q).source = (s.ip q).source

variable {Q : Nat → Prop} {s t u : State} {p q : Nat}

theorem Admits.of_same (hregs : t.regs = s.regs) (hports : t.intake.ports = s.intake.ports) : Admits Q s t :=
  have hip (q : Nat) : t.ip q = s.ip q := congrArg (Tab.get · q) hports
  ⟨Touches.of_regs hregs, fun q _ => congrArg _ (hip q), fun q => congrArg _ (hip q)⟩

theorem Admits.refl (Q : Nat → Prop) (s : State) : Admits Q s s := Admits.of_same rfl rfl

theorem Admits.trans (h : Admits Q s t) (k : Admits Q t u) : Admits Q s u :=
  ⟨h.slots.trans k.slots, fun q hq => (k.still q hq).trans (h.still q hq), fun q => (k.source q).trans (h.source q)⟩

theorem Admits.wr (h : Admits Q s t) (a : PortSlot) (v : Nat) (hp : Q p) (ha : a.ofAdmission = true) : Admits Q s (t.wr (a.fld p) v) :=
  h.trans ⟨Touches.wr t a p v (.inr ⟨hp, ha⟩), fun _ _ => rfl, fun _ => rfl⟩

theorem Admits.setIp {f : IntakePort → IntakePort} (h : Admits Q s t) (hp : Q p) (hf : ∀ x, (f x).source = x.source := by intro x; rfl) :
    Admits Q s (t.setIp p f) := by
  refine h.trans ⟨Touches.of_regs rfl, fun q hq => ?_, fun q => ?_⟩
  · rw [State.setIp_ip_ne t f fun hpq : p = q => hq (hpq ▸ hp)]
  · by_cases hq : p = q
    · subst hq
      rw [State.setIp_ip_self, hf]
    · rw [State.setIp_ip_ne t f hq]

theorem Admits.recount (h : Admits Q s t) : Admits Q s t.recount := h.trans ⟨fun a q _ => t.rd_wr_used _ a q, fun _ _ => rfl, fun _ => rfl⟩

theorem PortSlot.ofAdmission_of_ofPatch {a : PortSlot} (h : a.ofPatch = true) : a.ofAdmission = true := by
  cases a with
  | patchLive | patchSeen => rfl
  | _ => cases h

theorem Admits.of_shows (h : Shows (ResetSlot p) s t) (hp : Q p) : Admits Q s t :=
  ⟨h.slots.mono fun _ _ hW => hW.imp_right fun ⟨hq, ha⟩ => ⟨hq.symm ▸ hp, PortSlot.ofAdmission_of_ofPatch ha⟩, fun q _ => h.still q,
    fun q => IntakePort.source_of_still (h.still q)⟩

theorem Admits.resetPatches (h : Admits Q s t) (hp : Q p) : Admits Q s (t.resetPatches p) := h.trans (Admits.of_shows (t.resetPatches_shows p) hp)

theorem Admits.forAll {l : List Nat} {f : State → Nat → State} (h : Admits Q s t) (hf : ∀ u, ∀ q ∈ l, Admits Q s u → Admits Q s (f u q)) :
    Admits Q s (t.forAll l f) :=
  State.forAll_keeps (Admits Q s) f l t h hf

theorem Admits.msa (h : Admits Q s t) (q : Nat) : (t.ip q).msa = (s.ip q).msa := congrArg (·.1) (h.source q)

/-! ### Frames cut short -/

theorem State.dropWriting_only (s : State) (p : Nat) : ∃ l, s.dropWriting p =
    ({ s with intake := { s.intake with surfaces := l } } : State).setIp p fun x => { x with writing := none } := by
  unfold State.dropWriting
  split
  · exact ⟨_, rfl⟩
  · exact ⟨s.intake.surfaces, rfl⟩

theorem Admits.cutFrame (h : Admits Q s t) (hp : Q p) : Admits Q s (t.cutFrame p) := by
  obtain ⟨l, heq⟩ := t.dropWriting_only p
  rw [State.cutFrame, heq]
  have hsurf : Admits Q s { t with intake := { t.intake with surfaces := l } } := h.trans (Admits.of_same rfl rfl)
  exact (hsurf.setIp hp).setIp hp

theorem State.cutFrame_ip (s : State) (p : Nat) : (s.cutFrame p).ip p = { s.ip p with writing := none, frame := none } := by
  obtain ⟨l, heq⟩ := s.dropWriting_only p
  rw [State.cutFrame, heq, State.setIp_ip_self, State.setIp_ip_self]
  rfl

theorem State.cutFrame_regs (s : State) (p : Nat) : (s.cutFrame p).regs = s.regs := by
  obtain ⟨l, heq⟩ := s.dropWriting_only p
  rw [State.cutFrame, heq]
  rfl

/-! ### Asking for admission -/

/-- A port is refused for a reason, before the budget is counted and its patches are reset (R78, R88, R100). -/
def State.turnedDown (s : State) (p reason : Nat) : State :=
  (((s.wr (Reg.DPI_PORT_STAT_REASON p) reason).wr (Reg.DPI_PORT_STAT_ADMITTED p) 0).cutFrame p).setIp p fun x => { x with asking := reason == 4 }

theorem Admits.turnedDown (h : Admits Q s t) (reason : Nat) (hp : Q p) : Admits Q s (t.turnedDown p reason) := by
  unfold State.turnedDown
  exact (((h.wr .reason reason hp rfl).wr .admitted 0 hp rfl).cutFrame hp).setIp hp

theorem Admits.refusePort (h : Admits Q s t) (reason : Nat) (hp : Q p) : Admits Q s (t.refusePort p reason) :=
  (h.turnedDown reason hp).recount.resetPatches hp

theorem Admits.grant (h : Admits Q s t) (total : Nat) {ps : List Nat} (hps : ∀ q ∈ ps, Q q) : Admits Q s (t.grant ps total) := by
  unfold State.grant
  split
  · exact (h.forAll fun u q hq hu => ((hu.wr .admitted 1 (hps q hq) rfl).wr .reason 0 (hps q hq) rfl).setIp (hps q hq)).recount
  · exact h.forAll fun u q hq hu => hu.refusePort 4 (hps q hq)

theorem Admits.grantPair (h : Admits Q s t) (total : Nat) (hp : Q p) (hq : Q q) : Admits Q s (t.grantPair p q total) := by
  unfold State.grantPair
  have hboth : ∀ r ∈ [min p q, max p q], Q r := by
    rcases le_total p q with hle | hle <;> simp [hle, hp, hq]
  have hpair : ∀ r ∈ [p, q], Q r := by simp [hp, hq]
  exact (((h.cutFrame hp).cutFrame hq).grant total hboth).forAll fun u r hr hu => (hu.wr .paired _ (hpair r hr) rfl).setIp (hpair r hr)

theorem State.pairOf_eq_some (h : s.pairOf p = some q) : q = partnerOf p := by
  unfold State.pairOf at h
  split at h
  · exact (Option.some.inj h).symm
  · cases h

/-- Asking for admission changes the port that asks and, where both have video, the port with which it asks as a pair. -/
theorem Admits.askAdmission (h : Admits Q s t) (hp : Q p) (hpair : (t.ip (partnerOf p)).msa ≠ none → Q (partnerOf p)) :
    Admits Q s (t.askAdmission p) := by
  unfold State.askAdmission
  split
  · exact h
  · split
    · exact h.refusePort _ hp
    · split
      · exact h.grant _ (by simpa using hp)
      · next q hq =>
        obtain rfl := State.pairOf_eq_some hq
        split
        · exact h
        · next n hn =>
          have hq' : Q (partnerOf p) := hpair (by simp [hn])
          split
          · exact h
          · split
            · exact (h.refusePort 5 hp).refusePort 5 hq'
            · exact h.grantPair _ hp hq'

/-- Refused ports that ask again leave a port without video that does not ask. -/
theorem Admits.askAgain (s : State) (hmsa : (s.ip p).msa = none) (hask : (s.ip p).asking = false) : Admits (· ≠ p) s s.askAgain := by
  refine State.forAll_keeps (Admits (· ≠ p) s) _ _ s (Admits.refl _ s) fun t q _ ht => ?_
  have hstill : (t.ip p).still = (s.ip p).still := ht.still p (by simp)
  split
  · next hq =>
    refine ht.askAdmission ?_ ?_
    · rintro rfl
      have hnot : (t.ip q).asking = (s.ip q).asking := (congrArg IntakePort.asking hstill :)
      rw [hnot, hask] at hq
      cases hq
    · rintro hsome rfl
      exact hsome ((ht.msa _).trans hmsa)
  · exact ht

/-- Where no port asks, none asks again. -/
theorem State.askAgain_of_not_asking (s : State) (h : ∀ q < 8, (s.ip q).asking = false) : s.askAgain = s := by
  refine State.forAll_keeps (· = s) _ _ s rfl ?_
  rintro t q hq rfl
  have hlt : q < 8 := by
    simp at hq
    omega
  rw [h q hlt]
  rfl

end Sys2Proof.Machine
end

section
/-! SUPPORT. The conversion of source frames (R84 to R86). -/

namespace Sys2Proof.Machine

/-- A frame that begins at an admitted port is converted line by line, whether it finds a surface or not (R84 to R86, R103). -/
theorem doSourceFrameStart_frame {s : State} {p : Nat} {m : Msa} (f : SourceFrame) (hm : (s.ip p).msa = some m)
    (hadm : s.flag (Reg.DPI_PORT_STAT_ADMITTED p) = true) : ((doSourceFrameStart s p f).ip p).frame = some (f.rows.map (convertLine m)) := by
  unfold doSourceFrameStart
  simp only [hm, hadm, Bool.not_true, Bool.false_eq_true, if_false]
  split
  · rw [State.setIp_ip_self]
  · split
    · exact congrArg IntakePort.frame (State.setIp_ip_self _ _ _)
    · rw [State.setIp_ip_self, State.setSurface_ip, State.setIp_ip_self]

theorem replicate12_lt (bpc v : Nat) : replicate12 bpc v < 4096 := by
  unfold replicate12
  split_ifs <;> exact Nat.mod_lt _ (by decide)

theorem chroma422_lt {c : Nat → Nat} (hc : ∀ x, c x < 4096) (w x : Nat) : chroma422 c w x < 4096 := by
  have hleft := hc (x - 1)
  have hright := hc (x + 1)
  unfold chroma422
  split_ifs
  · exact hc x
  · omega
  · exact hleft

theorem pixelR_pixelOf (r g b : Nat) : pixelR (pixelOf r g b) = r % 4096 := by
  unfold pixelR pixelOf
  omega

theorem pixelB_pixelOf (r g b : Nat) : pixelB (pixelOf r g b) = b % 4096 := by
  unfold pixelB pixelOf
  omega

theorem convertLine_length (m : Msa) (row : List (Nat × Nat × Nat)) : (convertLine m row).length = row.length := by
  simp [convertLine]

/-- A pixel of a converted 4:2:2 line has the chroma of R86 in its two chroma channels. -/
theorem convertLine_chroma {m : Msa} (hm : m.format.val = 2) (row : List (Nat × Nat × Nat)) {x : Nat} (hx : x < row.length) :
    pixelR ((convertLine m row).getD x 0) = chroma422 (fun j => replicate12 m.bpc (row.getD j (0, 0, 0)).1) row.length x ∧
    pixelB ((convertLine m row).getD x 0) = chroma422 (fun j => replicate12 m.bpc (row.getD j (0, 0, 0)).2.2) row.length x := by
  have hget : (convertLine m row).getD x 0 = pixelOf (chroma422 (fun j => replicate12 m.bpc (row.getD j (0, 0, 0)).1) row.length x)
      (replicate12 m.bpc (row.getD x (0, 0, 0)).2.1) (chroma422 (fun j => replicate12 m.bpc (row.getD j (0, 0, 0)).2.2) row.length x) := by
    simp [convertLine, hm, hx]
  rw [hget, pixelR_pixelOf, pixelB_pixelOf]
  exact ⟨Nat.mod_eq_of_lt (chroma422_lt (fun _ => replicate12_lt _ _) _ _), Nat.mod_eq_of_lt (chroma422_lt (fun _ => replicate12_lt _ _) _ _)⟩

/-- The chroma of a pixel of a 4:2:2 line, by its place (R86). -/
theorem chroma422_cases (c : Nat → Nat) (w x : Nat) : (x % 2 = 0 → chroma422 c w x = c x) ∧
    (x % 2 = 1 → x + 1 < w → chroma422 c w x = (c (x - 1) + c (x + 1) + 1) / 2) ∧ (x % 2 = 1 → x + 1 = w → chroma422 c w x = c (x - 1)) := by
  unfold chroma422
  refine ⟨fun heven => if_pos heven, fun hodd hin => ?_, fun hodd hlast => ?_⟩
  · rw [if_neg (by omega), if_pos hin]
  · rw [if_neg (by omega), if_neg (by omega)]

/-- Settles O60: the frame is converted line by line, and each pixel's chroma channels hold the chroma of its place, which fits 12 bits. -/
theorem oddPixelsTakeTheMeanChroma : Obligations.OddPixelsTakeTheMeanChroma := by
  intro s p f m hm hadm hformat
  refine works_of_exec (f := fun u => doSourceFrameStart u p f) rfl ⟨_, doSourceFrameStart_frame f hm hadm, by simp, fun y row line hrow hline => ?_⟩
  obtain rfl : convertLine m row = line := by simpa [hrow] using hline
  refine ⟨convertLine_length m row, fun x hx => ?_⟩
  obtain ⟨hred, hblue⟩ := convertLine_chroma hformat row hx
  simp only [hred, hblue]
  exact ⟨chroma422_cases _ _ _, chroma422_cases _ _ _⟩

end Sys2Proof.Machine
end

section
/-! SUPPORT. Frames that begin and end, bales, publication and releases (R89, R96 to R107). -/

namespace Sys2Proof.Machine

/-! ### Frames that begin -/

/-- A frame begins at a port that is neither paired nor skewed and writes no surface (R85, R103). -/
def State.frameBegun (s : State) (p : Nat) (m : Msa) (f : SourceFrame) : State :=
  (s.cutFrame p).setIp p fun x => { x with frame := some (f.rows.map (convertLine m)), frames := (x.frames + 1) % 65536 }

theorem doSourceFrameStart_of_single {s : State} {p : Nat} {m : Msa} (f : SourceFrame) (hm : (s.ip p).msa = some m)
    (hadm : s.flag (Reg.DPI_PORT_STAT_ADMITTED p) = true) (hpaired : s.flag (Reg.DPI_PORT_STAT_PAIRED p) = false)
    (hskew : (s.ip p).skewed = false) : doSourceFrameStart s p f = match (s.frameBegun p m f).takeSurface p with
      | none => (s.frameBegun p m f).bump (Reg.BAL_POOL_DROPPED p)
      | some n => ((s.frameBegun p m f).setSurface n fun _ =>
          { state := 1, width := m.hActive.toNat, height := m.vActive.toNat, data := poolData n, table := poolTable n
            frame := ((s.frameBegun p m f).ip p).frames, published := 0 }).setIp p
          fun x => { x with writing := some n, reference := (s.frameBegun p m f).latest p } := by
  have halone : s.pairSkew p f.skew = s := by simp [State.pairSkew, State.runsWith, hpaired]
  have hsteady : ((s.frameBegun p m f).ip p).skewed = false := by
    rw [State.frameBegun, State.setIp_ip_self, State.cutFrame_ip]
    exact hskew
  have hwidth : (s.frameBegun p m f).surfaceWidth p m = m.hActive.toNat := by
    have hsame : (s.frameBegun p m f).flag (Reg.DPI_PORT_STAT_PAIRED p) = false :=
      (Touches.flag (W := fun _ _ => False) (Touches.of_regs (s.cutFrame_regs p)) (a := .paired) (p := p) id).trans hpaired
    rw [State.surfaceWidth, hsame]
    rfl
  unfold doSourceFrameStart
  simp only [hm, hadm, halone, hpaired, Bool.not_true, Bool.false_eq_true, if_false, false_and, or_false]
  change (if ((s.frameBegun p m f).ip p).skewed = true then _ else _) = _
  rw [hsteady, if_neg Bool.false_ne_true, ← hwidth]
  rfl

/-- A port that writes no surface loses none as its frame begins. -/
theorem State.frameBegun_of_idle {s : State} {p : Nat} (m : Msa) (f : SourceFrame) (hw : (s.ip p).writing = none) :
    (s.frameBegun p m f).ip p = { s.ip p with frame := some (f.rows.map (convertLine m)), frames := ((s.ip p).frames + 1) % 65536 } ∧
    (s.frameBegun p m f).takeSurface p = s.takeSurface p ∧ (s.frameBegun p m f).regs = s.regs := by
  refine ⟨?_, ?_, s.cutFrame_regs p⟩
  · rw [State.frameBegun, State.setIp_ip_self, State.cutFrame_ip, ← hw]
  · have hcut : s.cutFrame p = (s.setIp p fun x => { x with writing := none }).setIp p fun x => { x with frame := none } := by
      simp only [State.cutFrame, State.dropWriting, hw]
    rw [State.frameBegun, hcut]
    rfl

theorem sourceFrameStart_spec (s : State) (p : Nat) (f : SourceFrame) (m : Msa) (hm : (s.ip p).msa = some m)
    (hadm : s.flag (Reg.DPI_PORT_STAT_ADMITTED p) = true) (hpaired : s.flag (Reg.DPI_PORT_STAT_PAIRED p) = false)
    (hskew : (s.ip p).skewed = false) (hw : (s.ip p).writing = none) :
    let t := doSourceFrameStart s p f
    (s.takeSurface p = none → (t.ip p).frame = some (f.rows.map (convertLine m)) ∧ (t.ip p).writing = none ∧
      t.rd (Reg.BAL_POOL_DROPPED p) = min (s.rd (Reg.BAL_POOL_DROPPED p) + 1) 4095) ∧
    ∀ n, s.takeSurface p = some n → (t.ip p).frame = some (f.rows.map (convertLine m)) ∧ (t.ip p).writing = some n ∧ t.poolState n = 1 ∧
      (t.surface n).width = m.hActive.toNat ∧ (t.surface n).height = m.vActive.toNat ∧ (t.ip p).frames = ((s.ip p).frames + 1) % 65536 ∧
      t.regs = s.regs := by
  obtain ⟨hip, htake, hregs⟩ := State.frameBegun_of_idle m f hw
  have hdropped : (s.frameBegun p m f).rd (Reg.BAL_POOL_DROPPED p) = s.rd (Reg.BAL_POOL_DROPPED p) := State.rd_of_find (by rw [hregs])
  dsimp only
  rw [doSourceFrameStart_of_single f hm hadm hpaired hskew, htake]
  refine ⟨fun hnone => ?_, fun n hsome => ?_⟩
  · have hdrop := State.rd_bump_self (s.frameBegun p m f) (Reg.BAL_POOL_DROPPED p) (Nat.le_refl 32)
    rw [hnone]
    change ((s.frameBegun p m f).ip p).frame = _ ∧ ((s.frameBegun p m f).ip p).writing = _ ∧ _
    rw [hip]
    exact ⟨rfl, hw, hdrop.trans (by rw [hdropped]; rfl)⟩
  · rw [hsome]
    dsimp only
    simp [State.poolState, hip, hregs]

/-! ### Patches at the end of a frame -/

/-- A qualifying frame is noted, with a run, and may make the patch LIVE (R107). -/
def State.qualified (s : State) (p i run : Nat) : State :=
  (s.setPatch p i fun x => { x with lastQual := some s.now, run := run }).wr (Reg.DPI_TT_STAT_SEEN p i) 1

theorem State.patchQualified_eq (s : State) (p i : Nat) :
    ∃ run, s.patchQualified p i = s.qualified p i run ∨ s.patchQualified p i = (s.qualified p i run).wr (Reg.DPI_TT_STAT_LIVE p i) 1 := by
  unfold State.patchQualified
  exact ⟨_, (ite_eq_or_eq _ _ _).symm⟩

/-- What a patch reads of a frame, and what it keeps of the frames before, is as it was. -/
structure PatchKept (p i : Nat) (s t : State) : Prop where
  act : t.act = s.act
  count : t.count = s.count
  ports : t.intake.ports = s.intake.ports
  patch : t.patch p i = s.patch p i
  seen : t.flag (Reg.DPI_TT_STAT_SEEN p i) = s.flag (Reg.DPI_TT_STAT_SEEN p i)

section
variable {s t u : State} {p i j : Nat}

theorem PatchKept.refl (p i : Nat) (s : State) : PatchKept p i s s := ⟨rfl, rfl, rfl, rfl, rfl⟩

theorem PatchKept.wr (h : PatchKept p i s t) (a : PortSlot) (v : Nat) (hi : i < 4) (ha : a ≠ .patchSeen ⟨i, hi⟩) : PatchKept p i s (t.wr (a.fld p) v) :=
  ⟨h.act, h.count, h.ports, h.patch, (((Touches.wr (W := fun b _ => b = a) t a p v rfl).flag (a := .patchSeen ⟨i, hi⟩) ha.symm).trans h.seen :)⟩

theorem PatchKept.setPatch {f : Patch → Patch} (h : PatchKept p i s t) (hne : j ≠ i) : PatchKept p i s (t.setPatch p j f) :=
  ⟨h.act, h.count, h.ports, (t.setPatch_patch_ne p f hne).trans h.patch, h.seen⟩

/-- A qualifying frame of one patch leaves the others. -/
theorem PatchKept.patchQualified (h : PatchKept p i s t) (hi : i < 4) (hj : j < 4) (hne : j ≠ i) : PatchKept p i s (t.patchQualified p j) := by
  obtain ⟨run, heq | heq⟩ := t.patchQualified_eq p j
  all_goals
    have hseen := (h.setPatch (f := fun x => { x with lastQual := some t.now, run := run }) hne).wr (.patchSeen ⟨j, hj⟩) 1 hi (by simpa using hne)
    rw [heq]
  · exact hseen
  · exact hseen.wr (.patchLive ⟨j, hj⟩) 1 hi nofun

/-- A patch that judges a frame leaves the others. -/
theorem PatchKept.judgePatch (h : PatchKept p i s t) (hi : i < 4) (hj : j < 4) (hne : j ≠ i) : PatchKept p i s (t.judgePatch p j) := by
  have hbase (r : Nat) : PatchKept p i s ((if t.ac (Reg.DPI_TT_CFG_MODE p j) = 1 then t.wr (Reg.DPI_TT_STAT_COUNT p j) r else t).setPatch p j
      fun x => { x with base := some r }) := by
    split
    · exact (h.wr (.patchCount ⟨j, hj⟩) r hi nofun).setPatch hne
    · exact h.setPatch hne
  unfold State.judgePatch
  split
  · exact h
  · split
    · exact h
    · split
      · exact h
      · next r _ =>
        dsimp only
        split
        · exact hbase r
        · split
          · exact (hbase r).patchQualified hi hj hne
          · exact hbase r

end

/-- A patch has taken a reading as its base and, where that qualifies against its base in `s`, noted the frame (R106, R107). -/
def State.Noted (s : State) (p i r : Nat) (t : State) : Prop := (t.patch p i).base = some r ∧ ∀ b, (s.patch p i).base = some b →
  s.qualifies p i b r = true → (t.patch p i).lastQual = some s.now ∧ t.flag (Reg.DPI_TT_STAT_SEEN p i) = true

theorem State.patchQualified_noted (s : State) (p : Nat) {i : Nat} (hi : i < 4) : ((s.patchQualified p i).patch p i).base = (s.patch p i).base ∧
    ((s.patchQualified p i).patch p i).lastQual = some s.now ∧ (s.patchQualified p i).flag (Reg.DPI_TT_STAT_SEEN p i) = true := by
  obtain ⟨run, heq | heq⟩ := s.patchQualified_eq p i
  all_goals
    have hpatch : (s.qualified p i run).patch p i = { s.patch p i with lastQual := some s.now, run := run } := State.setPatch_patch_self _ _ _ _
    have hseen : (s.qualified p i run).flag (Reg.DPI_TT_STAT_SEEN p i) = true :=
      (State.flag_wr_slot _ (.patchSeen ⟨i, hi⟩) (.patchSeen ⟨i, hi⟩) p p 1).trans (if_pos ⟨rfl, rfl⟩)
    rw [heq]
  · rw [hpatch]
    exact ⟨rfl, rfl, hseen⟩
  · rw [State.wr_patch, hpatch]
    exact ⟨rfl, rfl, ((State.flag_wr_slot _ (.patchLive ⟨i, hi⟩) (.patchSeen ⟨i, hi⟩) p p 1).trans (if_neg nofun)).trans hseen⟩

/-- An enabled patch that reads the frame takes the reading as its base, and notes a frame that qualifies (R106, R107). -/
theorem State.judgePatch_noted {s t : State} {p i r : Nat} {ps : List Pixel} (h : PatchKept p i s t) (hi : i < 4)
    (hen : s.acFlag (Reg.DPI_TT_CFG_ENABLE p i) = true) (hps : s.patchPixels p i = some ps) (hr : s.patchReading p i ps = some r) :
    s.Noted p i r (t.judgePatch p i) := by
  have hac (f : Fld) : t.ac f = s.ac f := by simp only [State.ac, State.actWord, h.act]
  have hip : t.ip p = s.ip p := congrArg (Tab.get · p) h.ports
  have hnow : t.now = s.now := congrArg BitVec.toNat h.count
  have hen' : t.acFlag (Reg.DPI_TT_CFG_ENABLE p i) = true := by rw [State.acFlag, hac, ← State.acFlag, hen]
  have hps' : t.patchPixels p i = some ps := by
    rw [← hps]
    simp only [State.patchPixels, hac, hip]
  have hr' : t.patchReading p i ps = some r := by
    rw [← hr]
    simp only [State.patchReading, hac]
  have hq (b : Nat) : t.qualifies p i b r = s.qualifies p i b r := by simp only [State.qualifies, hac]
  unfold State.judgePatch
  simp only [hen', hps', hr', h.patch, hq, Bool.not_true, Bool.false_eq_true, if_false]
  generalize hu : (if t.ac (Reg.DPI_TT_CFG_MODE p i) = 1 then t.wr (Reg.DPI_TT_STAT_COUNT p i) r else t).setPatch p i (fun x => { x with base := some r }) = u
  have hbase : (u.patch p i).base = some r := by rw [← hu, State.setPatch_patch_self]
  have hnow' : u.now = s.now := by
    rw [← hnow, ← hu]
    split <;> rfl
  split
  · next hnone => exact ⟨hbase, fun b hb => by rw [hnone] at hb; cases hb⟩
  · next b hb =>
    obtain ⟨hkeep, hlast, hseen⟩ := u.patchQualified_noted p hi
    split
    · exact ⟨hkeep.trans hbase, fun _ _ _ => ⟨hlast.trans (by rw [hnow']), hseen⟩⟩
    · next hqual =>
      refine ⟨hbase, fun b' hb' hqual' => ?_⟩
      obtain rfl : b = b' := Option.some.inj (hb.symm.trans hb')
      exact absurd hqual' hqual

/-- A noted frame stays noted while other patches judge it and verdicts are shown. -/
theorem State.Noted.kept {s t u : State} {p i r : Nat} (h : s.Noted p i r t) (hpatch : u.patch p i = t.patch p i)
    (hseen : u.flag (Reg.DPI_TT_STAT_SEEN p i) = t.flag (Reg.DPI_TT_STAT_SEEN p i)) : s.Noted p i r u := by
  rw [State.Noted, hpatch, hseen]
  exact h

theorem sourceFrameEnd_spec (s : State) (p : Nat) (hadm : s.flag (Reg.DPI_PORT_STAT_ADMITTED p) = true) :
    let t := doSourceFrameEnd s p
    t.flag (Reg.DPI_PORT_STAT_LIVE p) = t.portLive p ∧ ∀ i < 4, ∀ ps r, s.acFlag (Reg.DPI_TT_CFG_ENABLE p i) = true →
      s.patchPixels p i = some ps → s.patchReading p i ps = some r → s.Noted p i r t := by
  dsimp only
  rw [doSourceFrameEnd, if_pos hadm]
  refine ⟨State.judgePort_live _ p, fun i hi ps r hen hps hr => ?_⟩
  have hnoted : s.Noted p i r (s.forAll [0, 1, 2, 3] fun t i => t.judgePatch p i) := by
    refine State.forAll_at (R := PatchKept p i s) (P := s.Noted p i r) (mem_of_lt_four hi) (by decide) (PatchKept.refl p i s)
      (fun t j hj hne ht => ht.judgePatch hi (lt_four_of_mem hj) hne) (fun t ht => State.judgePatch_noted ht hi hen hps hr) fun t j hj hne ht => ?_
    have hkept := (PatchKept.refl p i t).judgePatch hi (lt_four_of_mem hj) hne
    exact ht.kept hkept.patch hkept.seen
  have hjudged := (s.forAll [0, 1, 2, 3] fun t i => t.judgePatch p i).judgePort_judged p
  exact hnoted.kept (congrArg (Tab.get · (p * 4 + i)) hjudged.patches) (hjudged.slots.flag (a := .patchSeen ⟨i, hi⟩) (by simp))

/-! ### Bales -/

theorem leBytes_length (n v : Nat) : (leBytes n v).length = n := by
  induction n generalizing v with
  | zero => rfl
  | succ n ih => rw [leBytes, List.length_cons, ih]

/-- The bytes of a number spell it, cut to their width (R7). -/
theorem leNat_leBytes_mod (n v : Nat) : leNat (leBytes n v) = v % 256 ^ n := by
  induction n generalizing v with
  | zero => rw [leBytes, leNat, Nat.pow_zero, Nat.mod_one]
  | succ n ih =>
    rw [leBytes, leNat, ih, BitVec.toNat_ofNat, Nat.mod_mod_of_dvd v (dvd_refl 256), Nat.pow_succ', Nat.mod_mul]

/-- A hallmark CRC has 64 bits (R8). -/
theorem crc64Pixels_lt (ps : List Pixel) : crc64Pixels ps < 256 ^ 8 := by
  have hbit (c : Nat) (b : Bool) : crc64Bit c b < 2 ^ 64 := by
    have hlow : c * 2 % 2 ^ 64 < 2 ^ 64 := Nat.mod_lt _ (by decide)
    unfold crc64Bit
    split
    · exact Nat.xor_lt_two_pow hlow (by decide)
    · exact hlow
  have hstart : (2 ^ 64 - 1 : Nat) < 2 ^ 64 := by decide
  exact Nat.xor_lt_two_pow (List.foldlRecOn (motive := (· < 2 ^ 64)) _ _ hstart fun _ _ _ _ => hbit _ _) hstart

/-- Bytes that stand in a cell list one by one are read as they stand. -/
theorem Cells.read_eq_take {d : Byte} {l : List Host.Cell} {a n : Nat} {bs : Bytes} (hn : n ≤ bs.length)
    (h : ∀ k < n, Cells.get d l (a + k) = bs.getD k 0) : Cells.read d l a n = bs.take n := by
  induction n generalizing a bs with
  | zero => rfl
  | succ n ih =>
    cases bs with
    | nil => cases hn
    | cons b bs =>
      have htail (k : Nat) (hk : k < n) : Cells.get d l (a + 1 + k) = bs.getD k 0 := by
        have hcell := h (k + 1) (Nat.succ_lt_succ hk)
        rwa [Nat.add_left_comm, Nat.add_comm k] at hcell
      rw [Cells.read, List.take_succ_cons, ih (Nat.le_of_succ_le_succ hn) htail]
      exact congrArg (· :: _) (h 0 (Nat.succ_pos n))

/-- The bytes that were written are read back. -/
theorem State.dramRead_dramWrite_self (s : State) (a n : Nat) (bs : Bytes) (hwf : Memory.wf s = true) (hn : n ≤ bs.length) :
    (s.dramWrite a bs).dramRead a n = bs.take n :=
  Cells.read_eq_take hn fun _ hk => Cells.get_write_in 0 bs s.dram a _ ((Memory.wf_iff s).mp hwf).1 (Nat.lt_of_lt_of_le hk hn)

@[simp] theorem State.dramWrite_surface (s : State) (a : Nat) (bs : Bytes) (n : Nat) : (s.dramWrite a bs).surface n = s.surface n := rfl

/-- Bytes written above those that are read leave them. -/
theorem State.dramRead_dramWrite_above (s : State) {a b n : Nat} (bs : Bytes) (h : a + n ≤ b) : (s.dramWrite b bs).dramRead a n = s.dramRead a n := by
  induction n generalizing a with
  | zero => rfl
  | succ n ih =>
    change Cells.get 0 (Cells.write 0 s.dram b bs) a :: (s.dramWrite b bs).dramRead (a + 1) n = _
    rw [ih (by omega), Cells.get_write_out 0 bs s.dram b a (.inl (by omega))]
    rfl

/-- A change bit reads as it was set. -/
theorem State.changeBit_setChangeBit (s : State) (n i : Nat) (b : Bool) (hwf : Memory.wf s = true) : (s.setChangeBit n i b).changeBit n i = b := by
  have hbyte : (s.setChangeBit n i b).dramByte ((s.surface n).bitmap + i / 8) =
      BitVec.ofNat 8 (natSetBit (s.dramByte ((s.surface n).bitmap + i / 8)).toNat (i % 8) b) :=
    Cells.get_write_in 0 _ s.dram _ 0 ((Memory.wf_iff s).mp hwf).1 (by simp)
  change ((s.setChangeBit n i b).dramByte ((s.surface n).bitmap + i / 8)).toNat.testBit (i % 8) = b
  rw [hbyte, BitVec.toNat_ofNat, Nat.testBit_mod_two_pow, natSetBit_testBit_self, decide_eq_true (Nat.mod_lt i (by decide)), Bool.true_and]

/-- A bale that is stored in its surface has its fingerprint and its change bit there (R96, R99). -/
theorem State.storeBale_spec (s : State) (n i sector : Nat) (ps : List Pixel) (changed : Bool) (hwf : Memory.wf s = true)
    (hi : i < balesAcross (s.surface n).width * balesDown (s.surface n).height) :
    (s.storeBale n i sector ps changed).fingerprint n i = crc64Pixels ps ∧ (s.storeBale n i sector ps changed).regs = s.regs ∧
    (s.storeBale n i sector ps changed).changeBit n i = changed := by
  have hwf1 := Memory.wf_dramWrite s ((s.surface n).data + 64 * sector) (encodeBale ps).bytes hwf
  have hbitmap : (s.surface n).table + 16 * i + 8 ≤ (s.surface n).bitmap + i / 8 := by
    unfold Surface.bitmap
    omega
  refine ⟨?_, rfl, State.changeBit_setChangeBit _ n i changed (Memory.wf_dramWrite _ _ _ hwf1)⟩
  rw [State.fingerprint, State.storeBale, State.setChangeBit]
  simp only [State.dramWrite_surface]
  rw [State.dramRead_dramWrite_above _ _ hbitmap, State.dramRead_dramWrite_self _ _ _ _ hwf1 (by simp [tableEntry, leBytes_length])]
  rw [show ((8 : Nat)) = (leBytes 8 (crc64Pixels ps)).length from rfl, tableEntry]
  simp only [List.append_assoc]
  rw [List.take_left, leNat_leBytes_mod, Nat.mod_eq_of_lt (crc64Pixels_lt ps)]

/-- A bale is stored with the mark that its reference gives (R99). -/
theorem doBaleWrite_of_lt {s : State} {p i n : Nat} (hw : (s.ip p).writing = some n)
    (hi : i < balesAcross (s.surface n).width * balesDown (s.surface n).height) {ps : List Pixel}
    (hps : ps = balePixels (s.surfaceRows p) (s.surface n).width (s.surface n).height (i % balesAcross (s.surface n).width)
      (i / balesAcross (s.surface n).width)) :
    doBaleWrite s p i =
      s.storeBale n i (37 * i) ps ((s.ip p).allChanged || (s.ip p).reference.all fun r => s.fingerprint r i != crc64Pixels ps) := by
  rw [hps, doBaleWrite, hw]
  refine (if_neg (Nat.not_le_of_lt hi)).trans ?_
  cases (s.ip p).reference with
  | none => simp only [Option.all_none]
  | some r => simp only [Option.all_some]

/-! ### Publication and releases -/

theorem doSurfacePublish_spec (s : State) (p n : Nat) (hw : (s.ip p).writing = some n) :
    let t := doSurfacePublish s p
    t.poolState n = 2 ∧ (t.surface n).published = s.now ∧ (t.ip p).writing = none ∧ (t.ip p).frame = none ∧
      ∀ o, s.latest p = some o → o ≠ n → t.poolState o = 3 := by
  unfold doSurfacePublish
  simp only [hw, State.poolState, State.setIp_surface, State.setIp_ip_self, State.setSurface_surface_self, true_and]
  intro o ho hne
  rw [State.setSurface_surface_ne _ _ (Ne.symm hne), ho]
  exact congrArg Surface.state (State.setSurface_surface_self _ _ _)

/-- A surface is free: a pool surface is FREE, a still surface no longer exists (R101, R104). -/
def State.Freed (n : Nat) (t : State) : Prop := (n < 256 → Tab.find t.intake.surfaces n = none) ∧ (256 ≤ n → t.poolState n = 0)

theorem State.freed_freeSurface (s : State) (n : Nat) : (s.freeSurface n).Freed n := by
  unfold State.freeSurface
  split
  · next hstill => exact ⟨fun _ => Tab.find_del_self _ _, fun hpool => absurd hstill (Nat.not_lt_of_le hpool)⟩
  · next hpool => exact ⟨fun hstill => absurd hstill hpool, fun _ => congrArg Surface.state (State.setSurface_surface_self _ _ _)⟩

theorem State.freeSurface_releases (s : State) (n : Nat) : (s.freeSurface n).intake.releases = s.intake.releases := by
  unfold State.freeSurface
  split <;> rfl

@[simp] theorem State.freeSurface_rd (s : State) (n : Nat) (f : Fld) : (s.freeSurface n).rd f = s.rd f := by
  unfold State.freeSurface
  split <;> rfl

/-- The surface that a release names. -/
def State.named (s : State) (n : Nat) : State := s.wr Reg.BAL_SURF_STAT_SURFACE n

/-- A release waits for the last pin of a surface, and PENDING shows it (R104). -/
def State.awaitPins (s : State) (n : Nat) : State :=
  ({ s with intake := { s.intake with releases := s.intake.releases ++ [n] } } : State).wr Reg.BAL_SURF_STAT_PENDING 1

theorem State.awaitPins_surface (s : State) (n : Nat) : (s.awaitPins n).rd Reg.BAL_SURF_STAT_SURFACE = s.rd Reg.BAL_SURF_STAT_SURFACE :=
  (State.rd_wr_other _ Reg.BAL_SURF_STAT_PENDING Reg.BAL_SURF_STAT_SURFACE 1 rfl rfl (by decide)).trans rfl

theorem State.awaitPins_pending (s : State) (n : Nat) : (s.awaitPins n).flag Reg.BAL_SURF_STAT_PENDING = true :=
  congrArg (· == 1) (State.rd_wr_self _ Reg.BAL_SURF_STAT_PENDING 1 (by decide))

/-- The result of a release, which leaves the surface that it names and whether a release is pending. -/
theorem State.result_spec (s : State) {v : Nat} (hv : v < 4) : (s.wr Reg.BAL_SURF_STAT_RESULT v).rd Reg.BAL_SURF_STAT_RESULT = v ∧
    (s.wr Reg.BAL_SURF_STAT_RESULT v).rd Reg.BAL_SURF_STAT_SURFACE = s.rd Reg.BAL_SURF_STAT_SURFACE ∧
    (s.wr Reg.BAL_SURF_STAT_RESULT v).flag Reg.BAL_SURF_STAT_PENDING = s.flag Reg.BAL_SURF_STAT_PENDING :=
  ⟨(State.rd_wr_self _ _ _ (by decide)).trans (Nat.mod_eq_of_lt hv), State.rd_wr_other _ _ _ _ rfl rfl (by decide),
    congrArg (· == 1) (State.rd_wr_other _ _ _ _ rfl rfl (by decide))⟩

/-- A surface that is there and may be released: freed, or pending until its last pin goes (R102, R104). -/
theorem doRelease_of_there {s : State} {n : Nat} (hthere : s.surfaceThere n = true)
    (hpool : ¬ (256 ≤ n ∧ s.acFlag (Reg.DPI_PORT_CFG_ENABLE ((n - 256) / 3)) = true)) : doRelease s n =
      if s.releasing n then (s.named n).wr Reg.BAL_SURF_STAT_RESULT 1
      else if s.pins n ≠ 0 then ((s.named n).awaitPins n).wr Reg.BAL_SURF_STAT_RESULT 1
      else ((s.named n).freeSurface n).wr Reg.BAL_SURF_STAT_RESULT 0 := by
  unfold doRelease
  simp only [hthere, hpool, Bool.not_true, Bool.false_eq_true, if_false]
  unfold State.releaseSurface
  change (match (if s.releasing n = true then (s.named n, true) else if s.pins n ≠ 0 then _ else _ : State × Bool) with
    | (u, true) => u.wr Reg.BAL_SURF_STAT_RESULT 1
    | (u, false) => u.wr Reg.BAL_SURF_STAT_RESULT 0) = _
  split_ifs <;> rfl

theorem doRelease_spec (s : State) (n : Nat) (hn : n < 512) :
    let t := doRelease s n
    let pool := 256 ≤ n ∧ s.acFlag (Reg.DPI_PORT_CFG_ENABLE ((n - 256) / 3)) = true
    t.rd Reg.BAL_SURF_STAT_SURFACE = n ∧ (s.surfaceThere n = false → t.rd Reg.BAL_SURF_STAT_RESULT = 2 ∧ t.intake = s.intake) ∧
      (s.surfaceThere n = true → pool → t.rd Reg.BAL_SURF_STAT_RESULT = 3 ∧ t.intake = s.intake) ∧
      (s.surfaceThere n = true → ¬ pool →
        (s.releasing n = false → s.pins n = 0 → t.rd Reg.BAL_SURF_STAT_RESULT = 0 ∧ t.Freed n) ∧
        (s.releasing n = false → s.pins n ≠ 0 → t.rd Reg.BAL_SURF_STAT_RESULT = 1 ∧ t.flag Reg.BAL_SURF_STAT_PENDING = true ∧
          t.intake.releases = s.intake.releases ++ [n]) ∧
        (s.releasing n = true → t.rd Reg.BAL_SURF_STAT_RESULT = 1 ∧ t.intake = s.intake)) := by
  have hnamed : (s.named n).rd Reg.BAL_SURF_STAT_SURFACE = n := (State.rd_wr_self _ _ _ (by decide)).trans (Nat.mod_eq_of_lt hn)
  by_cases hthere : s.surfaceThere n = false
  · obtain ⟨hres, hsurf, _⟩ := (s.named n).result_spec (v := 2) (by decide)
    have heq : doRelease s n = (s.named n).wr Reg.BAL_SURF_STAT_RESULT 2 := by simp [doRelease, hthere, State.named]
    simp only [heq, hthere]
    exact ⟨hsurf.trans hnamed, fun _ => ⟨hres, rfl⟩, nofun, nofun⟩
  · by_cases hpool : 256 ≤ n ∧ s.acFlag (Reg.DPI_PORT_CFG_ENABLE ((n - 256) / 3)) = true
    · obtain ⟨hres, hsurf, _⟩ := (s.named n).result_spec (v := 3) (by decide)
      have heq : doRelease s n = (s.named n).wr Reg.BAL_SURF_STAT_RESULT 3 := by simp [doRelease, hthere, hpool, State.named]
      simp only [heq]
      exact ⟨hsurf.trans hnamed, fun h => absurd h hthere, fun _ _ => ⟨hres, rfl⟩, fun _ h => absurd hpool h⟩
    · have hthere' : s.surfaceThere n = true := by simpa using hthere
      rw [doRelease_of_there hthere' hpool]
      refine ⟨?_, fun h => absurd h hthere, fun _ h => absurd h hpool, fun _ _ => ⟨fun hnot hpins => ?_, fun hnot hpins => ?_, fun hyes => ?_⟩⟩
      · split_ifs
        · exact (State.result_spec _ (by decide)).2.1.trans hnamed
        · exact (State.result_spec _ (by decide)).2.1.trans ((State.awaitPins_surface _ n).trans hnamed)
        · exact (State.result_spec _ (by decide)).2.1.trans ((State.freeSurface_rd _ n _).trans hnamed)
      · rw [if_neg (by simp [hnot]), if_neg (by simp [hpins])]
        exact ⟨(State.result_spec _ (by decide)).1, (s.named n).freed_freeSurface n⟩
      · rw [if_neg (by simp [hnot]), if_pos hpins]
        exact ⟨(State.result_spec _ (by decide)).1, (State.result_spec _ (by decide)).2.2.trans (State.awaitPins_pending _ n), rfl⟩
      · rw [if_pos hyes]
        exact ⟨(State.result_spec _ (by decide)).1, rfl⟩

/-- The release of a surface without pins that was pending (R104). -/
theorem doReleaseDone_spec (s : State) (n : Nat) (hrel : s.releasing n = true) (hpins : s.pins n = 0) :
    let t := doReleaseDone s n
    t.Freed n ∧ t.intake.releases = s.intake.releases.filter (· != n) ∧ t.flag Reg.BAL_SURF_STAT_PENDING = !t.intake.releases.isEmpty := by
  generalize hleft : (s.freeSurface n).intake.releases.filter (fun x => x != n) = left
  have heq : doReleaseDone s n = ((({ s.freeSurface n with intake := { (s.freeSurface n).intake with releases := left } } : State).wrFlag
      Reg.BAL_SURF_STAT_PENDING (!left.isEmpty)).raise srcBale 0x0402 (n * 65536)) := by
    rw [doReleaseDone, if_pos ⟨hrel, hpins⟩, ← hleft]
  have hintake : (doReleaseDone s n).intake = { (s.freeSurface n).intake with releases := left } := by
    rw [heq, State.raise_intake]
    rfl
  have hflag : (doReleaseDone s n).flag Reg.BAL_SURF_STAT_PENDING = !left.isEmpty := by
    rw [heq, State.flag, State.raise_rd _ _ _ _ _ (by decide), State.wrFlag, State.rd_wr_self _ _ _ (by decide)]
    cases left.isEmpty <;> rfl
  have hfreed : (doReleaseDone s n).Freed n := by
    have hsurf : (doReleaseDone s n).intake.surfaces = (s.freeSurface n).intake.surfaces := by rw [hintake]
    have hfree := s.freed_freeSurface n
    simpa only [State.Freed, State.poolState, State.surface, hsurf] using hfree
  dsimp only
  rw [hflag, hintake]
  exact ⟨hfreed, by rw [← hleft, State.freeSurface_releases], rfl⟩

/-- Settles O56: the frame that begins, the patches at its end, the bales, the publication and the releases, each by its own lemma. -/
theorem framesAreStoredAndPublished : Obligations.FramesAreStoredAndPublished := by
  refine ⟨fun s p f => ⟨fun hnot => ?_, fun hnot => ?_, fun m hm hadm hpaired hskew hw => ?_, fun hadm => ?_⟩,
    fun s p => ⟨fun hnone => ⟨fun i => ?_, ?_⟩, fun n hw => ⟨fun i => ⟨fun hi => ?_, fun hi hwf => ?_⟩, ?_⟩⟩,
    fun s n => ⟨?_, fun hrel hpins => ?_, fun hnot => ?_⟩⟩
  · refine exec_unchanged (f := fun u => doSourceFrameStart u p f) rfl ?_
    obtain hnone | hnot := hnot
    · simp only [doSourceFrameStart, hnone]
    · cases hmsa : (s.ip p).msa <;> simp [doSourceFrameStart, hmsa, hnot]
  · exact exec_unchanged (f := fun u => doSourceFrameEnd u p) rfl (by simp [doSourceFrameEnd, hnot])
  · obtain ⟨hdrop, htake⟩ := sourceFrameStart_spec s p f m hm hadm hpaired hskew hw
    exact ⟨fun hnone => works_of_exec (f := fun u => doSourceFrameStart u p f) rfl (hdrop hnone),
      fun n hn => works_of_exec (f := fun u => doSourceFrameStart u p f) rfl (htake n hn)⟩
  · exact works_of_exec (f := fun u => doSourceFrameEnd u p) rfl (sourceFrameEnd_spec s p hadm)
  · exact exec_unchanged (f := fun u => doBaleWrite u p i.toNat) rfl (by simp only [doBaleWrite, hnone])
  · exact exec_unchanged (f := fun u => doSurfacePublish u p) rfl (by simp only [doSurfacePublish, hnone])
  · exact exec_unchanged (f := fun u => doBaleWrite u p i.toNat) rfl (by rw [doBaleWrite, hw]; exact if_pos hi)
  · refine works_of_exec (f := fun u => doBaleWrite u p i.toNat) rfl ?_
    rw [doBaleWrite_of_lt hw hi rfl]
    exact s.storeBale_spec n i.toNat _ _ _ hwf hi
  · exact works_of_exec (f := fun u => doSurfacePublish u p) rfl (doSurfacePublish_spec s p n hw)
  · exact works_of_exec (f := fun u => doRelease u n.toNat) rfl (doRelease_spec s n.toNat n.isLt)
  · exact works_of_exec (f := fun u => doReleaseDone u n.toNat) rfl (doReleaseDone_spec s n.toNat hrel hpins)
  · refine exec_unchanged (f := fun u => doReleaseDone u n.toNat) rfl (if_neg fun h => ?_)
    obtain hrel | hpins := hnot
    · exact absurd h.1 (by simp [hrel])
    · exact hpins h.2

end Sys2Proof.Machine
end

section
/-! SUPPORT. The budget, and a port that leaves it or asks for it (R78, R87, R88). -/

namespace Sys2Proof.Machine

/-! ### The counted rates -/

/-- The sum over ports that are as they were is as it was, where those left out by `qs` and no longer by `ps` are not admitted. -/
theorem State.admittedBut_congr {s t : State} {ps qs : List Nat}
    (hsame : ∀ q < 8, q ∉ ps → t.flag (Reg.DPI_PORT_STAT_ADMITTED q) = s.flag (Reg.DPI_PORT_STAT_ADMITTED q) ∧ (t.ip q).msa = (s.ip q).msa)
    (hout : ∀ q ∈ ps, q ∈ qs ∨ t.flag (Reg.DPI_PORT_STAT_ADMITTED q) = false) (hsub : qs ⊆ ps) : t.admittedBut qs = s.admittedBut ps := by
  have hports : ∀ q ∈ List.range 8, (t.flag (Reg.DPI_PORT_STAT_ADMITTED q) && !qs.contains q) =
      (s.flag (Reg.DPI_PORT_STAT_ADMITTED q) && !ps.contains q) := by
    intro q hq
    by_cases hmem : q ∈ ps
    · obtain hqs | hnot := hout q hmem
      · simp [hmem, hqs]
      · simp [hmem, hnot]
    · have hqs : q ∉ qs := fun h => hmem (hsub h)
      simp [hmem, hqs, (hsame q (List.mem_range.mp hq) hmem).1]
  unfold State.admittedBut
  rw [List.filter_congr hports]
  refine congrArg List.sum (List.map_congr_left fun q hq => ?_)
  obtain ⟨hq8, hq'⟩ := List.mem_filter.mp hq
  have hmem : q ∉ ps := by
    simp only [Bool.and_eq_true, Bool.not_eq_true', List.contains_eq_mem, decide_eq_false_iff_not] at hq'
    exact hq'.2
  unfold State.portCounted
  rw [(hsame q (List.mem_range.mp hq8) hmem).2]

/-- A port that is admitted adds its rate to that of the others. -/
theorem State.admittedBut_nil {s : State} {p : Nat} (hp : p < 8) (hadm : s.flag (Reg.DPI_PORT_STAT_ADMITTED p) = true) :
    s.admittedBut [] = s.admittedBut [p] + s.portCounted p := by
  have hmem : p ∈ (List.range 8).filter fun q => s.flag (Reg.DPI_PORT_STAT_ADMITTED q) && !([] : List Nat).contains q := by simp [hp, hadm]
  have hperm := List.perm_cons_erase hmem
  rw [((List.nodup_range (n := 8)).filter _).erase_eq_filter, List.filter_filter] at hperm
  unfold State.admittedBut
  rw [(hperm.map s.portCounted).sum_eq, List.map_cons, List.sum_cons, Nat.add_comm]
  congr 3
  refine List.filter_congr fun q _ => ?_
  simp [Bool.and_comm, bne, beq_eq_decide]

theorem Admits.admittedBut {Q : Nat → Prop} {s t : State} {ps qs : List Nat} (h : Admits Q s t) (hQ : ∀ q, Q q → q ∈ ps)
    (hout : ∀ q ∈ ps, q ∈ qs ∨ t.flag (Reg.DPI_PORT_STAT_ADMITTED q) = false) (hsub : qs ⊆ ps) : t.admittedBut qs = s.admittedBut ps :=
  State.admittedBut_congr (fun q _ hq => ⟨h.slots.flag (a := .admitted) fun hW => hW.elim nofun fun hW => hq (hQ q hW.1), h.msa q⟩) hout hsub

theorem State.recount_used (s : State) : s.recount.rd Reg.DPI_BUDGET_USED = s.admittedBut [] % 2 ^ 24 := State.rd_wr_self _ _ _ (by decide)

/-! ### Ports that are refused and admitted -/

theorem State.turnedDown_slot (s : State) (p reason : Nat) (b : PortSlot) (q : Nat) : (s.turnedDown p reason).rd (b.fld q) =
    if .admitted = b ∧ p = q then 0 else if .reason = b ∧ p = q then reason % 2 ^ (b.fld q).width else s.rd (b.fld q) := by
  have hregs : (s.turnedDown p reason).regs = ((s.wr (PortSlot.reason.fld p) reason).wr (PortSlot.admitted.fld p) 0).regs := State.cutFrame_regs _ p
  have hrd := State.rd_of_find (f := b.fld q) (congrArg (Tab.find · (b.fld q).addr) hregs)
  rw [hrd, State.rd_wr_slot, State.rd_wr_slot, Nat.zero_mod]

/-- A port that is refused shows the reason, is not admitted, and asks again where the budget was short (R78, R88). -/
theorem State.refusePort_spec (s : State) (p reason : Nat) :
    (s.refusePort p reason).flag (Reg.DPI_PORT_STAT_ADMITTED p) = false ∧
    (s.refusePort p reason).rd (Reg.DPI_PORT_STAT_REASON p) = reason % 16 ∧
    (s.refusePort p reason).rd Reg.DPI_BUDGET_USED = s.admittedBut [p] % 2 ^ 24 ∧
    ((s.refusePort p reason).ip p).asking = (reason == 4) := by
  have hshows : Shows (ResetSlot p) (s.turnedDown p reason).recount (s.refusePort p reason) := State.resetPatches_shows _ p
  have hslot (b : PortSlot) (hb : b ≠ .live) (hb' : b.ofPatch = false) :
      (s.refusePort p reason).rd (b.fld p) = (s.turnedDown p reason).rd (b.fld p) :=
    (hshows.slots b p (by simp [ResetSlot, hb, hb'])).trans (State.rd_wr_used _ _ b p)
  have hadm : (s.turnedDown p reason).rd (PortSlot.admitted.fld p) = 0 := (s.turnedDown_slot p reason .admitted p).trans (if_pos ⟨rfl, rfl⟩)
  have hothers : (s.turnedDown p reason).admittedBut [] = s.admittedBut [p] := by
    refine ((Admits.refl (· = p) s).turnedDown reason rfl).admittedBut (fun q hq => List.mem_singleton.mpr hq) (fun q hq => ?_) (List.nil_subset _)
    obtain rfl := List.mem_singleton.mp hq
    exact .inr (congrArg (· == 1) hadm)
  refine ⟨?_, ?_, ?_, ?_⟩
  · exact congrArg (· == 1) ((hslot .admitted nofun rfl).trans hadm)
  · exact (hslot .reason nofun rfl).trans ((s.turnedDown_slot p reason .reason p).trans ((if_neg nofun).trans (if_pos ⟨rfl, rfl⟩)))
  · rw [hshows.used, State.recount_used, hothers]
  · have hasking : ((s.turnedDown p reason).ip p).asking = (reason == 4) := congrArg IntakePort.asking (State.setIp_ip_self _ p _)
    exact (congrArg IntakePort.asking (hshows.still p)).trans hasking

/-- A port whose rate the budget holds is admitted, and USED counts it (R87, R88). -/
theorem State.grant_of_fits {s : State} {p total : Nat} (hp : p < 8) (htotal : s.portCounted p = total) (hfits : s.admittedBut [p] + total ≤ 6400000) :
    (s.grant [p] total).flag (Reg.DPI_PORT_STAT_ADMITTED p) = true ∧ (s.grant [p] total).rd (Reg.DPI_PORT_STAT_REASON p) = 0 ∧
    (s.grant [p] total).rd Reg.DPI_BUDGET_USED = s.admittedBut [p] + total := by
  generalize hu : ((s.wr (PortSlot.admitted.fld p) 1).wr (PortSlot.reason.fld p) 0).setIp p (fun x => { x with asking := false }) = u
  have heq : s.grant [p] total = u.recount := by
    rw [State.grant, if_pos hfits, ← hu]
    rfl
  have hslot (b : PortSlot) : u.rd (b.fld p) = if .reason = b ∧ p = p then 0 else if .admitted = b ∧ p = p then 1 % 2 ^ (b.fld p).width else s.rd (b.fld p) := by
    rw [← hu, State.setIp_rd, State.rd_wr_slot, State.rd_wr_slot, Nat.zero_mod]
  have hadm : u.flag (Reg.DPI_PORT_STAT_ADMITTED p) = true := congrArg (· == 1) ((hslot .admitted).trans ((if_neg nofun).trans (if_pos ⟨rfl, rfl⟩)))
  have hadmits : Admits (· = p) s u := by
    rw [← hu]
    have hp' : p = p := rfl
    exact (((Admits.refl (· = p) s).wr .admitted 1 hp' rfl).wr .reason 0 hp' rfl).setIp hp'
  have hothers : u.admittedBut [p] = s.admittedBut [p] :=
    hadmits.admittedBut (fun q hq => List.mem_singleton.mpr hq) (fun q hq => .inl hq) (List.Subset.refl _)
  have hown : u.portCounted p = total := by
    rw [← htotal]
    unfold State.portCounted
    rw [hadmits.msa]
  rw [heq]
  refine ⟨(congrArg (· == 1) (State.rd_wr_used u _ .admitted p)).trans hadm, (State.rd_wr_used u _ .reason p).trans ((hslot .reason).trans (if_pos ⟨rfl, rfl⟩)), ?_⟩
  rw [State.recount_used, State.admittedBut_nil hp hadm, hothers, hown]
  exact Nat.mod_eq_of_lt (Nat.lt_of_le_of_lt hfits (by decide))

/-! ### Ports that leave the budget -/

/-- One port of those that leave the budget is neither admitted nor paired, writes no surface and does not ask (R88, R100). -/
def State.withdrawn (s : State) (q : Nat) : State :=
  (((s.wr (Reg.DPI_PORT_STAT_ADMITTED q) 0).wr (Reg.DPI_PORT_STAT_PAIRED q) 0).cutFrame q).setIp q
    fun x => { x with asking := false, allChanged := true, skewed := false }

theorem Admits.withdrawn {Q : Nat → Prop} {s t : State} {q : Nat} (h : Admits Q s t) (hq : Q q) : Admits Q s (t.withdrawn q) := by
  unfold State.withdrawn
  exact (((h.wr .admitted 0 hq rfl).wr .paired 0 hq rfl).cutFrame hq).setIp hq

/-- A port is out of the budget: not admitted, not asking, and writing no surface. -/
structure OutOfBudget (p : Nat) (s : State) : Prop where
  admitted : s.flag (Reg.DPI_PORT_STAT_ADMITTED p) = false
  asking : (s.ip p).asking = false
  writing : (s.ip p).writing = none

theorem OutOfBudget.admits {Q : Nat → Prop} {s t : State} {p : Nat} (h : OutOfBudget p s) (k : Admits Q s t) (hp : ¬ Q p) : OutOfBudget p t := by
  have hasking : (t.ip p).asking = (s.ip p).asking := (congrArg IntakePort.asking (k.still p hp) :)
  have hwriting : (t.ip p).writing = (s.ip p).writing := (congrArg IntakePort.writing (k.still p hp) :)
  exact ⟨(k.slots.flag (a := .admitted) fun hW => hW.elim nofun fun hW => hp hW.1).trans h.admitted, hasking.trans h.asking, hwriting.trans h.writing⟩

theorem State.outOfBudget_withdrawn (s : State) (q : Nat) : OutOfBudget q (s.withdrawn q) := by
  have hip : (s.withdrawn q).ip q = { s.ip q with writing := none, frame := none, asking := false, allChanged := true, skewed := false } := by
    rw [State.withdrawn, State.setIp_ip_self, State.cutFrame_ip]
    rfl
  have hregs : (s.withdrawn q).regs = ((s.wr (PortSlot.admitted.fld q) 0).wr (PortSlot.paired.fld q) 0).regs := State.cutFrame_regs _ q
  have hadm : (s.withdrawn q).flag (PortSlot.admitted.fld q) = ((s.wr (PortSlot.admitted.fld q) 0).wr (PortSlot.paired.fld q) 0).flag (PortSlot.admitted.fld q) :=
    (Touches.of_regs (W := fun _ _ => False) hregs).flag id
  refine ⟨hadm.trans ?_, by rw [hip], by rw [hip]⟩
  rw [State.flag_wr_slot, if_neg nofun, State.flag_wr_slot, if_pos ⟨rfl, rfl⟩]
  rfl

/-- The ports that leave the budget with a port: itself and the partner with which it runs. -/
def State.leavers (s : State) (p : Nat) : List Nat := p :: (s.runsWith p).toList

theorem State.leavers_nodup (s : State) (p : Nat) : (s.leavers p).Nodup := by
  unfold State.leavers State.runsWith
  split
  · simpa using (partnerOf_ne p).symm
  · simp

/-- A port and its partner have left the budget, and the port has no video; the budget is not counted again yet. -/
def State.departed (s : State) (p : Nat) : State := (s.forAll (s.leavers p) State.withdrawn).setIp p fun x => { x with msa := none }

theorem State.withdrawn_admits (s : State) (p : Nat) : Admits (· ∈ s.leavers p) s (s.forAll (s.leavers p) State.withdrawn) :=
  (Admits.refl _ s).forAll fun _ _ hq hu => hu.withdrawn hq

theorem State.departed_ip (s : State) (p : Nat) : (s.departed p).ip p = { (s.forAll (s.leavers p) State.withdrawn).ip p with msa := none } :=
  State.setIp_ip_self _ _ _

/-- Every port that leaves the budget with another is out of it. -/
theorem State.departed_out (s : State) {p q : Nat} (hq : q ∈ s.leavers p) : OutOfBudget q (s.departed p) := by
  have hout : OutOfBudget q (s.forAll (s.leavers p) State.withdrawn) :=
    State.forAll_at (R := fun _ => True) hq (s.leavers_nodup p) trivial (fun _ _ _ _ _ => trivial) (fun t _ => t.outOfBudget_withdrawn q)
      fun t r _ hr ht => ht.admits ((Admits.refl (· = r) t).withdrawn rfl) (Ne.symm hr)
  by_cases hqp : p = q
  · subst hqp
    have hip := s.departed_ip p
    exact ⟨hout.admitted, by rw [hip]; exact hout.asking, by rw [hip]; exact hout.writing⟩
  · have hip : (s.departed p).ip q = (s.forAll (s.leavers p) State.withdrawn).ip q := State.setIp_ip_ne _ _ hqp
    exact ⟨hout.admitted, by rw [hip]; exact hout.asking, by rw [hip]; exact hout.writing⟩

theorem OutOfBudget.shows {p q : Nat} {s t : State} (h : OutOfBudget q s) (k : Shows (ResetSlot p) s t) : OutOfBudget q t := by
  have hasking : (t.ip q).asking = (s.ip q).asking := (congrArg IntakePort.asking (k.still q) :)
  have hwriting : (t.ip q).writing = (s.ip q).writing := (congrArg IntakePort.writing (k.still q) :)
  exact ⟨(k.slots.flag (a := .admitted) (by simp [ResetSlot, PortSlot.ofPatch])).trans h.admitted, hasking.trans h.asking, hwriting.trans h.writing⟩

theorem OutOfBudget.recount {q : Nat} {s : State} (h : OutOfBudget q s) : OutOfBudget q s.recount :=
  ⟨(congrArg (· == 1) (s.rd_wr_used _ .admitted q)).trans h.admitted, h.asking, h.writing⟩

/-- What the link of a port has set up: its DPCD, the pulses of IRQ_HPD and HPD. -/
def IntakePort.wired (x : IntakePort) : Tab Byte × Nat × Bool := x.source.2

/-- A port that has left the budget, before refused ports ask again. -/
def State.vacated (s : State) (p : Nat) : State := (s.departed p).recount.resetPatches p

theorem State.vacated_shows (s : State) (p : Nat) : Shows (ResetSlot p) (s.departed p).recount (s.vacated p) := State.resetPatches_shows _ p

theorem State.vacated_out (s : State) {p q : Nat} (hq : q ∈ s.leavers p) : OutOfBudget q (s.vacated p) :=
  (s.departed_out hq).recount.shows (s.vacated_shows p)

theorem State.vacated_msa (s : State) (p : Nat) : ((s.vacated p).ip p).msa = none :=
  (congrArg IntakePort.msa ((s.vacated_shows p).still p) :).trans (congrArg IntakePort.msa (s.departed_ip p))

theorem State.vacated_link (s : State) (p : Nat) : (s.vacated p).rd (Reg.DPI_PORT_STAT_LINK p) = s.rd (Reg.DPI_PORT_STAT_LINK p) :=
  ((s.vacated_shows p).slots .link p (by simp [ResetSlot, PortSlot.ofPatch])).trans <|
    (State.rd_wr_used (s.departed p) _ .link p).trans ((s.withdrawn_admits p).slots .link p (by simp [PortSlot.ofAdmission]))

theorem State.vacated_wired (s : State) (p : Nat) : ((s.vacated p).ip p).wired = (s.ip p).wired := by
  have hdeparted : ((s.departed p).ip p).wired = ((s.forAll (s.leavers p) State.withdrawn).ip p).wired := by
    rw [s.departed_ip p]
    rfl
  exact (congrArg Prod.snd (IntakePort.source_of_still ((s.vacated_shows p).still p))).trans
    (hdeparted.trans (congrArg Prod.snd ((s.withdrawn_admits p).source p)))

/-- A port that leaves the budget has no video, is not admitted, writes no surface and has no LIVE patch; its link stays (R88, R100, R108). -/
theorem State.leaveBudget_spec (s : State) (p : Nat) : ((s.leaveBudget p).ip p).msa = none ∧ OutOfBudget p (s.leaveBudget p) ∧
    (∀ i < 4, (s.leaveBudget p).flag (Reg.DPI_TT_STAT_LIVE p i) = false) ∧
    (s.leaveBudget p).rd (Reg.DPI_PORT_STAT_LINK p) = s.rd (Reg.DPI_PORT_STAT_LINK p) ∧ ((s.leaveBudget p).ip p).wired = (s.ip p).wired := by
  have hout : OutOfBudget p (s.vacated p) := s.vacated_out (List.mem_cons_self ..)
  have hagain : Admits (· ≠ p) (s.vacated p) (s.leaveBudget p) := Admits.askAgain _ (s.vacated_msa p) hout.asking
  refine ⟨(hagain.msa p).trans (s.vacated_msa p), hout.admits hagain (by simp), fun i hi => ?_, ?_, ?_⟩
  · exact (hagain.slots.flag (a := .patchLive ⟨i, hi⟩) (by simp)).trans (State.resetPatches_patchLive _ p hi)
  · exact (hagain.slots .link p (by simp)).trans (s.vacated_link p)
  · exact (congrArg Prod.snd (hagain.source p)).trans (s.vacated_wired p)

/-- Where no other port asks, USED is the sum over the ports that are still admitted (R87, R88). -/
theorem State.leaveBudget_used (s : State) (p : Nat) (h : ∀ q < 8, q ≠ p → (s.ip q).asking = false) :
    (s.leaveBudget p).rd Reg.DPI_BUDGET_USED = s.admittedBut (p :: (s.runsWith p).toList) % 2 ^ 24 := by
  have hquiet : ∀ q < 8, ((s.vacated p).ip q).asking = false := by
    intro q hq
    by_cases hmem : q ∈ s.leavers p
    · exact (s.vacated_out hmem).asking
    · have hqp : q ≠ p := fun hqp => hmem (hqp ▸ List.mem_cons_self ..)
      have hstill : ((s.vacated p).ip q).asking = ((s.departed p).ip q).asking := (congrArg IntakePort.asking ((s.vacated_shows p).still q) :)
      have hdeparted : (s.departed p).ip q = (s.forAll (s.leavers p) State.withdrawn).ip q := State.setIp_ip_ne _ _ hqp.symm
      have hbefore : ((s.forAll (s.leavers p) State.withdrawn).ip q).asking = (s.ip q).asking :=
        (congrArg IntakePort.asking ((s.withdrawn_admits p).still q hmem) :)
      rw [hstill, hdeparted, hbefore, h q hq hqp]
  have hsum : (s.departed p).admittedBut [] = s.admittedBut (s.leavers p) := by
    refine State.admittedBut_congr (fun q _ hmem => ⟨?_, ?_⟩) (fun q hq => .inr (s.departed_out hq).admitted) (List.nil_subset _)
    · exact (s.withdrawn_admits p).slots.flag (a := .admitted) fun hW => hW.elim nofun fun hW => hmem hW.1
    · have hqp : q ≠ p := fun hqp => hmem (hqp ▸ List.mem_cons_self ..)
      exact (congrArg IntakePort.msa (State.setIp_ip_ne _ _ hqp.symm)).trans ((s.withdrawn_admits p).msa q)
  have heq : s.leaveBudget p = s.vacated p := (s.vacated p).askAgain_of_not_asking hquiet
  rw [heq, (s.vacated_shows p).used, State.recount_used, hsum]
  rfl

/-! ### Video that begins -/

/-- What a port shows of its source (R88). -/
def shownOf (m : Msa) : List (PortSlot × Nat) :=
  [(.hActive, m.hActive.toNat), (.vActive, m.vActive.toNat), (.format, m.format), (.bpc, bpcCode m.bpc), (.counted, msaCounted m), (.link, 4)]

/-- A port has taken the attributes of its source (R88). -/
def State.videoSet (s : State) (p : Nat) (m : Msa) : State := (s.wrSlots p (shownOf m)).setIp p fun x => { x with msa := some m, allChanged := true }

theorem State.startVideo_eq (s : State) (p : Nat) (m : Msa) : s.startVideo p m = (s.videoSet p m).askAdmission p := rfl

theorem State.videoSet_msa (s : State) (p : Nat) (m : Msa) : ((s.videoSet p m).ip p).msa = some m := congrArg IntakePort.msa (State.setIp_ip_self _ _ _)

theorem State.videoSet_slot (s : State) (p : Nat) {m : Msa} {a : PortSlot} {v : Nat} (h : (a, v) ∈ shownOf m) :
    (s.videoSet p m).rd (a.fld p) = v % 2 ^ (a.fld p).width := by
  rw [State.videoSet, State.setIp_rd, State.rd_wrSlots_of_mem s (by simp [shownOf]) h]

/-- What a source sets up in one port leaves the rates of the others. -/
theorem State.videoSet_others (s : State) (p : Nat) (m : Msa) : (s.videoSet p m).admittedBut [p] = s.admittedBut [p] := by
  refine State.admittedBut_congr (fun q _ hq => ?_) (fun q hq => .inl hq) (List.Subset.refl _)
  have hpq : p ≠ q := fun hpq => hq (List.mem_singleton.mpr hpq.symm)
  have hadm : (s.videoSet p m).rd (PortSlot.admitted.fld q) = s.rd (PortSlot.admitted.fld q) := by
    rw [State.videoSet, State.setIp_rd, State.rd_wrSlots_of_notMem s fun h => absurd h hpq]
  exact ⟨congrArg (· == 1) hadm, congrArg IntakePort.msa (State.setIp_ip_ne _ _ hpq)⟩

theorem msaReason_lt (m : Msa) : msaReason m < 16 := by
  unfold msaReason
  dsimp only
  split_ifs <;> decide

theorem State.askAdmission_of_reason {s : State} {p : Nat} {m : Msa} (hm : (s.ip p).msa = some m) (h : msaReason m ≠ 0) :
    s.askAdmission p = s.refusePort p (msaReason m) := by
  simp [State.askAdmission, hm, h]

theorem State.askAdmission_of_single {s : State} {p : Nat} {m : Msa} (hm : (s.ip p).msa = some m) (h : msaReason m = 0) (hpair : s.pairOf p = none) :
    s.askAdmission p = s.grant [p] (msaCounted m) := by
  simp [State.askAdmission, hm, h, hpair]

/-- Video that begins is shown with its timing and rate, and refused where its own attributes are (R78, R88). -/
theorem State.startVideo_spec (s : State) (p : Nat) (m : Msa) :
    let t := s.startVideo p m
    t.rd (Reg.DPI_PORT_STAT_LINK p) = 4 ∧ (t.ip p).msa = some m ∧ t.rd (Reg.DPI_PORT_TIMING_H_ACTIVE p) = m.hActive.toNat % 8192 ∧
      t.rd (Reg.DPI_PORT_TIMING_V_ACTIVE p) = m.vActive.toNat % 8192 ∧ t.rd (Reg.DPI_PORT_RATE_RATE p) = msaCounted m % 2 ^ 24 ∧
      (msaReason m ≠ 0 → t.flag (Reg.DPI_PORT_STAT_ADMITTED p) = false ∧ t.rd (Reg.DPI_PORT_STAT_REASON p) = msaReason m) := by
  have hmsa := s.videoSet_msa p m
  have hasks : Admits (fun _ => True) (s.videoSet p m) ((s.videoSet p m).askAdmission p) := (Admits.refl _ _).askAdmission trivial fun _ => trivial
  have hslot {a : PortSlot} {v : Nat} (h : (a, v) ∈ shownOf m) (hlive : a ≠ .live) (hadm : a.ofAdmission = false) :
      ((s.videoSet p m).askAdmission p).rd (a.fld p) = v % 2 ^ (a.fld p).width :=
    (hasks.slots a p (by simp [hlive, hadm])).trans (s.videoSet_slot p h)
  rw [State.startVideo_eq]
  refine ⟨hslot (a := .link) (v := 4) (by simp [shownOf]) nofun rfl, (hasks.msa p).trans hmsa, hslot (a := .hActive) (by simp [shownOf]) nofun rfl,
    hslot (a := .vActive) (by simp [shownOf]) nofun rfl, hslot (a := .counted) (by simp [shownOf]) nofun rfl, fun hreason => ?_⟩
  obtain ⟨hadm, hshown, _⟩ := (s.videoSet p m).refusePort_spec p (msaReason m)
  rw [State.askAdmission_of_reason hmsa hreason]
  exact ⟨hadm, hshown.trans (Nat.mod_eq_of_lt (msaReason_lt m))⟩

/-- Good video of a port on its own is admitted where the budget holds it, and refused with reason 4 where not (R87, R88). -/
theorem State.startVideo_of_single {s : State} {p : Nat} {m : Msa} (hp : p < 8) (hgood : msaReason m = 0) (hpair : s.pairOf p = none) :
    let t := s.startVideo p m
    (s.admittedBut [p] + msaCounted m ≤ 6400000 → t.flag (Reg.DPI_PORT_STAT_ADMITTED p) = true ∧ t.rd (Reg.DPI_PORT_STAT_REASON p) = 0 ∧
      t.rd Reg.DPI_BUDGET_USED = s.admittedBut [p] + msaCounted m) ∧
    (6400000 < s.admittedBut [p] + msaCounted m → t.flag (Reg.DPI_PORT_STAT_ADMITTED p) = false ∧ t.rd (Reg.DPI_PORT_STAT_REASON p) = 4 ∧
      t.rd Reg.DPI_BUDGET_USED = s.admittedBut [p] % 2 ^ 24 ∧ (t.ip p).asking = true) := by
  have hmsa := s.videoSet_msa p m
  have hcounted : (s.videoSet p m).portCounted p = msaCounted m := by
    unfold State.portCounted
    rw [hmsa]
  dsimp only
  rw [State.startVideo_eq, State.askAdmission_of_single hmsa hgood hpair, ← s.videoSet_others p m]
  refine ⟨fun hfits => State.grant_of_fits hp hcounted hfits, fun hover => ?_⟩
  have heq : (s.videoSet p m).grant [p] (msaCounted m) = (s.videoSet p m).refusePort p 4 := if_neg (Nat.not_le_of_lt hover)
  rw [heq]
  exact (s.videoSet p m).refusePort_spec p 4

end Sys2Proof.Machine
end

section
/-! SUPPORT. The links of intake ports: EDID and DPCD, training and loss, and the deadline of a patch (R79 to R82, R107). -/

namespace Sys2Proof.Machine

/-! ### EDID and DPCD -/

theorem State.dpcdByte_of_link {s : State} {p a : Nat} (hlow : 0x200 < a ∨ 0x100 ≤ a ∧ a < 0x200) (hhigh : a < 0x300) :
    s.dpcdByte p a = (Tab.find (s.ip p).dpcd a).getD 0 := by
  rw [State.dpcdByte, if_neg (by omega), if_neg (by omega), if_pos hhigh]

/-- A byte that a source writes lands in the link fields, and clears bits of 0x201 (R80). -/
theorem doDpcdAccess_write {s : State} {p a : Nat} (v : Byte) (hhpd : (s.ip p).hpd = true) (hlow : 0x100 ≤ a) (hhigh : a < 0x300)
    (hro : dpcdReadOnly a = false) : (doDpcdAccess s p a (some v)).dpcdByte p a = if a = 0x201 then s.dpcdByte p a &&& ~~~v else v := by
  have hne : a ≠ 0x200 := by
    rintro rfl
    cases hro
  have hlink : 0x200 < a ∨ 0x100 ≤ a ∧ a < 0x200 := by omega
  have hlands : ¬ (a < 0x100 ∨ 0x300 ≤ a ∨ dpcdReadOnly a = true) := by
    rw [hro]
    simp
    omega
  have heq : doDpcdAccess s p a (some v) =
      s.setIp p fun x => { x with dpcd := Tab.put x.dpcd a (if a = 0x201 then (Tab.find x.dpcd a).getD 0 &&& ~~~v else v) } := by
    simp only [doDpcdAccess, hhpd, Bool.not_true, Bool.false_eq_true, if_false, if_neg hlands]
  rw [State.dpcdByte_of_link hlink hhigh, heq, State.setIp_ip_self, Tab.find_put_self, State.dpcdByte_of_link hlink hhigh]
  rfl

/-! ### Training and loss of a link -/

theorem State.setLaneStatus_ip (s : State) (p lanes : Nat) : (s.setLaneStatus p lanes).ip p =
    { s.ip p with dpcd := (laneStatus lanes).zipIdx.foldl (fun t e => Tab.put t (0x202 + e.2) e.1) (s.ip p).dpcd } := State.setIp_ip_self _ _ _

@[simp] theorem State.setLaneStatus_rd (s : State) (p lanes : Nat) (f : Fld) : (s.setLaneStatus p lanes).rd f = s.rd f := rfl
@[simp] theorem State.setLaneStatus_flag (s : State) (p lanes : Nat) (f : Fld) : (s.setLaneStatus p lanes).flag f = s.flag f := rfl

/-- A link without lanes clears the lane status (R82). -/
theorem State.setLaneStatus_zero (s : State) (p : Nat) : ∀ a ∈ [0x202, 0x203, 0x204], Tab.find ((s.setLaneStatus p 0).ip p).dpcd a = some 0 := by
  have hdpcd : ((s.setLaneStatus p 0).ip p).dpcd = Tab.put (Tab.put (Tab.put (s.ip p).dpcd 0x202 0) 0x203 0) 0x204 0 :=
    congrArg IntakePort.dpcd (s.setLaneStatus_ip p 0)
  rw [hdpcd]
  simp [Tab.find_put_ne]

/-- What a port shows as a training goes on (R81). -/
def adaptingOf (r : DpTraining) : List (PortSlot × Nat) :=
  [(.fom 0, (r.fom.getD 0 0).toNat), (.fom 1, (r.fom.getD 1 0).toNat), (.fom 2, (r.fom.getD 2 0).toNat), (.fom 3, (r.fom.getD 3 0).toNat), (.link, 2)]

theorem State.adapting_spec (s : State) (p : Nat) (r : DpTraining) :
    ((s.wrSlots p (adaptingOf r)).resetPatches p).rd (Reg.DPI_PORT_STAT_LINK p) = 2 ∧
    ((s.wrSlots p (adaptingOf r)).resetPatches p).rd (Reg.DPI_PORT_FOM_FOM_0 p) = (r.fom.getD 0 0).toNat := by
  have hshows := (s.wrSlots p (adaptingOf r)).resetPatches_shows p
  have hslot {a : PortSlot} {v : Nat} (h : (a, v) ∈ adaptingOf r) : (s.wrSlots p (adaptingOf r)).rd (a.fld p) = v % 2 ^ (a.fld p).width :=
    s.rd_wrSlots_of_mem (by simp [adaptingOf]) h
  refine ⟨(hshows.slots .link p (by simp [ResetSlot, PortSlot.ofPatch])).trans (hslot (v := 2) (by simp [adaptingOf])),
    (hshows.slots (.fom 0) p (by simp [ResetSlot, PortSlot.ofPatch])).trans ((hslot (a := .fom 0) (v := (r.fom.getD 0 0).toNat) (by simp [adaptingOf])).trans ?_)⟩
  exact Nat.mod_eq_of_lt (BitVec.isLt _)

/-- The state in which a training ends or goes on: no patch of the port is LIVE and the lane status is clear (R80, R81, R108). -/
def State.trainingOf (s : State) (p : Nat) (r : DpTraining) : State :=
  (((if s.rd (Reg.DPI_PORT_STAT_LINK p) = 4 then s.leaveBudget p else s).wrSlots p (adaptingOf r)).resetPatches p).setLaneStatus p 0

theorem State.trainingOf_spec (s : State) (p : Nat) (r : DpTraining) : (s.trainingOf p r).rd (Reg.DPI_PORT_STAT_LINK p) = 2 ∧
    (s.trainingOf p r).rd (Reg.DPI_PORT_FOM_FOM_0 p) = (r.fom.getD 0 0).toNat ∧ ∀ i < 4, (s.trainingOf p r).flag (Reg.DPI_TT_STAT_LIVE p i) = false := by
  unfold State.trainingOf
  generalize (if s.rd (Reg.DPI_PORT_STAT_LINK p) = 4 then s.leaveBudget p else s) = u
  simp only [State.setLaneStatus_rd, State.setLaneStatus_flag]
  obtain ⟨hlink, hfom⟩ := u.adapting_spec p r
  exact ⟨hlink, hfom, fun _ hi => State.resetPatches_patchLive _ p hi⟩

/-- What a port shows of a link that is trained (R81). -/
def trainedOf (r : DpTraining) : List (PortSlot × Nat) := [(.linkRate, r.rate.toNat), (.lanes, r.lanes.toNat), (.link, 3)]

/-- The link is trained, at the rate and on the lanes that the training found (R80, R81). -/
def State.trained (s : State) (p : Nat) (r : DpTraining) : State := (s.wrSlots p (trainedOf r)).setLaneStatus p r.lanes.toNat

theorem State.trained_slot (s : State) (p : Nat) {r : DpTraining} {a : PortSlot} {v : Nat} (h : (a, v) ∈ trainedOf r) :
    (s.trained p r).rd (a.fld p) = v % 2 ^ (a.fld p).width := by
  rw [State.trained, State.setLaneStatus_rd, State.rd_wrSlots_of_mem s (by simp [trainedOf]) h]

theorem State.trained_other (s : State) (p : Nat) {r : DpTraining} {a : PortSlot} (h : a ∉ (trainedOf r).map (·.1)) :
    (s.trained p r).rd (a.fld p) = s.rd (a.fld p) := by
  rw [State.trained, State.setLaneStatus_rd, State.rd_wrSlots_of_notMem s fun _ => h]

/-- What a training does, by its figures and by whether the source can give more and has ended it (R81). -/
theorem doDpLinkTraining_of_hpd {s : State} {p : Nat} (r : DpTraining) (hhpd : (s.ip p).hpd = true) : doDpLinkTraining s p r =
    if ((r.fom.any fun f => decide (f.toNat < s.ac (Reg.DPI_PORT_CFG_FOM_MIN p))) && !r.highest) = true then
      (s.trainingOf p r).setIp p fun x => { x with dpcd := Tab.put (Tab.put x.dpcd 0x206 (adjustByte r.level)) 0x207 (adjustByte r.level) }
    else if r.done = true then (s.trainingOf p r).trained p r
    else s.trainingOf p r := by
  rw [doDpLinkTraining, hhpd]
  rfl

theorem doDpLinkTraining_spec {s : State} {p : Nat} (r : DpTraining) (hhpd : (s.ip p).hpd = true) :
    let low := r.fom.any fun f => decide (f.toNat < s.ac (Reg.DPI_PORT_CFG_FOM_MIN p))
    let t := doDpLinkTraining s p r
    (∀ i < 4, t.flag (Reg.DPI_TT_STAT_LIVE p i) = false) ∧ t.rd (Reg.DPI_PORT_FOM_FOM_0 p) = (r.fom.getD 0 0).toNat ∧
      (low = true → r.highest = false → t.rd (Reg.DPI_PORT_STAT_LINK p) = 2 ∧ Tab.find (t.ip p).dpcd 0x206 = some (adjustByte r.level) ∧
        Tab.find (t.ip p).dpcd 0x207 = some (adjustByte r.level)) ∧
      ((low = false ∨ r.highest = true) → t.rd (Reg.DPI_PORT_STAT_LINK p) = (if r.done then 3 else 2) ∧
        (r.done = true → t.rd (Reg.DPI_PORT_STAT_RATE p) = r.rate.toNat % 4 ∧ t.rd (Reg.DPI_PORT_STAT_LANES p) = r.lanes.toNat % 4)) := by
  obtain ⟨hlink, hfom, hlive⟩ := s.trainingOf_spec p r
  dsimp only
  rw [doDpLinkTraining_of_hpd r hhpd]
  generalize s.trainingOf p r = u at hlink hfom hlive ⊢
  generalize (r.fom.any fun f => decide (f.toNat < s.ac (Reg.DPI_PORT_CFG_FOM_MIN p))) = low
  by_cases hmore : (low && !r.highest) = true
  · have hdpcd (x : IntakePort) (a : Nat) (ha : a = 0x206 ∨ a = 0x207) :
        Tab.find (Tab.put (Tab.put x.dpcd 0x206 (adjustByte r.level)) 0x207 (adjustByte r.level)) a = some (adjustByte r.level) := by
      obtain rfl | rfl := ha
      · rw [Tab.find_put_ne _ _ (by decide), Tab.find_put_self]
      · rw [Tab.find_put_self]
    simp only [if_pos hmore, State.setIp_ip_self]
    refine ⟨hlive, hfom, fun _ _ => ⟨hlink, hdpcd _ _ (.inl rfl), hdpcd _ _ (.inr rfl)⟩, fun hnot => ?_⟩
    obtain ⟨hlow, hhigh⟩ := Bool.and_eq_true_iff.mp hmore
    obtain hnot | hnot := hnot <;> simp_all
  · rw [if_neg hmore]
    have hnever (hlow : low = true) (hhigh : r.highest = false) : False := hmore (by simp [hlow, hhigh])
    by_cases hdone : r.done = true
    · have hkept (a : PortSlot) (h : a ∉ (trainedOf r).map (·.1)) := u.trained_other p h
      have hslot {a : PortSlot} {v : Nat} (h : (a, v) ∈ trainedOf r) := u.trained_slot p h
      simp only [if_pos hdone]
      exact ⟨fun i hi => (congrArg (· == 1) (hkept (.patchLive ⟨i, hi⟩) (by simp [trainedOf]))).trans (hlive i hi),
        (hkept (.fom 0) (by simp [trainedOf])).trans hfom, fun hlow hhigh => (hnever hlow hhigh).elim, fun _ => ⟨hslot (a := .link) (v := 3)
          (by simp [trainedOf]), fun _ => ⟨hslot (a := .linkRate) (v := r.rate.toNat) (by simp [trainedOf]), hslot (a := .lanes) (v := r.lanes.toNat) (by simp [trainedOf])⟩⟩⟩
    · simp only [if_neg hdone]
      exact ⟨hlive, hfom, fun hlow hhigh => (hnever hlow hhigh).elim, fun _ => ⟨hlink, fun h => absurd h hdone⟩⟩

theorem doLinkLoss_spec {s : State} {p : Nat} (h : 2 < s.rd (Reg.DPI_PORT_STAT_LINK p)) :
    let t := doLinkLoss s p
    (∀ a ∈ [0x202, 0x203, 0x204], t.dpcdByte p a = 0) ∧ (t.ip p).irqHpd = (s.ip p).irqHpd + 1 ∧
      (s.rd (Reg.DPI_PORT_STAT_LINK p) ≠ 4 → t.regs = s.regs) ∧
      (s.rd (Reg.DPI_PORT_STAT_LINK p) = 4 → (t.ip p).msa = none ∧ t.flag (Reg.DPI_PORT_STAT_ADMITTED p) = false ∧ (t.ip p).writing = none ∧
        ∀ i < 4, t.flag (Reg.DPI_TT_STAT_LIVE p i) = false) := by
  generalize hu : s.onlyIf (s.rd (Reg.DPI_PORT_STAT_LINK p) == 4) (fun t => t.leaveBudget p) = u
  have heq : doLinkLoss s p = (u.setLaneStatus p 0).setIp p fun x => { x with irqHpd := x.irqHpd + 1 } := by
    rw [doLinkLoss, if_pos h, hu]
  have hip : (doLinkLoss s p).ip p = { (u.setLaneStatus p 0).ip p with irqHpd := (u.ip p).irqHpd + 1 } := by
    rw [heq, State.setIp_ip_self, State.setLaneStatus_ip]
  have hflag (f : Fld) : (doLinkLoss s p).flag f = u.flag f := by
    rw [heq]
    rfl
  have hwired : (u.ip p).wired = (s.ip p).wired := by
    rw [← hu, State.onlyIf]
    split
    · exact (s.leaveBudget_spec p).2.2.2.2
    · rfl
  refine ⟨fun a ha => ?_, ?_, fun hne => ?_, fun hvideo => ?_⟩
  · have hfind : Tab.find ((doLinkLoss s p).ip p).dpcd a = some 0 := by
      rw [hip]
      exact u.setLaneStatus_zero p a ha
    have hrange : 0x202 ≤ a ∧ a < 0x300 := by
      simp at ha
      omega
    rw [State.dpcdByte_of_link (.inl (by omega)) hrange.2, hfind]
    rfl
  · rw [hip]
    exact congrArg (·.2.1 + 1) hwired
  · rw [heq, ← hu, State.onlyIf, if_neg (by simpa using hne)]
    rfl
  · have hleft : u = s.leaveBudget p := by rw [← hu, State.onlyIf, if_pos (by simpa using hvideo)]
    obtain ⟨hmsa, hout, hlive, _⟩ := s.leaveBudget_spec p
    rw [← hleft] at hmsa hout hlive
    simp only [hip, hflag, State.setLaneStatus_ip]
    exact ⟨hmsa, hout.admitted, hout.writing, hlive⟩

/-! ### The end of video -/

/-- The link is trained once its video ends, and the port leaves the budget (R88). -/
theorem State.endVideo_spec (s : State) (p : Nat) :
    let t := (s.wr (Reg.DPI_PORT_STAT_LINK p) 3).leaveBudget p
    t.rd (Reg.DPI_PORT_STAT_LINK p) = 3 ∧ (t.ip p).msa = none ∧ t.flag (Reg.DPI_PORT_STAT_ADMITTED p) = false ∧
      ((∀ q < 8, q ≠ p → (s.ip q).asking = false) →
        t.rd Reg.DPI_BUDGET_USED = s.admittedBut (p :: (s.runsWith p).toList) % 2 ^ 24) := by
  have htouch : Touches (fun a _ => a = .link) s (s.wr (Reg.DPI_PORT_STAT_LINK p) 3) := Touches.wr s .link p 3 rfl
  have hlink : (s.wr (Reg.DPI_PORT_STAT_LINK p) 3).rd (Reg.DPI_PORT_STAT_LINK p) = 3 := (s.rd_wr_slot .link .link p p 3).trans (if_pos ⟨rfl, rfl⟩)
  have hpaired : (s.wr (Reg.DPI_PORT_STAT_LINK p) 3).runsWith p = s.runsWith p :=
    congrArg (fun b => if b = true then some (partnerOf p) else none) (htouch.flag (a := .paired) (p := p) nofun)
  have hsum (ps : List Nat) : (s.wr (Reg.DPI_PORT_STAT_LINK p) 3).admittedBut ps = s.admittedBut ps :=
    State.admittedBut_congr (fun q _ _ => ⟨htouch.flag (a := .admitted) nofun, rfl⟩) (fun q hq => .inl hq) (List.Subset.refl _)
  obtain ⟨hmsa, hout, _, hkept, _⟩ := (s.wr (Reg.DPI_PORT_STAT_LINK p) 3).leaveBudget_spec p
  exact ⟨hkept.trans hlink, hmsa, hout.admitted, fun hquiet => by rw [State.leaveBudget_used (s.wr (Reg.DPI_PORT_STAT_LINK p) 3) p hquiet, hpaired, hsum]⟩

/-! ### The deadline of a patch -/

theorem doPatchDeadline_spec {s : State} {p i : Nat} (hi : i < 4) (hlive : s.flag (Reg.DPI_TT_STAT_LIVE p i) = true) (hover : s.patchOverdue p i = true) :
    let t := doPatchDeadline s p i
    t.flag (Reg.DPI_TT_STAT_LIVE p i) = false ∧ (t.patch p i).run = 0 ∧ t.flag (Reg.DPI_PORT_STAT_LIVE p) = t.portLive p := by
  generalize hu : (s.wr (PortSlot.fld (.patchLive ⟨i, hi⟩) p) 0).setPatch p i (fun x => { x with run := 0 }) = u
  have heq : doPatchDeadline s p i = u.judgePort p := by
    rw [doPatchDeadline, hlive, hover, ← hu]
    rfl
  have hflag : u.flag (Reg.DPI_TT_STAT_LIVE p i) = false := by
    rw [← hu]
    exact (State.flag_wr_slot s (.patchLive ⟨i, hi⟩) (.patchLive ⟨i, hi⟩) p p 0).trans (if_pos ⟨rfl, rfl⟩)
  have hrun : (u.patch p i).run = 0 := by rw [← hu, State.setPatch_patch_self]
  have hjudged := u.judgePort_judged p
  dsimp only
  rw [heq]
  exact ⟨(hjudged.slots.flag (a := .patchLive ⟨i, hi⟩) (by simp)).trans hflag,
    (congrArg (fun l => (Tab.get l (p * 4 + i) : Patch).run) hjudged.patches).trans hrun, u.judgePort_live p⟩

/-- Settles O55: each command of a port by its own lemma, and where the link is in another state it leaves the device as it is. -/
theorem intakePortsTrainAndAreAdmitted : Obligations.IntakePortsTrainAndAreAdmitted := by
  intro s p
  refine ⟨fun blk => ⟨fun hhpd e he => ?_, fun hhpd => ?_⟩, fun a v => ⟨fun hhpd => ?_, fun hhpd hlow hhigh hro => ?_, fun hhpd hno => ?_, fun hhpd w => ?_⟩,
    fun r => ⟨fun hhpd => ?_, fun hhpd => ?_⟩, fun hlink => ?_, fun hlink => ?_,
    fun m => ⟨fun hlink => ?_, fun hno => ?_, fun i hi => ?_, fun hlink hgood hpair => ⟨fun hfits => ?_, fun hover => ?_⟩⟩, fun hlink => ?_,
    fun hlink => ?_, fun i => ⟨fun hno => ?_, fun hlive hover => ?_⟩⟩
  · refine works_of_exec (f := fun u => doEdidRead u p blk) rfl ?_
    simp only [doEdidRead, hhpd, he, if_true, Option.getD_some]
    exact ⟨rfl, rfl⟩
  · refine works_of_exec (f := fun u => doEdidRead u p blk) rfl ?_
    simp only [doEdidRead, hhpd, Bool.false_eq_true, if_false]
    rfl
  · refine works_of_exec (f := fun u => doDpcdAccess u p a.toNat none) rfl ?_
    simp only [doDpcdAccess, hhpd, Bool.not_true, Bool.false_eq_true, if_false]
    exact ⟨rfl, rfl⟩
  · exact works_of_exec (f := fun u => doDpcdAccess u p a.toNat (some v)) rfl (doDpcdAccess_write v hhpd hlow hhigh hro)
  · refine exec_unchanged (f := fun u => doDpcdAccess u p a.toNat (some v)) rfl ?_
    simp only [doDpcdAccess, hhpd, Bool.not_true, Bool.false_eq_true, if_false, if_pos hno]
  · refine works_of_exec (f := fun u => doDpcdAccess u p a.toNat w) rfl ?_
    simp only [doDpcdAccess, hhpd, Bool.not_false, if_true]
    exact ⟨rfl, rfl⟩
  · exact exec_unchanged (f := fun u => doDpLinkTraining u p r) rfl (if_pos (by simp [hhpd]))
  · exact works_of_exec (f := fun u => doDpLinkTraining u p r) rfl (doDpLinkTraining_spec r hhpd)
  · exact exec_unchanged (f := fun u => doLinkLoss u p) rfl (if_neg (Nat.not_lt_of_le hlink))
  · exact works_of_exec (f := fun u => doLinkLoss u p) rfl (doLinkLoss_spec hlink)
  · exact exec_unchanged (f := fun u => doVideoStart u p m) rfl (if_neg hlink)
  · refine exec_unchanged (f := fun u => doTimingChange u p m) rfl (if_neg fun h => ?_)
    obtain hlink | hmsa := hno
    · exact hlink h.1
    · simp [hmsa] at h
  · obtain ⟨hlink, rfl⟩ | ⟨hlink, hmsa, rfl⟩ := hi
    · refine works_of_exec (f := fun u => doVideoStart u p m) rfl ?_
      rw [doVideoStart, if_pos hlink]
      exact s.startVideo_spec p m
    · refine works_of_exec (f := fun u => doTimingChange u p m) rfl ?_
      rw [doTimingChange, if_pos ⟨hlink, Option.isSome_iff_ne_none.mpr hmsa⟩]
      exact (s.leaveBudget p).startVideo_spec p m
  · refine works_of_exec (f := fun u => doVideoStart u p m) rfl ?_
    rw [doVideoStart, if_pos hlink]
    exact (State.startVideo_of_single p.isLt hgood hpair).1 hfits
  · refine works_of_exec (f := fun u => doVideoStart u p m) rfl ?_
    rw [doVideoStart, if_pos hlink]
    exact (State.startVideo_of_single p.isLt hgood hpair).2 hover
  · exact exec_unchanged (f := fun u => doVideoStop u p) rfl (if_neg hlink)
  · refine works_of_exec (f := fun u => doVideoStop u p) rfl ?_
    rw [doVideoStop, if_pos hlink]
    exact s.endVideo_spec p
  · exact exec_unchanged (f := fun u => doPatchDeadline u p i) rfl (if_neg (by simp [hno]))
  · exact works_of_exec (f := fun u => doPatchDeadline u p i) rfl (doPatchDeadline_spec i.isLt hlive hover)

end Sys2Proof.Machine
end

section
/-! SUPPORT. The frame of a composition pass: what it reads of the device and never changes, the registers that it may change, and the operations of
other blocks, which leave Loom's state and registers as they are. -/

namespace Sys2Proof.Machine

/-! ### What a pass finds around it -/

/-- What the steps of a pass read and leave: the active copies, the memories, the Charter image, the source intake, the count, and the wheel's record of
scheduled actions. -/
structure Around where
  act : Tab Word
  dram : List Host.Cell
  sram : List Host.Cell
  flash : List Host.Cell
  charter : CharterSt
  intake : IntakeSt
  count : BitVec 64
  rate : Nat
  done : Tab Nat
  skip : Nat

def State.around (s : State) : Around :=
  ⟨s.act, s.dram, s.sram, s.flash, s.charter, s.intake, s.count, s.whl.rate, s.whl.done, s.whl.skip⟩

/-- An update that leaves what is around a pass, and of Loom's registers (R34: region 0x11) all but those at the addresses that `W` names. -/
structure Alters (W : Nat → Prop) (s t : State) : Prop where
  around : t.around = s.around
  regs : ∀ a, a / 0x1000000 = 0x11 → ¬ W a → Tab.find t.regs a = Tab.find s.regs a

section
variable {W V : Nat → Prop} {s t u : State}

theorem Alters.of_same (haround : t.around = s.around) (hregs : t.regs = s.regs) : Alters W s t := ⟨haround, fun _ _ _ => congrArg (Tab.find · _) hregs⟩

theorem Alters.refl (W : Nat → Prop) (s : State) : Alters W s s := Alters.of_same rfl rfl

theorem Alters.trans (h : Alters W s t) (k : Alters W t u) : Alters W s u :=
  ⟨k.around.trans h.around, fun a ha hW => (k.regs a ha hW).trans (h.regs a ha hW)⟩

theorem Alters.mono (h : Alters W s t) (hW : ∀ a, W a → V a) : Alters V s t := ⟨h.around, fun a ha hV => h.regs a ha fun hw => hV (hW a hw)⟩

theorem Alters.wr (h : Alters W s t) (f : Fld) (v : Nat) (hf : W f.addr) : Alters W s (t.wr f v) :=
  h.trans ⟨rfl, fun _ _ hW => t.wr_find f v fun hfa => hW (hfa ▸ hf)⟩

theorem Alters.setLoom (h : Alters W s t) (l : LoomSt) : Alters W s { t with loom := l } := h.trans (Alters.of_same rfl rfl)

theorem Alters.forAll {α : Type} {l : List α} {f : State → α → State} (h : Alters W s t) (hf : ∀ u, ∀ x ∈ l, Alters W u (f u x)) :
    Alters W s (t.forAll l f) :=
  State.forAll_keeps (Alters W s) f l t h fun u x hx hu => hu.trans (hf u x hx)

/-- A register that an update may not alter reads as before. -/
theorem Alters.rd (h : Alters W s t) {f : Fld} (hf : f.addr / 0x1000000 = 0x11) (hW : ¬ W f.addr) : t.rd f = s.rd f :=
  State.rd_of_find (h.regs _ hf hW)

theorem Alters.flag (h : Alters W s t) {f : Fld} (hf : f.addr / 0x1000000 = 0x11) (hW : ¬ W f.addr) : t.flag f = s.flag f :=
  congrArg (· == 1) (h.rd hf hW)

/-! ### What is read of the surroundings alone -/

theorem Alters.act (h : Alters W s t) : t.act = s.act := congrArg Around.act h.around

theorem Alters.ac (h : Alters W s t) : t.ac = s.ac := by
  funext f
  rw [State.ac, State.actWord, h.act]
  rfl

theorem Alters.now (h : Alters W s t) : t.now = s.now := congrArg (fun x => x.count.toNat) h.around

theorem Alters.charter (h : Alters W s t) : t.charter = s.charter := congrArg Around.charter h.around

theorem Alters.intake (h : Alters W s t) : t.intake = s.intake := congrArg Around.intake h.around

theorem Alters.dram (h : Alters W s t) : t.dram = s.dram := congrArg Around.dram h.around

theorem Alters.sameBytes (h : Alters W s t) : SameBytes s t :=
  have hsram : t.sram = s.sram := congrArg Around.sram h.around
  have hflash : t.flash = s.flash := congrArg Around.flash h.around
  ⟨fun a => by rw [State.dramByte, h.dram, State.dramByte], fun b o => by rw [State.sramByte, hsram, State.sramByte],
    fun a => by rw [State.flashByte, hflash, State.flashByte]⟩

theorem Alters.memoryWf (h : Alters W s t) : Memory.wf t = Memory.wf s :=
  Memory.wf_same h.dram (congrArg Around.sram h.around) (congrArg Around.flash h.around)

theorem Alters.boundaryDue (h : Alters W s t) (act now : Nat) : t.boundaryDue act now = s.boundaryDue act now := by
  have hrate : t.whl.rate = s.whl.rate := congrArg Around.rate h.around
  have hdone : t.whl.done = s.whl.done := congrArg Around.done h.around
  have hskip : t.whl.skip = s.whl.skip := congrArg Around.skip h.around
  rw [State.boundaryDue, State.due, State.lastBoundaryAt, hrate, hdone, hskip]
  rfl

theorem Alters.layersOn (h : Alters W s t) : t.layersOn = s.layersOn := by simp only [State.layersOn, State.acFlag, h.ac]

end

/-! ### Operations of other blocks -/

/-- An update by another block: it leaves Loom's state and registers, and the record of when each pass began. -/
structure Beside (s t : State) : Prop extends Alters (fun _ => False) s t where
  loom : t.loom = s.loom
  bounds : t.dmg.bounds = s.dmg.bounds

section
variable {s t u : State}

theorem Beside.of_same (haround : t.around = s.around) (hregs : t.regs = s.regs) (hloom : t.loom = s.loom) (hbounds : t.dmg.bounds = s.dmg.bounds) :
    Beside s t := ⟨Alters.of_same haround hregs, hloom, hbounds⟩

theorem Beside.refl (s : State) : Beside s s := Beside.of_same rfl rfl rfl rfl

theorem Beside.trans (h : Beside s t) (k : Beside t u) : Beside s u :=
  ⟨h.toAlters.trans k.toAlters, k.loom.trans h.loom, k.bounds.trans h.bounds⟩

/-- An update by another block alters whatever a step of Loom may. -/
theorem Beside.alters (h : Beside s t) (W : Nat → Prop) : Alters W s t := h.toAlters.mono fun _ => False.elim

theorem Beside.wr (h : Beside s t) (f : Fld) (v : Nat) (hf : f.addr / 0x1000000 ≠ 0x11) : Beside s (t.wr f v) :=
  h.trans ⟨⟨rfl, fun _ ha _ => t.wr_find f v fun hfa => hf (hfa ▸ ha)⟩, rfl, rfl⟩

theorem Beside.raise (h : Beside s t) (src code arg : Nat) : Beside s (t.raise src code arg) := by
  obtain ⟨l, r, b, heq, hregs⟩ := t.raise_only src code arg
  refine h.trans (heq ▸ ⟨⟨rfl, fun a ha _ => hregs a fun halert => ?_⟩, rfl, rfl⟩)
  rw [halert] at ha
  exact absurd ha (by decide)

theorem Beside.onlyIf (h : Beside s t) (c : Bool) {f : State → State} (hf : Beside t (f t)) : Beside s (t.onlyIf c f) := by
  cases c with
  | false => exact h
  | true => exact h.trans hf

theorem Beside.forAll {α : Type} (h : Beside s t) (l : List α) {f : State → α → State} (hf : ∀ u x, Beside u (f u x)) : Beside s (t.forAll l f) :=
  State.forAll_keeps (Beside s) f l t h fun u x _ hu => hu.trans (hf u x)

theorem Beside.spn (h : Beside s t) (x : SpnSt) : Beside s { t with spn := x } := h.trans (Beside.of_same rfl rfl rfl rfl)

theorem Beside.fresh (h : Beside s t) (x : Nat) : Beside s { t with fresh := x } := h.trans (Beside.of_same rfl rfl rfl rfl)

theorem Beside.dmc (h : Beside s t) (x : DmcSt) : Beside s { t with dmc := x } := h.trans (Beside.of_same rfl rfl rfl rfl)

theorem Beside.window (h : Beside s t) (x : Nat) : Beside s { t with dmg := { t.dmg with window := x } } := h.trans (Beside.of_same rfl rfl rfl rfl)

theorem Beside.setPort (h : Beside s t) (p : Nat) (f : WeftPort → WeftPort) : Beside s (t.setPort p f) := h.trans (Beside.of_same rfl rfl rfl rfl)

theorem Beside.putOut (h : Beside s t) (p : Nat) (l : List Sent) : Beside s (t.putOut p l) := h.trans (Beside.of_same rfl rfl rfl rfl)

theorem Beside.setQueue (h : Beside s t) (c : Nat) (q : List PushEntry) : Beside s (t.setQueue c q) := h.trans (Beside.of_same rfl rfl rfl rfl)

/-- An update of the wheel that leaves the rate and the record of scheduled actions. -/
theorem Beside.whl (h : Beside s t) (x : WhlSt) (hx : x.rate = t.whl.rate ∧ x.done = t.whl.done ∧ x.skip = t.whl.skip) :
    Beside s { t with whl := x } := by
  obtain ⟨hrate, hdone, hskip⟩ := hx
  exact h.trans (Beside.of_same (by simp only [State.around, hrate, hdone, hskip]) rfl rfl rfl)

end

/-! Packets on the Weft (R226, R242). -/

theorem portStat_outside (p : Nat) : RegAddr.WFT_PORT_STAT p / 0x1000000 ≠ 0x11 := by unfold RegAddr.WFT_PORT_STAT; omega

theorem State.drainFwd_beside (s : State) (out : Nat) : Beside s (s.drainFwd out) := by
  unfold State.drainFwd
  dsimp only
  split
  · exact Beside.refl s
  · refine Beside.wr (Beside.putOut (Beside.setPort (Beside.refl s) _ _) _ _) _ _ ?_
    exact portStat_outside out

theorem State.send_beside (s : State) (p : Nat) (t : PType) (dest : Nat) (body : Bytes) : Beside s (s.send p t dest body) := by
  unfold State.send
  dsimp only
  split
  · refine Beside.onlyIf (Beside.wr (Beside.putOut (Beside.setPort (Beside.onlyIf (Beside.refl s) _ ?_) _ _) _ _) _ _ ?_) _ ?_
    · exact s.drainFwd_beside p
    · exact portStat_outside p
    · exact Beside.fresh (Beside.refl _) _
  · exact Beside.refl s

theorem State.sendOrder_beside (s : State) (p : Nat) (t : PType) (dest : Nat) (body : Bytes) : Beside s (s.sendOrder p t dest body) :=
  (Beside.refl s).onlyIf _ (s.send_beside p t dest body)

theorem State.sendGuard_beside (s : State) (t : PieceTable) (c p : Nat) : Beside s (s.sendGuard t c p) := by
  unfold State.sendGuard
  split
  · exact s.sendOrder_beside _ _ _ _
  · exact Beside.refl s

/-! The lock state of the wheel and its source (R253, R265). -/

theorem State.endSlew_beside (s : State) : Beside s s.endSlew := by
  unfold State.endSlew State.setFreq
  refine Beside.wr (Beside.whl (Beside.wr (Beside.refl s) _ _ ?_) _ ?_) _ _ ?_
  · decide
  · exact ⟨rfl, rfl, rfl⟩
  · decide

theorem State.setLock_beside (s : State) (st : Nat) : Beside s (s.setLock st) := by
  unfold State.setLock
  dsimp only
  split
  · exact Beside.refl s
  · refine Beside.whl (Beside.onlyIf (Beside.raise (Beside.wr (Beside.refl s) _ _ ?_) _ _ _) _ ?_) _ ?_
    · decide
    · exact State.endSlew_beside _
    · exact ⟨rfl, rfl, rfl⟩

theorem State.slewOnChange_beside (s : State) (changed : Bool) : Beside s (s.slewOnChange changed) := by
  refine Beside.onlyIf (Beside.refl s) _ (Beside.wr (Beside.refl s) _ _ ?_)
  decide

theorem State.showSource_beside (s : State) : Beside s s.showSource := by
  unfold State.showSource
  dsimp only
  refine Beside.trans (Beside.onlyIf (Beside.forAll (Beside.wr (Beside.wr (Beside.refl s) _ _ ?_) _ _ ?_) _ fun u p => Beside.wr (Beside.refl u) _ _ ?_) _ ?_)
    (State.slewOnChange_beside _ _)
  · decide
  · decide
  · change RegAddr.WHL_HOP p / 0x1000000 ≠ 0x11
    unfold RegAddr.WHL_HOP
    omega
  · exact State.setLock_beside _ 0

/-! Verdicts and yields (R414 to R418). -/

theorem State.sendYield_beside (s : State) (reason gen at_ : Nat) : Beside s (s.sendYield reason gen at_) := by
  unfold State.sendYield
  refine Beside.raise (Beside.wr (Beside.forAll (Beside.refl s) _ fun u p => ?_) _ _ ?_) _ _ _
  · exact u.send_beside p _ _ _
  · decide

theorem State.yieldFor_beside (s : State) (code : Nat) : Beside s (s.yieldFor code) := by
  unfold State.yieldFor
  dsimp only
  refine Beside.trans (Beside.spn (Beside.wr (Beside.wr (s.sendYield_beside _ _ _) _ _ ?_) _ _ ?_) _) (State.showSource_beside _) <;> decide

theorem State.raiseVerdict_beside (s : State) (code : Nat) : Beside s (s.raiseVerdict code) := by
  have hyield {u : State} (h : Beside s u) (c : Bool) : Beside s (if c then u.yieldFor code else u) := by
    cases c with
    | false => exact h
    | true => exact h.trans (u.yieldFor_beside code)
  unfold State.raiseVerdict
  dsimp only
  split
  · exact Beside.refl s
  · refine hyield ?_ _
    split
    · refine Beside.raise ?_ _ _ _
      split
      · exact Beside.wr (Beside.spn (Beside.refl s) _) _ _ (by decide)
      · exact Beside.spn (Beside.refl s) _
    · exact Beside.refl s

theorem State.resumeOffset_beside (s : State) : Beside s s.resumeOffset := by
  unfold State.resumeOffset
  split
  · exact Beside.spn (Beside.wr (Beside.refl s) _ _ (by decide)) _
  · exact Beside.refl s

/-! Uncorrectable lines (R367). -/

theorem State.noteUe_beside (s : State) (line : Nat) : Beside s (s.noteUe line) := by
  unfold State.noteUe
  refine Beside.trans (t := s.noteLine line ⟨[], true, false, 0⟩) ?_ ?_
  · unfold State.noteLine
    rw [if_pos rfl]
    refine Beside.raise (Beside.wr (Beside.wr (Beside.wr (Beside.wr (Beside.refl s) _ _ ?_) _ _ ?_) _ _ ?_) _ _ ?_) _ _ _ <;> decide
  · unfold State.reportUe
    dsimp only
    split
    · exact (Beside.dmc (Beside.refl _) _).trans (State.raiseVerdict_beside _ 1)
    · exact Beside.dmc (Beside.refl _) _

/-! Pushes entered (R153 to R156). -/

theorem State.enterEntry_beside (s : State) (c p b time gen : Nat) : Beside s (s.enterEntry c p b time gen) := by
  unfold State.enterEntry
  dsimp only
  split <;> exact (Beside.refl s).setQueue _ _

theorem State.fullRepush_beside (s : State) (c p time : Nat) : Beside s (s.fullRepush c p time) := by
  refine Beside.onlyIf (Beside.refl s) _ (Beside.trans (t := s.enterAll c p time) ?_ (State.sendGuard_beside _ _ _ _))
  exact (Beside.refl s).forAll _ fun u b => u.enterEntry_beside c p b time _

theorem State.repushAll_beside (s : State) (time : Nat) : Beside s (s.repushAll time) :=
  (Beside.refl s).forAll _ fun u cp => u.fullRepush_beside cp.1 cp.2 time

theorem State.light_beside (s : State) : Beside s s.light := by
  unfold State.light
  split
  · exact Beside.refl s
  · exact Beside.of_same rfl rfl rfl rfl

end Sys2Proof.Machine
end

section
/-! SUPPORT. Fences of slices at a boundary (R144 to R147): what shows in LOOM_SLICE_STAT, and what becomes of Loom's state. -/

namespace Sys2Proof.Machine

/-! ### The fences of one slice -/

/-- The registers in which the fence of slice `i` shows. -/
def OfSlice (i a : Nat) : Prop := a = RegAddr.LOOM_SLICE_STAT i ∨ a = RegAddr.LOOM_FENCE

theorem sliceStat_ne_fence (i : Nat) : RegAddr.LOOM_SLICE_STAT i ≠ RegAddr.LOOM_FENCE := by
  unfold RegAddr.LOOM_SLICE_STAT RegAddr.LOOM_FENCE
  omega

theorem sliceStat_inj {i j : Nat} (h : RegAddr.LOOM_SLICE_STAT i = RegAddr.LOOM_SLICE_STAT j) : i = j := by
  unfold RegAddr.LOOM_SLICE_STAT at h
  omega

theorem sliceStat_inLoom {i : Nat} (hi : i < 16) : RegAddr.LOOM_SLICE_STAT i / 0x1000000 = 0x11 := by
  unfold RegAddr.LOOM_SLICE_STAT
  omega

/-- The flags of LOOM_SLICE_STAT below SERVES: FENCED, TEST_FAIL, PARITY and FORCED, by their bit. -/
def sliceFlag (i bit : Nat) : Fld := ⟨RegAddr.LOOM_SLICE_STAT i, bit, 1, 2 ^ (16 + i)⟩

theorem State.flag_wr_sliceFlag (s : State) (i : Nat) {j k v : Nat} (hj : j < 16) (hv : v < 2) :
    (s.wr (sliceFlag i j) v).flag (sliceFlag i k) = if j = k then v == 1 else s.flag (sliceFlag i k) := by
  split
  · next hjk =>
    subst hjk
    rw [State.flag, State.rd_wr_self _ _ _ (show j + 1 ≤ 32 by omega)]
    exact congrArg (· == 1) (Nat.mod_eq_of_lt hv)
  · next hjk => exact congrArg (· == 1) (s.rd_wr_other _ _ v rfl rfl (show j + 1 ≤ k ∨ k + 1 ≤ j by omega))

theorem Alters.sliceFlag {W : Nat → Prop} {s t : State} (h : Alters W s t) {i : Nat} (hi : i < 16) (hW : ¬ W (RegAddr.LOOM_SLICE_STAT i)) (k : Nat) :
    t.flag (sliceFlag i k) = s.flag (sliceFlag i k) :=
  h.flag (sliceStat_inLoom hi) hW

theorem State.fenceRecord_beside (s : State) (kind i t : Nat) : Beside s (s.fenceRecord kind i t) := (Beside.refl s).raise _ _ _

/-- A forced fence shows as LOOM_CFG.FORCE has it, and one that begins has its record (R147). -/
def State.forceSlice (s : State) (i : Nat) : State :=
  (s.wrFlag (Reg.LOOM_SLICE_STAT_FORCED i) (s.forcedNow i)).onlyIf (s.forcedNow i && !s.flag (Reg.LOOM_SLICE_STAT_FORCED i)) fun t => t.fenceRecord 0 i i

/-- Sets a flag of LOOM_SLICE_STAT where a condition holds. -/
def State.markSlice (s : State) (i bit : Nat) (c : Bool) : State := s.onlyIf c fun t => t.wr (sliceFlag i bit) 1

/-- The causes of the faults that are due show (R144). -/
def State.showCauses (s : State) (i : Nat) : State :=
  (s.markSlice i 2 (s.loom.toFence.contains (i, true))).markSlice i 1 (s.loom.toFence.contains (i, false))

/-- A fault fences a slice, and its record is raised (R144, R147). -/
def State.faultSlice (s : State) (i : Nat) : State :=
  let u := s.showCauses i
  ({ u with loom := { u.loom with faulted := i :: u.loom.faulted } } : State).fenceRecord 0 i i

/-- A slice shows whether it is fenced. -/
def State.showFence (s : State) (i : Nat) (fenced : Bool) : State :=
  (s.wrFlag (Reg.LOOM_SLICE_STAT_FENCED i) fenced).wrBit Reg.LOOM_FENCE_FENCED i fenced

/-- The slice before it shows whether it is fenced. -/
def State.judgedSlice (s : State) (i : Nat) : State :=
  ((s.forceSlice i).onlyIf (s.faultDue i) fun t => t.faultSlice i).onlyIf (s.flag (Reg.LOOM_SLICE_STAT_FORCED i) && !s.forcedNow i) fun t =>
    t.fenceRecord 2 i i

theorem State.fenceSlice_eq (s : State) (i : Nat) :
    s.fenceSlice i = (s.judgedSlice i).showFence i (s.forcedNow i || (s.judgedSlice i).loom.faulted.contains i) := rfl

theorem State.forceSlice_spec (s : State) (i : Nat) : Alters (OfSlice i) s (s.forceSlice i) ∧ (s.forceSlice i).loom = s.loom := by
  have hrecord : Beside (s.wrFlag (Reg.LOOM_SLICE_STAT_FORCED i) (s.forcedNow i)) (s.forceSlice i) :=
    Beside.onlyIf (Beside.refl _) _ (State.fenceRecord_beside _ 0 i i)
  exact ⟨((Alters.refl _ s).wr _ _ (.inl rfl)).trans (hrecord.alters _), hrecord.loom⟩

theorem State.markSlice_spec (s : State) (i : Nat) {bit : Nat} (c : Bool) (hbit : bit < 16) :
    Alters (OfSlice i) s (s.markSlice i bit c) ∧ (s.markSlice i bit c).loom = s.loom ∧
    ∀ k, (s.markSlice i bit c).flag (sliceFlag i k) = ((c && bit == k) || s.flag (sliceFlag i k)) := by
  cases c with
  | false => exact ⟨Alters.refl _ s, rfl, fun _ => rfl⟩
  | true =>
    refine ⟨(Alters.refl _ s).wr _ _ (.inl rfl), rfl, fun k => (s.flag_wr_sliceFlag i hbit (by decide)).trans ?_⟩
    by_cases h : bit = k <;> simp [h]

theorem State.showCauses_spec (s : State) (i : Nat) : Alters (OfSlice i) s (s.showCauses i) ∧ (s.showCauses i).loom = s.loom ∧
    ((i, true) ∈ s.loom.toFence → (s.showCauses i).flag (sliceFlag i 2) = true) ∧
    ((i, false) ∈ s.loom.toFence → (s.showCauses i).flag (sliceFlag i 1) = true) := by
  obtain ⟨hparity, hloom, hset⟩ := s.markSlice_spec i (bit := 2) (s.loom.toFence.contains (i, true)) (by decide)
  obtain ⟨htest, hloom', hset'⟩ := (s.markSlice i 2 (s.loom.toFence.contains (i, true))).markSlice_spec i (bit := 1)
    (s.loom.toFence.contains (i, false)) (by decide)
  refine ⟨hparity.trans htest, hloom'.trans hloom, fun h => (hset' 2).trans ?_, fun h => (hset' 1).trans ?_⟩
  · rw [hset]
    simp [h]
  · simp [h]

theorem State.faultSlice_spec (s : State) (i : Nat) : Alters (OfSlice i) s (s.faultSlice i) ∧
    (s.faultSlice i).loom = { s.loom with faulted := i :: s.loom.faulted } ∧
    (i < 16 → (i, true) ∈ s.loom.toFence → (s.faultSlice i).flag (sliceFlag i 2) = true) ∧
    (i < 16 → (i, false) ∈ s.loom.toFence → (s.faultSlice i).flag (sliceFlag i 1) = true) := by
  obtain ⟨hcauses, hloom, hparity, htest⟩ := s.showCauses_spec i
  generalize hu : ({ s.showCauses i with loom := { (s.showCauses i).loom with faulted := i :: (s.showCauses i).loom.faulted } } : State) = u
  have hrecord : Beside u (s.faultSlice i) := hu ▸ State.fenceRecord_beside _ 0 i i
  have hfaulted : u.loom = { s.loom with faulted := i :: s.loom.faulted } := by rw [← hu, ← hloom]
  have hregs (k : Nat) : u.flag (sliceFlag i k) = (s.showCauses i).flag (sliceFlag i k) := hu ▸ rfl
  have hkeep (hi : i < 16) (k : Nat) : (s.faultSlice i).flag (sliceFlag i k) = (s.showCauses i).flag (sliceFlag i k) :=
    (hrecord.toAlters.sliceFlag hi id k).trans (hregs k)
  have hsame : Alters (OfSlice i) (s.showCauses i) u := hu ▸ Alters.of_same rfl rfl
  exact ⟨(hcauses.trans hsame).trans (hrecord.alters _), hrecord.loom.trans hfaulted, fun hi h => (hkeep hi 2).trans (hparity h),
    fun hi h => (hkeep hi 1).trans (htest h)⟩

theorem State.showFence_spec (s : State) {i : Nat} (hi : i < 16) (fenced : Bool) : Alters (OfSlice i) s (s.showFence i fenced) ∧
    (s.showFence i fenced).loom = s.loom ∧ (s.showFence i fenced).fenced i = fenced ∧
    ∀ k, k ≠ 0 → (s.showFence i fenced).flag (sliceFlag i k) = s.flag (sliceFlag i k) := by
  have hslice (k : Nat) := s.flag_wr_sliceFlag i (j := 0) (k := k) (v := fenced.toNat) (by decide) fenced.toNat_lt
  have hmask : Alters (· = RegAddr.LOOM_FENCE) (s.wr (sliceFlag i 0) fenced.toNat) (s.showFence i fenced) := (Alters.refl _ _).wr _ _ rfl
  have hkeep (k : Nat) := hmask.sliceFlag hi (sliceStat_ne_fence i) k
  refine ⟨((Alters.refl _ s).wr (sliceFlag i 0) _ (.inl rfl)).trans (hmask.mono fun _ => .inr), rfl, ?_, fun k hk => ?_⟩
  · refine ((hkeep 0).trans (hslice 0)).trans ?_
    cases fenced <;> rfl
  · exact ((hkeep k).trans (hslice k)).trans (if_neg (Ne.symm hk))

/-- What a slice's step at a boundary makes of its fence: one that is forced, or for which a fault is due or has come before, is fenced, and the causes
of a fault that is due show. -/
structure SliceFenced (i : Nat) (s t : State) : Prop extends Alters (OfSlice i) s t where
  loom : t.loom = { s.loom with faulted := if s.faultDue i then i :: s.loom.faulted else s.loom.faulted }
  fenced : t.fenced i = (s.forcedNow i || s.faultDue i || s.loom.faulted.contains i)
  parity : s.faultDue i = true → (i, true) ∈ s.loom.toFence → t.flag (sliceFlag i 2) = true
  testFail : s.faultDue i = true → (i, false) ∈ s.loom.toFence → t.flag (sliceFlag i 1) = true

theorem State.fenceSlice_spec (s : State) {i : Nat} (hi : i < 16) : SliceFenced i s (s.fenceSlice i) := by
  obtain ⟨hforce, hforced⟩ := s.forceSlice_spec i
  obtain ⟨hfault, hfaulted, hparity, htest⟩ := (s.forceSlice i).faultSlice_spec i
  generalize hv : ((s.forceSlice i).onlyIf (s.faultDue i) fun t => t.faultSlice i) = v
  have hjudged : Beside v (s.judgedSlice i) := by
    rw [State.judgedSlice, hv]
    exact Beside.onlyIf (Beside.refl v) _ (v.fenceRecord_beside 2 i i)
  obtain ⟨hshow, hloom, hfenced, hcauses⟩ := (s.judgedSlice i).showFence_spec hi (s.forcedNow i || (s.judgedSlice i).loom.faulted.contains i)
  have hkeep (k : Nat) (hk : k ≠ 0) : (s.fenceSlice i).flag (sliceFlag i k) = v.flag (sliceFlag i k) :=
    (hcauses k hk).trans (hjudged.toAlters.sliceFlag hi id k)
  rw [s.fenceSlice_eq] at hkeep ⊢
  cases hdue : s.faultDue i with
  | false =>
    rw [hdue] at hv
    obtain rfl : s.forceSlice i = v := hv
    have hall : (s.judgedSlice i).loom = s.loom := hjudged.loom.trans hforced
    refine ⟨(hforce.trans (hjudged.alters _)).trans hshow, ?_, ?_, ?_, ?_⟩
    · rw [hdue, hloom, hall]
      rfl
    · rw [hfenced, hall, hdue, Bool.or_false]
    · simp [hdue]
    · simp [hdue]
  | true =>
    rw [hdue] at hv
    obtain rfl : (s.forceSlice i).faultSlice i = v := hv
    have hall : (s.judgedSlice i).loom = { s.loom with faulted := i :: s.loom.faulted } := by rw [hjudged.loom, hfaulted, hforced]
    rw [hforced] at hparity htest
    refine ⟨((hforce.trans hfault).trans (hjudged.alters _)).trans hshow, ?_, ?_, fun _ h => (hkeep 2 (by decide)).trans (hparity hi h),
      fun _ h => (hkeep 1 (by decide)).trans (htest hi h)⟩
    · rw [hdue, hloom, hall]
      rfl
    · rw [hfenced, hall, hdue]
      simp

/-! ### All fences at a boundary -/

/-- The registers in which the fences of a boundary show. -/
def OfFence (a : Nat) : Prop := a = RegAddr.LOOM_FENCE ∨ ∃ i < 16, a = RegAddr.LOOM_SLICE_STAT i

theorem OfSlice.ofFence {i a : Nat} (hi : i < 16) (h : OfSlice i a) : OfFence a := h.elim (fun ha => .inr ⟨i, hi, ha⟩) .inl

/-- A step of the fences at a boundary: it may alter the registers of the slices, the slices that have faulted, and the blocks marked for the pass, to
which it only adds. -/
structure Fencing (s t : State) : Prop extends Alters OfFence s t where
  loom : ∃ faulted marked, t.loom = { s.loom with faulted := faulted, marked := s.loom.marked ++ marked }

theorem Fencing.refl (s : State) : Fencing s s := ⟨Alters.refl _ s, s.loom.faulted, [], by rw [List.append_nil]⟩

theorem Fencing.trans {s t u : State} (h : Fencing s t) (k : Fencing t u) : Fencing s u := by
  obtain ⟨f, m, hloom⟩ := h.loom
  obtain ⟨g, n, hloom'⟩ := k.loom
  refine ⟨h.toAlters.trans k.toAlters, g, m ++ n, ?_⟩
  rw [hloom', hloom, List.append_assoc]

theorem SliceFenced.fencing {i : Nat} {s t : State} (hi : i < 16) (h : SliceFenced i s t) : Fencing s t :=
  ⟨h.toAlters.mono fun _ => OfSlice.ofFence hi, _, [], by rw [h.loom, List.append_nil]⟩

/-- A step that leaves every flag of a slice: it moves stripes alone. -/
structure Moving (s t : State) : Prop extends Fencing s t where
  flags : ∀ i < 16, ∀ k < 16, t.flag (sliceFlag i k) = s.flag (sliceFlag i k)

theorem Moving.refl (s : State) : Moving s s := ⟨Fencing.refl s, fun _ _ _ _ => rfl⟩

theorem Moving.trans {s t u : State} (h : Moving s t) (k : Moving t u) : Moving s u :=
  ⟨h.toFencing.trans k.toFencing, fun i hi j hj => (k.flags i hi j hj).trans (h.flags i hi j hj)⟩

theorem Moving.forAll {l : List Nat} {f : State → Nat → State} {s : State} (hf : ∀ u, ∀ x ∈ l, Moving u (f u x)) : Moving s (s.forAll l f) :=
  State.forAll_keeps (Moving s) f l s (Moving.refl s) fun u x hx hu => hu.trans (hf u x hx)

/-- SERVES stands above the flags of its register. -/
theorem Moving.serves (s : State) {i : Nat} (hi : i < 16) (stripe : Nat) (b : Bool) : Moving s (s.wrBit (Reg.LOOM_SLICE_STAT_SERVES i) stripe b) := by
  refine ⟨⟨(Alters.refl _ s).wr _ _ (.inr ⟨i, hi, rfl⟩), s.loom.faulted, [], by rw [State.wrBit_loom, List.append_nil]⟩, fun j _ k hk => ?_⟩
  refine congrArg (· == 1) ?_
  by_cases hij : i = j
  · subst hij
    exact s.rd_wr_other _ _ _ rfl rfl (.inr (show k + 1 ≤ 16 by omega))
  · exact s.rd_wr_ne _ _ _ fun h => hij (sliceStat_inj h)

theorem State.server_lt (s : State) {stripe : Nat} (h : stripe < 16) : s.server stripe < 16 := by
  unfold State.server
  cases hfind : sliceNumbers.find? fun i => s.bit (Reg.LOOM_SLICE_STAT_SERVES i) stripe with
  | none => exact h
  | some i => exact List.mem_range.mp (List.mem_of_find?_eq_some hfind)

/-- The blocks of a stripe that moves are marked, and its record is raised (R145, R147). -/
theorem Moving.marked (s : State) (stripe i : Nat) : Moving s ((s.markStripe stripe).fenceRecord 1 i stripe) := by
  have hrecord := (s.markStripe stripe).fenceRecord_beside 1 i stripe
  refine ⟨⟨Alters.trans (Alters.setLoom (Alters.refl _ s) _) (hrecord.alters _), s.loom.faulted, s.blocks.filter fun b => s.stripeOf b == stripe, ?_⟩,
    fun j hj k _ => hrecord.toAlters.sliceFlag hj id k⟩
  rw [hrecord.loom]
  rfl

theorem State.moveStripe_moving (s : State) {stripe i : Nat} (hs : stripe < 16) (hi : i < 16) : Moving s (s.moveStripe stripe i) := by
  unfold State.moveStripe
  dsimp only
  split
  · exact Moving.refl s
  · exact ((Moving.serves s (s.server_lt hs) stripe false).trans (Moving.serves _ hi stripe true)).trans (Moving.marked _ stripe i)

theorem State.leastLoaded_lt {s : State} {i : Nat} (h : s.leastLoaded = some i) : i < 16 := by
  have hall : ∀ j ∈ s.leastLoaded, j < 16 := by
    unfold State.leastLoaded
    refine List.foldlRecOn (motive := fun best => ∀ j ∈ best, j < 16) _ _ (by simp) fun best hbest i hi => ?_
    have hlt : i < 16 := List.mem_range.mp (List.mem_filter.mp hi).1
    cases best with
    | none => simpa using hlt
    | some b => dsimp only; split <;> simp_all
  exact hall i h

theorem State.fenceStripes_moving (s : State) (i : Nat) : Moving s (s.fenceStripes i) := by
  refine Moving.forAll fun u stripe hstripe => ?_
  have hlt : stripe < 16 := List.mem_range.mp (List.mem_filter.mp hstripe).1
  split
  · next j hj => exact u.moveStripe_moving hlt (State.leastLoaded_lt hj)
  · exact Moving.refl u

/-- A slice shows the fences that take effect at a boundary of a device in the state `s`. -/
structure FenceShown (s : State) (i : Nat) (t : State) : Prop where
  fenced : s.forcedNow i = true ∨ (∃ b, (i, b) ∈ s.loom.toFence) → t.fenced i = true
  parity : i ∉ s.loom.faulted → (i, true) ∈ s.loom.toFence → t.flag (sliceFlag i 2) = true
  testFail : i ∉ s.loom.faulted → (i, false) ∈ s.loom.toFence → t.flag (sliceFlag i 1) = true

theorem FenceShown.kept {s t u : State} {i : Nat} (h : FenceShown s i t) (hflags : ∀ k < 16, u.flag (sliceFlag i k) = t.flag (sliceFlag i k)) :
    FenceShown s i u :=
  ⟨fun hf => (hflags 0 (by decide)).trans (h.fenced hf), fun hn hp => (hflags 2 (by decide)).trans (h.parity hn hp),
    fun hn hp => (hflags 1 (by decide)).trans (h.testFail hn hp)⟩

theorem State.faultDue_of_mem {s : State} {i : Nat} {b : Bool} (hnot : i ∉ s.loom.faulted) (hmem : (i, b) ∈ s.loom.toFence) : s.faultDue i = true := by
  simp only [State.faultDue, Bool.and_eq_true, List.any_eq_true, Bool.not_eq_true', List.contains_eq_mem, decide_eq_false_iff_not]
  exact ⟨⟨_, hmem, beq_self_eq_true i⟩, hnot⟩

theorem SliceFenced.shown {s t : State} {i : Nat} (h : SliceFenced i s t) : FenceShown s i t := by
  refine ⟨fun hf => ?_, fun hn hp => h.parity (State.faultDue_of_mem hn hp) hp, fun hn hp => h.testFail (State.faultDue_of_mem hn hp) hp⟩
  rw [h.fenced]
  obtain hforced | ⟨b, hmem⟩ := hf
  · rw [hforced, Bool.true_or, Bool.true_or]
  · by_cases hnot : i ∈ s.loom.faulted
    · simp [hnot]
    · rw [State.faultDue_of_mem hnot hmem, Bool.or_true, Bool.true_or]

theorem State.fenceSlices_fencing (s : State) : Fencing s (s.forAll sliceNumbers State.fenceSlice) :=
  State.forAll_keeps (Fencing s) _ _ s (Fencing.refl s) fun u _ hi hu => hu.trans ((u.fenceSlice_spec (List.mem_range.mp hi)).fencing (List.mem_range.mp hi))

/-- The slices are judged one after the other, each by what was due before the first. -/
theorem State.fenceSlices_shown (s : State) {i : Nat} (hi : i < 16) : FenceShown s i (s.forAll sliceNumbers State.fenceSlice) := by
  refine State.forAll_at (P := FenceShown s i)
    (R := fun t => t.ac = s.ac ∧ t.loom.toFence = s.loom.toFence ∧ (i ∈ t.loom.faulted ↔ i ∈ s.loom.faulted)) (List.mem_range.mpr hi) List.nodup_range
    ⟨rfl, rfl, Iff.rfl⟩ ?_ ?_ ?_
  · intro t j hj hne ⟨hac, hdue, hfaulted⟩
    have hstep := t.fenceSlice_spec (List.mem_range.mp hj)
    refine ⟨hstep.ac.trans hac, ?_, ?_⟩
    · rw [hstep.loom, ← hdue]
    · rw [hstep.loom, ← hfaulted]
      cases t.faultDue j <;> simp [Ne.symm hne]
  · intro t ⟨hac, hdue, hfaulted⟩
    have hshown := (t.fenceSlice_spec hi).shown
    have hforced : t.forcedNow i = s.forcedNow i := by rw [State.forcedNow, hac, State.forcedNow]
    exact ⟨fun hf => hshown.fenced (by rwa [hforced, hdue]), fun hn hp => hshown.parity (fun h => hn (hfaulted.mp h)) (hdue ▸ hp),
      fun hn hp => hshown.testFail (fun h => hn (hfaulted.mp h)) (hdue ▸ hp)⟩
  · intro t j hj hne ht
    refine ht.kept fun k _ => (t.fenceSlice_spec (List.mem_range.mp hj)).toAlters.sliceFlag hi (fun h => ?_) k
    exact h.elim (fun h => hne (sliceStat_inj h).symm) (sliceStat_ne_fence i)

theorem State.judgeFences_beside (s : State) : Beside s s.judgeFences := by
  unfold State.judgeFences
  split
  · exact s.raiseVerdict_beside 2
  · exact Beside.refl s

/-- The stripes of slices whose fence has ended, and of those whose fence has begun, move (R145, R147); `old` is the state before. -/
def State.moveStripes (s old : State) : State :=
  (s.forAll (sliceNumbers.filter fun i => old.fenced i && !s.fenced i) State.unfenceSlice).forAll
    (sliceNumbers.filter fun i => !old.fenced i && s.fenced i) State.fenceStripes

/-- The slices that have faulted are counted, and no fence is due any more (R146). -/
def State.countFences (s : State) : State :=
  let t := s.wr Reg.LOOM_FENCE_COUNT s.loom.faulted.length
  { t with loom := { t.loom with toFence := [] } }

theorem State.applyFences_eq (s : State) : s.applyFences = ((s.forAll sliceNumbers State.fenceSlice).moveStripes s).countFences.judgeFences := rfl

theorem State.moveStripes_moving (s old : State) : Moving s (s.moveStripes old) := by
  have hlt {p : Nat → Bool} {i : Nat} (h : i ∈ sliceNumbers.filter p) : i < 16 := List.mem_range.mp (List.mem_filter.mp h).1
  exact (Moving.forAll fun u i hi => u.moveStripe_moving (hlt hi) (hlt hi)).trans (Moving.forAll fun u i _ => u.fenceStripes_moving i)

theorem State.countFences_spec (s : State) : Alters (· = RegAddr.LOOM_FENCE) s s.countFences ∧ s.countFences.loom = { s.loom with toFence := [] } := by
  refine ⟨Alters.setLoom (Alters.wr (Alters.refl _ s) _ _ ?_) _, rfl⟩
  rfl

/-- Fences take effect at a boundary (R144 to R147). -/
theorem State.applyFences_spec (s : State) : Alters OfFence s s.applyFences ∧
    (∃ faulted marked, s.applyFences.loom = { s.loom with faulted := faulted, marked := s.loom.marked ++ marked, toFence := [] }) ∧
    ∀ i < 16, FenceShown s i s.applyFences := by
  rw [s.applyFences_eq]
  have hfenced := s.fenceSlices_fencing
  have hshown (i : Nat) (hi : i < 16) := s.fenceSlices_shown hi
  generalize s.forAll sliceNumbers State.fenceSlice = s1 at *
  have hmoved := s1.moveStripes_moving s
  generalize s1.moveStripes s = s2 at *
  obtain ⟨hcount, hempty⟩ := s2.countFences_spec
  have hjudged := s2.countFences.judgeFences_beside
  have hall := hfenced.trans hmoved.toFencing
  obtain ⟨faulted, marked, hloom⟩ := hall.loom
  refine ⟨(hall.toAlters.trans (hcount.mono fun _ => .inl)).trans (hjudged.alters _), ⟨faulted, marked, ?_⟩, fun i hi => (hshown i hi).kept fun k hk => ?_⟩
  · rw [hjudged.loom, hempty, hloom]
  · exact (hjudged.toAlters.sliceFlag hi id k).trans ((hcount.sliceFlag hi (sliceStat_ne_fence i) k).trans (hmoved.flags i hi k hk))

end Sys2Proof.Machine
end

section
/-! SUPPORT. The beginning of a composition pass (R131 to R134, R139 to R141): the layers take their surfaces, and the blocks that are dirty are found. -/

namespace Sys2Proof.Machine

/-! ### One layer at a boundary -/

/-- The register that shows a layer. -/
def OfLayer (n a : Nat) : Prop := a = RegAddr.LOOM_L_STAT n

theorem layerStat_inj {n m : Nat} (h : RegAddr.LOOM_L_STAT n = RegAddr.LOOM_L_STAT m) : n = m := by
  unfold RegAddr.LOOM_L_STAT at h
  omega

theorem layerStat_inLoom {n : Nat} (hn : n < 64) : RegAddr.LOOM_L_STAT n / 0x1000000 = 0x11 := by
  unfold RegAddr.LOOM_L_STAT
  omega

section
variable {s t : State} {n : Nat}

theorem State.layerSource_congr (hac : t.ac = s.ac) (hintake : t.intake = s.intake) (hlayer : t.layer n = s.layer n) :
    t.layerSource n = s.layerSource n := by
  have hreleasing : t.releasing = s.releasing := funext fun k => by rw [State.releasing, hintake, State.releasing]
  have hstill : t.stillExists = s.stillExists := funext fun k => by rw [State.stillExists, hreleasing, hintake, State.stillExists]
  have hlatest : t.latest = s.latest := funext fun p => by simp only [State.latest, State.poolState, State.surface, hintake]
  unfold State.layerSource State.acFlag
  rw [hac, hlayer, hreleasing, hstill, hlatest]

theorem State.layerAge_congr (hnow : t.now = s.now) (hintake : t.intake = s.intake) (hlayer : t.layer n = s.layer n) (f : Option Nat) :
    t.layerAge n f = s.layerAge n f := by
  simp only [State.layerAge, State.surface, hnow, hintake, hlayer]

/-- A layer that is too old is hatched in the pass that begins (R141). -/
def State.hatchDue (s : State) (n : Nat) : Bool :=
  s.ac (Reg.LOOM_L_FRESH_LIMIT n) != 0 && decide (s.ac (Reg.LOOM_L_FRESH_LIMIT n) * 1000000 < s.layerAge n (s.layerSource n).1)

theorem State.hatchDue_congr (hac : t.ac = s.ac) (hnow : t.now = s.now) (hintake : t.intake = s.intake) (hlayer : t.layer n = s.layer n) :
    t.hatchDue n = s.hatchDue n := by
  rw [State.hatchDue, hac, State.layerSource_congr hac hintake hlayer, State.layerAge_congr hnow hintake hlayer, State.hatchDue]

end

theorem Alters.layerSource {W : Nat → Prop} {s t : State} {n : Nat} (h : Alters W s t) (hlayer : t.layer n = s.layer n) :
    t.layerSource n = s.layerSource n := State.layerSource_congr h.ac h.intake hlayer

theorem Alters.hatchDue {W : Nat → Prop} {s t : State} {n : Nat} (h : Alters W s t) (hlayer : t.layer n = s.layer n) : t.hatchDue n = s.hatchDue n :=
  State.hatchDue_congr h.ac h.now h.intake hlayer

/-- A layer is set, and shows its age, what came of its source and whether it is hatched. -/
def State.showLayer (s : State) (n : Nat) (f : LayerSt → LayerSt) (age nr : Nat) (hatch : Bool) : State :=
  ((((s.setLayer n f).wr (Reg.LOOM_L_STAT_AGE n) age).wr (Reg.LOOM_L_STAT_NR n) nr).wrFlag (Reg.LOOM_L_STAT_HATCH n) hatch).wr
    (Reg.LOOM_L_STAT_UNCLEAN n) 0

theorem State.setLayer_layer_self (s : State) (n : Nat) (f : LayerSt → LayerSt) : (s.setLayer n f).layer n = f (s.layer n) := Tab.get_upd_self _ _ _

theorem State.setLayer_layer_ne (s : State) {n m : Nat} (f : LayerSt → LayerSt) (h : n ≠ m) : (s.setLayer n f).layer m = s.layer m :=
  Tab.get_upd_ne _ _ h

/-- A field of LOOM_L_STAT, by its place. -/
def layerField (n lo width : Nat) : Fld := ⟨RegAddr.LOOM_L_STAT n, lo, width, 0⟩

theorem State.rd_wr_layerField (s : State) (n v : Nat) {lo width lo' width' : Nat} (h : lo + width ≤ lo' ∨ lo' + width' ≤ lo) :
    (s.wr (layerField n lo width) v).rd (layerField n lo' width') = s.rd (layerField n lo' width') := s.rd_wr_other _ _ v rfl rfl h

theorem State.rd_wr_layerField_self (s : State) (n lo width v : Nat) (h : lo + width ≤ 32) (hv : v < 2 ^ width) :
    (s.wr (layerField n lo width) v).rd (layerField n lo width) = v := (s.rd_wr_self _ v h).trans (Nat.mod_eq_of_lt hv)

theorem State.flag_of_rd {s : State} {f : Fld} {b : Bool} (h : s.rd f = b.toNat) : s.flag f = b := by
  rw [State.flag, h]
  cases b <;> rfl

theorem State.showLayer_nr (s : State) (n : Nat) (f : LayerSt → LayerSt) (age nr : Nat) (hatch : Bool) (hnr : nr < 16) :
    (s.showLayer n f age nr hatch).rd (Reg.LOOM_L_STAT_NR n) = nr := by
  refine (State.rd_wr_layerField _ n 0 (lo := 2) (width := 1) (by decide)).trans ?_
  refine (State.rd_wr_layerField _ n hatch.toNat (lo := 1) (width := 1) (by decide)).trans ?_
  exact State.rd_wr_layerField_self _ n 12 4 nr (by decide) hnr

theorem State.showLayer_hatched (s : State) (n : Nat) (f : LayerSt → LayerSt) (age nr : Nat) (hatch : Bool) :
    (s.showLayer n f age nr hatch).hatched n = hatch :=
  State.flag_of_rd ((State.rd_wr_layerField _ n 0 (lo := 2) (width := 1) (by decide)).trans
    (State.rd_wr_layerField_self _ n 1 1 _ (by decide) hatch.toNat_lt))

theorem State.showLayer_alters (s : State) (n : Nat) (f : LayerSt → LayerSt) (age nr : Nat) (hatch : Bool) :
    Alters (OfLayer n) s (s.showLayer n f age nr hatch) := by
  refine Alters.wr (Alters.wr (Alters.wr (Alters.wr (Alters.setLoom (Alters.refl _ s) _) _ _ ?_) _ _ ?_) _ _ ?_) _ _ ?_ <;> rfl

theorem State.layerSource_code_lt (s : State) (n : Nat) : (s.layerSource n).2 < 16 := by
  unfold State.layerSource
  dsimp only
  split
  · split_ifs <;> simp
  · split
    · simp
    · split_ifs <;> simp

/-- A layer that takes its surface is set so and shows it; where its hatch begins or ends a record is raised (R141). -/
theorem State.takeLayer_shown (s : State) (n : Nat) : ∃ f age, Beside (s.showLayer n f age (s.layerSource n).2 (s.hatchDue n)) (s.takeLayer n) ∧
    ∀ x, (f x).held = (s.layerSource n).1 := by
  unfold State.takeLayer State.showLayer State.hatchDue
  generalize s.layerSource n = source
  obtain ⟨held, nr⟩ := source
  dsimp only
  split
  · exact ⟨_, _, (Beside.refl _).raise _ _ _, fun _ => rfl⟩
  · split
    · exact ⟨_, _, (Beside.refl _).raise _ _ _, fun _ => rfl⟩
    · exact ⟨_, _, Beside.refl _, fun _ => rfl⟩

/-- What an enabled layer shows in the pass that begins, of a device in the state `s` (R139 to R141). -/
structure LayerShown (s : State) (n : Nat) (t : State) : Prop where
  held : (t.layer n).held = (s.layerSource n).1
  nr : t.rd (Reg.LOOM_L_STAT_NR n) = (s.layerSource n).2
  hatched : t.hatched n = s.hatchDue n

/-- A layer that takes its surface shows it and leaves the other layers. -/
structure LayerTaken (n : Nat) (s t : State) : Prop extends Alters (OfLayer n) s t, LayerShown s n t where
  loom : ∃ l, t.loom = { s.loom with layers := l }
  others : ∀ m, m ≠ n → t.layer m = s.layer m

theorem State.takeLayer_spec (s : State) {n : Nat} (hn : n < 64) : LayerTaken n s (s.takeLayer n) := by
  obtain ⟨f, age, hbeside, hheld⟩ := s.takeLayer_shown n
  generalize hu : s.showLayer n f age (s.layerSource n).2 (s.hatchDue n) = u at hbeside
  have halters : Alters (OfLayer n) s u := hu ▸ s.showLayer_alters n f age _ _
  have hlayers : u.loom = (s.setLayer n f).loom := hu ▸ rfl
  have hlayer (m : Nat) : (s.takeLayer n).layer m = (s.setLayer n f).layer m := by rw [State.layer, hbeside.loom, hlayers, State.layer]
  refine ⟨halters.trans (hbeside.alters _), ⟨?_, ?_, ?_⟩, ⟨_, hbeside.loom.trans hlayers⟩, fun m hm => ?_⟩
  · rw [hlayer, State.setLayer_layer_self, hheld]
  · exact (hbeside.toAlters.rd (f := Reg.LOOM_L_STAT_NR n) (layerStat_inLoom hn) id).trans (hu ▸ s.showLayer_nr n f age _ _ (s.layerSource_code_lt n))
  · exact (hbeside.toAlters.flag (f := Reg.LOOM_L_STAT_HATCH n) (layerStat_inLoom hn) id).trans (hu ▸ s.showLayer_hatched n f age _ _)
  · rw [hlayer, State.setLayer_layer_ne _ _ (Ne.symm hm)]

/-! ### All layers -/

/-- The registers that show layers. -/
def OfLayers (a : Nat) : Prop := ∃ n < 64, a = RegAddr.LOOM_L_STAT n

/-- The enabled layers take their surfaces. -/
def State.takeLayers (s : State) : State := s.forAll s.layersOn State.takeLayer

theorem State.lt_of_mem_layersOn {s : State} {n : Nat} (h : n ∈ s.layersOn) : n < 64 := List.mem_range.mp (List.mem_filter.mp h).1

theorem LayerTaken.alters {n : Nat} {s t : State} (hn : n < 64) (h : LayerTaken n s t) : Alters OfLayers s t := h.toAlters.mono fun _ ha => ⟨n, hn, ha⟩

theorem State.takeLayers_alters (s : State) : Alters OfLayers s s.takeLayers :=
  (Alters.refl _ s).forAll fun u _ hn => (u.takeLayer_spec (State.lt_of_mem_layersOn hn)).alters (State.lt_of_mem_layersOn hn)

theorem State.takeLayers_loom (s : State) : ∃ l, s.takeLayers.loom = { s.loom with layers := l } := by
  refine State.forAll_keeps (fun t => ∃ l, t.loom = { s.loom with layers := l }) _ _ s ⟨s.loom.layers, rfl⟩ ?_
  rintro u n hn ⟨l, hl⟩
  obtain ⟨l', hl'⟩ := (u.takeLayer_spec (State.lt_of_mem_layersOn hn)).loom
  exact ⟨l', by rw [hl', hl]⟩

/-- The layers take their surfaces one after the other, each what it could read before the first. -/
theorem State.takeLayers_shown (s : State) {n : Nat} (hn : n ∈ s.layersOn) : LayerShown s n s.takeLayers := by
  refine State.forAll_at (P := LayerShown s n) (R := fun t => Alters OfLayers s t ∧ t.layer n = s.layer n) hn (List.nodup_range.filter _)
    ⟨Alters.refl _ s, rfl⟩ ?_ ?_ ?_
  · intro t m hm hne ⟨halters, hlayer⟩
    have hstep := t.takeLayer_spec (State.lt_of_mem_layersOn hm)
    exact ⟨halters.trans (hstep.alters (State.lt_of_mem_layersOn hm)), (hstep.others n (Ne.symm hne)).trans hlayer⟩
  · intro t ⟨halters, hlayer⟩
    have hstep := t.takeLayer_spec (State.lt_of_mem_layersOn hn)
    have hsource : t.layerSource n = s.layerSource n := halters.layerSource hlayer
    have hdue : t.hatchDue n = s.hatchDue n := halters.hatchDue hlayer
    exact ⟨hsource ▸ hstep.held, hsource ▸ hstep.nr, hdue ▸ hstep.hatched⟩
  · intro t m hm hne ht
    have hstep := t.takeLayer_spec (State.lt_of_mem_layersOn hm)
    have hother : ¬ OfLayer m (RegAddr.LOOM_L_STAT n) := fun h => hne (layerStat_inj h).symm
    have hword := layerStat_inLoom (State.lt_of_mem_layersOn hn)
    exact ⟨(congrArg _ (hstep.others n (Ne.symm hne))).trans ht.held, (hstep.toAlters.rd (f := Reg.LOOM_L_STAT_NR n) hword hother).trans ht.nr,
      (hstep.toAlters.flag (f := Reg.LOOM_L_STAT_HATCH n) hword hother).trans ht.hatched⟩

/-! ### The pass that begins -/

theorem Alters.canvas {W : Nat → Prop} {s t : State} (h : Alters W s t) (hW : ¬ W RegAddr.LOOM_GEOM) : t.wb = s.wb ∧ t.hb = s.hb :=
  ⟨congrArg (· + 1) (h.rd (f := Reg.LOOM_GEOM_WBM1) rfl hW), congrArg (· + 1) (h.rd (f := Reg.LOOM_GEOM_HBM1) rfl hW)⟩

theorem Alters.blocks {W : Nat → Prop} {s t : State} (h : Alters W s t) (hW : ¬ W RegAddr.LOOM_GEOM) : t.blocks = s.blocks := by
  obtain ⟨hwb, hhb⟩ := h.canvas hW
  rw [State.blocks, hwb, hhb, State.blocks]

theorem Alters.blockMeets {W : Nat → Prop} {s t : State} (h : Alters W s t) (hW : ¬ W RegAddr.LOOM_GEOM) (b : Nat) (r : Rect) :
    t.blockMeets b r = s.blockMeets b r := by
  simp only [State.blockMeets, State.blockCol, State.blockRow, (h.canvas hW).1]

theorem Alters.covered {W : Nat → Prop} {s t : State} (h : Alters W s t) (hW : ¬ W RegAddr.LOOM_GEOM) (b : Nat) : t.covered b = s.covered b := by
  have hrect : t.dstRect = s.dstRect := funext fun n => by rw [State.dstRect, h.ac, State.dstRect]
  have hpart : t.coveredBy b = s.coveredBy b := funext fun r => by rw [State.coveredBy, h.charter, h.blockMeets hW, State.coveredBy]
  rw [State.covered, h.layersOn, hpart, hrect, State.covered]

/-- The registers that the beginning of a pass may alter. -/
def OfPass (a : Nat) : Prop := OfFence a ∨ a = RegAddr.LOOM_PASS ∨ OfLayers a

/-- The generation that the next pass has (R131). -/
def State.nextGen (s : State) : Nat := (s.rd Reg.LOOM_PASS_GEN + 1) % 2 ^ 32

/-- The fences, the generation and the layers of the pass that begins. -/
def State.passTaken (s : State) : State := (s.applyFences.wr Reg.LOOM_PASS_GEN s.nextGen).takeLayers

theorem fence_not_ofLayers {i : Nat} : ¬ OfLayers (RegAddr.LOOM_SLICE_STAT i) := by
  rintro ⟨n, -, h⟩
  unfold RegAddr.LOOM_SLICE_STAT RegAddr.LOOM_L_STAT at h
  omega

theorem fixed_not_ofLayers {a : Nat} (ha : 0x11FFF000 ≤ a) : ¬ OfLayers a := by
  rintro ⟨n, hn, h⟩
  unfold RegAddr.LOOM_L_STAT at h
  omega

theorem geom_not_ofPass : ¬ OfPass RegAddr.LOOM_GEOM := by
  rintro ((h | ⟨i, hi, h⟩) | h | h)
  · exact absurd h (by decide)
  · unfold RegAddr.LOOM_GEOM RegAddr.LOOM_SLICE_STAT at h
    omega
  · exact absurd h (by decide)
  · exact fixed_not_ofLayers (by decide) h

/-- What stands when the blocks of a pass are found. -/
structure Taken (s t : State) : Prop extends Alters OfPass s t where
  loom : ∃ faulted marked layers, t.loom =
    { s.loom with faulted := faulted, marked := s.loom.marked ++ marked, toFence := [], layers := layers }
  fences : ∀ i < 16, FenceShown s i t
  layers : ∀ n ∈ s.layersOn, LayerShown s n t
  gen : t.rd Reg.LOOM_PASS_GEN = s.nextGen

theorem State.passTaken_spec (s : State) : Taken s s.passTaken := by
  obtain ⟨hfences, ⟨faulted, marked, hloom⟩, hshown⟩ := s.applyFences_spec
  have hgen : Alters (· = RegAddr.LOOM_PASS) s.applyFences (s.applyFences.wr Reg.LOOM_PASS_GEN s.nextGen) := (Alters.refl _ _).wr _ _ rfl
  have hread : (s.applyFences.wr Reg.LOOM_PASS_GEN s.nextGen).rd Reg.LOOM_PASS_GEN = s.nextGen :=
    (State.rd_wr_self _ _ _ (by decide)).trans (Nat.mod_eq_of_lt (Nat.mod_lt _ (by decide)))
  have hlooms : (s.applyFences.wr Reg.LOOM_PASS_GEN s.nextGen).loom = s.applyFences.loom := rfl
  rw [State.passTaken]
  generalize s.applyFences.wr Reg.LOOM_PASS_GEN s.nextGen = u at *
  have htaken := u.takeLayers_alters
  obtain ⟨layers, hlayers⟩ := u.takeLayers_loom
  have hbefore : Alters OfPass s u := (hfences.mono fun _ => .inl).trans (hgen.mono fun _ h => .inr (.inl h))
  refine ⟨hbefore.trans (htaken.mono fun _ h => .inr (.inr h)), ⟨faulted, marked, layers, ?_⟩, fun i hi => ?_, fun n hn => ?_, ?_⟩
  · rw [hlayers, hlooms, hloom]
  · refine (hshown i hi).kept fun k _ => (htaken.sliceFlag hi fence_not_ofLayers k).trans (hgen.sliceFlag hi (fun h => ?_) k)
    unfold RegAddr.LOOM_SLICE_STAT RegAddr.LOOM_PASS at h
    omega
  · have hlayer : u.layer n = s.layer n := by rw [State.layer, hlooms, hloom, State.layer]
    have hshow := u.takeLayers_shown (hbefore.layersOn ▸ hn)
    have hsource := hbefore.layerSource hlayer
    have hdue : u.hatchDue n = s.hatchDue n := hbefore.hatchDue hlayer
    exact ⟨hsource ▸ hshow.held, hsource ▸ hshow.nr, hdue ▸ hshow.hatched⟩
  · exact (htaken.rd (f := Reg.LOOM_PASS_GEN) rfl (fixed_not_ofLayers (by decide))).trans hread

/-! ### The first pass -/

theorem State.light_firstLight (s : State) : s.light.sys.firstLight = true := by
  unfold State.light
  split
  · assumption
  · rfl

@[simp] theorem State.light_dmg (s : State) : s.light.dmg = s.dmg := by
  unfold State.light
  split <;> rfl

/-- The first pass is the Sender's first light, and enters a full re-push of every Tile (R66, R154). -/
def State.firstPass (s : State) (time : Nat) : State :=
  let t := s.resumeOffset.repushAll time
  ({ t with dmg := { t.dmg with window := 1 } } : State).light

theorem State.firstPass_spec (s : State) (time : Nat) : Beside s (s.firstPass time) ∧ (s.firstPass time).dmg.window = 1 ∧
    (s.firstPass time).sys.firstLight = true := by
  refine ⟨?_, ?_, State.light_firstLight _⟩
  · exact ((s.resumeOffset_beside.trans (State.repushAll_beside _ time)).window 1).trans (State.light_beside _)
  · rw [State.firstPass, State.light_dmg]

/-- The pass of the state `old` begins at boundary `B`: its pins, its dirty blocks and the record of its generation (R102, R131 to R134). -/
def State.begun (s old : State) (B : Nat) : State :=
  let dirty := (s.dirtyBlocks old).filter s.covered
  { s with
    loom := { s.loom with
      passPins := ((s.layersOn.flatMap fun n => (s.layer n).held.toList ++ (s.layer n).matte.toList)).dedup
      inPass := true, boundaryAt := B, dirty := dirty, carried := []
      dirtySince := dirty.map fun b => (b, (Tab.find s.loom.dirtySince b).getD old.now)
      marked := [], markedAll := false, unclean := [], heldCount := 0, lastBlock := old.now, faults := [], segments := [], busy := [] }
    dmg := { s.dmg with bounds := (Tab.put s.dmg.bounds old.nextGen B).filter fun x => decide (old.nextGen ≤ x.1 + 3) } }

theorem State.beginPass_eq (s : State) (B : Nat) :
    s.beginPass B = if s.nextGen = 1 then (s.passTaken.begun s B).firstPass s.now else s.passTaken.begun s B := rfl

theorem State.beginPass_beside (s : State) (B : Nat) : Beside (s.passTaken.begun s B) (s.beginPass B) := by
  rw [s.beginPass_eq]
  split
  · exact (State.firstPass_spec _ s.now).1
  · exact Beside.refl _

/-- What is dirty of a canvas is among its blocks, and whatever is marked or was carried is dirty (R133). -/
theorem State.mem_dirtyBlocks_of_marked {s old : State} {b : Nat} (hb : b ∈ s.blocks)
    (h : s.loom.markedAll = true ∨ b ∈ s.loom.marked ∨ b ∈ s.loom.carried) : b ∈ s.dirtyBlocks old := by
  refine List.mem_filter.mpr ⟨hb, ?_⟩
  obtain hall | hmarked | hcarried := h
  · simp [hall]
  · simp [hmarked]
  · simp [hcarried]

/-- What stands once a pass of the state `s` has begun at boundary `B`. -/
structure PassBegun (s : State) (B : Nat) (t : State) : Prop where
  inPass : t.loom.inPass = true
  boundaryAt : t.loom.boundaryAt = B
  toFence : t.loom.toFence = []
  gen : t.rd Reg.LOOM_PASS_GEN = s.nextGen
  bounds : Tab.find t.dmg.bounds s.nextGen = some B
  dirty : ∀ b ∈ t.loom.dirty, s.covered b = true
  marked : ∀ b ∈ s.blocks, s.covered b = true → s.loom.markedAll = true ∨ b ∈ s.loom.marked ∨ b ∈ s.loom.carried → b ∈ t.loom.dirty
  fences : ∀ i < 16, FenceShown s i t
  layers : ∀ n ∈ s.layersOn, LayerShown s n t

theorem PassBegun.kept {s t u : State} {B : Nat} (h : PassBegun s B t) (k : Beside t u) : PassBegun s B u where
  inPass := by rw [k.loom, h.inPass]
  boundaryAt := by rw [k.loom, h.boundaryAt]
  toFence := by rw [k.loom, h.toFence]
  gen := (k.toAlters.rd (f := Reg.LOOM_PASS_GEN) rfl id).trans h.gen
  bounds := by rw [k.bounds, h.bounds]
  dirty := by rw [k.loom]; exact h.dirty
  marked := by rw [k.loom]; exact h.marked
  fences i hi := (h.fences i hi).kept fun j _ => k.toAlters.sliceFlag hi id j
  layers n hn := by
    have hword := layerStat_inLoom (State.lt_of_mem_layersOn hn)
    obtain ⟨hheld, hnr, hhatch⟩ := h.layers n hn
    exact ⟨by rw [State.layer, k.loom]; exact hheld, (k.toAlters.rd (f := Reg.LOOM_L_STAT_NR n) hword id).trans hnr,
      (k.toAlters.flag (f := Reg.LOOM_L_STAT_HATCH n) hword id).trans hhatch⟩

theorem Taken.begun {s t : State} (h : Taken s t) (B : Nat) : PassBegun s B (t.begun s B) := by
  obtain ⟨faulted, marked, layers, hloom⟩ := h.loom
  have hcovered (b : Nat) : t.covered b = s.covered b := h.covered geom_not_ofPass b
  refine ⟨rfl, rfl, ?_, h.gen, ?_, fun b hb => ?_, fun b hb hc hm => ?_, fun i hi => ?_, fun n hn => ?_⟩
  · exact congrArg LoomSt.toFence hloom
  · exact (Tab.find_filter _ (fun k => decide (s.nextGen ≤ k + 3)) _ (by simp)).trans (Tab.find_put_self _ _ _)
  · exact hcovered b ▸ (List.mem_filter.mp hb).2
  · refine List.mem_filter.mpr ⟨State.mem_dirtyBlocks_of_marked (h.blocks geom_not_ofPass ▸ hb) ?_, (hcovered b).trans hc⟩
    rw [hloom]
    exact hm.imp_right (Or.imp_left (List.mem_append_left _))
  · obtain ⟨hfenced, hparity, htest⟩ := h.fences i hi
    exact ⟨hfenced, hparity, htest⟩
  · obtain ⟨hheld, hnr, hhatch⟩ := h.layers n hn
    exact ⟨hheld, hnr, hhatch⟩

theorem State.beginPass_spec (s : State) (B : Nat) : Alters OfPass s (s.beginPass B) ∧ PassBegun s B (s.beginPass B) ∧
    (s.nextGen = 1 → (s.beginPass B).dmg.window = 1 ∧ (s.beginPass B).sys.firstLight = true) := by
  have htaken := s.passTaken_spec
  have hbegun : Alters OfPass s.passTaken (s.passTaken.begun s B) := Alters.of_same rfl rfl
  refine ⟨(htaken.toAlters.trans hbegun).trans ((s.beginPass_beside B).alters _), (htaken.begun B).kept (s.beginPass_beside B), fun hfirst => ?_⟩
  rw [s.beginPass_eq, if_pos hfirst]
  exact (State.firstPass_spec _ s.now).2

/-- An occurrence that has been performed is due no more (R251). -/
theorem State.perform_due (s : State) (act occ at_ now : Nat) : (s.perform act occ).due act occ at_ now = false := by
  have hdone : Tab.find (s.perform act occ).whl.done act = some occ := Tab.find_put_self _ _ _
  rw [State.due, hdone]
  simp

theorem State.perform_lastBoundaryAt (s : State) (act occ now : Nat) : (s.perform act occ).lastBoundaryAt now = s.lastBoundaryAt now := by
  have hrate : (s.perform act occ).whl.rate = s.whl.rate := rfl
  rw [State.lastBoundaryAt, hrate, State.lastBoundaryAt]

theorem State.perform_boundaryDue (s : State) (act now : Nat) : (s.perform act (s.lastBoundaryAt now)).boundaryDue act now = false := by
  rw [State.boundaryDue, s.perform_lastBoundaryAt, s.perform_due]

theorem State.perform_nextGen (s : State) (act occ : Nat) : (s.perform act occ).nextGen = s.nextGen := by
  rw [State.nextGen, State.perform_rd, State.nextGen]

theorem State.perform_layerSource (s : State) (act occ n : Nat) : (s.perform act occ).layerSource n = s.layerSource n :=
  State.layerSource_congr rfl rfl rfl

theorem State.perform_hatchDue (s : State) (act occ n : Nat) : (s.perform act occ).hatchDue n = s.hatchDue n :=
  State.hatchDue_congr rfl rfl rfl rfl

/-- That a boundary is noted as performed changes nothing of what the pass that begins at it finds. -/
theorem PassBegun.of_perform {s t : State} {act occ B : Nat} (h : PassBegun (s.perform act occ) B t) : PassBegun s B t where
  inPass := h.inPass
  boundaryAt := h.boundaryAt
  toFence := h.toFence
  gen := s.perform_nextGen act occ ▸ h.gen
  bounds := s.perform_nextGen act occ ▸ h.bounds
  dirty := h.dirty
  marked := h.marked
  fences i hi := ⟨(h.fences i hi).fenced, (h.fences i hi).parity, (h.fences i hi).testFail⟩
  layers n hn :=
    have hshown := h.layers n hn
    ⟨s.perform_layerSource act occ n ▸ hshown.held, s.perform_layerSource act occ n ▸ hshown.nr, s.perform_hatchDue act occ n ▸ hshown.hatched⟩

/-- COMPOSITION_PASS at a boundary that is due (R131). -/
theorem doCompositionPass_spec {s : State} (hsender : s.isSender = true) (hout : s.loom.inPass = false)
    (hdue : s.boundaryDue actPass s.frameNow = true) :
    let t := doCompositionPass s
    PassBegun s (s.lastBoundaryAt s.frameNow) t ∧ t.boundaryDue actPass s.frameNow = false ∧
      (s.nextGen = 1 → t.dmg.window = 1 ∧ t.sys.firstLight = true) := by
  have heq : doCompositionPass s = (s.perform actPass (s.lastBoundaryAt s.frameNow)).beginPass (s.lastBoundaryAt s.frameNow) := by
    rw [doCompositionPass, hsender, hout, hdue]
    rfl
  obtain ⟨halters, hbegun, hfirst⟩ := (s.perform actPass (s.lastBoundaryAt s.frameNow)).beginPass_spec (s.lastBoundaryAt s.frameNow)
  rw [heq]
  exact ⟨hbegun.of_perform, (halters.boundaryDue _ _).trans (s.perform_boundaryDue _ _), hfirst⟩

end Sys2Proof.Machine
end

section
/-! SUPPORT. The blocks of a composition pass (R113, R116, R135 to R138, R153): reading their bales, storing and holding them. -/

namespace Sys2Proof.Machine

/-! ### Blocks that are held -/

theorem mem_carried_holdBlock (s : State) (b : Nat) : b ∈ (s.holdBlock b).loom.carried := by
  by_cases h : b ∈ s.loom.carried <;> simp [State.holdBlock, h]

theorem notMem_dirty_holdBlock (s : State) (b : Nat) : b ∉ (s.holdBlock b).loom.dirty := by simp [State.holdBlock]

theorem carried_subset_holdBlock (s : State) (b : Nat) : s.loom.carried ⊆ (s.holdBlock b).loom.carried := by
  intro c hc
  by_cases h : b ∈ s.loom.carried <;> simp [State.holdBlock, h, hc]

theorem unclean_subset_holdBlock (s : State) (b : Nat) : s.loom.unclean ⊆ (s.holdBlock b).loom.unclean :=
  fun _ hn => List.mem_dedup.mpr (List.mem_append_left _ hn)

/-- Blocks held one after the other are dirty no more, and are carried to the next pass (R137). -/
theorem State.holdBlocks_spec (s : State) (l : List Nat) : (∃ x, s.forAll l State.holdBlock = { s with loom := x }) ∧
    (s.forAll l State.holdBlock).loom.dirty = s.loom.dirty.filter (fun b => !l.contains b) ∧
    s.loom.carried ⊆ (s.forAll l State.holdBlock).loom.carried ∧ l ⊆ (s.forAll l State.holdBlock).loom.carried := by
  induction l generalizing s with
  | nil => exact ⟨⟨s.loom, rfl⟩, by simp [State.forAll], fun _ h => h, by simp⟩
  | cons b l ih =>
    obtain ⟨⟨x, hx⟩, hdirty, hkept, hheld⟩ := ih (s.holdBlock b)
    change (∃ y, (s.holdBlock b).forAll l State.holdBlock = { s with loom := y }) ∧ ((s.holdBlock b).forAll l State.holdBlock).loom.dirty = _ ∧
      _ ⊆ ((s.holdBlock b).forAll l State.holdBlock).loom.carried ∧ _ ⊆ ((s.holdBlock b).forAll l State.holdBlock).loom.carried
    refine ⟨⟨x, hx⟩, ?_, fun c hc => hkept (carried_subset_holdBlock s b hc), List.cons_subset.mpr ⟨hkept (mem_carried_holdBlock s b), hheld⟩⟩
    rw [hdirty]
    change (s.loom.dirty.filter fun c => c != b).filter _ = _
    rw [List.filter_filter]
    refine List.filter_congr fun c _ => ?_
    by_cases h : c = b <;> simp [h]

/-- CUTOFF (R137): what no slice has started is held. -/
theorem doCutoff_spec (s : State) (started : List Nat) : (∃ x, doCutoff s started = { s with loom := x }) ∧
    (doCutoff s started).loom.dirty = s.loom.dirty.filter (fun b => started.contains b) ∧
    ∀ b ∈ s.loom.dirty, b ∉ started → b ∈ (doCutoff s started).loom.carried := by
  obtain ⟨hloom, hdirty, -, hheld⟩ := s.holdBlocks_spec (s.loom.dirty.filter fun b => !started.contains b)
  refine ⟨hloom, hdirty.trans (List.filter_congr fun b hb => ?_), fun b hb hnot => hheld (List.mem_filter.mpr ⟨hb, by simpa using hnot⟩)⟩
  by_cases h : b ∈ started <;> simp [h, hb]

/-! ### Push entries -/

/-- A push of the block is queued for the Tile. -/
def State.queued (s : State) (c p b : Nat) : Prop := ∃ e ∈ s.queue c, e.pos = p ∧ e.block = b

theorem State.queue_setQueue_self (s : State) (c : Nat) (q : List PushEntry) : (s.setQueue c q).queue c = q := Tab.get_put_self _ _ _

theorem State.queue_setQueue_ne (s : State) {c d : Nat} (q : List PushEntry) (h : c ≠ d) : (s.setQueue c q).queue d = s.queue d := Tab.get_put_ne _ _ h

/-- Entering a push leaves the queued ones, of whatever Tile and block. -/
theorem State.queued_enterEntry (s : State) (c p b time gen : Nat) {d q k : Nat} (h : s.queued d q k) : (s.enterEntry c p b time gen).queued d q k := by
  obtain ⟨e, he, hpos, hblock⟩ := h
  by_cases hcd : c = d
  · subst hcd
    unfold State.enterEntry
    dsimp only
    split
    · rw [State.queued, State.queue_setQueue_self]
      refine ⟨_, List.mem_map_of_mem he, ?_⟩
      split <;> exact ⟨hpos, hblock⟩
    · rw [State.queued, State.queue_setQueue_self]
      exact ⟨e, List.mem_append_left _ he, hpos, hblock⟩
  · have hqueue : (s.enterEntry c p b time gen).queue d = s.queue d := by
      unfold State.enterEntry
      dsimp only
      split <;> exact s.queue_setQueue_ne _ hcd
    exact ⟨e, hqueue ▸ he, hpos, hblock⟩

theorem State.queued_enterEntry_self (s : State) (c p b time gen : Nat) : (s.enterEntry c p b time gen).queued c p b := by
  by_cases h : ((s.queue c).any fun e => e.pos == p && e.block == b) = true
  · obtain ⟨e, he, hhere⟩ := List.any_eq_true.mp h
    simp only [Bool.and_eq_true, beq_iff_eq] at hhere
    exact s.queued_enterEntry c p b time gen ⟨e, he, hhere⟩
  · have heq : s.enterEntry c p b time gen = s.setQueue c (s.queue c ++ [⟨p, b, time, gen⟩]) := if_neg h
    rw [heq, State.queued, State.queue_setQueue_self]
    exact ⟨⟨p, b, time, gen⟩, List.mem_append_right _ (List.mem_singleton_self _), rfl, rfl⟩

/-- What one step of several makes, and every step keeps, holds after them all. -/
theorem State.forAll_reaches {α : Type} {P : State → Prop} {f : State → α → State} {l : List α} {x : α} (s : State) (hx : x ∈ l) (hmake : ∀ t, P (f t x))
    (hkeep : ∀ t y, P t → P (f t y)) : P (s.forAll l f) := by
  induction l generalizing s with
  | nil => cases hx
  | cons y l ih =>
    obtain rfl | hx := List.mem_cons.mp hx
    · exact State.forAll_keeps P f l _ (hmake s) fun t y _ => hkeep t y
    · exact ih (f s y) hx

theorem State.damageBlock_beside (s : State) (b time : Nat) : Beside s (s.damageBlock b time) := by
  unfold State.damageBlock
  dsimp only
  refine Beside.forAll (Beside.of_same ?_ ?_ ?_ ?_) _ fun u cp => u.enterEntry_beside _ _ _ _ _ <;> rfl

/-- A changed block is queued for each Tile that it meets (R153). -/
theorem State.damageBlock_queued (s : State) (b time : Nat) {cp : Nat × Nat} (hcp : cp ∈ s.allTiles) (hmeets : s.blockMeets b (s.tileRect cp.1 cp.2) = true) :
    (s.damageBlock b time).queued cp.1 cp.2 b :=
  State.forAll_reaches (P := fun t => t.queued cp.1 cp.2 b) _ (List.mem_filter.mpr ⟨hcp, hmeets⟩) (fun t => t.queued_enterEntry_self _ _ _ _ _)
    fun t _ ht => t.queued_enterEntry _ _ _ _ _ ht

/-! ### Blocks that are stored -/

theorem leNat_take_tableEntry (fp sector size changed frame : Nat) (h : fp < 256 ^ 8) : leNat ((tableEntry fp sector size changed frame).take 8) = fp := by
  have htake : (tableEntry fp sector size changed frame).take 8 = leBytes 8 fp := by
    rw [tableEntry, show (8 : Nat) = (leBytes 8 fp).length from rfl]
    simp only [List.append_assoc]
    exact List.take_left
  rw [htake, leNat_leBytes_mod, Nat.mod_eq_of_lt h]

/-- A block's bale and its table entry are written (R113). -/
def State.writeCanvasBlock (s : State) (b : Nat) (ps : List Pixel) : State :=
  (s.dramWrite (s.canvasData + Tab.get s.loom.slots b * 2368) (encodeBale ps).bytes).dramWrite (s.entryAddr b)
    (tableEntry (crc64Pixels ps) (Tab.get s.loom.slots b * 37) (encodeBale ps).sectors (s.canvasFingerprint b != crc64Pixels ps).toNat
      (s.rd Reg.LOOM_PASS_GEN % 65536))

theorem State.storeBlock_eq (s : State) (b : Nat) (ps : List Pixel) : s.storeBlock b ps =
    if (s.canvasFingerprint b != crc64Pixels ps) = true then (s.writeCanvasBlock b ps).damageBlock b s.now else s.writeCanvasBlock b ps := rfl

theorem State.storeBlock_beside (s : State) (b : Nat) (ps : List Pixel) : Beside (s.writeCanvasBlock b ps) (s.storeBlock b ps) := by
  rw [s.storeBlock_eq]
  split
  · exact State.damageBlock_beside _ b s.now
  · exact Beside.refl _

theorem State.writeCanvasBlock_fingerprint (s : State) (b : Nat) (ps : List Pixel) (hwf : Memory.wf s = true) :
    (s.writeCanvasBlock b ps).canvasFingerprint b = crc64Pixels ps := by
  have hread := State.dramRead_dramWrite_self (s.dramWrite (s.canvasData + Tab.get s.loom.slots b * 2368) (encodeBale ps).bytes) (s.entryAddr b) 8
    (tableEntry (crc64Pixels ps) (Tab.get s.loom.slots b * 37) (encodeBale ps).sectors (s.canvasFingerprint b != crc64Pixels ps).toNat
      (s.rd Reg.LOOM_PASS_GEN % 65536)) (Memory.wf_dramWrite _ _ _ hwf) (by simp [tableEntry, leBytes_length])
  exact (congrArg leNat hread).trans (leNat_take_tableEntry _ _ _ _ _ (crc64Pixels_lt ps))

theorem Alters.canvasFingerprint {W : Nat → Prop} {s t : State} (h : Alters W s t) (b : Nat) : t.canvasFingerprint b = s.canvasFingerprint b := by
  simp only [State.canvasFingerprint, State.entryAddr, State.canvasTable, State.dramRead, h.ac, h.dram]

/-- A block that is stored has its fingerprint in the canvas table, and where that changed is queued for each Tile that it meets (R113, R116, R153). -/
theorem State.storeBlock_spec (s : State) (b : Nat) (ps : List Pixel) (hwf : Memory.wf s = true) :
    (s.storeBlock b ps).loom = s.loom ∧ (s.storeBlock b ps).canvasFingerprint b = crc64Pixels ps ∧
    (s.canvasFingerprint b ≠ crc64Pixels ps → ∀ cp ∈ s.allTiles, s.blockMeets b (s.tileRect cp.1 cp.2) = true → (s.storeBlock b ps).queued cp.1 cp.2 b) := by
  have hstored := s.storeBlock_beside b ps
  refine ⟨hstored.loom, (hstored.toAlters.canvasFingerprint b).trans (s.writeCanvasBlock_fingerprint b ps hwf), fun hchanged cp hcp hmeets => ?_⟩
  rw [s.storeBlock_eq, if_pos (bne_iff_ne.mpr hchanged)]
  exact State.damageBlock_queued _ b s.now hcp hmeets

/-! ### Bales that are read -/

/-- Faults of bales are recorded: of Loom's state the list of recorded faults alone changes. -/
structure FaultsNoted (s t : State) : Prop extends Alters (fun _ => False) s t where
  loom : ∃ f, t.loom = { s.loom with faults := f }

theorem FaultsNoted.refl (s : State) : FaultsNoted s s := ⟨Alters.refl _ s, s.loom.faults, rfl⟩

theorem FaultsNoted.trans {s t u : State} (h : FaultsNoted s t) (k : FaultsNoted t u) : FaultsNoted s u := by
  obtain ⟨f, hf⟩ := h.loom
  obtain ⟨g, hg⟩ := k.loom
  exact ⟨h.toAlters.trans k.toAlters, g, by rw [hg, hf]⟩

theorem FaultsNoted.forAll {α : Type} {f : State → α → State} (s : State) (l : List α) (hf : ∀ u x, FaultsNoted u (f u x)) : FaultsNoted s (s.forAll l f) :=
  State.forAll_keeps (FaultsNoted s) f l s (FaultsNoted.refl s) fun u x _ hu => hu.trans (hf u x)

theorem Beside.noted {s t : State} (h : Beside s t) (f : List (Nat × Nat × Nat)) : FaultsNoted s { t with loom := { t.loom with faults := f } } :=
  ⟨Alters.setLoom h.toAlters _, f, by rw [h.loom]⟩

theorem State.recordFault_noted (s : State) (n : Nat) (x : Nat × Nat) (ue : Bool) : FaultsNoted s (s.recordFault n x ue) := by
  unfold State.recordFault
  dsimp only
  refine Beside.noted ?_ _
  have hlayer : Beside s (if (s.loom.faults.any fun f => f.1 == n && f.2 == x) = true then s else s.raise srcLoom 0x4503 n) := by
    split
    · exact Beside.refl s
    · exact (Beside.refl s).raise _ _ _
  split
  · exact hlayer
  · split
    · exact hlayer.trans (State.noteUe_beside _ _)
    · exact hlayer.raise _ _ _

/-- The contributing layers that read a faulty bale for a block (R138). -/
def State.badLayers (s : State) (b : Nat) (ue : List (Nat × Nat)) : List Nat := (s.contributing b).filter fun n => !(s.badBales n b ue).isEmpty

/-- The faults of a block's bales are recorded. -/
def State.recordFaults (s : State) (b : Nat) (ue : List (Nat × Nat)) : State :=
  s.forAll (s.badLayers b ue) fun t n => t.forAll (s.badBales n b ue) fun u x => u.recordFault n x (ue.contains x)

theorem State.recordFaults_noted (s : State) (b : Nat) (ue : List (Nat × Nat)) : FaultsNoted s (s.recordFaults b ue) :=
  FaultsNoted.forAll s _ fun u n => FaultsNoted.forAll u _ fun v x => v.recordFault_noted n x _

/-- The bales of a block have been read: the layers that read a faulty one are unclean (R137, R138). -/
def State.readBlock (s : State) (b : Nat) (ue : List (Nat × Nat)) : State :=
  let t := s.recordFaults b ue
  { t with loom := { t.loom with
      unclean := (t.loom.unclean ++ s.badLayers b ue).dedup
      segments := Tab.put t.loom.segments (s.server (s.stripeOf b)) (s.segmentOf b) } }

theorem State.readBlock_spec (s : State) (b : Nat) (ue : List (Nat × Nat)) : Alters (fun _ => False) s (s.readBlock b ue) ∧
    ∀ n ∈ s.badLayers b ue, n ∈ (s.readBlock b ue).loom.unclean :=
  ⟨Alters.setLoom (s.recordFaults_noted b ue).toAlters _, fun _ hn => List.mem_dedup.mpr (List.mem_append_right _ hn)⟩

end Sys2Proof.Machine
end

section
/-! SUPPORT. The command BLOCK_ENCODED (R113, R135 to R138): a block that its slice finishes is stored or held. -/

namespace Sys2Proof.Machine

/-- A slice composes the block now: it is dirty, and of the band segment under way in the slice, which is not fenced (R135). -/
def State.blockReady (s : State) (b : Nat) : Prop :=
  b ∈ s.loom.dirty ∧ s.fenced (s.server (s.stripeOf b)) = false ∧ s.segmentNow (s.server (s.stripeOf b)) = some (s.segmentOf b)

/-- The condition under which BLOCK_ENCODED does nothing. -/
theorem State.blockReady_iff (s : State) (b : Nat) : s.blockReady b ↔ ¬ ((!s.loom.dirty.contains b) = true ∨ s.fenced (s.server (s.stripeOf b)) = true ∨
    s.segmentNow (s.server (s.stripeOf b)) ≠ some (s.segmentOf b)) := by
  simp only [State.blockReady, not_or, Bool.not_eq_true', List.contains_eq_mem, decide_eq_false_iff_not, not_not, Bool.not_eq_true]

/-- A block that is stored is dirty no more (R113, R136); `old` is the device before it was read. -/
def State.closeBlock (t old : State) (b : Nat) : State :=
  { t with
    loom := { t.loom with
      dirty := t.loom.dirty.filter fun x => x != b
      dirtySince := Tab.del t.loom.dirtySince b
      lastBlock := old.now
      busy := Tab.upd t.loom.busy (old.server (old.stripeOf b)) (· + blockCycles (old.contributing b).length) }
    dmg := { t.dmg with written := if t.dmg.window = 1 then b :: t.dmg.written else t.dmg.written } }

theorem State.notMem_dirty_closeBlock (t old : State) (b : Nat) : b ∉ (t.closeBlock old b).loom.dirty := fun h => by
  simpa using (List.mem_filter.mp h).2

theorem State.closeBlock_unclean (t old : State) (b : Nat) : (t.closeBlock old b).loom.unclean = t.loom.unclean := rfl

theorem State.closeBlock_fingerprint (t old : State) (b : Nat) : (t.closeBlock old b).canvasFingerprint b = t.canvasFingerprint b := rfl

theorem State.queued_closeBlock {t : State} {c p b : Nat} (old : State) (h : t.queued c p b) : (t.closeBlock old b).queued c p b := h

theorem doBlockEncoded_of_not_ready {s : State} {b : Nat} (ue : List (Nat × Nat)) (h : ¬ s.blockReady b) : doBlockEncoded s b ue = s := by
  rw [doBlockEncoded]
  exact if_pos (not_not.mp (mt (s.blockReady_iff b).mpr h))

theorem doBlockEncoded_of_ready {s : State} {b : Nat} (ue : List (Nat × Nat)) (h : s.blockReady b) : doBlockEncoded s b ue =
    if ((s.badLayers b ue).any fun n => !s.hatched n) = true then (s.readBlock b ue).holdBlock b
    else ((s.readBlock b ue).storeBlock b (s.composeBlock b)).closeBlock s b := by
  unfold State.closeBlock State.readBlock State.recordFaults State.badLayers
  unfold doBlockEncoded
  rw [if_neg ((s.blockReady_iff b).mp h)]

theorem State.mem_badLayers {s : State} {n b : Nat} {ue : List (Nat × Nat)} (hn : n ∈ s.contributing b) (hbad : (!(s.badBales n b ue).isEmpty) = true) :
    n ∈ s.badLayers b ue := List.mem_filter.mpr ⟨hn, hbad⟩

/-- No layer but a hatched one reads a faulty bale for the block. -/
theorem State.badLayers_hatched {s : State} {b : Nat} {ue : List (Nat × Nat)}
    (h : ∀ n ∈ s.contributing b, (!(s.badBales n b ue).isEmpty) = true → s.hatched n = true) : ¬ ((s.badLayers b ue).any fun n => !s.hatched n) = true := by
  simp only [List.any_eq_true, not_exists, not_and]
  intro n hn
  obtain ⟨hcontributes, hbad⟩ := List.mem_filter.mp hn
  simp [h n hcontributes hbad]

theorem Alters.allTiles {W : Nat → Prop} {s t : State} (h : Alters W s t) : t.allTiles = s.allTiles := by
  have htiles : t.chainTiles = s.chainTiles := by
    have hon : t.tileOn = s.tileOn := by
      funext c p
      simp only [State.tileOn, State.acFlag, h.ac]
    funext c
    rw [State.chainTiles, hon, State.chainTiles]
  rw [State.allTiles, htiles, State.allTiles]

theorem Alters.tileRect {W : Nat → Prop} {s t : State} (h : Alters W s t) (c p : Nat) : t.tileRect c p = s.tileRect c p := by
  simp only [State.tileRect, h.ac]

/-- A block under no faulty bale but those of hatched layers is stored. -/
theorem doBlockEncoded_stored {s : State} {b : Nat} {ue : List (Nat × Nat)} (hready : s.blockReady b) (hwf : Memory.wf s = true)
    (hclean : ∀ n ∈ s.contributing b, (!(s.badBales n b ue).isEmpty) = true → s.hatched n = true) :
    let t := doBlockEncoded s b ue
    let ps := s.composeBlock b
    b ∉ t.loom.dirty ∧ t.canvasFingerprint b = crc64Pixels ps ∧
      (∀ n ∈ s.contributing b, (!(s.badBales n b ue).isEmpty) = true → n ∈ t.loom.unclean) ∧
      (s.canvasFingerprint b ≠ crc64Pixels ps → ∀ cp ∈ s.allTiles, s.blockMeets b (s.tileRect cp.1 cp.2) = true → t.queued cp.1 cp.2 b) := by
  obtain ⟨hread, hunclean⟩ := s.readBlock_spec b ue
  obtain ⟨hloom, hfingerprint, hqueued⟩ := (s.readBlock b ue).storeBlock_spec b (s.composeBlock b) (hread.memoryWf.trans hwf)
  rw [hread.canvasFingerprint, hread.allTiles] at hqueued
  dsimp only
  rw [doBlockEncoded_of_ready ue hready, if_neg (State.badLayers_hatched hclean), State.closeBlock_fingerprint, State.closeBlock_unclean, hloom]
  refine ⟨State.notMem_dirty_closeBlock _ _ _, hfingerprint, fun n hn hbad => hunclean n (State.mem_badLayers hn hbad), fun hchanged cp hcp hmeets => ?_⟩
  exact State.queued_closeBlock s (hqueued hchanged cp hcp (by rwa [hread.blockMeets id, hread.tileRect]))

/-- A block under a faulty bale of a layer that is not hatched is held, and memory stays (R138). -/
theorem doBlockEncoded_held {s : State} {b n : Nat} {ue : List (Nat × Nat)} (hready : s.blockReady b) (hn : n ∈ s.contributing b)
    (hbad : (!(s.badBales n b ue).isEmpty) = true) (hhatched : s.hatched n = false) :
    let t := doBlockEncoded s b ue
    b ∉ t.loom.dirty ∧ b ∈ t.loom.carried ∧ n ∈ t.loom.unclean ∧ SameBytes s t := by
  have hmem := State.mem_badLayers hn hbad
  obtain ⟨hread, hunclean⟩ := s.readBlock_spec b ue
  have hheld : Alters (fun _ => False) s ((s.readBlock b ue).holdBlock b) := hread.setLoom _
  dsimp only
  rw [doBlockEncoded_of_ready ue hready, if_pos (List.any_eq_true.mpr ⟨n, hmem, by rw [hhatched]; rfl⟩)]
  exact ⟨notMem_dirty_holdBlock _ b, mem_carried_holdBlock _ b, unclean_subset_holdBlock _ b (hunclean n hmem), hheld.sameBytes⟩

end Sys2Proof.Machine
end

section
/-! SUPPORT. The end of a composition pass (R137, R140, R142, R184), and the tests and parity errors of slices (R143, R144). -/

namespace Sys2Proof.Machine

/-! ### What a layer shows at the end of a pass -/

/-- The registers in which the current bit of layer `n` shows. -/
def OfCurrent (n a : Nat) : Prop := OfLayer n a ∨ a = RegAddr.LOOM_CURRENT_LO ∨ a = RegAddr.LOOM_CURRENT_HI

/-- Layer `n` shows whether it is current and whether it is unclean. -/
def State.showCurrent (s : State) (n : Nat) (current unclean : Bool) : State :=
  let t := (s.wrFlag (Reg.LOOM_L_STAT_CURRENT n) current).wrFlag (Reg.LOOM_L_STAT_UNCLEAN n) unclean
  if n < 32 then t.wrBit Reg.LOOM_CURRENT_LO_CUR n current else t.wrBit Reg.LOOM_CURRENT_HI_CUR (n - 32) current

/-- The step of layer `n` at the end of the pass of `s` (R140, R142). -/
def State.endLayer (s t : State) (n : Nat) : State :=
  if (s.acFlag (Reg.LOOM_L_CTRL_ENABLE n) && !s.loom.unclean.contains n) = true then
    (t.showCurrent n (s.layerCurrent n) (s.loom.unclean.contains n)).setLayer n fun x => { x with lastClean := some s.loom.boundaryAt }
  else t.showCurrent n (s.layerCurrent n) (s.loom.unclean.contains n)

/-- A layer shows its current and its unclean bit. -/
def CurrentShown (n : Nat) (current unclean : Bool) (s : State) : Prop :=
  s.flag (Reg.LOOM_L_STAT_CURRENT n) = current ∧ s.flag (Reg.LOOM_L_STAT_UNCLEAN n) = unclean

theorem Alters.currentShown {W : Nat → Prop} {s t : State} (h : Alters W s t) {n : Nat} (hn : n < 64) (hW : ¬ W (RegAddr.LOOM_L_STAT n)) {c u : Bool}
    (hs : CurrentShown n c u s) : CurrentShown n c u t :=
  ⟨(h.flag (f := Reg.LOOM_L_STAT_CURRENT n) (layerStat_inLoom hn) hW).trans hs.1,
    (h.flag (f := Reg.LOOM_L_STAT_UNCLEAN n) (layerStat_inLoom hn) hW).trans hs.2⟩

theorem layerStat_ne_current {n : Nat} (hn : n < 64) : RegAddr.LOOM_L_STAT n ≠ RegAddr.LOOM_CURRENT_LO ∧ RegAddr.LOOM_L_STAT n ≠ RegAddr.LOOM_CURRENT_HI := by
  unfold RegAddr.LOOM_L_STAT RegAddr.LOOM_CURRENT_LO RegAddr.LOOM_CURRENT_HI
  omega

theorem State.showCurrent_spec (s : State) {n : Nat} (hn : n < 64) (c u : Bool) : Alters (OfCurrent n) s (s.showCurrent n c u) ∧
    (s.showCurrent n c u).loom = s.loom ∧ CurrentShown n c u (s.showCurrent n c u) := by
  have hflags : CurrentShown n c u ((s.wrFlag (Reg.LOOM_L_STAT_CURRENT n) c).wrFlag (Reg.LOOM_L_STAT_UNCLEAN n) u) :=
    ⟨State.flag_of_rd ((State.rd_wr_layerField _ n u.toNat (lo := 2) (width := 1) (by decide)).trans
        (State.rd_wr_layerField_self _ n 0 1 _ (by decide) c.toNat_lt)),
      State.flag_of_rd (State.rd_wr_layerField_self _ n 2 1 _ (by decide) u.toNat_lt)⟩
  have halters : Alters (OfCurrent n) s ((s.wrFlag (Reg.LOOM_L_STAT_CURRENT n) c).wrFlag (Reg.LOOM_L_STAT_UNCLEAN n) u) :=
    ((Alters.refl _ s).wr _ _ (.inl rfl)).wr _ _ (.inl rfl)
  obtain ⟨hlo, hhi⟩ := layerStat_ne_current hn
  unfold State.showCurrent
  dsimp only
  split
  · exact ⟨halters.wr _ _ (.inr (.inl rfl)), rfl,
      (Alters.wr (W := (· = RegAddr.LOOM_CURRENT_LO)) (Alters.refl _ _) _ _ rfl).currentShown hn hlo hflags⟩
  · exact ⟨halters.wr _ _ (.inr (.inr rfl)), rfl,
      (Alters.wr (W := (· = RegAddr.LOOM_CURRENT_HI)) (Alters.refl _ _) _ _ rfl).currentShown hn hhi hflags⟩

theorem State.setLayer_loom (s : State) (n : Nat) (f : LayerSt → LayerSt) :
    (s.setLayer n f).loom = { s.loom with layers := Tab.upd s.loom.layers n f } := rfl

theorem State.endLayer_spec (s t : State) {n : Nat} (hn : n < 64) : Alters (OfCurrent n) t (s.endLayer t n) ∧
    (∃ l, (s.endLayer t n).loom = { t.loom with layers := l }) ∧ CurrentShown n (s.layerCurrent n) (s.loom.unclean.contains n) (s.endLayer t n) := by
  obtain ⟨halters, hloom, hshown⟩ := t.showCurrent_spec hn (s.layerCurrent n) (s.loom.unclean.contains n)
  unfold State.endLayer
  split
  · exact ⟨halters.setLoom _, ⟨_, by rw [State.setLayer_loom, hloom]⟩, hshown⟩
  · exact ⟨halters, ⟨t.loom.layers, hloom⟩, hshown⟩

/-- All layers show what the pass that ends made of them. -/
def State.endLayers (s : State) : State := s.forAll layerNumbers s.endLayer

theorem State.endLayers_loom (s : State) : ∃ l, s.endLayers.loom = { s.loom with layers := l } := by
  refine State.forAll_keeps (fun t => ∃ l, t.loom = { s.loom with layers := l }) _ _ s ⟨s.loom.layers, rfl⟩ ?_
  rintro t n hn ⟨l, hl⟩
  obtain ⟨-, ⟨m, hm⟩, -⟩ := s.endLayer_spec t (List.mem_range.mp hn)
  exact ⟨m, by rw [hm, hl]⟩

theorem State.endLayers_shown (s : State) {n : Nat} (hn : n < 64) : CurrentShown n (s.layerCurrent n) (s.loom.unclean.contains n) s.endLayers := by
  obtain ⟨hlo, hhi⟩ := layerStat_ne_current hn
  refine State.forAll_at (R := fun _ => True) (P := CurrentShown n (s.layerCurrent n) (s.loom.unclean.contains n)) (List.mem_range.mpr hn) List.nodup_range
    trivial (fun _ _ _ _ _ => trivial) (fun t _ => (s.endLayer_spec t hn).2.2) fun t m hm hne ht => ?_
  refine (s.endLayer_spec t (List.mem_range.mp hm)).1.currentShown hn ?_ ht
  rintro (h | h | h)
  · exact hne (layerStat_inj h).symm
  · exact hlo h
  · exact hhi h

/-! ### The status of the pass -/

/-- The registers that show what a pass held and what it took. -/
def OfStatus (a : Nat) : Prop := a = RegAddr.LOOM_PASS_STAT ∨ ∃ i, a = RegAddr.LOOM_SLICE_LOAD i

/-- The slices show how long they were busy. -/
def State.showLoads (s : State) (busy : Nat → Nat) : State := s.forAll sliceNumbers fun t i => t.wr (Reg.LOOM_SLICE_LOAD_BUSY i) (busy i)

/-- The pass shows how many blocks it held, and the time it took. -/
def State.showPass (s : State) (held time : Nat) : State := (s.wr Reg.LOOM_PASS_STAT_HELD held).wr Reg.LOOM_PASS_STAT_TIME time

theorem State.showLoads_spec (s : State) (busy : Nat → Nat) : Alters (fun a => ∃ i, a = RegAddr.LOOM_SLICE_LOAD i) s (s.showLoads busy) ∧
    (s.showLoads busy).loom = s.loom :=
  ⟨(Alters.refl _ s).forAll fun u i _ => (Alters.refl _ u).wr _ _ ⟨i, rfl⟩, State.forAll_keeps (fun t => t.loom = s.loom) _ _ s rfl fun _ _ _ h => h⟩

theorem State.showPass_held (s : State) {held : Nat} (time : Nat) (h : held < 65536) : (s.showPass held time).rd Reg.LOOM_PASS_STAT_HELD = held :=
  (State.rd_wr_other _ Reg.LOOM_PASS_STAT_TIME Reg.LOOM_PASS_STAT_HELD _ rfl rfl (by decide)).trans
    ((State.rd_wr_self _ Reg.LOOM_PASS_STAT_HELD _ (by decide)).trans (Nat.mod_eq_of_lt h))

/-- The status of a pass shows what it held, and leaves what the layers show. -/
theorem State.showStatus_spec (s : State) {held : Nat} (time : Nat) (busy : Nat → Nat) (h : held < 65536) :
    Alters OfStatus s ((s.showPass held time).showLoads busy) ∧ ((s.showPass held time).showLoads busy).loom = s.loom ∧
    ((s.showPass held time).showLoads busy).rd Reg.LOOM_PASS_STAT_HELD = held := by
  obtain ⟨halters, hloom⟩ := (s.showPass held time).showLoads_spec busy
  have hpass : Alters OfStatus s (s.showPass held time) := ((Alters.refl _ s).wr _ _ (.inl rfl)).wr _ _ (.inl rfl)
  refine ⟨hpass.trans (halters.mono fun _ => .inr), hloom, (halters.rd rfl ?_).trans (s.showPass_held time h)⟩
  rintro ⟨i, hi⟩
  change 0x11FFF01C = 0x1107F004 + i * 0x40000 at hi
  omega

theorem layerStat_not_ofStatus {n : Nat} (hn : n < 64) : ¬ OfStatus (RegAddr.LOOM_L_STAT n) := by
  rintro (h | ⟨i, h⟩)
  · unfold RegAddr.LOOM_L_STAT RegAddr.LOOM_PASS_STAT at h
    omega
  · unfold RegAddr.LOOM_L_STAT RegAddr.LOOM_SLICE_LOAD at h
    omega

theorem State.loseEarly_only (s : State) (r : Nat) : ∃ h, s.loseEarly r = { s with hmk := h } := by
  unfold State.loseEarly
  dsimp only
  split
  · exact ⟨_, rfl⟩
  · exact ⟨s.hmk, rfl⟩

/-- Keeping what affirmation asks of a pass changes the hallmark block alone (R184, R196). -/
theorem State.recordPass_only (s : State) : ∃ h, s.recordPass = { s with hmk := h } := by
  unfold State.recordPass
  refine State.forAll_keeps (fun t => ∃ h, t = { s with hmk := h }) _ _ _ ⟨_, rfl⟩ ?_
  rintro t r - ⟨h, rfl⟩
  obtain ⟨k, hk⟩ := State.loseEarly_only { s with hmk := h } r.1
  exact ⟨k, hk⟩

/-! ### PASS_END -/

/-- The registers and layers of a pass whose remaining blocks are held, at its end. -/
def State.endPass (s : State) : State :=
  (s.endLayers.showPass (min s.loom.heldCount 0xFFFF) (min ((s.loom.lastBlock - s.loom.boundaryAt) / 1000) 0xFFFF)).showLoads fun i =>
    min (Tab.get s.loom.busy i / 1000) 0xFFFF

theorem State.endPass_spec (s : State) : (∃ l, s.endPass.loom = { s.loom with layers := l }) ∧
    s.endPass.rd Reg.LOOM_PASS_STAT_HELD = min s.loom.heldCount 65535 ∧
    ∀ n < 64, CurrentShown n (s.layerCurrent n) (s.loom.unclean.contains n) s.endPass := by
  obtain ⟨l, hl⟩ := s.endLayers_loom
  obtain ⟨halters, hloom, hheld⟩ := s.endLayers.showStatus_spec (held := min s.loom.heldCount 0xFFFF)
    (min ((s.loom.lastBlock - s.loom.boundaryAt) / 1000) 0xFFFF) (fun i => min (Tab.get s.loom.busy i / 1000) 0xFFFF)
    (Nat.lt_succ_of_le (Nat.min_le_right _ _))
  exact ⟨⟨l, hloom.trans hl⟩, hheld, fun n hn => halters.currentShown hn (layerStat_not_ofStatus hn) (s.endLayers_shown hn)⟩

/-- The pass is over, and its pins are dropped (R102). -/
def State.leavePass (s : State) : State := { s with loom := { s.loom with inPass := false, passPins := [] } }

theorem State.leavePass_spec (s : State) : s.leavePass.recordPass.loom = { s.loom with inPass := false, passPins := [] } ∧
    Alters (fun _ => False) s s.leavePass.recordPass := by
  obtain ⟨h, hh⟩ := s.leavePass.recordPass_only
  rw [hh]
  exact ⟨rfl, Alters.of_same rfl rfl⟩

theorem doPassEnd_eq {s : State} (h : s.loom.inPass = true) : doPassEnd s = (doCutoff s []).endPass.leavePass.recordPass := by
  unfold doPassEnd
  rw [if_neg (by simp [h])]
  generalize doCutoff s [] = u
  unfold State.leavePass State.endPass State.showLoads State.showPass State.endLayers State.endLayer State.showCurrent
  rfl

/-- The end of a pass holds the rest, shows each layer's bits and drops the pins. -/
theorem doPassEnd_spec {s : State} (h : s.loom.inPass = true) :
    (doPassEnd s).loom.inPass = false ∧ (doPassEnd s).loom.passPins = [] ∧ (doPassEnd s).loom.dirty = [] ∧
    (doPassEnd s).loom.carried = (doCutoff s []).loom.carried ∧
    (doPassEnd s).rd Reg.LOOM_PASS_STAT_HELD = min (doCutoff s []).loom.heldCount 65535 ∧
    ∀ n < 64, CurrentShown n ((doCutoff s []).layerCurrent n) ((doCutoff s []).loom.unclean.contains n) (doPassEnd s) := by
  have hdirty : (doCutoff s []).loom.dirty = [] := (doCutoff_spec s []).2.1.trans (List.filter_eq_nil_iff.mpr (by simp))
  rw [doPassEnd_eq h]
  generalize doCutoff s [] = u at hdirty ⊢
  obtain ⟨⟨l, hl⟩, hheld, hshown⟩ := u.endPass_spec
  obtain ⟨hloom, halters⟩ := u.endPass.leavePass_spec
  rw [hloom, hl]
  exact ⟨rfl, rfl, hdirty, rfl, (halters.rd rfl id).trans hheld, fun n hn => halters.currentShown hn id (hshown n hn)⟩

theorem doPassEnd_of_no_pass {s : State} (h : s.loom.inPass = false) : doPassEnd s = s := if_pos (by rw [h]; rfl)

/-! ### Tests and parity errors of slices -/

theorem mem_toFence_dueFence (s : State) (i : Nat) (parity : Bool) : (i, parity) ∈ (s.dueFence i parity).loom.toFence :=
  List.mem_dedup.mpr List.mem_cons_self

theorem doBistFragment_of_not_idle {s : State} {i : Nat} (failed : Bool)
    (h : s.isSender = false ∨ s.acFlag Reg.LOOM_CFG_BIST_EN = false ∨ s.sliceIdle i = false) : doBistFragment s i failed = s :=
  if_pos (by simpa using h)

/-- A fragment of the self-test counts, and one that fails fences the slice at the next boundary (R143, R144). -/
theorem doBistFragment_spec {s : State} {i : Nat} (failed : Bool) (hsender : s.isSender = true) (hon : s.acFlag Reg.LOOM_CFG_BIST_EN = true)
    (hidle : s.sliceIdle i = true) :
    (doBistFragment s i failed).rd (Reg.LOOM_SLICE_LOAD_FRAGMENTS i) = (s.rd (Reg.LOOM_SLICE_LOAD_FRAGMENTS i) + 1) % 4096 ∧
    (failed = true → (i, false) ∈ (doBistFragment s i failed).loom.toFence) := by
  have hcount : (s.rd (Reg.LOOM_SLICE_LOAD_FRAGMENTS i) + 1) % 4096 < 2 ^ 13 := (Nat.mod_lt _ (by decide)).trans (by decide)
  have hread := (s.rd_wr_self (Reg.LOOM_SLICE_LOAD_FRAGMENTS i) _ (show 16 + 13 ≤ 32 by decide)).trans (Nat.mod_eq_of_lt hcount)
  have heq : doBistFragment s i failed = if failed = true then
      (s.wr (Reg.LOOM_SLICE_LOAD_FRAGMENTS i) ((s.rd (Reg.LOOM_SLICE_LOAD_FRAGMENTS i) + 1) % 4096)).dueFence i false
      else s.wr (Reg.LOOM_SLICE_LOAD_FRAGMENTS i) ((s.rd (Reg.LOOM_SLICE_LOAD_FRAGMENTS i) + 1) % 4096) :=
    if_neg (by simp [hsender, hon, hidle])
  rw [heq]
  cases failed with
  | false => exact ⟨hread, fun h => absurd h Bool.false_ne_true⟩
  | true => exact ⟨hread, fun _ => mem_toFence_dueFence _ i false⟩

theorem doSliceParityError_of_not_sender {s : State} (i b : Nat) (h : s.isSender = false) : doSliceParityError s i b = s := if_pos (by rw [h]; rfl)

/-- A parity error fences the slice at the next boundary, and the block in which it occurred is held (R144). -/
theorem doSliceParityError_spec {s : State} (i b : Nat) (h : s.isSender = true) : (i, true) ∈ (doSliceParityError s i b).loom.toFence ∧
    (b ∈ s.loom.dirty → b ∉ (doSliceParityError s i b).loom.dirty ∧ b ∈ (doSliceParityError s i b).loom.carried) := by
  have heq : doSliceParityError s i b = if s.loom.dirty.contains b = true then (s.dueFence i true).holdBlock b else s.dueFence i true :=
    if_neg (by simp [h])
  rw [heq]
  split
  · exact ⟨mem_toFence_dueFence s i true, fun _ => ⟨notMem_dirty_holdBlock _ b, mem_carried_holdBlock _ b⟩⟩
  · next hclean => exact ⟨mem_toFence_dueFence s i true, fun hb => absurd (List.contains_iff_mem.mpr hb) hclean⟩

end Sys2Proof.Machine
end

section
/-! SUPPORT. Composition passes: O57, from the beginning of a pass, its blocks, its cut-off, its end and the faults of slices. -/

namespace Sys2Proof.Machine

theorem doCompositionPass_of_not_due {s : State} (h : s.isSender = false ∨ s.loom.inPass = true ∨ s.boundaryDue actPass s.frameNow = false) :
    doCompositionPass s = s := by
  refine if_neg fun hc => ?_
  obtain ⟨⟨hsender, hout⟩, hdue⟩ := (Bool.and_eq_true_iff.mp hc).imp_left Bool.and_eq_true_iff.mp
  obtain h | h | h := h
  · simp [h] at hsender
  · simp [h] at hout
  · simp [h] at hdue

/-- The cut-off changes Loom's state alone. -/
theorem doCutoff_frame (s : State) (started : List Nat) : (doCutoff s started).regs = s.regs ∧ SameBytes s (doCutoff s started) := by
  obtain ⟨⟨x, hx⟩, -⟩ := doCutoff_spec s started
  rw [hx]
  exact ⟨rfl, (Alters.setLoom (W := fun _ => False) (Alters.refl _ s) x).sameBytes⟩

/-- The surface bales that the memory flags, as numbers. -/
def flagged (ue : List (BitVec 9 × BitVec 18)) : List (Nat × Nat) := ue.map fun x => (x.1.toNat, x.2.toNat)

theorem blockEncoded_unchanged {s : State} {b : BitVec 22} {ue : List (BitVec 9 × BitVec 18)} (h : ¬ s.blockReady b.toNat) :
    exec (.blockEncoded b ue) s = .next s :=
  exec_unchanged (f := fun u => doBlockEncoded u b.toNat (flagged ue)) rfl (doBlockEncoded_of_not_ready _ h)

theorem works_blockEncoded {s : State} {b : BitVec 22} {ue : List (BitVec 9 × BitVec 18)} {P : State → Prop}
    (h : P (doBlockEncoded s b.toNat (flagged ue))) : Works (.blockEncoded b ue) s P :=
  works_of_exec (f := fun u => doBlockEncoded u b.toNat (flagged ue)) rfl h

/-- Settles O57: each command of a pass by its own lemma, and where it has nothing to do it leaves the device as it is. -/
theorem passesComposeDirtyBlocks : Obligations.PassesComposeDirtyBlocks := by
  intro s
  refine ⟨fun hidle => ?_, fun hsender hout hdue => ?_, fun b ue => ⟨fun hnot => ?_, fun hready hwf hclean => ?_, fun hready n hn hbad hhatched => ?_⟩,
    fun started => ?_, fun hout => ?_, fun hin => ?_, fun i => ⟨fun hidle failed => ?_, fun hsender hon hidle failed => ?_, fun hsender b => ?_,
      fun hsender b => ?_⟩⟩
  · exact exec_unchanged (f := fun u => doCompositionPass u) rfl (doCompositionPass_of_not_due hidle)
  · obtain ⟨hbegun, hdone, hfirst⟩ := doCompositionPass_spec hsender hout hdue
    refine works_of_exec (f := fun u => doCompositionPass u) rfl ⟨hbegun.inPass, hbegun.gen, hbegun.boundaryAt, hbegun.bounds, hdone, hbegun.dirty,
      hbegun.marked, fun n hn => ?_, fun i hi hfence => ?_, fun i hi hnew => ?_, hbegun.toFence, hfirst⟩
    · exact ⟨(hbegun.layers n hn).held, (hbegun.layers n hn).nr, (hbegun.layers n hn).hatched⟩
    · refine (hbegun.fences i hi).fenced ?_
      obtain hforced | hparity | htest := hfence
      · exact .inl hforced
      · exact .inr ⟨true, hparity⟩
      · exact .inr ⟨false, htest⟩
    · exact ⟨(hbegun.fences i hi).parity hnew, (hbegun.fences i hi).testFail hnew⟩
  · exact blockEncoded_unchanged hnot
  · exact works_blockEncoded (doBlockEncoded_stored hready hwf hclean)
  · exact works_blockEncoded (doBlockEncoded_held hready hn hbad hhatched)
  · obtain ⟨-, hdirty, hheld⟩ := doCutoff_spec s (started.map (·.toNat))
    exact works_of_exec (f := fun u => doCutoff u (started.map (·.toNat))) rfl ⟨hdirty, hheld, doCutoff_frame s _⟩
  · exact exec_unchanged (f := fun u => doPassEnd u) rfl (doPassEnd_of_no_pass hout)
  · exact works_of_exec (f := fun u => doPassEnd u) rfl (doPassEnd_spec hin)
  · exact exec_unchanged (f := fun u => doBistFragment u i failed) rfl (doBistFragment_of_not_idle failed hidle)
  · exact works_of_exec (f := fun u => doBistFragment u i failed) rfl (doBistFragment_spec failed hsender hon hidle)
  · exact exec_unchanged (f := fun u => doSliceParityError u i b.toNat) rfl (doSliceParityError_of_not_sender _ _ hsender)
  · exact works_of_exec (f := fun u => doSliceParityError u i b.toNat) rfl (doSliceParityError_spec _ _ hsender)

end Sys2Proof.Machine
end

section
/-! SUPPORT. What an operation of one block leaves of the rest of the device: the ground that every block reads, the registers that it does not own, and
the links of the Weft, which sending leaves as they are (R226, R242). -/

namespace Sys2Proof.Machine

/-! ### Operations within some registers -/

/-- What neither the Tile store nor the dispatcher changes: the active copies, the count and the wheel, the keys, the Tiles served in split-ring, a
fatal error, and the start under way. -/
structure Ground where
  act : Tab Word
  count : BitVec 64
  whl : WhlSt
  trs : TrsSt
  served : List Nat
  fatal : Option Nat
  committed : List Nat
  step : Option (Bool × Nat)

def State.ground (s : State) : Ground := ⟨s.act, s.count, s.whl, s.trs, s.spn.served, s.sys.fatal, s.sys.committed, s.sys.step⟩

/-- An update that leaves the ground, and every register but those at the addresses that `W` names. -/
structure Within (W : Nat → Prop) (s t : State) : Prop where
  ground : t.ground = s.ground
  regs : ∀ a, ¬ W a → Tab.find t.regs a = Tab.find s.regs a

section
variable {W V : Nat → Prop} {s t u : State}

theorem Within.of_same (hground : t.ground = s.ground) (hregs : t.regs = s.regs) : Within W s t := ⟨hground, fun _ _ => congrArg (Tab.find · _) hregs⟩

theorem Within.refl (W : Nat → Prop) (s : State) : Within W s s := Within.of_same rfl rfl

theorem Within.trans (h : Within W s t) (k : Within W t u) : Within W s u :=
  ⟨k.ground.trans h.ground, fun a hW => (k.regs a hW).trans (h.regs a hW)⟩

theorem Within.mono (h : Within W s t) (hW : ∀ a, W a → V a) : Within V s t := ⟨h.ground, fun a hV => h.regs a fun hw => hV (hW a hw)⟩

theorem Within.wr (h : Within W s t) (f : Fld) (v : Nat) (hf : W f.addr) : Within W s (t.wr f v) :=
  h.trans ⟨rfl, fun _ hW => t.wr_find f v fun hfa => hW (hfa ▸ hf)⟩

theorem Within.raise (h : Within W s t) (src code arg : Nat) (hW : W RegAddr.SYS_ALERT) : Within W s (t.raise src code arg) := by
  obtain ⟨l, r, b, heq, hregs⟩ := t.raise_only src code arg
  exact h.trans (heq ▸ ⟨rfl, fun a ha => hregs a fun halert => ha (halert ▸ hW)⟩)

theorem Within.onlyIf (h : Within W s t) (c : Bool) {f : State → State} (hf : Within W t (f t)) : Within W s (t.onlyIf c f) := by
  cases c with
  | false => exact h
  | true => exact h.trans hf

/-! What is read of the ground and of other registers stays. -/

theorem Within.rd (h : Within W s t) {f : Fld} (hf : ¬ W f.addr) : t.rd f = s.rd f := State.rd_of_find (h.regs _ hf)

theorem Within.flag (h : Within W s t) {f : Fld} (hf : ¬ W f.addr) : t.flag f = s.flag f := congrArg (· == 1) (h.rd hf)

theorem Within.ac (h : Within W s t) : t.ac = s.ac := by
  have hact : t.act = s.act := congrArg Ground.act h.ground
  funext f
  rw [State.ac, State.actWord, hact]
  rfl

theorem Within.now (h : Within W s t) : t.now = s.now := congrArg (fun x => x.count.toNat) h.ground

theorem Within.whl (h : Within W s t) : t.whl = s.whl := congrArg Ground.whl h.ground

theorem Within.trs (h : Within W s t) : t.trs = s.trs := congrArg Ground.trs h.ground

theorem Within.served (h : Within W s t) : t.spn.served = s.spn.served := congrArg Ground.served h.ground

theorem Within.fatal (h : Within W s t) : t.sys.fatal = s.sys.fatal := congrArg Ground.fatal h.ground

theorem Within.cfg (h : Within W s t) (g : Nat) {f : Fld} (hf : ¬ W f.addr) : t.cfg g f = s.cfg g f := by
  have hcommitted : t.sys.committed = s.sys.committed := congrArg Ground.committed h.ground
  have hstep : t.sys.step = s.sys.step := congrArg Ground.step h.ground
  rw [State.cfg, hcommitted, hstep, h.ac, h.rd hf, State.cfg]

theorem Within.role (h : Within W s t) (hrole : ¬ W RegAddr.SYS_ROLE) : t.role = s.role := h.rd hrole

theorem Within.isSender (h : Within W s t) (hrole : ¬ W RegAddr.SYS_ROLE) : t.isSender = s.isSender := by rw [State.isSender, h.role hrole, State.isSender]

theorem Within.isTile (h : Within W s t) (hrole : ¬ W RegAddr.SYS_ROLE) : t.isTile = s.isTile := by rw [State.isTile, h.role hrole, State.isTile]

theorem Within.mayTag (h : Within W s t) (k : PType) : t.mayTag k = s.mayTag k := by rw [State.mayTag, h.trs, State.mayTag]

end

/-! ### The links of the Weft -/

/-- An update that leaves each port's width, and whether it can send. -/
structure SameLinks (s t : State) : Prop where
  canSend : ∀ q, t.canSend q = s.canSend q
  lanes : ∀ q, t.portLanes q = s.portLanes q

theorem SameLinks.refl (s : State) : SameLinks s s := ⟨fun _ => rfl, fun _ => rfl⟩

theorem SameLinks.trans {s t u : State} (h : SameLinks s t) (k : SameLinks t u) : SameLinks s u :=
  ⟨fun q => (k.canSend q).trans (h.canSend q), fun q => (k.lanes q).trans (h.lanes q)⟩

/-- An update that does not touch WFT_PORT_STAT leaves the links. -/
theorem Within.sameLinks {W : Nat → Prop} {s t : State} (h : Within W s t) (hW : ∀ q, ¬ W (RegAddr.WFT_PORT_STAT q)) : SameLinks s t where
  canSend q := by
    rw [State.canSend, State.inService, h.rd (f := Reg.WFT_PORT_STAT_STATE q) (hW q), h.rd (f := Reg.WFT_PORT_STAT_TX_POWER q) (hW q)]
    rfl
  lanes q := by
    rw [State.portLanes, h.rd (f := Reg.WFT_PORT_STAT_TX_WIDTH q) (hW q), State.portLanes]

theorem portStat_inj {p q : Nat} (h : RegAddr.WFT_PORT_STAT p = RegAddr.WFT_PORT_STAT q) : p = q := by
  unfold RegAddr.WFT_PORT_STAT at h
  omega

/-- A port that can send goes on so when its transmit direction returns to Active (R242). -/
theorem SameLinks.wake {s : State} {p : Nat} (hcan : s.canSend p = true) : SameLinks s (s.wr (Reg.WFT_PORT_STAT_TX_POWER p) 0) := by
  have hkeep (q : Nat) (hq : q ≠ p) (f : Fld) (hf : f.addr = RegAddr.WFT_PORT_STAT q) : (s.wr (Reg.WFT_PORT_STAT_TX_POWER p) 0).rd f = s.rd f :=
    s.rd_wr_ne _ _ _ fun h => hq (portStat_inj (h.trans hf)).symm
  refine ⟨fun q => ?_, fun q => ?_⟩
  · by_cases hq : q = p
    · subst hq
      have hstate : (s.wr (Reg.WFT_PORT_STAT_TX_POWER q) 0).inService q = s.inService q :=
        congrArg (· == 7) (s.rd_wr_other _ _ 0 rfl rfl (show 4 + 2 ≤ 0 ∨ 0 + 4 ≤ 4 by decide))
      have hpower : (s.wr (Reg.WFT_PORT_STAT_TX_POWER q) 0).rd (Reg.WFT_PORT_STAT_TX_POWER q) = 0 := s.rd_wr_self _ 0 (show 4 + 2 ≤ 32 by decide)
      rw [hcan, State.canSend, hstate, hpower]
      simp only [State.canSend, Bool.and_eq_true] at hcan
      rw [hcan.1]
      rfl
    · rw [State.canSend, State.inService, hkeep q hq _ rfl, hkeep q hq _ rfl]
      rfl
  · rw [State.portLanes, State.portLanes]
    refine congrArg ([0, 1, 2, 4].getD · 0) ?_
    by_cases hq : q = p
    · subst hq
      exact s.rd_wr_other _ _ 0 rfl rfl (show 4 + 2 ≤ 12 ∨ 12 + 2 ≤ 4 by decide)
    · exact hkeep q hq _ rfl

/-- What waits for a marker goes by the count and the port's rate and width. -/
theorem Within.acrossMarker {W : Nat → Prop} {s t : State} (h : Within W s t) (k : SameLinks s t) (q : Nat) : t.acrossMarker q = s.acrossMarker q := by
  funext n
  simp only [State.acrossMarker, State.airNs, State.portRate, h.now, h.ac, k.lanes]
  rfl

theorem Within.leaving {W : Nat → Prop} {s t : State} (h : Within W s t) (k : SameLinks s t) {q : Nat} (hport : t.port q = s.port q) :
    t.leaving q = s.leaving q := by
  rw [State.leaving, h.acrossMarker k, hport, State.leaving]

/-- The registers by which a device heads the packets that it forms (R209, R214). -/
def HeadReg (a : Nat) : Prop := a = RegAddr.SYS_ROLE ∨ a = RegAddr.SYS_WALL ∨ a = RegAddr.SPN_EPOCH ∨ a = RegAddr.SPN_TILE_EPOCH

/-- The packet that a port would form next depends on the port and on the registers of the heading. -/
theorem Within.formPacket {W : Nat → Prop} {s t : State} (h : Within W s t) (hW : ∀ a, HeadReg a → ¬ W a) {q : Nat} (hport : t.port q = s.port q)
    (hkey : s.trs.wallKey ≠ none) (k : PType) (dest : Nat) (body : Bytes) : t.formPacket q k dest body = s.formPacket q k dest body := by
  obtain ⟨key, hkey⟩ := Option.ne_none_iff_exists'.mp hkey
  have hrole (f : Fld) (hf : f.addr = RegAddr.SYS_ROLE) : t.rd f = s.rd f := h.rd (hf ▸ hW _ (.inl rfl))
  have hwall (f : Fld) (hf : f.addr = RegAddr.SYS_WALL) : t.rd f = s.rd f := h.rd (hf ▸ hW _ (.inr (.inl rfl)))
  have hepoch : t.ownEpoch = s.ownEpoch := by
    rw [State.ownEpoch, h.rd (f := Reg.SPN_EPOCH_EPOCH) (hW _ (.inr (.inr (.inl rfl)))), h.rd (f := Reg.SPN_TILE_EPOCH_EPOCH) (hW _ (.inr (.inr (.inr rfl)))),
      h.isTile (hW _ (.inl rfl)), State.ownEpoch]
  simp only [State.formPacket, State.nextCount, State.syncDue, State.portDir, State.ownRank, State.ownOrigin, State.portField, State.portPlace, State.flag,
    hepoch, h.isTile (hW _ (.inl rfl)), h.now, hport, h.trs, hkey, hrole Reg.SYS_ROLE_RANK rfl, hrole Reg.SYS_ROLE_GROUP rfl,
    hwall Reg.SYS_WALL_ADDR rfl, hwall Reg.SYS_WALL_VALID rfl]
  rfl

/-! ### Packets that leave -/

theorem setPort_port_self (s : State) (p : Nat) (f : WeftPort → WeftPort) : (s.setPort p f).port p = f (s.port p) := Tab.get_upd_self _ _ _

theorem setPort_port_ne (s : State) (f : WeftPort → WeftPort) {p q : Nat} (h : q ≠ p) : (s.setPort p f).port q = s.port q :=
  Tab.get_upd_ne _ _ (Ne.symm h)

theorem putOut_port_self (s : State) (p : Nat) (l : List Sent) : (s.putOut p l).port p = { s.port p with lastTx := s.now } :=
  setPort_port_self s p fun w => { w with lastTx := s.now }

theorem putOut_port_ne (s : State) (l : List Sent) {p q : Nat} (h : q ≠ p) : (s.putOut p l).port q = s.port q :=
  setPort_port_ne s (fun w => { w with lastTx := s.now }) h

/-- What the departure of packets on a port changes: the Weft's own state, WFT_PORT_STAT of the port, and where there is no key the free values; it leaves
every link and the other ports. -/
structure Departs (p : Nat) (s t : State) : Prop where
  only : ∃ w r n, t = { s with weft := w, regs := r, fresh := n }
  regs : ∀ a, RegAddr.WFT_PORT_STAT p ≠ a → Tab.find t.regs a = Tab.find s.regs a
  links : SameLinks s t
  ports : ∀ q, q ≠ p → t.port q = s.port q

theorem Departs.refl (p : Nat) (s : State) : Departs p s s := ⟨⟨_, _, _, rfl⟩, fun _ _ => rfl, SameLinks.refl s, fun _ _ => rfl⟩

theorem Departs.trans {p : Nat} {s t u : State} (h : Departs p s t) (k : Departs p t u) : Departs p s u where
  only := by
    obtain ⟨w, r, n, rfl⟩ := h.only
    obtain ⟨w', r', n', rfl⟩ := k.only
    exact ⟨w', r', n', rfl⟩
  regs a ha := (k.regs a ha).trans (h.regs a ha)
  links := h.links.trans k.links
  ports q hq := (k.ports q hq).trans (h.ports q hq)

theorem Departs.onlyIf {p : Nat} {s : State} (c : Bool) {f : State → State} (h : Departs p s (f s)) : Departs p s (s.onlyIf c f) := by
  cases c with
  | false => exact Departs.refl p s
  | true => exact h

/-- A change of a port, and packets that leave on it. -/
theorem Departs.putOut (p : Nat) (s : State) (f : WeftPort → WeftPort) (l : List Sent) : Departs p s ((s.setPort p f).putOut p l) where
  only := ⟨_, _, _, rfl⟩
  regs _ _ := rfl
  links := ⟨fun _ => rfl, fun _ => rfl⟩
  ports _ hq := (putOut_port_ne _ l hq).trans (setPort_port_ne s f hq)

/-- The transmit direction of a port that can send returns to Active (R242). -/
theorem Departs.wake {p : Nat} {s : State} (hcan : s.canSend p = true) : Departs p s (s.wr (Reg.WFT_PORT_STAT_TX_POWER p) 0) where
  only := ⟨_, _, _, rfl⟩
  regs _ ha := s.wr_find _ _ ha
  links := SameLinks.wake hcan
  ports _ _ := rfl

theorem Departs.spend (p : Nat) (s : State) : Departs p s s.spend := ⟨⟨_, _, _, rfl⟩, fun _ _ => rfl, ⟨fun _ => rfl, fun _ => rfl⟩, fun _ _ => rfl⟩

theorem State.drainFwd_departs (s : State) (p : Nat) : Departs p s (s.drainFwd p) := by
  unfold State.drainFwd
  dsimp only
  split
  · exact Departs.refl p s
  · next h =>
    have hcan : s.canSend p = true := by
      simp only [Bool.or_eq_true, not_or, Bool.not_eq_true', Bool.not_eq_false] at h
      exact h.2
    have hout := Departs.putOut p s (fun x => { x with fwd := x.fwd.drop (s.leaving p).length }) (s.leaving p)
    exact hout.trans (Departs.wake ((hout.links.canSend p).trans hcan))

theorem State.send_departs (s : State) (p : Nat) (t : PType) (dest : Nat) (body : Bytes) : Departs p s (s.send p t dest body) := by
  unfold State.send
  split
  · next h =>
    simp only [Bool.and_eq_true] at h
    have hdrained := Departs.onlyIf (f := fun u => u.drainFwd p) (t != .time) (s.drainFwd_departs p)
    have hout := hdrained.trans (Departs.putOut p _ (fun w => { w with
      tx := Tab.put w.tx (s.portDir p true) (s.nextCount p), syncDue := false
      lastSyncMs := if s.syncDue p then some (s.now / 1000000) else w.lastSyncMs }) [⟨p, s.formPacket p t dest body, true, none⟩])
    exact (hout.trans (Departs.wake ((hout.links.canSend p).trans h.1))).trans (Departs.onlyIf _ (Departs.spend p _))
  · exact Departs.refl p s

theorem Departs.within {p : Nat} {s t : State} (h : Departs p s t) : Within (· = RegAddr.WFT_PORT_STAT p) s t := by
  have hregs := h.regs
  obtain ⟨w, r, n, rfl⟩ := h.only
  exact ⟨rfl, fun a ha => hregs a (Ne.symm ha)⟩

section
variable {p : Nat} {s t : State}

theorem Departs.dmg (h : Departs p s t) : t.dmg = s.dmg := by
  obtain ⟨w, r, n, rfl⟩ := h.only
  rfl

theorem Departs.tfs (h : Departs p s t) : t.tfs = s.tfs := by
  obtain ⟨w, r, n, rfl⟩ := h.only
  rfl

theorem Departs.spn (h : Departs p s t) : t.spn = s.spn := by
  obtain ⟨w, r, n, rfl⟩ := h.only
  rfl

end

/-- Behind the elements taken from the front no other of their kind follows at once. -/
theorem takeWhile_drop_takeWhile {α : Type} (f : α → Bool) (l : List α) : (l.drop (l.takeWhile f).length).takeWhile f = [] := by
  induction l with
  | nil => rfl
  | cons x l ih => cases h : f x <;> simp [h, ih]

theorem wr_port (s : State) (f : Fld) (v p : Nat) : (s.wr f v).port p = s.port p := rfl

/-- Of what waits on a port that can send, the packets that leave go away. -/
theorem State.drainFwd_fwd (s : State) (p : Nat) (hcan : s.canSend p = true) :
    ((s.drainFwd p).port p).fwd = (s.port p).fwd.drop (s.leaving p).length := by
  unfold State.drainFwd
  dsimp only
  split
  · next h =>
    have hnone : s.leaving p = [] := by simpa [hcan] using h
    rw [hnone]
    rfl
  · rw [wr_port, putOut_port_self, setPort_port_self]

/-- Behind a packet that is sent no transit packet is left that could leave now (R226). -/
theorem State.send_leaving_self (s : State) (p : Nat) (t : PType) (dest : Nat) (body : Bytes) (hcan : s.canSend p = true) (hmay : s.mayTag t = true)
    (ht : t ≠ .time) : (s.send p t dest body).leaving p = [] := by
  have hsent := s.send_departs p t dest body
  have hlast (u : State) (c : Bool) : (u.onlyIf c State.spend).weft = u.weft := by cases c <;> rfl
  have hfwd : ((s.send p t dest body).port p).fwd = (s.port p).fwd.drop (s.leaving p).length := by
    have hdrained : s.onlyIf (t != .time) (fun u => u.drainFwd p) = s.drainFwd p := if_pos (by simpa using ht)
    rw [State.send, if_pos (by simp [hcan, hmay]), hdrained, State.port, hlast, ← State.port, wr_port, putOut_port_self, setPort_port_self]
    exact s.drainFwd_fwd p hcan
  rw [State.leaving, hfwd, hsent.within.acrossMarker hsent.links]
  exact takeWhile_drop_takeWhile _ _

end Sys2Proof.Machine
end

section
/-! SUPPORT. What the arrival of a packet that passes its checks leaves as it was (R216, R221, R223). -/

namespace Sys2Proof.Machine

/-- The registers of the Weft lie above this address. -/
def WeftReg (a : Nat) : Prop := 0x22000000 ≤ a

/-- An arrival changes the Weft and its registers; the frame store does not see it. -/
structure Arrives (s t : State) : Prop where
  within : Within WeftReg s t
  tfs : t.tfs = s.tfs

theorem Arrives.refl (s : State) : Arrives s s := ⟨Within.refl _ s, rfl⟩

theorem Arrives.trans {s t u : State} (h : Arrives s t) (k : Arrives t u) : Arrives s u := ⟨h.within.trans k.within, k.tfs.trans h.tfs⟩

theorem Arrives.onlyIf {s : State} (c : Bool) {f : State → State} (h : Arrives s (f s)) : Arrives s (s.onlyIf c f) := by
  cases c with
  | false => exact Arrives.refl s
  | true => exact h

theorem Arrives.setPort (s : State) (p : Nat) (f : WeftPort → WeftPort) : Arrives s (s.setPort p f) := ⟨Within.of_same rfl rfl, rfl⟩

theorem Arrives.bump (s : State) (f : Fld) (hf : WeftReg f.addr) : Arrives s (s.bump f) := ⟨(Within.refl _ s).wr f _ hf, rfl⟩

theorem Departs.arrives {p : Nat} {s t : State} (h : Departs p s t) : Arrives s t := by
  refine ⟨h.within.mono fun a ha => ?_, h.tfs⟩
  rw [ha, WeftReg, RegAddr.WFT_PORT_STAT]
  omega

theorem State.hearEpoch_arrives (s : State) (p : Nat) (a : Arrival) : Arrives s (s.hearEpoch p a) := by
  unfold State.hearEpoch
  split
  · exact Arrives.onlyIf _ ⟨Within.of_same rfl rfl, rfl⟩
  · exact Arrives.refl s

theorem State.forward_arrives (s : State) (p : Nat) (a : Arrival) : Arrives s (s.forward p a) := by
  have hpoison (u : State) : Arrives u (u.bump (Reg.WFT_PORT_ERR_C_POISON_TX (1 - p))) := Arrives.bump u _ (by
    simp only [WeftReg, Reg.WFT_PORT_ERR_C_POISON_TX, RegAddr.WFT_PORT_ERR_C]
    omega)
  have hoverflow (u : State) : Arrives u (u.bump (Reg.WFT_PORT_ERR_C_FWD_OVF (1 - p))) := Arrives.bump u _ (by
    simp only [WeftReg, Reg.WFT_PORT_ERR_C_FWD_OVF, RegAddr.WFT_PORT_ERR_C]
    omega)
  have hpower (u : State) : Arrives u (u.wr (Reg.WFT_PORT_STAT_TX_POWER (1 - p)) 0) := ⟨(Within.refl _ u).wr _ _ (by
    simp only [WeftReg, Reg.WFT_PORT_STAT_TX_POWER, RegAddr.WFT_PORT_STAT]
    omega), rfl⟩
  have hout (u : State) (l : List Sent) : Arrives u (u.putOut (1 - p) l) := ⟨Within.of_same rfl rfl, rfl⟩
  have hdrained := Arrives.onlyIf (f := fun t => t.drainFwd (1 - p)) (!a.outBusy) (s.drainFwd_departs (1 - p)).arrives
  have hpoisoned := hdrained.trans (Arrives.onlyIf (f := fun t => t.bump (Reg.WFT_PORT_ERR_C_POISON_TX (1 - p))) (s.poisons p a && a.endGood) (hpoison _))
  unfold State.forward
  dsimp only
  split
  · exact Arrives.refl s
  · split
    · exact Arrives.refl s
    · split
      · exact hpoisoned
      · split
        · split
          · exact hdrained.trans (hoverflow _)
          · exact hpoisoned.trans (Arrives.setPort _ _ _)
        · exact (hpoisoned.trans (hout _ _)).trans (hpower _)

theorem State.countMarks_arrives (s : State) (p : Nat) (l : List (Fin 4 × Bool)) : Arrives s (s.countMarks p l) := by
  refine State.forAll_keeps (Arrives s) _ l s (Arrives.refl s) fun t m _ ht => ht.trans (Arrives.bump t _ ?_)
  simp only [WeftReg]
  split <;> simp only [Reg.WFT_LANE_ERR_DISP, Reg.WFT_LANE_ERR_CV, RegAddr.WFT_LANE_ERR] <;> omega

theorem State.notePass_arrives (s : State) (p : Nat) (a : Arrival) : Arrives s (s.notePass p a) := by
  unfold State.notePass
  split
  · split
    · exact Arrives.setPort s _ _
    · exact Arrives.refl s
  · exact Arrives.refl s

theorem State.linkCount_arrives (s : State) (p : Nat) (a : Arrival) : Arrives s (s.linkCount p a) := by
  unfold State.linkCount
  dsimp only
  split
  · exact s.notePass_arrives p a
  · exact (Arrives.setPort s _ _).trans (Arrives.bump _ _ (by simp only [WeftReg, Reg.WFT_PORT_ERR_A_CRC, RegAddr.WFT_PORT_ERR_A]; omega))
  · exact (s.notePass_arrives p a).trans (Arrives.bump _ _ (by simp only [WeftReg, Reg.WFT_PORT_ERR_A_POISON_RX, RegAddr.WFT_PORT_ERR_A]; omega))
  · exact Arrives.refl s
  · exact Arrives.refl s

/-- A packet that passes checks 3 to 6 of R221 raises the floor of its originator, and no more (R219). -/
theorem State.frameChecks_passed {s u : State} {p : Nat} {t : PType} {pkt : Packet} {q : Nat} (h : s.frameChecks p t pkt q = (u, true)) :
    u = s.acceptPacket p pkt q (s.enrolsAnew p t pkt) := by
  unfold State.frameChecks at h
  split at h
  · exact absurd (congrArg Prod.snd h) Bool.false_ne_true
  · split at h
    · exact absurd (congrArg Prod.snd h) Bool.false_ne_true
    · split at h
      · exact absurd (congrArg Prod.snd h) Bool.false_ne_true
      · split at h
        · exact absurd (congrArg Prod.snd h) Bool.false_ne_true
        · exact (congrArg Prod.fst h).symm

/-- A packet is consumed once it has arrived and passed checks 3 to 6 of R221. -/
theorem State.consume_passed {s u : State} {p : Nat} {t : PType} {a : Arrival} {q : Nat} (h : s.consume p t a = (u, some q)) :
    (s.arrive p a).frameChecks p t a.pkt q = (u, true) := by
  unfold State.consume at h
  dsimp only at h
  split at h
  · split at h
    · cases h
    · split at h
      · next hchecks =>
        cases h
        exact hchecks
      · cases h
  · cases h

theorem Accepted.arrives {s u : State} {p : Port} {t : PType} {a : Arrival} (h : Accepted s p t a u) : Arrives s u := by
  obtain ⟨q, hq⟩ := h
  have hu := State.frameChecks_passed (State.consume_passed hq)
  have harrive : Arrives s (s.arrive p.val a) :=
    ((s.hearEpoch_arrives p.val a).trans (State.forward_arrives _ _ _)).trans ((State.countMarks_arrives _ _ _).trans (State.linkCount_arrives _ _ _))
  exact hu ▸ harrive.trans (Arrives.onlyIf _ (Arrives.setPort _ _ _))

/-- A consumer acts on a packet that passes R221. -/
theorem Accepted.onPacket {s u : State} {p : Port} {t : PType} {a : Arrival} (h : Accepted s p t a u) (act : State → State) :
    (s.onPacket p.val t a fun v _ => act v) = act u := by
  obtain ⟨q, hq⟩ := h
  rw [State.onPacket, hq]

end Sys2Proof.Machine
end

section
/-! SUPPORT. Pixels of the Tile frame store (R158, R276, R281): what is read after a pixel is written, and what a push and the copies of its cells change. -/

namespace Sys2Proof.Machine

/-! ### Bytes and lists -/

/-- Bytes written apart from those that are read leave them. -/
theorem State.dramRead_dramWrite_apart (s : State) {a b n : Nat} (bs : Bytes) (h : a + n ≤ b ∨ b + bs.length ≤ a) :
    (s.dramWrite b bs).dramRead a n = s.dramRead a n := by
  induction n generalizing a with
  | zero => rfl
  | succ n ih =>
    change Cells.get 0 (Cells.write 0 s.dram b bs) a :: (s.dramWrite b bs).dramRead (a + 1) n = _
    rw [ih (by omega), Cells.get_write_out 0 bs s.dram b a (by omega)]
    rfl

/-- Steps over a list under an invariant `R`: the step of `x` makes `P`, and every step keeps it. -/
theorem State.forAll_makes {α : Type} {R P : State → Prop} {f : State → α → State} {l : List α} {s : State} {x : α} (hx : x ∈ l) (hs : R s)
    (hR : ∀ t, ∀ y ∈ l, R t → R (f t y)) (hmake : ∀ t, R t → P (f t x)) (hP : ∀ t, ∀ y ∈ l, R t → P t → P (f t y)) : P (s.forAll l f) := by
  obtain ⟨before, after, rfl⟩ := List.append_of_mem hx
  have hbefore : R (s.forAll before f) := State.forAll_keeps R f before s hs fun t y hy ht => hR t y (List.mem_append_left _ hy) ht
  have hmade : R (f (s.forAll before f) x) ∧ P (f (s.forAll before f) x) := ⟨hR _ x hx hbefore, hmake _ hbefore⟩
  have hafter := State.forAll_keeps (fun t => R t ∧ P t) f after _ hmade fun t y hy ⟨hr, hp⟩ =>
    have hmem := List.mem_append_right before (List.mem_cons_of_mem x hy)
    ⟨hR t y hmem hr, hP t y hmem hr hp⟩
  simpa only [State.forAll, List.foldl_append, List.foldl_cons] using hafter.2

/-! ### The store -/

/-- What a push, a copy or a mark of cells changes: the bytes of DRAM and the store's own state, but not the counts of pushes; the form of the memory stays. -/
structure InStore (s t : State) : Prop where
  only : ∃ d x, t = { s with dram := d, tfs := x }
  epoch : t.tfs.pushEpoch = s.tfs.pushEpoch
  pushes : t.tfs.pushes = s.tfs.pushes
  wf : Memory.wf s = true → Memory.wf t = true

theorem InStore.refl (s : State) : InStore s s := ⟨⟨_, _, rfl⟩, rfl, rfl, id⟩

theorem InStore.trans {s t u : State} (h : InStore s t) (k : InStore t u) : InStore s u where
  only := by
    obtain ⟨d, x, rfl⟩ := h.only
    obtain ⟨d', x', rfl⟩ := k.only
    exact ⟨d', x', rfl⟩
  epoch := k.epoch.trans h.epoch
  pushes := k.pushes.trans h.pushes
  wf hs := k.wf (h.wf hs)

theorem InStore.forAll {α : Type} {s : State} {l : List α} {f : State → α → State} (h : ∀ t x, InStore t (f t x)) : InStore s (s.forAll l f) :=
  State.forAll_keeps (InStore s) f l s (InStore.refl s) fun t x _ ht => ht.trans (h t x)

section
variable {s t : State} (h : InStore s t)
include h

theorem InStore.pixelAddr (b x y : Nat) : t.pixelAddr b x y = s.pixelAddr b x y := by
  obtain ⟨d, z, rfl⟩ := h.only
  rfl

theorem InStore.receiveBuf : t.receiveBuf = s.receiveBuf := by
  obtain ⟨d, z, rfl⟩ := h.only
  rfl

theorem InStore.blockPlaces (x0 y0 : Int) (ps : List Pixel) : t.blockPlaces x0 y0 ps = s.blockPlaces x0 y0 ps := by
  obtain ⟨d, z, rfl⟩ := h.only
  rfl

theorem InStore.pushCount (epoch gen : Nat) : t.pushCount epoch gen = s.pushCount epoch gen := by
  rw [State.pushCount, h.epoch, h.pushes, State.pushCount]

end

/-! ### Pixels -/

theorem State.writePixel_inStore (s : State) (b x y : Nat) (p : Pixel) : InStore s (s.writePixel b x y p) :=
  ⟨⟨_, _, rfl⟩, rfl, rfl, Memory.wf_dramWrite s _ _⟩

/-- A pixel that is written reads back (R276). -/
theorem State.storedPixel_writePixel_self (s : State) (b x y : Nat) (p : Pixel) (hwf : Memory.wf s = true) :
    (s.writePixel b x y p).storedPixel b x y = p % 2 ^ 36 := by
  rw [State.storedPixel, (s.writePixel_inStore b x y p).pixelAddr, State.writePixel,
    State.dramRead_dramWrite_self _ _ _ _ hwf (leBytes_length 6 _).ge, List.take_of_length_le (leBytes_length 6 _).le, leNat_leBytes_mod,
    Nat.mod_eq_of_lt (a := p % 2 ^ 36) (b := 256 ^ 6) (Nat.lt_trans (Nat.mod_lt _ (by decide)) (by decide)), Nat.mod_mod]

/-- A pixel written elsewhere leaves the one that is read (R276). -/
theorem State.storedPixel_writePixel_apart (s : State) {b x y b' x' y' : Nat} (p : Pixel)
    (h : s.pixelAddr b x y + 6 ≤ s.pixelAddr b' x' y' ∨ s.pixelAddr b' x' y' + 6 ≤ s.pixelAddr b x y) :
    (s.writePixel b' x' y' p).storedPixel b x y = s.storedPixel b x y := by
  rw [State.storedPixel, (s.writePixel_inStore b' x' y' p).pixelAddr, State.writePixel, State.dramRead_dramWrite_apart _ _ (by rwa [leBytes_length]),
    State.storedPixel]

/-- Pixels at different places of one buffer lie apart (R276). -/
theorem State.pixelAddr_apart (s : State) (b : Nat) {x y x' y' : Nat} (hx : x < s.storeW) (hx' : x' < s.storeW) (h : (x, y) ≠ (x', y')) :
    s.pixelAddr b x y + 6 ≤ s.pixelAddr b x' y' ∨ s.pixelAddr b x' y' + 6 ≤ s.pixelAddr b x y := by
  have hindex : y * s.storeW + x ≠ y' * s.storeW + x' := fun heq => h (by
    have hrow : y = y' := by
      have hdiv := congrArg (· / s.storeW) heq
      simp only [Nat.mul_comm _ s.storeW, Nat.mul_add_div (Nat.zero_lt_of_lt hx), Nat.div_eq_of_lt hx, Nat.div_eq_of_lt hx'] at hdiv
      omega
    subst hrow
    rw [Nat.add_left_cancel heq])
  unfold State.pixelAddr
  omega

/-- Pixels inside the store of different buffers lie apart, where a buffer holds the store (R276). -/
theorem State.pixelAddr_apart_of_buffers (s : State) {b b' x y x' y' : Nat} (hfits : 6 * (s.storeW * s.storeH) ≤ 3145728) (hx : x < s.storeW)
    (hx' : x' < s.storeW) (hy : y < s.storeH) (hy' : y' < s.storeH) (h : b ≠ b') :
    s.pixelAddr b x y + 6 ≤ s.pixelAddr b' x' y' ∨ s.pixelAddr b' x' y' + 6 ≤ s.pixelAddr b x y := by
  have hinside {x y : Nat} (hx : x < s.storeW) (hy : y < s.storeH) : y * s.storeW + x + 1 ≤ s.storeW * s.storeH := calc
    y * s.storeW + x + 1 ≤ y * s.storeW + s.storeW := by omega
    _ = s.storeW * (y + 1) := by ring
    _ ≤ s.storeW * s.storeH := Nat.mul_le_mul_left _ hy
  have hin := hinside hx hy
  have hin' := hinside hx' hy'
  unfold State.pixelAddr
  omega

/-! ### Cells -/

theorem State.copyCell_inStore (s : State) (b c : Nat) : InStore s (s.copyCell b c) := InStore.forAll fun t p => t.writePixel_inStore b p.1 p.2 _

theorem State.copyPending_inStore (s : State) (b c : Nat) : InStore s (s.copyPending b c) := by
  unfold State.copyPending
  split
  · obtain ⟨⟨d, x, heq⟩, hepoch, hpushes, hwf⟩ := s.copyCell_inStore b c
    exact ⟨⟨d, _, by rw [heq]⟩, hepoch, hpushes, hwf⟩
  · exact InStore.refl s

theorem State.finishCopies_inStore (s : State) : InStore s s.finishCopies := InStore.forAll fun _ b => InStore.forAll fun u c => u.copyPending_inStore b c

theorem State.adoptPhase_inStore (s : State) (cx cy : Nat) : InStore s (s.adoptPhase cx cy) := by
  unfold State.adoptPhase
  split
  · exact InStore.refl s
  · obtain ⟨⟨d, x, heq⟩, hepoch, hpushes, hwf⟩ := s.finishCopies_inStore
    exact ⟨⟨d, _, by rw [State.markBehind, heq]⟩, hepoch, hpushes, hwf⟩

theorem State.touchCell_inStore (s : State) (c : Nat) : InStore s (s.touchCell c) := by
  have hcopies : InStore s (s.forAll s.otherBufs fun t b => t.copyPending b c) := InStore.forAll fun t b => t.copyPending_inStore b c
  obtain ⟨⟨d, x, heq⟩, hepoch, hpushes, hwf⟩ := hcopies
  exact ⟨⟨d, _, by rw [State.touchCell, heq]⟩, hepoch, hpushes, hwf⟩

/-! ### The block of a push -/

/-- The pixels of a block that lie in the store, and where (R158). -/
theorem State.mem_blockPlaces {s : State} {x0 y0 : Int} {ps : List Pixel} {x y : Nat} {c : Pixel} : ((x, y), c) ∈ s.blockPlaces x0 y0 ps ↔
    ∃ i, ps[i]? = some c ∧ x0 + (i % 32 : Nat) = (x : Int) ∧ y0 + (i / 32 : Nat) = (y : Int) ∧ x < s.storeW ∧ y < s.storeH := by
  have hmem (q : (Int × Int) × Pixel) : q ∈ ps.mapIdx (fun i p => ((x0 + (i % 32 : Nat), y0 + (i / 32 : Nat)), p)) ↔
      ∃ i, ps[i]? = some q.2 ∧ x0 + (i % 32 : Nat) = q.1.1 ∧ y0 + (i / 32 : Nat) = q.1.2 := by
    rw [List.mem_iff_getElem?]
    refine exists_congr fun i => ?_
    rw [List.getElem?_mapIdx]
    cases hi : ps[i]? with
    | none => simp
    | some p =>
      simp only [Option.map_some, Option.some.injEq]
      constructor
      · rintro rfl
        exact ⟨rfl, rfl, rfl⟩
      · rintro ⟨hp, hx, hy⟩
        obtain ⟨⟨_, _⟩, _⟩ := q
        exact Prod.ext (Prod.ext hx hy) hp
  rw [State.blockPlaces, List.mem_filterMap]
  constructor
  · rintro ⟨q, hq, hsome⟩
    obtain ⟨i, hi, hx, hy⟩ := (hmem q).mp hq
    split at hsome
    · next hin =>
      injection hsome with hsome
      injection hsome with hxy hc
      injection hxy with hx' hy'
      exact ⟨i, hc ▸ hi, by omega, by omega, by omega, by omega⟩
    · cases hsome
  · rintro ⟨i, hi, hx, hy, hxW, hyH⟩
    have hin : 0 ≤ (x : Int) ∧ (x : Int) < s.storeW ∧ 0 ≤ (y : Int) ∧ (y : Int) < s.storeH := by omega
    exact ⟨((x, y), c), (hmem _).mpr ⟨i, hi, hx, hy⟩, if_pos hin⟩

/-- A block has one pixel at a place. -/
theorem State.blockPlaces_unique {s : State} {x0 y0 : Int} {ps : List Pixel} {x y : Nat} {c c' : Pixel} (h : ((x, y), c) ∈ s.blockPlaces x0 y0 ps)
    (h' : ((x, y), c') ∈ s.blockPlaces x0 y0 ps) : c = c' := by
  obtain ⟨i, hi, hx, hy, -⟩ := State.mem_blockPlaces.mp h
  obtain ⟨j, hj, hx', hy', -⟩ := State.mem_blockPlaces.mp h'
  have hij : i = j := by omega
  subst hij
  exact Option.some.inj (hi.symm.trans hj)

/-- A push changes the store, and nothing of its counts. -/
theorem State.writeBlock_inStore (s : State) (x0 y0 : Int) (ps : List Pixel) : InStore s (s.writeBlock x0 y0 ps) := by
  unfold State.writeBlock
  dsimp only
  split
  · exact s.adoptPhase_inStore _ _
  · exact (s.adoptPhase_inStore _ _).trans ((State.touchCell_inStore _ _).trans (InStore.forAll fun t r => t.writePixel_inStore _ _ _ _))

/-- Every pixel of a push that lies in the store reads back in the receive buffer (R158). -/
theorem State.storedPixel_writeBlock {s : State} {x0 y0 : Int} {ps : List Pixel} {x y : Nat} {c : Pixel} (hwf : Memory.wf s = true)
    (h : ((x, y), c) ∈ s.blockPlaces x0 y0 ps) : (s.writeBlock x0 y0 ps).storedPixel s.receiveBuf x y = c % 2 ^ 36 := by
  have hphase := s.adoptPhase_inStore (x0 % 32).toNat (y0 % 16).toNat
  unfold State.writeBlock
  dsimp only
  generalize s.adoptPhase _ _ = v at hphase
  split
  · next hnone =>
    rw [hphase.blockPlaces] at hnone
    rw [hnone] at h
    cases h
  · next q l hplaces =>
    rw [hphase.blockPlaces] at hplaces
    have htouch := hphase.trans (v.touchCell_inStore (v.cellOf q.1.1 q.1.2))
    refine State.forAll_makes (R := InStore s) (P := fun t => t.storedPixel s.receiveBuf x y = c % 2 ^ 36) (hplaces ▸ h) htouch
      (fun t r _ ht => ht.trans (t.writePixel_inStore _ _ _ _)) (fun t ht => ?_) fun t r hr ht hp => ?_
    · rw [hphase.receiveBuf]
      exact t.storedPixel_writePixel_self _ _ _ _ (ht.wf hwf)
    · obtain ⟨⟨x', y'⟩, c'⟩ := r
      rw [← hplaces] at hr
      rw [hphase.receiveBuf]
      by_cases hxy : (x, y) = (x', y')
      · obtain ⟨rfl, rfl⟩ := Prod.mk.inj hxy
        rw [State.blockPlaces_unique h hr]
        exact t.storedPixel_writePixel_self _ _ _ _ (ht.wf hwf)
      · obtain ⟨-, -, -, -, hxW, -⟩ := State.mem_blockPlaces.mp h
        obtain ⟨-, -, -, -, hxW', -⟩ := State.mem_blockPlaces.mp hr
        rw [State.storedPixel_writePixel_apart, hp]
        rw [ht.pixelAddr, ht.pixelAddr]
        exact s.pixelAddr_apart _ hxW hxW' hxy

/-! ### Cell copies -/

/-- A pixel of a cell lies in the store. -/
theorem State.cellPixels_inside {s : State} {c : Nat} {q : Nat × Nat} (h : q ∈ s.cellPixels c) : q.1 < s.storeW ∧ q.2 < s.storeH := by
  obtain ⟨p, -, hp⟩ := List.mem_filterMap.mp h
  split at hp
  · next hin =>
    obtain ⟨-, -, hx, hy⟩ := hin
    injection hp with hp
    exact hp ▸ ⟨hx, hy⟩
  · cases hp

/-- A step in the store that leaves the pixels of the receive buffer. -/
structure LeavesReceived (s t : State) : Prop where
  inStore : InStore s t
  received : ∀ x y, x < s.storeW → y < s.storeH → t.storedPixel s.receiveBuf x y = s.storedPixel s.receiveBuf x y

section
variable {s t : State} {b : Nat} (hb : b ≠ s.receiveBuf) (hfits : 6 * (s.storeW * s.storeH) ≤ 3145728)
include hb hfits

/-- A pixel written into another buffer that has room for the store. -/
theorem LeavesReceived.writePixel (h : LeavesReceived s t) {q : Nat × Nat} (hq : q.1 < s.storeW ∧ q.2 < s.storeH) (p : Pixel) :
    LeavesReceived s (t.writePixel b q.1 q.2 p) where
  inStore := h.inStore.trans (t.writePixel_inStore _ _ _ _)
  received x y hx hy := by
    rw [State.storedPixel_writePixel_apart, h.received x y hx hy]
    rw [h.inStore.pixelAddr, h.inStore.pixelAddr]
    exact s.pixelAddr_apart_of_buffers hfits hx hq.1 hy hq.2 hb.symm

theorem State.copyCell_leavesReceived (c : Nat) : LeavesReceived s (s.copyCell b c) :=
  State.forAll_keeps (LeavesReceived s) _ _ s ⟨InStore.refl s, fun _ _ _ _ => rfl⟩ fun _ _ hq ht =>
    ht.writePixel hb hfits (State.cellPixels_inside hq) _

/-- A copied cell reads as in the receive buffer (R281). -/
theorem State.copyCell_copies (hwf : Memory.wf s = true) {c : Nat} {q : Nat × Nat} (hq : q ∈ s.cellPixels c) :
    (s.copyCell b c).storedPixel b q.1 q.2 = s.storedPixel s.receiveBuf q.1 q.2 := by
  have hmake (t : State) (ht : LeavesReceived s t) {r : Nat × Nat} (hr : r ∈ s.cellPixels c) :
      (t.writePixel b r.1 r.2 (t.storedPixel s.receiveBuf r.1 r.2)).storedPixel b r.1 r.2 = s.storedPixel s.receiveBuf r.1 r.2 := by
    obtain ⟨hrW, hrH⟩ := State.cellPixels_inside hr
    rw [t.storedPixel_writePixel_self _ _ _ _ (ht.inStore.wf hwf), ht.received _ _ hrW hrH, State.storedPixel, Nat.mod_mod]
  refine State.forAll_makes (R := LeavesReceived s) (P := fun t => t.storedPixel b q.1 q.2 = s.storedPixel s.receiveBuf q.1 q.2) hq
    ⟨InStore.refl s, fun _ _ _ _ => rfl⟩ (fun t r hr ht => ht.writePixel hb hfits (State.cellPixels_inside hr) _) (fun t ht => hmake t ht hq)
    fun t r hr ht hp => ?_
  by_cases hrq : q = r
  · subst hrq
    exact hmake t ht hr
  · obtain ⟨hqW, -⟩ := State.cellPixels_inside hq
    obtain ⟨hrW, -⟩ := State.cellPixels_inside hr
    rw [State.storedPixel_writePixel_apart, hp]
    rw [ht.inStore.pixelAddr, ht.inStore.pixelAddr]
    exact s.pixelAddr_apart b hqW hrW hrq

end

/-- The copies of cells leave which cells are pending, but for the cell that is copied (R281). -/
theorem State.pendingOf_copyPending {s : State} {b c : Nat} (hc : (s.pendingOf b).contains c = true) :
    (s.copyPending b c).pendingOf b = (s.pendingOf b).filter (· != c) := by
  have hpending : (s.copyCell b c).pendingOf b = s.pendingOf b :=
    State.forAll_keeps (fun t => t.pendingOf b = s.pendingOf b) _ _ s rfl fun _ _ _ ht => ht
  rw [State.copyPending, if_pos hc, State.pendingOf, Tab.find_put_self, Option.getD_some, hpending]

/-- Copying a pending cell writes what copying the cell writes. -/
theorem State.storedPixel_copyPending {s : State} {b c : Nat} (hc : (s.pendingOf b).contains c = true) (d x y : Nat) :
    (s.copyPending b c).storedPixel d x y = (s.copyCell b c).storedPixel d x y := by
  rw [State.copyPending, if_pos hc]
  rfl

/-! ### Counts of pushes -/

theorem State.pushCount_countPush (s : State) (epoch gen : Nat) (ok : Bool) : (s.countPush epoch gen ok).pushCount epoch gen =
    if ok then ((s.pushCount epoch gen).1 + 1, (s.pushCount epoch gen).2) else ((s.pushCount epoch gen).1, (s.pushCount epoch gen).2 + 1) := by
  rw [State.pushCount, State.countPush, if_pos rfl, State.pushCount]
  split <;> cases ok <;> simp only [Tab.get_upd_self] <;> rfl

end Sys2Proof.Machine
end

section
/-! SUPPORT. PUSH, cell copies and the commit deadline at a Tile (R165, R168, R280, R281). -/

namespace Sys2Proof.Machine

/-! ### PUSH -/

theorem Accepted.doPushReceive {s u : State} {p : Port} {a : Arrival} (h : Accepted s p .push a u) (htile : u.isTile = true) :
    doPushReceive s p a = u.takePushPacket a.pkt.epoch.toNat a.pkt.body := by
  rw [Machine.doPushReceive, h.onPacket fun v => if v.isTile then v.takePushPacket a.pkt.epoch.toNat a.pkt.body else v, if_pos htile]

/-- A push whose pixels do not decode, or do not match its CRC, is counted as dropped, and no byte of memory changes (R165). -/
theorem State.takePushPacket_dropped (u : State) (e : Nat) (body : Bytes)
    (h : pushPixels (leAt body 8 1) (leAt body 10 2) (body.drop 24) = none ∨
      ∃ ps, pushPixels (leAt body 8 1) (leAt body 10 2) (body.drop 24) = some ps ∧ crc64Pixels ps ≠ leAt body 16 8) :
    SameMemory u (u.takePushPacket e body) ∧ (u.takePushPacket e body).pushCount e (leAt body 0 4) =
      ((u.pushCount e (leAt body 0 4)).1, (u.pushCount e (leAt body 0 4)).2 + 1) := by
  have hraised : ∃ v, u.takePushPacket e body = v.countPush e (leAt body 0 4) false ∧ v.tfs = u.tfs ∧ SameMemory u v := by
    let v := if baleFault (leAt body 8 1) (leAt body 10 2) (body.drop 24) then (u.raise srcBale 0x4401 (u.free 25).toNat).spend else u
    refine ⟨v, ?_, ?_⟩
    · unfold State.takePushPacket
      dsimp only
      rcases h with h | ⟨ps, h, hcrc⟩
      · rw [h]
      · rw [h]
        exact if_neg hcrc
    · obtain ⟨l, r, b, heq, -⟩ := u.raise_only srcBale 0x4401 (u.free 25).toNat
      simp only [v]
      split
      · rw [heq]
        exact ⟨rfl, rfl, rfl, rfl⟩
      · exact ⟨rfl, rfl, rfl, rfl⟩
  obtain ⟨v, heq, htfs, hmem⟩ := hraised
  have hcount : v.pushCount e (leAt body 0 4) = u.pushCount e (leAt body 0 4) := by rw [State.pushCount, htfs, State.pushCount]
  rw [heq, State.pushCount_countPush, if_neg Bool.false_ne_true, hcount]
  exact ⟨hmem, rfl⟩

/-- A push that decodes has no bale fault (R95). -/
theorem baleFault_of_pushPixels {form len : Nat} {data : Bytes} {ps : List Pixel} (h : pushPixels form len data = some ps) :
    baleFault form len data = false := by
  unfold pushPixels at h
  split at h
  · cases h
  · split at h
    · next hraw => simp [baleFault, hraw.1]
    · split at h
      · simp [baleFault, h]
      · cases h

/-- A push that decodes and matches its CRC is counted as accepted and written (R165, R168). -/
theorem State.takePushPacket_accepted (u : State) (e : Nat) (body : Bytes) {ps : List Pixel}
    (h : pushPixels (leAt body 8 1) (leAt body 10 2) (body.drop 24) = some ps) (hcrc : crc64Pixels ps = leAt body 16 8) :
    u.takePushPacket e body = (u.countPush e (leAt body 0 4) true).writeBlock (signedOf 16 (leAt body 4 2)) (signedOf 16 (leAt body 6 2)) ps := by
  unfold State.takePushPacket
  dsimp only
  rw [baleFault_of_pushPixels h, h]
  exact if_pos hcrc

/-- PUSH of O50. -/
theorem tileTakesPush {s u : State} {p : Port} {a : Arrival} (ha : Accepted s p .push a u) (htile : u.isTile = true) {ps : List Pixel}
    (h : pushPixels (leAt a.pkt.body 8 1) (leAt a.pkt.body 10 2) (a.pkt.body.drop 24) = some ps) (hcrc : crc64Pixels ps = leAt a.pkt.body 16 8)
    (hwf : Memory.wf u = true) : Works (.pushReceive p a) s fun t =>
      t.pushCount a.pkt.epoch.toNat (leAt a.pkt.body 0 4) =
        ((u.pushCount a.pkt.epoch.toNat (leAt a.pkt.body 0 4)).1 + 1, (u.pushCount a.pkt.epoch.toNat (leAt a.pkt.body 0 4)).2) ∧
      ∀ (i c x y : Nat), ps[i]? = some c → signedOf 16 (leAt a.pkt.body 4 2) + (i % 32 : Nat) = (x : Int) →
        signedOf 16 (leAt a.pkt.body 6 2) + (i / 32 : Nat) = (y : Int) → x < u.storeW → y < u.storeH →
        t.storedPixel u.receiveBuf x y = c % 2 ^ 36 := by
  refine works_of_exec (f := fun v => doPushReceive v p a) rfl ?_
  rw [ha.doPushReceive htile, State.takePushPacket_accepted _ _ _ h hcrc]
  refine ⟨?_, fun i c x y hi hx hy hxW hyH => ?_⟩
  · rw [(State.writeBlock_inStore _ _ _ _).pushCount, State.pushCount_countPush, if_pos rfl]
  · have hplace : ((x, y), c) ∈ (u.countPush a.pkt.epoch.toNat (leAt a.pkt.body 0 4) true).blockPlaces (signedOf 16 (leAt a.pkt.body 4 2))
        (signedOf 16 (leAt a.pkt.body 6 2)) ps := State.mem_blockPlaces.mpr ⟨i, hi, hx, hy, hxW, hyH⟩
    exact State.storedPixel_writeBlock (s := u.countPush _ _ true) hwf hplace

/-! ### Cell copies and the commit deadline -/

theorem goTimeout_unbinds {s : State} (htile : s.isTile = true) (hwaits : s.backWaits = true) (hlate : s.inTime s.tfs.boundShow = false) :
    doGoTimeout s = s.wr Reg.TFS_STAT_BACK_STATE 0 := by
  rw [doGoTimeout, htile, hwaits, hlate]
  rfl

theorem goTimeout_idle {s : State} (h : s.isTile = false ∨ s.backWaits = false ∨ s.inTime s.tfs.boundShow = true) : doGoTimeout s = s := by
  refine if_neg ?_
  rcases h with h | h | h <;> simp [h]

theorem cellCopy_idle {s : State} {b col row : Nat} (h : s.isTile = false ∨ (s.pendingOf b).contains (row * 128 + col) = false) :
    doCellCopy s b col row = s := by
  rw [doCellCopy]
  split
  · next htile =>
    refine if_neg ?_
    rcases h with h | h
    · rw [htile] at h
      cases h
    · rw [h]
      exact Bool.false_ne_true
  · rfl

/-- CELL_COPY of O50 (R281). -/
theorem cellCopy_copies {s : State} {b col row : Nat} (htile : s.isTile = true) (hc : (s.pendingOf b).contains (row * 128 + col) = true)
    (hwf : Memory.wf s = true) (hb : b ≠ s.receiveBuf) (hfits : 6 * (s.storeW * s.storeH) ≤ 3145728) :
    (doCellCopy s b col row).pendingOf b = (s.pendingOf b).filter (· != row * 128 + col) ∧ ∀ q ∈ s.cellPixels (row * 128 + col),
      (doCellCopy s b col row).storedPixel b q.1 q.2 = s.storedPixel s.receiveBuf q.1 q.2 ∧
      (doCellCopy s b col row).storedPixel s.receiveBuf q.1 q.2 = s.storedPixel s.receiveBuf q.1 q.2 := by
  rw [doCellCopy, if_pos htile]
  refine ⟨State.pendingOf_copyPending hc, fun q hq => ?_⟩
  obtain ⟨hqW, hqH⟩ := State.cellPixels_inside hq
  rw [State.storedPixel_copyPending hc, State.storedPixel_copyPending hc]
  exact ⟨State.copyCell_copies hb hfits hwf hq, (State.copyCell_leavesReceived hb hfits _).received _ _ hqW hqH⟩

end Sys2Proof.Machine
end

section
/-! SUPPORT. COMMIT, PREPARE, GO and ABORT at a Tile (R168 to R173, R280, R285): what is noted of each, how the back buffer is bound, and the report. -/

namespace Sys2Proof.Machine

/-! ### Bytes -/

theorem leNat_lt (bs : Bytes) : leNat bs < 256 ^ bs.length := by
  induction bs with
  | nil => exact Nat.one_pos
  | cons b t ih =>
    have hb := b.isLt
    rw [leNat, List.length_cons, Nat.pow_succ]
    omega

theorem leAt_lt (bs : Bytes) (o n : Nat) : leAt bs o n < 256 ^ n :=
  Nat.lt_of_lt_of_le (leNat_lt _) (Nat.pow_le_pow_right (by decide) (List.length_take_le n _))

/-! ### What is noted -/

/-- The registers that a COMMIT packet writes (R252, R280). -/
def CommitReg (a : Nat) : Prop :=
  a = RegAddr.SYS_ALERT ∨ a = RegAddr.WHL_CNT ∨ a = RegAddr.TFS_STAT ∨ a = RegAddr.TFS_BACK ∨ a = RegAddr.TFS_CNT

/-- The registers that noting its SHOW writes (R252). -/
def ShowReg (a : Nat) : Prop := a = RegAddr.SYS_ALERT ∨ a = RegAddr.WHL_CNT

theorem not_showReg {a : Nat} (h : a ≠ RegAddr.SYS_ALERT ∧ a ≠ RegAddr.WHL_CNT) : ¬ ShowReg a := not_or.mpr h

theorem ShowReg.commitReg {a : Nat} (h : ShowReg a) : CommitReg a := by
  rcases h with h | h
  · exact .inl h
  · exact .inr (.inl h)

/-- Every address that a COMMIT packet writes lies outside the registers of the links. -/
theorem CommitReg.not_portStat (q : Nat) : ¬ CommitReg (RegAddr.WFT_PORT_STAT q) := by
  simp only [CommitReg, RegAddr.WFT_PORT_STAT, RegAddr.SYS_ALERT, RegAddr.WHL_CNT, RegAddr.TFS_STAT, RegAddr.TFS_BACK, RegAddr.TFS_CNT]
  omega

/-- The state of a Tile that has noted a COMMIT packet: of what the packet is judged by only the SHOW count and the alerts have changed. -/
structure CommitNoted (s t : State) : Prop where
  within : Within ShowReg s t
  weft : t.weft = s.weft
  boundShow : t.tfs.boundShow = s.tfs.boundShow
  pushes : ∀ e g, t.pushCount e g = s.pushCount e g

theorem CommitNoted.trans {s t u : State} (h : CommitNoted s t) (k : CommitNoted t u) : CommitNoted s u where
  within := h.within.trans k.within
  weft := k.weft.trans h.weft
  boundShow := k.boundShow.trans h.boundShow
  pushes e g := (k.pushes e g).trans (h.pushes e g)

theorem CommitNoted.onlyIf {s t : State} (h : CommitNoted s t) (c : Bool) {f : State → State} (hf : CommitNoted t (f t)) :
    CommitNoted s (t.onlyIf c f) := by
  cases c with
  | false => exact h
  | true => exact h.trans hf

theorem State.noteShow_tfs (s : State) (show_ : Nat) : (s.noteShow show_).tfs = s.tfs ∧ (s.noteShow show_).weft = s.weft := by
  unfold State.noteShow
  split
  · exact ⟨rfl, rfl⟩
  · obtain ⟨l, r, b, heq, -⟩ := (s.bump Reg.WHL_CNT_SHOW_MISS).raise_only srcWheel 0x4902 0
    rw [heq]
    exact ⟨rfl, rfl⟩

theorem State.noteShow_noted (s : State) (show_ : Nat) : CommitNoted s (s.noteShow show_) where
  within := by
    unfold State.noteShow
    split
    · exact Within.refl _ s
    · exact ((Within.refl _ s).wr Reg.WHL_CNT_SHOW_MISS _ (.inr rfl)).raise _ _ _ (.inl rfl)
  weft := (s.noteShow_tfs show_).2
  boundShow := by rw [(s.noteShow_tfs show_).1]
  pushes e g := by rw [State.pushCount, (s.noteShow_tfs show_).1, State.pushCount]

theorem State.acceptCommit_noted (s : State) (p epoch gen phase : Nat) : CommitNoted s (s.acceptCommit p epoch gen phase) := by
  have hmarked : ∃ x, s.acceptCommit p epoch gen phase = { s with tfs := x } ∧ x.boundShow = s.tfs.boundShow ∧ x.pushEpoch = s.tfs.pushEpoch ∧
      x.pushes = s.tfs.pushes := by
    unfold State.acceptCommit
    split
    · split <;> exact ⟨_, rfl, rfl, rfl, rfl⟩
    · exact ⟨_, rfl, rfl, rfl, rfl⟩
  obtain ⟨x, heq, hshow, hepoch, hpushes⟩ := hmarked
  refine ⟨heq ▸ Within.of_same rfl rfl, by rw [heq], by rw [heq, hshow], fun e g => ?_⟩
  rw [State.pushCount, heq, hepoch, hpushes, State.pushCount]

/-- A COMMIT packet that a Tile has accepted and noted. -/
def State.notedCommit (s : State) (p epoch phase : Nat) (body : Bytes) : State :=
  (s.acceptCommit p epoch (leAt body 0 4) phase).onlyIf (phase != 3) fun u => u.noteShow (leAt body 4 8)

theorem State.notedCommit_noted (s : State) (p epoch phase : Nat) (body : Bytes) : CommitNoted s (s.notedCommit p epoch phase body) := 
  (s.acceptCommit_noted p epoch (leAt body 0 4) phase).onlyIf _ (State.noteShow_noted _ _)

/-- The generation, the epoch and the port that a Tile notes of a COMMIT or PREPARE (R169, R201). -/
def CommitKept (p e gen : Nat) (t : State) : Prop := t.tfs.commitEpoch = some e ∧ t.tfs.commitGen = gen ∧ p ∈ t.tfs.commitPorts

/-- The port of arrival is among the ports noted. -/
theorem mem_notedPorts (same : Bool) (l : List Nat) (p : Nat) : p ∈ if same then (if l.contains p then l else l ++ [p]) else [p] := by
  split
  · split
    · next hin => exact List.contains_iff_mem.mp hin
    · simp
  · simp

theorem State.acceptCommit_kept (s : State) (p epoch gen : Nat) {phase : Nat} (hphase : phase < 2) :
    CommitKept p epoch gen (s.acceptCommit p epoch gen phase) := by
  have hports {α : Type} (x y : α) : (if 1 < phase then x else y) = y := if_neg (by omega)
  unfold State.acceptCommit
  dsimp only
  refine ⟨rfl, if_pos hphase, ?_⟩
  dsimp only
  rw [hports]
  exact mem_notedPorts _ _ _

theorem CommitKept.of_tfs {p e g : Nat} {s t : State} (h : CommitKept p e g s) (htfs : t.tfs = s.tfs) : CommitKept p e g t := by
  rw [CommitKept, htfs]
  exact h

theorem State.noteShow_kept {p e g : Nat} {s : State} (h : CommitKept p e g s) (show_ : Nat) : CommitKept p e g (s.noteShow show_) :=
  h.of_tfs (s.noteShow_tfs show_).1

theorem CommitKept.onlyIf {p e g : Nat} {s : State} (h : CommitKept p e g s) (c : Bool) {f : State → State} (hf : CommitKept p e g (f s)) :
    CommitKept p e g (s.onlyIf c f) := by
  cases c with
  | false => exact h
  | true => exact hf

theorem State.notedCommit_kept (s : State) (p epoch : Nat) {phase : Nat} (body : Bytes) (hphase : phase < 2) :
    CommitKept p epoch (leAt body 0 4) (s.notedCommit p epoch phase body) := by
  have haccept := s.acceptCommit_kept p epoch (leAt body 0 4) hphase
  exact haccept.onlyIf _ (State.noteShow_kept haccept _)

/-! ### The binding -/

/-- The registers that the binding writes (R280). -/
def BindReg (a : Nat) : Prop := a = RegAddr.TFS_STAT ∨ a = RegAddr.TFS_BACK

theorem State.bindBack_within (s : State) (gen show_ : Nat) (late waits : Bool) : Within BindReg s (s.bindBack gen show_ late waits) := by
  unfold State.bindBack
  split
  · exact Within.of_same rfl rfl
  · exact (((Within.refl _ s).wr Reg.TFS_BACK_GEN _ (.inr rfl)).wr Reg.TFS_STAT_BACK_STATE _ (.inl rfl)).trans (Within.of_same rfl rfl)

theorem State.bindBack_weft (s : State) (gen show_ : Nat) (late waits : Bool) : (s.bindBack gen show_ late waits).weft = s.weft := by
  unfold State.bindBack
  split <;> rfl

theorem State.bindBack_kept {s : State} {p e g : Nat} (h : CommitKept p e g s) (gen show_ : Nat) (late waits : Bool) :
    CommitKept p e g (s.bindBack gen show_ late waits) := by
  unfold State.bindBack
  split <;> exact h

/-- The back buffer is bound, and what is to be shown stays bound beside it. -/
def State.keepsBeside (s : State) (show_ : Nat) : Prop := s.backBound ∧ s.tfs.boundShow < show_ ∧ s.now + s.feedLead ≤ s.tfs.boundShow

theorem State.bindBack_beside {s : State} {show_ : Nat} (h : s.keepsBeside show_) (gen : Nat) (late waits : Bool) :
    ∃ x, s.bindBack gen show_ late waits = { s with tfs := x } ∧ x.boundShow = s.tfs.boundShow ∧
      ∃ n, x.next = some n ∧ n.gen = gen ∧ n.show_ = show_ ∧ n.late = late ∧ n.waits = waits :=
  ⟨_, if_pos h, rfl, _, rfl, rfl, rfl, rfl, rfl⟩

theorem State.bindBack_own {s : State} {show_ : Nat} (h : ¬ s.keepsBeside show_) {gen : Nat} (hgen : gen < 2 ^ 32) (late waits : Bool) :
    (s.bindBack gen show_ late waits).rd Reg.TFS_STAT_BACK_STATE = (if waits then 2 else 1) ∧
    (s.bindBack gen show_ late waits).rd Reg.TFS_BACK_GEN = gen ∧ (s.bindBack gen show_ late waits).tfs.boundShow = show_ ∧
    (s.bindBack gen show_ late waits).tfs.boundLate = late := by
  rw [State.keepsBeside] at h
  rw [State.bindBack, if_neg h]
  refine ⟨?_, ?_, rfl, rfl⟩
  · refine (State.rd_wr_self _ Reg.TFS_STAT_BACK_STATE _ (by decide)).trans ?_
    cases waits <;> rfl
  · refine (State.rd_wr_ne _ Reg.TFS_STAT_BACK_STATE Reg.TFS_BACK_GEN _ (by decide)).trans ?_
    exact (State.rd_wr_self _ Reg.TFS_BACK_GEN gen (by decide)).trans (Nat.mod_eq_of_lt hgen)

/-! ### The report -/

/-- A Tile sends its report of a COMMIT or PREPARE out of the port of arrival (R170). -/
def State.sendReport (s : State) (p result gen show_ epoch : Nat) : State :=
  s.send p .status (s.destChain 1 p) (s.commitReport result gen show_ epoch)

/-- A commit report of a generation with this result has left on a port, behind what waited there. -/
def Reported (s : State) (p gen result : Nat) (t : State) : Prop :=
  ∃ k, t.weft.sent = s.weft.sent ++ s.leaving p ++ [⟨p, k, true, none⟩] ∧ k.type = 6 ∧ leAt k.body 0 1 = 1 ∧ leAt k.body 1 1 = result ∧
    leAt k.body 4 4 = gen

theorem State.commitReport_fields (s : State) {result gen : Nat} (show_ epoch : Nat) (hresult : result < 256) (hgen : gen < 2 ^ 32) :
    leAt (s.commitReport result gen show_ epoch) 0 1 = 1 ∧ leAt (s.commitReport result gen show_ epoch) 1 1 = result ∧
    leAt (s.commitReport result gen show_ epoch) 4 4 = gen := by
  have hform : slice (s.commitReport result gen show_ epoch) 0 1 = leBytes 1 1 := rfl
  have hres : slice (s.commitReport result gen show_ epoch) 1 1 = leBytes 1 result := rfl
  have hg : slice (s.commitReport result gen show_ epoch) 4 4 = leBytes 4 gen := rfl
  refine ⟨congrArg leNat hform, ?_, ?_⟩
  · exact (congrArg leNat hres).trans ((leNat_leBytes_mod 1 result).trans (Nat.mod_eq_of_lt hresult))
  · exact (congrArg leNat hg).trans ((leNat_leBytes_mod 4 gen).trans (Nat.mod_eq_of_lt hgen))

theorem State.sendReport_reported {s t : State} {p result gen : Nat} (hwithin : Within CommitReg s t) (hweft : t.weft = s.weft)
    (hcan : s.canSend p = true) (hkey : s.trs.wallKey ≠ none) (hresult : result < 256) (hgen : gen < 2 ^ 32) (show_ epoch : Nat) :
    Reported s p gen result (t.sendReport p result gen show_ epoch) := by
  have hlinks := hwithin.sameLinks CommitReg.not_portStat
  have hmay : t.mayTag .status = true := by
    rw [hwithin.mayTag, State.mayTag, Option.isSome_iff_ne_none.mpr hkey]
    rfl
  have hsent := t.send_sent p .status (t.destChain 1 p) (t.commitReport result gen show_ epoch) ((hlinks.canSend p).trans hcan) hmay (by decide)
  have hport : t.port p = s.port p := by rw [State.port, hweft, State.port]
  rw [hwithin.leaving hlinks hport, hweft] at hsent
  exact ⟨_, hsent, rfl, t.commitReport_fields show_ epoch hresult hgen⟩

end Sys2Proof.Machine
end

section
/-! SUPPORT. The judgement of a COMMIT or PREPARE at a Tile (R168, R170, R173, R285). -/

namespace Sys2Proof.Machine

/-! ### What is judged -/

/-- The pushes of a COMMIT's generation came whole (R168). -/
def State.cameWhole (s : State) (e : Nat) (body : Bytes) : Bool := (s.pushCount e (leAt body 0 4)).1 == s.ownEntry body % 65536

/-- A COMMIT is whole, and its entry does not skip the Tile. -/
def State.showable (s : State) (e : Nat) (body : Bytes) : Bool := s.cameWhole e body && !(s.ownEntry body).testBit 16

/-- The boundary from which a COMMIT binds, or a PREPARE, and whether that is late (R285). -/
def State.commitBound (s : State) (show_ : Nat) (asCommit : Bool) : Nat × Bool :=
  if asCommit then s.showFrom show_ else (boundaryFrom s.whl.rate show_, false)

theorem State.judgeCommit_missed {s : State} {e : Nat} {body : Bytes} (h : s.showable e body = false) (old : State) (p : Nat) (asCommit : Bool) :
    s.judgeCommit old p e body asCommit = (s.onlyIf (s.flag Reg.HMK_TABLE_VALID) fun t => t.bump Reg.TFS_CNT_MISS).sendReport p
      (if s.cameWhole e body then 3 else 1) (leAt body 0 4) (leAt body 4 8) e := by
  have hskip : s.cameWhole e body = true → (s.ownEntry body).testBit 16 = true := fun hwhole => by simpa [State.showable, hwhole] using h
  have hnot : (s.cameWhole e body && !(s.ownEntry body).testBit 16 && s.flag Reg.HMK_TABLE_VALID) = false := by rw [← State.showable, h, Bool.false_and]
  have hmiss : (s.flag Reg.HMK_TABLE_VALID && !(s.cameWhole e body && !(s.ownEntry body).testBit 16)) = s.flag Reg.HMK_TABLE_VALID := by
    rw [← State.showable, h, Bool.not_false, Bool.and_true]
  unfold State.judgeCommit
  dsimp only
  rw [← State.cameWhole, hnot, hmiss, if_pos (.inl rfl), Bool.false_and]
  cases hw : s.cameWhole e body with
  | false => rfl
  | true =>
    rw [hskip hw]
    rfl

theorem State.judgeCommit_good {s : State} {e : Nat} {body : Bytes} (h : s.showable e body = true) (hholds : s.flag Reg.HMK_TABLE_VALID = true)
    {old : State} (hold : old.overtaken e (leAt body 0 4) = false) (p : Nat) (asCommit : Bool) :
    s.judgeCommit old p e body asCommit =
      ((s.bindBack (leAt body 0 4) (s.commitBound (leAt body 4 8) asCommit).1 (s.commitBound (leAt body 4 8) asCommit).2 (!asCommit)).onlyIf
        (s.commitBound (leAt body 4 8) asCommit).2 fun t => t.bump Reg.TFS_CNT_LATE).sendReport p
      (if (s.commitBound (leAt body 4 8) asCommit).2 then 2 else 0) (leAt body 0 4) (leAt body 4 8) e := by
  have hboth : s.cameWhole e body = true ∧ (s.ownEntry body).testBit 16 = false := by simpa [State.showable] using h
  obtain ⟨hwhole, hskip⟩ := hboth
  unfold State.judgeCommit
  dsimp only
  rw [← State.cameWhole, hwhole, hskip, hholds, hold, ← State.commitBound]
  rfl

/-! ### What is judged stays while a COMMIT is noted -/

section
variable {s t : State} (h : CommitNoted s t)
include h

theorem CommitNoted.ownEntry (body : Bytes) : t.ownEntry body = s.ownEntry body := by
  rw [State.ownEntry, h.within.rd (f := Reg.SYS_WALL_ADDR) (not_showReg (by decide)),
    State.ownEntry]

theorem CommitNoted.cameWhole (e : Nat) (body : Bytes) : t.cameWhole e body = s.cameWhole e body := by
  rw [State.cameWhole, h.ownEntry, h.pushes, State.cameWhole]

theorem CommitNoted.showable (e : Nat) (body : Bytes) : t.showable e body = s.showable e body := by
  rw [State.showable, h.ownEntry, h.cameWhole, State.showable]

theorem CommitNoted.feedLead : t.feedLead = s.feedLead := by
  rw [State.feedLead, State.period, h.within.whl,
    h.within.cfg 2 (not_showReg (by decide)), State.feedLead, State.period]

theorem CommitNoted.inTime (b : Nat) : t.inTime b = s.inTime b := by rw [State.inTime, h.within.now, h.feedLead, State.inTime]

theorem CommitNoted.commitBound (show_ : Nat) (asCommit : Bool) : t.commitBound show_ asCommit = s.commitBound show_ asCommit := by
  simp only [State.commitBound, State.showFrom, h.within.whl, h.inTime, h.within.now, h.feedLead]

theorem CommitNoted.backState : t.rd Reg.TFS_STAT_BACK_STATE = s.rd Reg.TFS_STAT_BACK_STATE ∧ t.rd Reg.TFS_BACK_GEN = s.rd Reg.TFS_BACK_GEN :=
  ⟨h.within.rd (not_showReg (by decide)), h.within.rd (not_showReg (by decide))⟩

end

/-! ### What a judgement leaves -/

theorem State.sendReport_rd (s : State) (p result gen show_ epoch : Nat) {f : Fld} (hf : CommitReg f.addr) :
    (s.sendReport p result gen show_ epoch).rd f = s.rd f :=
  (State.send_departs _ _ _ _ _).within.rd fun haddr => CommitReg.not_portStat p (haddr ▸ hf)

theorem State.sendReport_tfs (s : State) (p result gen show_ epoch : Nat) : (s.sendReport p result gen show_ epoch).tfs = s.tfs :=
  (State.send_departs _ _ _ _ _).tfs

/-- A saturating counter that counts in one case. -/
theorem State.rd_onlyIf_bump (s : State) (c : Bool) (f : Fld) (hf : f.lo + f.width ≤ 32) :
    (s.onlyIf c fun t => t.bump f).rd f = min (s.rd f + c.toNat) (2 ^ f.width - 1) := by
  cases c with
  | false =>
    have hlt := s.rd_lt f
    change s.rd f = min (s.rd f + 0) _
    omega
  | true => exact s.rd_bump_self f hf

theorem State.rd_onlyIf_bump_ne (s : State) (c : Bool) {f g : Fld} (h : f.addr ≠ g.addr) : (s.onlyIf c fun t => t.bump f).rd g = s.rd g := by
  cases c with
  | false => rfl
  | true => exact s.rd_bump_ne f g h

theorem State.onlyIf_bump_tfs (s : State) (c : Bool) (f : Fld) : (s.onlyIf c fun t => t.bump f).tfs = s.tfs ∧ (s.onlyIf c fun t => t.bump f).weft = s.weft := by
  cases c <;> exact ⟨rfl, rfl⟩

theorem CommitNoted.keepsBeside {s t : State} (h : CommitNoted s t) (show_ : Nat) : t.keepsBeside show_ ↔ s.keepsBeside show_ := by
  rw [State.keepsBeside, State.backBound, h.backState.1, h.boundShow, h.within.now, h.feedLead, State.keepsBeside, State.backBound]

/-- The Tile `s` does not bind the back buffer to a COMMIT: it counts a miss, and reports that it is missing pushes or skipped (R168, R170). -/
def MissesCommit (s : State) (p e : Nat) (body : Bytes) (t : State) : Prop :=
  t.rd Reg.TFS_STAT_BACK_STATE = s.rd Reg.TFS_STAT_BACK_STATE ∧
  t.rd Reg.TFS_CNT_MISS = min (s.rd Reg.TFS_CNT_MISS + (s.flag Reg.HMK_TABLE_VALID).toNat) 65535 ∧
  Reported s p (leAt body 0 4) (if s.cameWhole e body then 3 else 1) t

/-- The Tile `s` binds a generation from its boundary, beside the bound one where that is shown before, and reports it (R170, R280, R285). -/
def BindsCommit (s : State) (p e gen : Nat) (b : Nat × Bool) (t : State) : Prop :=
  (¬ s.keepsBeside b.1 → t.rd Reg.TFS_STAT_BACK_STATE = 1 ∧ t.rd Reg.TFS_BACK_GEN = gen ∧ t.tfs.boundShow = b.1 ∧ t.tfs.boundLate = b.2) ∧
  (s.keepsBeside b.1 → t.rd Reg.TFS_STAT_BACK_STATE = 1 ∧ t.rd Reg.TFS_BACK_GEN = s.rd Reg.TFS_BACK_GEN ∧ t.tfs.boundShow = s.tfs.boundShow ∧
    ∃ n, t.tfs.next = some n ∧ n.gen = gen ∧ n.show_ = b.1 ∧ n.late = b.2 ∧ n.waits = false) ∧
  t.tfs.commitEpoch = some e ∧ t.tfs.commitGen = gen ∧ p ∈ t.tfs.commitPorts ∧ Reported s p gen (if b.2 then 2 else 0) t ∧
  t.rd Reg.TFS_CNT_LATE = min (s.rd Reg.TFS_CNT_LATE + b.2.toNat) 65535

/-- The Tile `s` has counted and reported a COMMIT or PREPARE, from the state `v` in which it is bound, and so comes to the state `t`. -/
structure JudgedFrom (s v t : State) (p gen : Nat) (late : Bool) : Prop where
  tfs : t.tfs = v.tfs
  backState : t.rd Reg.TFS_STAT_BACK_STATE = v.rd Reg.TFS_STAT_BACK_STATE
  backGen : t.rd Reg.TFS_BACK_GEN = v.rd Reg.TFS_BACK_GEN
  counted : t.rd Reg.TFS_CNT_LATE = min (s.rd Reg.TFS_CNT_LATE + late.toNat) 65535
  reported : Reported s p gen (if late then 2 else 0) t

section
variable {s t old : State} {p e : Nat} {body : Bytes} (h : CommitNoted s t) (hcan : s.canSend p = true) (hkey : s.trs.wallKey ≠ none)
include h hcan hkey

theorem CommitNoted.misses (hmiss : s.showable e body = false) (asCommit : Bool) : MissesCommit s p e body (t.judgeCommit old p e body asCommit) := by
  have hflag : t.flag Reg.HMK_TABLE_VALID = s.flag Reg.HMK_TABLE_VALID :=
    h.within.flag (not_showReg (by decide))
  have hcount : t.rd Reg.TFS_CNT_MISS = s.rd Reg.TFS_CNT_MISS :=
    h.within.rd (not_showReg (by decide))
  rw [State.judgeCommit_missed ((h.showable e body).trans hmiss), h.cameWhole, hflag]
  have hcounted : Within CommitReg s (t.onlyIf (s.flag Reg.HMK_TABLE_VALID) fun v => v.bump Reg.TFS_CNT_MISS) :=
    (h.within.mono fun _ => ShowReg.commitReg).onlyIf _ ((Within.refl _ t).wr Reg.TFS_CNT_MISS _ (by simp [CommitReg, Reg.TFS_CNT_MISS]))
  refine ⟨?_, ?_, ?_⟩
  · rw [State.sendReport_rd _ _ _ _ _ _ (by simp [CommitReg, Reg.TFS_STAT_BACK_STATE]), State.rd_onlyIf_bump_ne _ _ (by decide), h.backState.1]
  · rw [State.sendReport_rd _ _ _ _ _ _ (by simp [CommitReg, Reg.TFS_CNT_MISS]), State.rd_onlyIf_bump _ _ _ (by decide), hcount]
    rfl
  · exact State.sendReport_reported hcounted ((State.onlyIf_bump_tfs _ _ _).2.trans h.weft) hcan hkey (by split <;> decide) (leAt_lt body 0 4) _ _

theorem CommitNoted.judged (hshow : s.showable e body = true) (hholds : s.flag Reg.HMK_TABLE_VALID = true)
    (hold : old.overtaken e (leAt body 0 4) = false) (asCommit : Bool) :
    JudgedFrom s (t.bindBack (leAt body 0 4) (s.commitBound (leAt body 4 8) asCommit).1 (s.commitBound (leAt body 4 8) asCommit).2 (!asCommit))
      (t.judgeCommit old p e body asCommit) p (leAt body 0 4) (s.commitBound (leAt body 4 8) asCommit).2 := by
  have hflag : t.flag Reg.HMK_TABLE_VALID = true :=
    (h.within.flag (not_showReg (by decide))).trans hholds
  rw [State.judgeCommit_good ((h.showable e body).trans hshow) hflag hold, h.commitBound]
  generalize s.commitBound (leAt body 4 8) asCommit = b
  have hbind := t.bindBack_within (leAt body 0 4) b.1 b.2 (!asCommit)
  have hweft := (t.bindBack_weft (leAt body 0 4) b.1 b.2 (!asCommit)).trans h.weft
  have hcount : (t.bindBack (leAt body 0 4) b.1 b.2 (!asCommit)).rd Reg.TFS_CNT_LATE = s.rd Reg.TFS_CNT_LATE :=
    (hbind.rd (by simp [BindReg, Reg.TFS_CNT_LATE, RegAddr.TFS_CNT, RegAddr.TFS_STAT, RegAddr.TFS_BACK])).trans
      (h.within.rd (not_showReg (by decide)))
  have hwithin : Within CommitReg s (t.bindBack (leAt body 0 4) b.1 b.2 (!asCommit)) :=
    (h.within.mono fun _ => ShowReg.commitReg).trans (hbind.mono fun _ => by simp only [BindReg, CommitReg]; tauto)
  generalize t.bindBack (leAt body 0 4) b.1 b.2 (!asCommit) = v at *
  have hcounted : Within CommitReg s (v.onlyIf b.2 fun u => u.bump Reg.TFS_CNT_LATE) :=
    hwithin.onlyIf _ ((Within.refl _ v).wr Reg.TFS_CNT_LATE _ (by simp [CommitReg, Reg.TFS_CNT_LATE]))
  refine ⟨?_, ?_, ?_, ?_, ?_⟩
  · rw [State.sendReport_tfs, (State.onlyIf_bump_tfs _ _ _).1]
  · rw [State.sendReport_rd _ _ _ _ _ _ (by simp [CommitReg, Reg.TFS_STAT_BACK_STATE]), State.rd_onlyIf_bump_ne _ _ (by decide)]
  · rw [State.sendReport_rd _ _ _ _ _ _ (by simp [CommitReg, Reg.TFS_BACK_GEN]), State.rd_onlyIf_bump_ne _ _ (by decide)]
  · rw [State.sendReport_rd _ _ _ _ _ _ (by simp [CommitReg, Reg.TFS_CNT_LATE]), State.rd_onlyIf_bump _ _ _ (by decide), hcount]
    rfl
  · have hresult : (if b.2 then 2 else 0) < 256 := by split <;> decide
    exact State.sendReport_reported hcounted ((v.onlyIf_bump_tfs b.2 Reg.TFS_CNT_LATE).2.trans hweft) hcan hkey hresult (leAt_lt body 0 4) _ _

theorem CommitNoted.binds (hkept : CommitKept p e (leAt body 0 4) t) (hshow : s.showable e body = true)
    (hholds : s.flag Reg.HMK_TABLE_VALID = true) (hold : old.overtaken e (leAt body 0 4) = false) :
    BindsCommit s p e (leAt body 0 4) (s.showFrom (leAt body 4 8)) (t.judgeCommit old p e body true) := by
  obtain ⟨htfs, hstate, hgen, hlate, hreported⟩ := h.judged hcan hkey (p := p) hshow hholds hold true
  rw [State.commitBound, if_pos rfl, Bool.not_true] at *
  generalize s.showFrom (leAt body 4 8) = b at *
  obtain ⟨hepoch, hkeptGen, hport⟩ := State.bindBack_kept hkept (leAt body 0 4) b.1 b.2 false
  rw [BindsCommit, htfs, hstate, hgen]
  refine ⟨fun hbeside => ?_, fun hbeside => ?_, hepoch, hkeptGen, hport, hreported, hlate⟩
  · exact State.bindBack_own (fun hkeep => hbeside ((h.keepsBeside b.1).mp hkeep)) (leAt_lt body 0 4) b.2 false
  · obtain ⟨x, heq, hbound, hnext⟩ := State.bindBack_beside ((h.keepsBeside b.1).mpr hbeside) (leAt body 0 4) b.2 false
    obtain ⟨hstate, hgen⟩ := h.backState
    obtain ⟨hback, -⟩ := hbeside
    rw [heq]
    exact ⟨hstate.trans (beq_iff_eq.mp hback), hgen, hbound.trans h.boundShow, hnext⟩

/-- A PREPARE that comes while nothing is bound waits for GO in the back buffer (R173, R280). -/
theorem CommitNoted.prepares (hshow : s.showable e body = true) (hholds : s.flag Reg.HMK_TABLE_VALID = true)
    (hold : old.overtaken e (leAt body 0 4) = false) (hfree : s.backBound = false) :
    (t.judgeCommit old p e body false).rd Reg.TFS_STAT_BACK_STATE = 2 ∧ (t.judgeCommit old p e body false).rd Reg.TFS_BACK_GEN = leAt body 0 4 ∧
    (t.judgeCommit old p e body false).tfs.boundShow = boundaryFrom s.whl.rate (leAt body 4 8) ∧
    Reported s p (leAt body 0 4) 0 (t.judgeCommit old p e body false) := by
  obtain ⟨htfs, hstate, hgen, -, hreported⟩ := h.judged hcan hkey (p := p) hshow hholds hold false
  rw [Bool.not_false] at htfs hstate hgen
  have hnot : ¬ t.keepsBeside (boundaryFrom s.whl.rate (leAt body 4 8)) := fun hkeep => by
    obtain ⟨hbound, -⟩ := (h.keepsBeside _).mp hkeep
    rw [hfree] at hbound
    cases hbound
  obtain ⟨hown, howngen, hshow_, -⟩ := State.bindBack_own hnot (leAt_lt body 0 4) false true
  exact ⟨hstate.trans hown, hgen.trans howngen, (congrArg TfsSt.boundShow htfs).trans hshow_, hreported⟩

end

end Sys2Proof.Machine
end

section
/-! PROOFS. PUSH, COMMIT, PREPARE, GO, ABORT and cell copies at a Tile (R158 to R173, R276 to R285). -/

namespace Sys2Proof.Machine

/-- A command leads to what its meaning answers, in a device that has power and is out of reset. -/
theorem leads_of_exec {c : Instr} {s t : State} {f : State → State} (hc : exec c s = .next (s.whenAlive f)) (h : f s = t) : Leads c s t :=
  fun halive => by rw [hc, State.whenAlive, if_pos halive, h]

/-- A Tile acts on an accepted COMMIT packet of its phase once it has noted it. -/
theorem Accepted.onCommit {s u : State} {p : Port} {a : Arrival} (h : Accepted s p .commit a u) (htile : u.isTile = true) {phase : Nat}
    (hphase : leAt a.pkt.body 12 1 = phase) (act : State → State) :
    s.onCommit p.val a phase act = act (u.notedCommit p.val a.pkt.epoch.toNat phase a.pkt.body) :=
  (h.onPacket _).trans (if_pos ⟨htile, hphase⟩)

/-- Whether the bound generation overtakes another is as before the packet arrived (R169). -/
theorem Arrives.overtaken {s u : State} (h : Arrives s u) (e gen : Nat) : s.overtaken e gen = u.overtaken e gen := by
  have hstate : u.rd Reg.TFS_STAT_BACK_STATE = s.rd Reg.TFS_STAT_BACK_STATE :=
    h.within.rd (by simp [WeftReg, Reg.TFS_STAT_BACK_STATE, RegAddr.TFS_STAT])
  have hgen : u.rd Reg.TFS_BACK_GEN = s.rd Reg.TFS_BACK_GEN := h.within.rd (by simp [WeftReg, Reg.TFS_BACK_GEN, RegAddr.TFS_BACK])
  rw [State.overtaken, State.overtaken, State.backBound, State.backBound, hstate, hgen, h.tfs]

section
variable {s t : State} (h : CommitNoted s t)
include h

theorem CommitNoted.awaits (gen : Nat) : t.awaits gen = s.awaits gen := by
  obtain ⟨hstate, hgen⟩ := h.backState
  rw [State.awaits, State.backWaits, hstate, hgen, State.awaits, State.backWaits]

theorem CommitNoted.inTimeShown : t.inTime t.tfs.boundShow = s.inTime s.tfs.boundShow := by rw [h.inTime, h.boundShow]

end

theorem State.rd_onlyIf_updNext (s : State) (c : Bool) (f : State → NextBind → Option NextBind) (r : Fld) :
    (s.onlyIf c fun u => u.updNext (f u)).rd r = s.rd r := by cases c <;> rfl

section
variable {s u : State} {p : Port} {a : Arrival} (ha : Accepted s p .commit a u) (htile : u.isTile = true)
include ha htile

/-- GO in time confirms the generation that awaits it (R280, R285). -/
theorem Accepted.go_confirms (hphase : leAt a.pkt.body 12 1 = 2) (hawaits : u.awaits (leAt a.pkt.body 0 4) = true)
    (htime : u.inTime u.tfs.boundShow = true) : Works (.goReceive p a) s fun t =>
      t.rd Reg.TFS_STAT_BACK_STATE = 1 ∧ t.rd Reg.TFS_BACK_GEN = leAt a.pkt.body 0 4 := by
  have hnoted := u.notedCommit_noted p.val a.pkt.epoch.toNat 2 a.pkt.body
  refine works_of_exec (f := fun v => doGoReceive v p.val a) rfl ?_
  rw [doGoReceive, ha.onCommit htile hphase]
  generalize u.notedCommit _ _ _ _ = t at *
  dsimp only
  rw [if_pos (by rw [hnoted.awaits, hnoted.inTimeShown, hawaits, htime]; rfl)]
  have hgen : u.rd Reg.TFS_BACK_GEN = leAt a.pkt.body 0 4 := by
    simp only [State.awaits, Bool.and_eq_true, beq_iff_eq] at hawaits
    exact hawaits.2
  exact ⟨t.rd_wr_self _ 1 (by decide), (t.rd_wr_ne _ _ 1 (by decide)).trans (hnoted.backState.2.trans hgen)⟩

/-- GO that comes late, or for another generation, leaves the back buffer (R280). -/
theorem Accepted.go_idle (hphase : leAt a.pkt.body 12 1 = 2) (hidle : (u.awaits (leAt a.pkt.body 0 4) && u.inTime u.tfs.boundShow) = false) :
    Works (.goReceive p a) s fun t => t.rd Reg.TFS_STAT_BACK_STATE = u.rd Reg.TFS_STAT_BACK_STATE := by
  have hnoted := u.notedCommit_noted p.val a.pkt.epoch.toNat 2 a.pkt.body
  refine works_of_exec (f := fun v => doGoReceive v p.val a) rfl ?_
  rw [doGoReceive, ha.onCommit htile hphase]
  generalize u.notedCommit _ _ _ _ = t at *
  dsimp only
  rw [if_neg (by rw [hnoted.awaits, hnoted.inTimeShown, hidle]; exact Bool.false_ne_true)]
  exact (t.rd_onlyIf_updNext _ _ _).trans hnoted.backState.1

/-- ABORT cancels the generation that awaits GO (R280). -/
theorem Accepted.abort_cancels (hphase : leAt a.pkt.body 12 1 = 3) (hawaits : u.awaits (leAt a.pkt.body 0 4) = true) :
    Works (.abortReceive p a) s fun t => t.rd Reg.TFS_STAT_BACK_STATE = 0 := by
  have hnoted := u.notedCommit_noted p.val a.pkt.epoch.toNat 3 a.pkt.body
  refine works_of_exec (f := fun v => doAbortReceive v p.val a) rfl ?_
  rw [doAbortReceive, ha.onCommit htile hphase]
  generalize u.notedCommit _ _ _ _ = t at *
  dsimp only
  rw [if_pos (by rw [hnoted.awaits, hawaits])]
  exact t.rd_wr_self Reg.TFS_STAT_BACK_STATE 0 (by decide)

theorem Accepted.doCommitReceive (hphase : leAt a.pkt.body 12 1 = 0) : doCommitReceive s p a =
    (u.notedCommit p.val a.pkt.epoch.toNat 0 a.pkt.body).judgeCommit s p.val a.pkt.epoch.toNat a.pkt.body true := ha.onCommit htile hphase _

theorem Accepted.doPrepareReceive (hphase : leAt a.pkt.body 12 1 = 1) : doPrepareReceive s p a =
    (u.notedCommit p.val a.pkt.epoch.toNat 1 a.pkt.body).judgeCommit s p.val a.pkt.epoch.toNat a.pkt.body ((u.ownEntry a.pkt.body).testBit 17) := by
  have hnoted := u.notedCommit_noted p.val a.pkt.epoch.toNat 1 a.pkt.body
  refine (ha.onCommit htile hphase _).trans ?_
  rw [hnoted.ownEntry]

end

/-- A COMMIT binds the back buffer where it is whole, not skipped, not overtaken and the guard table is held, and one that is not whole, or is skipped, counts a
miss. -/
theorem CommitNoted.judges {s t old : State} {p e : Nat} {body : Bytes} (h : CommitNoted s t) (hkept : CommitKept p e (leAt body 0 4) t)
    (hold : old.overtaken e (leAt body 0 4) = s.overtaken e (leAt body 0 4)) (hcan : s.canSend p = true) (hkey : s.trs.wallKey ≠ none) :
    ((s.showable e body && s.flag Reg.HMK_TABLE_VALID && !s.overtaken e (leAt body 0 4)) = true →
      BindsCommit s p e (leAt body 0 4) (s.showFrom (leAt body 4 8)) (t.judgeCommit old p e body true)) ∧
    (s.cameWhole e body = false ∨ (s.ownEntry body).testBit 16 = true → MissesCommit s p e body (t.judgeCommit old p e body true)) := by
  refine ⟨fun hgood => ?_, fun hmiss => ?_⟩
  · simp only [Bool.and_eq_true, Bool.not_eq_true'] at hgood
    obtain ⟨⟨hshow, hholds⟩, hnot⟩ := hgood
    exact h.binds hcan hkey hkept hshow hholds (hold.trans hnot)
  · refine h.misses hcan hkey ?_ true
    rw [State.showable]
    rcases hmiss with hmiss | hmiss <;> simp [hmiss]

/-- Settles O50, from the consumer's frame, the pixels of a block, and the judgement of a COMMIT. -/
theorem tileTakesPushesAndCommits : Obligations.TileTakesPushesAndCommits := by
  unfold Obligations.TileTakesPushesAndCommits
  refine ⟨fun s u p a ha htile => ⟨fun hdropped => ?_, fun ps h hcrc hwf => tileTakesPush ha htile h hcrc hwf⟩,
    fun s u p a ha htile hcan hkey => ?_, fun s => ⟨fun htile hwaits hlate => ?_, fun hidle => ?_⟩,
    fun s b col row => ⟨fun hidle => ?_, fun htile hc hwf hb hfits => ?_⟩⟩
  · refine works_of_exec (f := fun v => doPushReceive v p.val a) rfl ?_
    rw [ha.doPushReceive htile]
    obtain ⟨hmemory, hcount⟩ := State.takePushPacket_dropped u a.pkt.epoch.toNat a.pkt.body hdropped
    exact ⟨hmemory.sameBytes, hcount⟩
  · have hold := ha.arrives.overtaken a.pkt.epoch.toNat (leAt a.pkt.body 0 4)
    have hjudges {phase : Nat} (hphase : phase < 2) := (u.notedCommit_noted p.val a.pkt.epoch.toNat phase a.pkt.body).judges
      (u.notedCommit_kept p.val a.pkt.epoch.toNat a.pkt.body hphase) hold hcan hkey
    refine ⟨fun hphase => ?_, fun hphase halone => ?_, fun hphase hgo hgood hfree => ?_, ha.go_confirms htile, ha.go_idle htile, ha.abort_cancels htile⟩
    · obtain ⟨hbinds, hmisses⟩ := hjudges (phase := 0) (by decide)
      rw [← ha.doCommitReceive htile hphase] at hbinds hmisses
      exact ⟨fun hgood => works_of_exec (f := fun v => doCommitReceive v p.val a) rfl (hbinds hgood),
        fun hmiss => works_of_exec (f := fun v => doCommitReceive v p.val a) rfl (hmisses hmiss)⟩
    · obtain ⟨hbinds, hmisses⟩ := hjudges (phase := 1) (by decide)
      have hprepare := ha.doPrepareReceive htile hphase
      rw [halone] at hprepare
      rw [← hprepare] at hbinds hmisses
      exact ⟨fun hgood => works_of_exec (f := fun v => doPrepareReceive v p.val a) rfl (hbinds hgood),
        fun hmiss => works_of_exec (f := fun v => doPrepareReceive v p.val a) rfl (hmisses hmiss)⟩
    · simp only [Bool.and_eq_true, Bool.not_eq_true'] at hgood
      obtain ⟨⟨hshow, hholds⟩, hnot⟩ := hgood
      have hprepare := ha.doPrepareReceive htile hphase
      rw [hgo] at hprepare
      refine works_of_exec (f := fun v => doPrepareReceive v p.val a) rfl ?_
      rw [hprepare]
      exact (u.notedCommit_noted p.val a.pkt.epoch.toNat 1 a.pkt.body).prepares hcan hkey (by simpa [State.showable, State.cameWhole] using hshow) hholds
        (hold.trans hnot) hfree
  · exact leads_of_exec (f := doGoTimeout) rfl (goTimeout_unbinds htile hwaits hlate)
  · exact exec_unchanged (f := doGoTimeout) rfl (goTimeout_idle hidle)
  · exact exec_unchanged (f := fun v => doCellCopy v b.val col.toNat row.toNat) rfl (cellCopy_idle hidle)
  · exact works_of_exec (f := fun v => doCellCopy v b.val col.toNat row.toNat) rfl (cellCopy_copies htile hc hwf hb hfits)

end Sys2Proof.Machine
end

section
/-! SUPPORT. What the dispatcher reads beside its own state, and the entries that a later pass withdraws (R160, R401, R424). -/

namespace Sys2Proof.Machine

/-! ### The rights of a Sender -/

/-- The registers that say what a Sender may order (R401, R424). -/
def RightsReg (a : Nat) : Prop := a = RegAddr.SYS_ROLE ∨ a = RegAddr.SPN_STAT

section
variable {W : Nat → Prop} {s t : State} (h : Within W s t) (hW : ∀ a, RightsReg a → ¬ W a)
include h hW

theorem Within.holdsSpindle : t.holdsSpindle = s.holdsSpindle := by
  rw [State.holdsSpindle, h.isSender (hW _ (.inl rfl)), h.rd (f := Reg.SPN_STAT_STATE) (hW _ (.inr rfl)), State.holdsSpindle]

theorem Within.splitPort (p : Nat) : t.splitPort p = s.splitPort p := by
  rw [State.splitPort, State.splitService, State.bit, h.isSender (hW _ (.inl rfl)), h.rd (f := Reg.SPN_STAT_STATE) (hW _ (.inr rfl)),
    h.rd (f := Reg.SPN_STAT_SPLIT) (hW _ (.inr rfl)), State.splitPort, State.splitService, State.bit]

theorem Within.ordersTile (c p : Nat) : t.ordersTile c p = s.ordersTile c p := by
  rw [State.ordersTile, h.holdsSpindle hW, h.splitPort hW, h.served, State.ordersTile]

theorem Within.ordersPort (p : Nat) : t.ordersPort p = s.ordersPort p := by
  rw [State.ordersPort, h.holdsSpindle hW, h.splitPort hW, State.ordersPort]

end

/-- A Sender that orders a Tile orders on its port. -/
theorem State.ordersPort_of_ordersTile {s : State} {c p : Nat} (h : s.ordersTile c p = true) : s.ordersPort c = true := by
  simp only [State.ordersTile, State.ordersPort, Bool.or_eq_true, Bool.and_eq_true] at h ⊢
  exact h.imp_right And.left

/-! ### Entries withdrawn -/

/-- The counts of the entries withdrawn from each chain. -/
def WithdrawnReg (a : Nat) : Prop := ∃ c, a = RegAddr.DMG_CHAIN_ERR c

/-- Entries are withdrawn from the window: they are noted and counted (R160). -/
structure Withdraws (s t : State) : Prop where
  only : ∃ w r, t = { s with dmg := { s.dmg with withdrawn := w }, regs := r }
  within : Within WithdrawnReg s t

theorem Withdraws.refl (s : State) : Withdraws s s := ⟨⟨_, _, rfl⟩, Within.refl _ s⟩

theorem Withdraws.trans {s t u : State} (h : Withdraws s t) (k : Withdraws t u) : Withdraws s u where
  only := by
    obtain ⟨w, r, rfl⟩ := h.only
    obtain ⟨w', r', rfl⟩ := k.only
    exact ⟨w', r', rfl⟩
  within := h.within.trans k.within

/-- One entry is noted and counted. -/
theorem Withdraws.entry (s : State) (c : Nat) (w : List (Nat × Nat)) :
    Withdraws s (({ s with dmg := { s.dmg with withdrawn := w } } : State).bump (Reg.DMG_CHAIN_ERR_WITHDRAWN c)) where
  only := ⟨_, _, rfl⟩
  within := by
    have hnoted : Within WithdrawnReg s { s with dmg := { s.dmg with withdrawn := w } } := Within.of_same rfl rfl
    exact hnoted.wr (Reg.DMG_CHAIN_ERR_WITHDRAWN c) _ ⟨c, rfl⟩

theorem State.sweep_withdraws (s : State) (c : Nat) : Withdraws s (s.sweep c) :=
  State.forAll_keeps (Withdraws s) _ _ s (Withdraws.refl s) fun t _ _ ht => ht.trans (Withdraws.entry t c _)

/-- The sweep of several chains. -/
theorem State.sweeps_withdraws (s : State) (l : List Nat) : Withdraws s (l.foldl State.sweep s) :=
  State.forAll_keeps (Withdraws s) State.sweep l s (Withdraws.refl s) fun t c _ ht => ht.trans (t.sweep_withdraws c)

theorem WithdrawnReg.not_rights (a : Nat) (h : RightsReg a) : ¬ WithdrawnReg a := by
  rintro ⟨c, rfl⟩
  simp only [RightsReg, RegAddr.DMG_CHAIN_ERR, RegAddr.SYS_ROLE, RegAddr.SPN_STAT] at h
  omega

theorem WithdrawnReg.not_portStat (q : Nat) : ¬ WithdrawnReg (RegAddr.WFT_PORT_STAT q) := by
  rintro ⟨c, h⟩
  simp only [RegAddr.DMG_CHAIN_ERR, RegAddr.WFT_PORT_STAT] at h
  omega

section
variable {s t : State} (h : Withdraws s t)
include h

theorem Withdraws.weft : t.weft = s.weft := by
  obtain ⟨w, r, rfl⟩ := h.only
  rfl

theorem Withdraws.tile (c p : Nat) : t.tile c p = s.tile c p := by
  obtain ⟨w, r, rfl⟩ := h.only
  rfl

theorem Withdraws.charge : t.dmg.charge = s.dmg.charge := by
  obtain ⟨w, r, rfl⟩ := h.only
  rfl

theorem Withdraws.due : t.dmg.due = s.dmg.due := by
  obtain ⟨w, r, rfl⟩ := h.only
  rfl

theorem Withdraws.links : SameLinks s t := h.within.sameLinks WithdrawnReg.not_portStat

theorem Withdraws.leaving (p : Nat) : t.leaving p = s.leaving p :=
  h.within.leaving h.links (by rw [State.port, h.weft, State.port])

end

end Sys2Proof.Machine
end

section
/-! SUPPORT. A push that is sent, or of a Tile that the Sender does not order only counted (R150, R161 to R164, R413). -/

namespace Sys2Proof.Machine

/-- An entry that is sent leaves the queue of its chain, and nothing else of the books (R160). -/
theorem State.takePush_spec (s : State) (c : Nat) (e : PushEntry) :
    (s.takePush c e).queue c = (s.queue c).filter (fun x => !(x.pos == e.pos && x.block == e.block)) ∧ (s.takePush c e).weft = s.weft ∧
    (s.takePush c e).dmg.charge = s.dmg.charge ∧ (s.takePush c e).dmg.tiles = s.dmg.tiles := by
  have hqueue := s.queue_setQueue_self c ((s.queue c).filter fun x => !(x.pos == e.pos && x.block == e.block))
  unfold State.takePush
  dsimp only
  split <;> exact ⟨hqueue, rfl, rfl, rfl⟩

/-- An entry that has been picked goes where it fits the window, and where the port of a Tile that the Sender orders can carry it (R150, R413). -/
def State.pushGoes (s : State) (c : Nat) (e : PushEntry) : Prop := s.fitsWindow c e.block = true ∧ (s.ordersTile c e.pos = true → s.canSend c = true)

/-- The packet of a push, where the Sender orders the Tile. -/
def State.pushOut (s : State) (c : Nat) (e : PushEntry) : State :=
  s.onlyIf (s.ordersTile c e.pos) fun t => t.sendOrder c .push (s.tileAddr c e.pos) (s.pushBody c e.pos e.block)

/-- The books of a push (R160, R161, R171): the entry leaves the queue, its bytes are charged, and it counts as sent; where the Sender orders the Tile the
entry joins the set of its generation. -/
structure PushBooked (s v t : State) (c : Nat) (e : PushEntry) (orders : Bool) : Prop where
  weft : t.weft = v.weft
  queue : t.queue c = (s.queue c).filter fun x => !(x.pos == e.pos && x.block == e.block)
  charge : Tab.get t.dmg.charge c = Tab.get s.dmg.charge c + s.pushCharge e.block
  sent : (t.tile c e.pos).sent = (s.tile c e.pos).sent + 1
  set : orders = true → ∃ l, Tab.find (t.tile c e.pos).sets (s.wireGen s.dmg.window) = some l ∧ e ∈ l

theorem State.sendOrder_dmg (s : State) (p : Nat) (t : PType) (dest : Nat) (body : Bytes) : (s.sendOrder p t dest body).dmg = s.dmg := by
  unfold State.sendOrder
  cases s.ordersPort p && s.sys.fatal.isNone with
  | false => rfl
  | true => exact (s.send_departs p t dest body).dmg

theorem State.pushOut_dmg (s : State) (c : Nat) (e : PushEntry) : (s.pushOut c e).dmg = s.dmg := by
  unfold State.pushOut
  cases s.ordersTile c e.pos with
  | false => rfl
  | true => exact s.sendOrder_dmg _ _ _ _

/-- The charge of a push, and the record of its Tile (R161, R171). -/
def State.bookPush (s : State) (c p n a : Nat) (f : TileRec → TileRec) : State :=
  ({ s with dmg := { s.dmg with charge := Tab.upd s.dmg.charge c (· + n), chargeA := Tab.upd s.dmg.chargeA c (· + a) } } : State).setTile c p f

theorem State.bookPush_tile (s : State) (c p n a : Nat) (f : TileRec → TileRec) : (s.bookPush c p n a f).tile c p = f (s.tile c p) :=
  Tab.get_upd_self s.dmg.tiles (tileKey c p) f

theorem State.bookPush_queue (s : State) (c p n a : Nat) (f : TileRec → TileRec) (d : Nat) : (s.bookPush c p n a f).queue d = s.queue d := rfl

theorem State.bookPush_charge (s : State) (c p n a : Nat) (f : TileRec → TileRec) :
    Tab.get (s.bookPush c p n a f).dmg.charge c = Tab.get s.dmg.charge c + n :=
  Tab.get_upd_self s.dmg.charge c (· + n)

/-- An entry of a Tile that has been sent (R171). -/
def TileRec.takeSent (x : TileRec) (orders : Bool) (gen : Nat) (e : PushEntry) : TileRec :=
  { x with sent := x.sent + 1, sets := if orders then Tab.put x.sets gen ((Tab.find x.sets gen).getD [] ++ [e]) else x.sets }

/-- An entry that is picked and goes leaves, and is booked. -/
theorem doPushSend_goes {s : State} {c : Nat} {e : PushEntry} (hsender : s.isSender = true) (hwindow : s.dmg.window ≠ 0)
    (hpick : (s.sweep c).pickPush c = some e) (hgoes : (s.sweep c).pushGoes c e) : ∃ a,
    doPushSend s c = (((s.sweep c).pushOut c e).takePush c e).bookPush c e.pos ((s.sweep c).pushCharge e.block) a fun x =>
      x.takeSent (s.ordersTile c e.pos) ((s.sweep c).wireGen (s.sweep c).dmg.window) e := by
  have hgo : ¬ ((!s.isSender) = true ∨ s.dmg.window = 0) := by simp [hsender, hwindow]
  obtain ⟨hfits, hcan⟩ := hgoes
  have hsend : ¬ ((!(s.sweep c).fitsWindow c e.block) = true ∨ (s.sweep c).ordersTile c e.pos = true ∧ (!(s.sweep c).canSend c) = true) := by
    simpa [hfits] using hcan
  rw [doPushSend, if_neg hgo]
  dsimp only
  rw [hpick]
  dsimp only
  rw [if_neg hsend]
  exact ⟨_, rfl⟩

theorem doPushSend_booked {s : State} {c : Nat} {e : PushEntry} (hsender : s.isSender = true) (hwindow : s.dmg.window ≠ 0)
    (hpick : (s.sweep c).pickPush c = some e) (hgoes : (s.sweep c).pushGoes c e) :
    PushBooked (s.sweep c) ((s.sweep c).pushOut c e) (doPushSend s c) c e (s.ordersTile c e.pos) := by
  obtain ⟨a, heq⟩ := doPushSend_goes hsender hwindow hpick hgoes
  generalize s.sweep c = u at *
  have hdmg := u.pushOut_dmg c e
  generalize u.pushOut c e = v at *
  obtain ⟨hqueue, hweft, hcharge, htiles⟩ := v.takePush_spec c e
  have htile : (doPushSend s c).tile c e.pos = (u.tile c e.pos).takeSent (s.ordersTile c e.pos) (u.wireGen u.dmg.window) e := by
    rw [heq, State.bookPush_tile, State.tile, htiles, hdmg, State.tile]
  refine ⟨by rw [heq]; exact hweft, ?_, ?_, by rw [htile, TileRec.takeSent], fun horders => ?_⟩
  · rw [heq, State.bookPush_queue, hqueue, State.queue, hdmg, State.queue]
  · rw [heq, State.bookPush_charge, hcharge, hdmg]
  · rw [htile, TileRec.takeSent, if_pos horders]
    exact ⟨_, Tab.find_put_self _ _ _, List.mem_append_right _ (List.mem_singleton_self e)⟩

theorem doPushSend_idle {s : State} {c : Nat} (h : s.isSender = false ∨ s.dmg.window = 0) : doPushSend s c = s := by
  rw [doPushSend, if_pos]
  exact h.imp_left fun hsender => by rw [hsender]; rfl

theorem doPushSend_waits {s : State} {c : Nat} (hsender : s.isSender = true) (hwindow : s.dmg.window ≠ 0)
    (hwaits : ∀ e, (s.sweep c).pickPush c = some e → ¬ (s.sweep c).pushGoes c e) : doPushSend s c = s.sweep c := by
  have hgo : ¬ ((!s.isSender) = true ∨ s.dmg.window = 0) := by simp [hsender, hwindow]
  rw [doPushSend, if_neg hgo]
  dsimp only
  split
  · rfl
  · next e hpick =>
    refine if_pos ?_
    have hnot := hwaits e hpick
    simp only [State.pushGoes, not_and] at hnot
    cases hfits : (s.sweep c).fitsWindow c e.block with
    | false => exact .inl rfl
    | true => simpa using hnot hfits

/-! ### The packet of a push -/

theorem State.sendOrder_of_ordersPort {s : State} {p : Nat} (horders : s.ordersPort p = true) (hfatal : s.sys.fatal = none) (t : PType) (dest : Nat)
    (body : Bytes) : s.sendOrder p t dest body = s.send p t dest body := by
  rw [State.sendOrder, horders, hfatal]
  rfl

/-- Where the Sender orders the Tile and its port can send, the push leaves. -/
theorem State.pushOut_sent {s : State} {c : Nat} {e : PushEntry} (horders : s.ordersTile c e.pos = true) (hfatal : s.sys.fatal = none)
    (hcan : s.canSend c = true) (hkey : s.trs.wallKey ≠ none) : (s.pushOut c e).weft.sent = s.weft.sent ++ s.leaving c ++
      [⟨c, s.formPacket c .push (s.tileAddr c e.pos) (s.pushBody c e.pos e.block), true, none⟩] := by
  have hmay : s.mayTag .push = true := by
    rw [State.mayTag, Option.isSome_iff_ne_none.mpr hkey]
    rfl
  have hout : s.pushOut c e = s.send c .push (s.tileAddr c e.pos) (s.pushBody c e.pos e.block) := by
    rw [State.pushOut, horders]
    exact State.sendOrder_of_ordersPort (State.ordersPort_of_ordersTile horders) hfatal _ _ _
  rw [hout]
  exact s.send_sent c .push _ _ hcan hmay (by decide)

/-- Pushes of O52. -/
theorem dispatcherPushes (s : State) (c : Port) :
    let s1 := s.sweep c
    ((s.isSender = false ∨ s.dmg.window = 0) → exec (.pushSend c) s = .next s) ∧
    (s.isSender = true → s.dmg.window ≠ 0 → s1.pickPush c = none → Leads (.pushSend c) s s1) ∧
    ∀ e, s.isSender = true → s.dmg.window ≠ 0 → s1.pickPush c = some e →
      ((s1.fitsWindow c e.block = false ∨ (s.ordersTile c e.pos = true ∧ s.canSend c = false)) → Leads (.pushSend c) s s1) ∧
      (s1.fitsWindow c e.block = true → s.ordersTile c e.pos = false → Works (.pushSend c) s fun t => t.weft.sent = s.weft.sent ∧
        t.queue c = (s1.queue c).filter (fun x => !(x.pos == e.pos && x.block == e.block)) ∧
        Tab.get t.dmg.charge c = Tab.get s.dmg.charge c + s1.pushCharge e.block ∧ (t.tile c e.pos).sent = (s.tile c e.pos).sent + 1) ∧
      (s1.fitsWindow c e.block = true → s.ordersTile c e.pos = true → s.sys.fatal = none → s.canSend c = true → s.trs.wallKey ≠ none →
        Works (.pushSend c) s fun t =>
          t.weft.sent = s.weft.sent ++ s.leaving c ++ [⟨c, s1.formPacket c .push (s1.tileAddr c e.pos) (s1.pushBody c e.pos e.block), true, none⟩] ∧
          t.queue c = (s1.queue c).filter (fun x => !(x.pos == e.pos && x.block == e.block)) ∧
          Tab.get t.dmg.charge c = Tab.get s.dmg.charge c + s1.pushCharge e.block ∧ (t.tile c e.pos).sent = (s.tile c e.pos).sent + 1 ∧
          ∃ set, Tab.find (t.tile c e.pos).sets (s1.wireGen s1.dmg.window) = some set ∧ e ∈ set) := by
  intro s1
  have hswept : Withdraws s s1 := s.sweep_withdraws c
  have horders (p : Nat) : s1.ordersTile c p = s.ordersTile c p := hswept.within.ordersTile WithdrawnReg.not_rights c p
  refine ⟨fun hidle => exec_unchanged (f := fun v => doPushSend v c.val) rfl (doPushSend_idle hidle),
    fun hsender hwindow hnone => leads_of_exec (f := fun v => doPushSend v c.val) rfl (doPushSend_waits hsender hwindow fun e hpick => ?_),
    fun e hsender hwindow hpick => ⟨fun hwaits => leads_of_exec (f := fun v => doPushSend v c.val) rfl (doPushSend_waits hsender hwindow fun e' hpick' => ?_),
      fun hfits hnot => works_of_exec (f := fun v => doPushSend v c.val) rfl ?_,
      fun hfits hdoes hfatal hcan hkey => works_of_exec (f := fun v => doPushSend v c.val) rfl ?_⟩⟩
  · rw [hnone] at hpick
    cases hpick
  · rw [hpick] at hpick'
    cases hpick'
    rintro ⟨hfits, hcan⟩
    rw [horders, hswept.links.canSend] at hcan
    rcases hwaits with hwaits | ⟨hdoes, hcannot⟩
    · rw [hfits] at hwaits
      cases hwaits
    · rw [hcan hdoes] at hcannot
      cases hcannot
  · obtain ⟨hweft, hqueue, hcharge, hsent, -⟩ := doPushSend_booked hsender hwindow hpick ⟨hfits, fun hdoes => by rw [horders, hnot] at hdoes; cases hdoes⟩
    have hout : s1.pushOut c e = s1 := by
      rw [State.pushOut, horders, hnot]
      rfl
    rw [hout] at hweft
    exact ⟨by rw [hweft, hswept.weft], hqueue, by rw [hcharge, hswept.charge], by rw [hsent, hswept.tile]⟩
  · obtain ⟨hweft, hqueue, hcharge, hsent, hset⟩ := doPushSend_booked hsender hwindow hpick ⟨hfits, fun _ => (hswept.links.canSend c).trans hcan⟩
    have hout := State.pushOut_sent ((horders e.pos).trans hdoes) (hswept.within.fatal.trans hfatal) ((hswept.links.canSend c).trans hcan)
      (by rw [hswept.within.trs]; exact hkey)
    rw [hswept.weft, hswept.leaving] at hout
    exact ⟨by rw [hweft, hout], hqueue, by rw [hcharge, hswept.charge], by rw [hsent, hswept.tile], hset hdoes⟩

end Sys2Proof.Machine
end

section
/-! SUPPORT. Entering pushes and full re-pushes (R154, R156, R187): what they leave of the dispatcher, and that every block of a Tile is queued. -/

namespace Sys2Proof.Machine

/-! ### What entering pushes leaves -/

/-- The transmit state of some port. -/
def LinkReg (a : Nat) : Prop := ∃ q, a = RegAddr.WFT_PORT_STAT q

/-- Pushes are entered, and packets leave: of the dispatcher only the queues change, and what was queued for a Tile stays queued. -/
structure Enters (s t : State) : Prop where
  beside : Beside s t
  within : Within LinkReg s t
  dmg : ∃ q, t.dmg = { s.dmg with queues := q }
  queued : ∀ c p b, s.queued c p b → t.queued c p b

theorem Enters.refl (s : State) : Enters s s := ⟨Beside.refl s, Within.refl _ s, ⟨_, rfl⟩, fun _ _ _ => id⟩

theorem Enters.trans {s t u : State} (h : Enters s t) (k : Enters t u) : Enters s u where
  beside := h.beside.trans k.beside
  within := h.within.trans k.within
  dmg := by
    obtain ⟨q, hq⟩ := h.dmg
    obtain ⟨r, hr⟩ := k.dmg
    exact ⟨r, by rw [hr, hq]⟩
  queued c p b hs := k.queued c p b (h.queued c p b hs)

theorem Enters.onlyIf {s : State} (c : Bool) {f : State → State} (h : Enters s (f s)) : Enters s (s.onlyIf c f) := by
  cases c with
  | false => exact Enters.refl s
  | true => exact h

theorem Enters.forAll {α : Type} {s : State} {l : List α} {f : State → α → State} (h : ∀ t x, Enters t (f t x)) : Enters s (s.forAll l f) :=
  State.forAll_keeps (Enters s) f l s (Enters.refl s) fun t x _ ht => ht.trans (h t x)

theorem Enters.tile {s t : State} (h : Enters s t) (c p : Nat) : t.tile c p = s.tile c p := by
  obtain ⟨q, hq⟩ := h.dmg
  rw [State.tile, hq, State.tile]

theorem State.send_enters (s : State) (p : Nat) (t : PType) (dest : Nat) (body : Bytes) : Enters s (s.send p t dest body) where
  beside := s.send_beside p t dest body
  within := (s.send_departs p t dest body).within.mono fun _ ha => ⟨p, ha⟩
  dmg := ⟨s.dmg.queues, (s.send_departs p t dest body).dmg⟩
  queued c q b h := by rwa [State.queued, State.queue, (s.send_departs p t dest body).dmg]

theorem State.sendOrder_enters (s : State) (p : Nat) (t : PType) (dest : Nat) (body : Bytes) : Enters s (s.sendOrder p t dest body) :=
  Enters.onlyIf _ (s.send_enters p t dest body)

theorem State.sendGuard_enters (s : State) (t : PieceTable) (c p : Nat) : Enters s (s.sendGuard t c p) := by
  unfold State.sendGuard
  split
  · exact s.sendOrder_enters _ _ _ _
  · exact Enters.refl s

/-- Entering a push changes a queue, and nothing else. -/
theorem State.enterEntry_only (s : State) (c p b time gen : Nat) : ∃ q, s.enterEntry c p b time gen = s.setQueue c q := by
  unfold State.enterEntry
  dsimp only
  split <;> exact ⟨_, rfl⟩

theorem State.enterEntry_enters (s : State) (c p b time gen : Nat) : Enters s (s.enterEntry c p b time gen) := by
  obtain ⟨q, hq⟩ := s.enterEntry_only c p b time gen
  exact ⟨s.enterEntry_beside c p b time gen, hq ▸ Within.of_same rfl rfl, ⟨_, by rw [hq]; rfl⟩, fun _ _ _ h => s.queued_enterEntry c p b time gen h⟩

theorem State.enterPush_enters (s : State) (c p b time : Nat) : Enters s (s.enterPush c p b time) := s.enterEntry_enters c p b time _

theorem State.fullRepush_enters (s : State) (c p time : Nat) : Enters s (s.fullRepush c p time) := by
  refine Enters.onlyIf _ (Enters.trans (t := s.enterAll c p time) ?_ (State.sendGuard_enters _ _ _ _))
  exact Enters.forAll fun t b => t.enterPush_enters c p b time

/-! ### What is queued -/

/-- Entering the pushes of a list queues each of them, whatever the time of each. -/
theorem State.queued_enterPushes {α : Type} (s : State) (c p : Nat) {l : List α} (block time : α → Nat) {x : α} (hx : x ∈ l) :
    (s.forAll l fun t y => t.enterPush c p (block y) (time y)).queued c p (block x) :=
  State.forAll_reaches (P := fun t => t.queued c p (block x)) s hx (fun t => t.queued_enterEntry_self _ _ _ _ _)
    fun t _ ht => t.queued_enterEntry _ _ _ _ _ ht

theorem State.fullRepush_queued {s : State} {c p b : Nat} (hon : s.tileOn c p = true) (hb : b ∈ s.tileBlocks c p) (time : Nat) :
    (s.fullRepush c p time).queued c p b := by
  have hentered : (s.enterAll c p time).queued c p b := by
    rw [State.enterAll, if_pos hon]
    exact s.queued_enterPushes c p id (fun _ => time) hb
  rw [State.fullRepush, State.onlyIf, if_pos hon]
  exact (State.sendGuard_enters _ _ c p).queued c p b hentered

section
variable {W : Nat → Prop} {s t : State} (h : Alters W s t)
include h

theorem Alters.tileOn (c p : Nat) : t.tileOn c p = s.tileOn c p := by simp only [State.tileOn, State.acFlag, h.ac]

theorem Alters.tileBlocks (hW : ¬ W RegAddr.LOOM_GEOM) (c p : Nat) : t.tileBlocks c p = s.tileBlocks c p := by
  simp only [State.tileBlocks, h.blocks hW, h.blockMeets hW, h.tileRect]

end

theorem State.mem_chainTiles {s : State} {c p : Nat} (h : p ∈ s.chainTiles c) : s.tileOn c p = true := (List.mem_filter.mp h).2

/-- A full re-push of several Tiles queues every block of each of them (R154). -/
theorem State.fullRepushes_queued {α : Type} {s : State} {l : List α} {chain pos : α → Nat} {x : α} (hx : x ∈ l) (hon : s.tileOn (chain x) (pos x) = true)
    {b : Nat} (hb : b ∈ s.tileBlocks (chain x) (pos x)) (time : Nat) :
    (s.forAll l fun t y => t.fullRepush (chain y) (pos y) time).queued (chain x) (pos x) b := by
  refine State.forAll_makes (R := Enters s) (P := fun t => t.queued (chain x) (pos x) b) hx (Enters.refl s)
    (fun t y _ ht => ht.trans (t.fullRepush_enters _ _ _)) (fun t ht => ?_) fun t y _ _ hp => (t.fullRepush_enters _ _ _).queued _ _ b hp
  exact State.fullRepush_queued ((ht.beside.toAlters.tileOn _ _).trans hon) (ht.beside.toAlters.tileBlocks id _ _ ▸ hb) time

/-- Re-pushes of O52. -/
theorem dispatcherRepushes (s : State) (c : Port) (p : BitVec 6) :
    (s.isSender = false → exec (.repush c p) s = .next s ∧ exec .repushAll s = .next s) ∧
    (s.isSender = true → (Works (.repush c p) s fun t => ∀ x ∈ s.chainTiles c, (p = 63 ∨ x = p.toNat) → ∀ b ∈ s.tileBlocks c x,
      ∃ e ∈ t.queue c, e.pos = x ∧ e.block = b) ∧
      Works .repushAll s fun t => ∀ d < 4, ∀ x ∈ s.chainTiles d, ∀ b ∈ s.tileBlocks d x, ∃ e ∈ t.queue d, e.pos = x ∧ e.block = b) := by
  refine ⟨fun hnot => ⟨exec_unchanged (f := fun v => doRepush v c.val p.toNat) rfl (by rw [doRepush, hnot]; rfl),
    exec_unchanged (f := doRepushAll) rfl (by rw [doRepushAll, hnot]; rfl)⟩, fun hsender =>
    ⟨works_of_exec (f := fun v => doRepush v c.val p.toNat) rfl fun x hx hp b hb => ?_, works_of_exec (f := doRepushAll) rfl fun d hd x hx b hb => ?_⟩⟩
  · have hmem : x ∈ (s.chainTiles c).filter fun y => p.toNat == 63 || y == p.toNat := by
      refine List.mem_filter.mpr ⟨hx, ?_⟩
      rcases hp with rfl | rfl <;> simp
    rw [doRepush, if_pos hsender]
    exact State.fullRepushes_queued (chain := fun _ => c.val) (pos := id) hmem (State.mem_chainTiles hx) hb s.now
  · have hmem : (d, x) ∈ s.allTiles := List.mem_flatMap.mpr ⟨d, by simpa using by omega, List.mem_map.mpr ⟨x, hx, rfl⟩⟩
    rw [doRepushAll, if_pos hsender]
    exact State.fullRepushes_queued (chain := Prod.fst) (pos := Prod.snd) hmem (State.mem_chainTiles hx) hb s.now

end Sys2Proof.Machine
end

section
/-! SUPPORT. The record of a Tile at the Sender (R163, R170, R171, R174, R425): what its judgement and the settling of a generation change. -/

namespace Sys2Proof.Machine

/-! ### Steps at one Tile -/

/-- The registers that the judgement of a Tile writes. -/
def TileReg (c p a : Nat) : Prop := a = RegAddr.DMG_TILE_STAT c p ∨ a = RegAddr.SYS_ALERT

/-- A step at one Tile: its status register and the alerts, its record, and pushes that are entered. -/
structure AtTile (c p : Nat) (s t : State) : Prop where
  within : Within (TileReg c p) s t
  weft : t.weft = s.weft
  spn : t.spn = s.spn
  due : t.dmg.due = s.dmg.due
  others : ∀ k, k ≠ tileKey c p → Tab.get t.dmg.tiles k = Tab.get s.dmg.tiles k
  queued : ∀ d q b, s.queued d q b → t.queued d q b

section
variable {c p : Nat} {s t u : State}

theorem AtTile.refl (c p : Nat) (s : State) : AtTile c p s s := ⟨Within.refl _ s, rfl, rfl, rfl, fun _ _ => rfl, fun _ _ _ => id⟩

theorem AtTile.trans (h : AtTile c p s t) (k : AtTile c p t u) : AtTile c p s u where
  within := h.within.trans k.within
  weft := k.weft.trans h.weft
  spn := k.spn.trans h.spn
  due := k.due.trans h.due
  others x hx := (k.others x hx).trans (h.others x hx)
  queued d q b hs := k.queued d q b (h.queued d q b hs)

/-- A step that leaves the dispatcher's own state. -/
theorem AtTile.of_dmg (hwithin : Within (TileReg c p) s t) (hweft : t.weft = s.weft) (hspn : t.spn = s.spn) (hdmg : t.dmg = s.dmg) : AtTile c p s t where
  within := hwithin
  weft := hweft
  spn := hspn
  due := by rw [hdmg]
  others _ _ := by rw [hdmg]
  queued d q b h := by rwa [State.queued, State.queue, hdmg]

theorem AtTile.wr (s : State) (f : Fld) (v : Nat) (hf : f.addr = RegAddr.DMG_TILE_STAT c p) : AtTile c p s (s.wr f v) :=
  AtTile.of_dmg ((Within.refl _ s).wr f v (.inl hf)) rfl rfl rfl

theorem AtTile.raise (s : State) (src code arg : Nat) : AtTile c p s (s.raise src code arg) := by
  have hwithin := (Within.refl (TileReg c p) s).raise src code arg (.inr rfl)
  obtain ⟨l, r, b, heq, -⟩ := s.raise_only src code arg
  exact AtTile.of_dmg hwithin (by rw [heq]) (by rw [heq]) (by rw [heq])

theorem AtTile.setTile (s : State) (c p : Nat) (f : TileRec → TileRec) : AtTile c p s (s.setTile c p f) where
  within := Within.of_same rfl rfl
  weft := rfl
  spn := rfl
  due := rfl
  others _ hk := Tab.get_upd_ne _ _ (Ne.symm hk)
  queued _ _ _ h := h

end

theorem State.tile_setTile_self (s : State) (c p : Nat) (f : TileRec → TileRec) : (s.setTile c p f).tile c p = f (s.tile c p) := Tab.get_upd_self _ _ _

theorem State.raise_dmg (s : State) (src code arg : Nat) : (s.raise src code arg).dmg = s.dmg := by
  obtain ⟨l, r, b, heq, -⟩ := s.raise_only src code arg
  rw [heq]

/-! ### The judgement of a Tile -/

/-- The part of a Tile's record that says what it has confirmed (R171, R425). -/
structure TileBooks where
  sets : Tab (List PushEntry)
  settled : List Nat
  missRun : Nat
  unreached : Bool

def TileRec.books (x : TileRec) : TileBooks := ⟨x.sets, x.settled, x.missRun, x.unreached⟩

/-- A judgement of a Tile leaves its RESULT and what it has confirmed. -/
structure JudgesTile (c p : Nat) (s t : State) : Prop extends AtTile c p s t where
  result : t.rd (Reg.DMG_TILE_STAT_RESULT c p) = s.rd (Reg.DMG_TILE_STAT_RESULT c p)
  books : (t.tile c p).books = (s.tile c p).books

section
variable {c p : Nat} {s t u : State}

theorem JudgesTile.refl (c p : Nat) (s : State) : JudgesTile c p s s := ⟨AtTile.refl c p s, rfl, rfl⟩

theorem JudgesTile.trans (h : JudgesTile c p s t) (k : JudgesTile c p t u) : JudgesTile c p s u :=
  ⟨h.toAtTile.trans k.toAtTile, k.result.trans h.result, k.books.trans h.books⟩

theorem JudgesTile.wr (s : State) (f : Fld) (v : Nat) (hf : f.addr = RegAddr.DMG_TILE_STAT c p) (hrst : f.rst = 0xF) (hlo : 4 ≤ f.lo) :
    JudgesTile c p s (s.wr f v) where
  toAtTile := AtTile.wr s f v hf
  result := s.rd_wr_other f (Reg.DMG_TILE_STAT_RESULT c p) v hf hrst (.inr hlo)
  books := rfl

theorem JudgesTile.raise (s : State) (src code arg : Nat) : JudgesTile c p s (s.raise src code arg) where
  toAtTile := AtTile.raise s src code arg
  result := s.raise_rd src code arg _ (by simp only [Reg.DMG_TILE_STAT_RESULT, RegAddr.DMG_TILE_STAT, RegAddr.SYS_ALERT]; omega)
  books := by rw [State.tile, State.raise_dmg, State.tile]

theorem JudgesTile.setTile (s : State) (c p : Nat) {f : TileRec → TileRec} (hf : ∀ x, (f x).books = x.books) : JudgesTile c p s (s.setTile c p f) where
  toAtTile := AtTile.setTile s c p f
  result := rfl
  books := by rw [State.tile_setTile_self, hf]

end

theorem State.judgeGeometry_judges (s : State) (c p w h : Nat) : JudgesTile c p s (s.judgeGeometry c p w h) := by
  unfold State.judgeGeometry
  dsimp only
  split
  · exact JudgesTile.refl c p s
  · exact (JudgesTile.wr s (Reg.DMG_TILE_STAT_GEOM c p) _ rfl rfl (show 4 ≤ 31 by decide)).trans (JudgesTile.raise _ _ _ _)

theorem State.judgeCatchup_judges (s : State) (c p : Nat) : JudgesTile c p s (s.judgeCatchup c p) := by
  unfold State.judgeCatchup
  split
  · exact JudgesTile.wr s (Reg.DMG_TILE_STAT_CATCHUP c p) _ rfl rfl (show 4 ≤ 29 by decide)
  · exact JudgesTile.refl c p s

theorem State.countSkip_judges (s : State) (c p gen : Nat) : JudgesTile c p s (s.countSkip c p gen) := by
  unfold State.countSkip
  split
  · exact JudgesTile.refl c p s
  · have hbump : JudgesTile c p s (s.bump (Reg.DMG_TILE_STAT_SKIPS c p)) := JudgesTile.wr s _ _ rfl rfl (show 4 ≤ 16 by decide)
    refine (hbump.trans (JudgesTile.setTile _ c p ?_)).trans (State.judgeCatchup_judges _ c p)
    exact fun _ => rfl

theorem State.judgeAlone_judges (s : State) (c p : Nat) : JudgesTile c p s (s.judgeAlone c p) := by
  have halone (v : Nat) (a : Nat) : JudgesTile c p s ((s.wr (Reg.DMG_TILE_STAT_ALONE c p) v).raise srcDispatch 0x4602 a) :=
    (JudgesTile.wr s (Reg.DMG_TILE_STAT_ALONE c p) v rfl rfl (show 4 ≤ 30 by decide)).trans (JudgesTile.raise _ _ _ _)
  unfold State.judgeAlone
  dsimp only
  split
  · exact halone _ _
  · split
    · exact halone _ _
    · exact JudgesTile.refl c p s

/-- Becoming alone, or rejoining, leaves the skips and the catch-up of a Tile (R174). -/
theorem State.judgeAlone_rd (s : State) (c p : Nat) {g : Fld} (hg : g.addr = RegAddr.DMG_TILE_STAT c p) (hrst : g.rst = 0xF) (hhi : g.lo + g.width ≤ 30) :
    (s.judgeAlone c p).rd g = s.rd g := by
  have halone (v : Nat) (a : Nat) : ((s.wr (Reg.DMG_TILE_STAT_ALONE c p) v).raise srcDispatch 0x4602 a).rd g = s.rd g :=
    (State.raise_rd _ _ _ _ _ (by rw [hg, RegAddr.DMG_TILE_STAT, RegAddr.SYS_ALERT]; omega)).trans
      (s.rd_wr_other (Reg.DMG_TILE_STAT_ALONE c p) g v hg.symm hrst.symm (.inr hhi))
  unfold State.judgeAlone
  dsimp only
  split
  · exact halone _ _
  · split
    · exact halone _ _
    · rfl

/-- A generation that counts leaves RESULT and what the Tile has confirmed (R163, R174). -/
theorem State.countGeneration_judges (s : State) (c p gen : Nat) (shown complete : Bool) : JudgesTile c p s (s.countGeneration c p gen shown complete) := by
  have hshown : JudgesTile c p s ((s.wr (Reg.DMG_TILE_STAT_SKIPS c p) 0).wr (Reg.DMG_TILE_STAT_CATCHUP c p) 0) :=
    JudgesTile.trans (JudgesTile.wr s _ 0 rfl rfl (show 4 ≤ 16 by decide)) (JudgesTile.wr _ _ 0 rfl rfl (show 4 ≤ 29 by decide))
  unfold State.countGeneration
  refine JudgesTile.trans (JudgesTile.trans ?_ (JudgesTile.setTile _ c p ?_)) (State.judgeAlone_judges _ c p)
  · cases shown with
    | false => exact s.countSkip_judges c p gen
    | true => exact hshown
  · exact fun _ => rfl

/-- A generation that is shown ends the skips of a Tile, and its catch-up (R163). -/
theorem State.countGeneration_shown (s : State) (c p gen : Nat) (complete : Bool) : (s.countGeneration c p gen true complete).skips c p = 0 ∧
    (s.countGeneration c p gen true complete).catchingUp c p = false := by
  have hskips (u : State) (f : TileRec → TileRec) : ((u.setTile c p f).judgeAlone c p).skips c p = u.skips c p :=
    State.judgeAlone_rd _ c p (g := Reg.DMG_TILE_STAT_SKIPS c p) rfl rfl (show 16 + 8 ≤ 30 by decide)
  have hcatchup (u : State) (f : TileRec → TileRec) : ((u.setTile c p f).judgeAlone c p).catchingUp c p = u.catchingUp c p :=
    congrArg (· == 1) (State.judgeAlone_rd _ c p (g := Reg.DMG_TILE_STAT_CATCHUP c p) rfl rfl (show 29 + 1 ≤ 30 by decide))
  unfold State.countGeneration
  dsimp only
  rw [hskips, hcatchup, if_pos rfl]
  refine ⟨?_, congrArg (· == 1) (State.rd_wr_self _ (Reg.DMG_TILE_STAT_CATCHUP c p) 0 (show 29 + 1 ≤ 32 by decide))⟩
  refine (State.rd_wr_other _ (Reg.DMG_TILE_STAT_CATCHUP c p) (Reg.DMG_TILE_STAT_SKIPS c p) 0 rfl rfl (show 29 + 1 ≤ 16 ∨ 16 + 8 ≤ 29 by decide)).trans ?_
  exact s.rd_wr_self (Reg.DMG_TILE_STAT_SKIPS c p) 0 (show 16 + 8 ≤ 32 by decide)

/-! ### Settling a generation -/

/-- Entering pushes leaves the registers and the records of the Tiles. -/
theorem State.enterPushes_only (s : State) (c p : Nat) (l : List PushEntry) : AtTile c p s (s.forAll l fun t e => t.enterPush c p e.block e.time) ∧
    (s.forAll l fun t e => t.enterPush c p e.block e.time).regs = s.regs ∧
    (s.forAll l fun t e => t.enterPush c p e.block e.time).dmg.tiles = s.dmg.tiles := by
  refine State.forAll_keeps (fun t => AtTile c p s t ∧ t.regs = s.regs ∧ t.dmg.tiles = s.dmg.tiles) _ l s ⟨AtTile.refl c p s, rfl, rfl⟩ fun t e _ ht => ?_
  obtain ⟨htile, hregs, htiles⟩ := ht
  have hqueued := (t.enterPush_enters c p e.block e.time).queued
  obtain ⟨q, hq⟩ := t.enterEntry_only c p e.block e.time (if later16 (t.canvasFrame e.block) t.dmg.window then t.dmg.window % 65536 else t.canvasFrame e.block)
  have heq : t.enterPush c p e.block e.time = t.setQueue c q := hq
  rw [heq] at hqueued ⊢
  exact ⟨htile.trans ⟨Within.of_same rfl rfl, rfl, rfl, rfl, fun _ _ => rfl, hqueued⟩, hregs, htiles⟩

/-- A generation is settled at a Tile (R171): its set is gone, and where it missed every block of the set is queued again. -/
structure Settles (c p gen : Nat) (miss : Bool) (s t : State) : Prop extends AtTile c p s t where
  regs : t.regs = s.regs
  books : (t.tile c p).books = ⟨Tab.del (s.tile c p).sets gen, (gen :: (s.tile c p).settled).take 64, (s.tile c p).missRun, (s.tile c p).unreached⟩
  requeued : miss = true → ∀ l, Tab.find (s.tile c p).sets gen = some l → ∀ e ∈ l, t.queued c p e.block

theorem State.settleSet_settles (s : State) (c p gen : Nat) (miss : Bool) : Settles c p gen miss s (s.settleSet c p gen miss) := by
  have hset := AtTile.setTile s c p fun x => { x with sets := Tab.del x.sets gen, settled := (gen :: x.settled).take 64 }
  have hbooks := congrArg TileRec.books (s.tile_setTile_self c p fun x => { x with sets := Tab.del x.sets gen, settled := (gen :: x.settled).take 64 })
  unfold State.settleSet
  dsimp only
  cases miss with
  | false => exact ⟨hset, rfl, hbooks, fun h => absurd h Bool.false_ne_true⟩
  | true =>
    obtain ⟨henter, hregs, htiles⟩ := State.enterPushes_only
      (s.setTile c p fun x => { x with sets := Tab.del x.sets gen, settled := (gen :: x.settled).take 64 }) c p ((Tab.find (s.tile c p).sets gen).getD [])
    refine ⟨hset.trans henter, hregs, ?_, fun _ l hl e he => ?_⟩
    · rw [if_pos rfl, State.tile, htiles]
      exact hbooks
    · rw [if_pos rfl, hl]
      exact State.queued_enterPushes _ c p PushEntry.block PushEntry.time he

end Sys2Proof.Machine
end

section
/-! SUPPORT. Commit reports at a Sender, and those that are missing at their deadline (R159, R163, R170, R171, R425). -/

namespace Sys2Proof.Machine

/-! ### A report that is taken -/

theorem LinkReg.not_tile {a : Nat} (h : LinkReg a) (c p : Nat) : a ≠ RegAddr.DMG_TILE_STAT c p := by
  obtain ⟨q, rfl⟩ := h
  simp only [RegAddr.WFT_PORT_STAT, RegAddr.DMG_TILE_STAT]
  omega

/-- A Tile that reports is reached (R425): what it has confirmed stays. -/
structure TileReached (c p : Nat) (s t : State) : Prop where
  within : Within LinkReg s t
  unreached : (t.tile c p).unreached = false
  settled : (t.tile c p).settled = (s.tile c p).settled
  sets : (t.tile c p).sets = (s.tile c p).sets

theorem State.reachTile_reaches (s : State) (c p : Nat) : TileReached c p s (s.reachTile c p) := by
  unfold State.reachTile
  split
  · have htile := s.tile_setTile_self c p fun x => { x with unreached := false, missRun := 0 }
    have henter := (s.setTile c p fun x => { x with unreached := false, missRun := 0 }).fullRepush_enters c p s.now
    have hset : Within LinkReg s (s.setTile c p fun x => { x with unreached := false, missRun := 0 }) := Within.of_same rfl rfl
    refine ⟨hset.trans henter.within, ?_, ?_, ?_⟩ <;> rw [henter.tile, htile]
  · next h => exact ⟨Within.refl _ s, Bool.eq_false_iff.mpr h, rfl, rfl⟩

/-- The state in which a report has renewed what it says of the picture shown, whatever its generation (R171). -/
def State.renewTile (s : State) (c p : Nat) (body : Bytes) : State :=
  ((s.reachTile c p).judgeGeometry c p (leAt body 16 2) (leAt body 18 2)).wr (Reg.DMG_TILE_SHOWN_GEN c p) (leAt body 12 4)

/-- A report that has renewed what it says of the picture shown. -/
structure Renews (c p : Nat) (body : Bytes) (s t : State) : Prop where
  shown : t.rd (Reg.DMG_TILE_SHOWN_GEN c p) = leAt body 12 4
  result : t.rd (Reg.DMG_TILE_STAT_RESULT c p) = s.rd (Reg.DMG_TILE_STAT_RESULT c p)
  unreached : (t.tile c p).unreached = false
  settled : (t.tile c p).settled = (s.tile c p).settled
  sets : (t.tile c p).sets = (s.tile c p).sets

theorem TileRec.books_eq {x y : TileRec} (h : x.books = y.books) :
    x.sets = y.sets ∧ x.settled = y.settled ∧ x.missRun = y.missRun ∧ x.unreached = y.unreached :=
  ⟨congrArg TileBooks.sets h, congrArg TileBooks.settled h, congrArg TileBooks.missRun h, congrArg TileBooks.unreached h⟩

theorem State.renewTile_renews (s : State) (c p : Nat) (body : Bytes) : Renews c p body s (s.renewTile c p body) := by
  have hreach := s.reachTile_reaches c p
  have hjudge := (s.reachTile c p).judgeGeometry_judges c p (leAt body 16 2) (leAt body 18 2)
  obtain ⟨hsets, hsettled, -, hunreached⟩ := TileRec.books_eq hjudge.books
  refine ⟨?_, ?_, hunreached.trans hreach.unreached, hsettled.trans hreach.settled, hsets.trans hreach.sets⟩
  · exact (State.rd_wr_self _ (Reg.DMG_TILE_SHOWN_GEN c p) _ (show 0 + 32 ≤ 32 by decide)).trans (Nat.mod_eq_of_lt (leAt_lt body 12 4))
  · have hne : (Reg.DMG_TILE_SHOWN_GEN c p).addr ≠ (Reg.DMG_TILE_STAT_RESULT c p).addr := by
      simp only [Reg.DMG_TILE_SHOWN_GEN, Reg.DMG_TILE_STAT_RESULT, RegAddr.DMG_TILE_SHOWN, RegAddr.DMG_TILE_STAT]
      omega
    exact (State.rd_wr_ne _ _ _ _ hne).trans (hjudge.result.trans (hreach.within.rd fun h => h.not_tile c p rfl))

/-- The state in which a generation has been judged and counted with a result (R171). -/
def State.judgeResult (s : State) (c p gen result : Nat) : State :=
  (((s.wr (Reg.DMG_TILE_STAT_RESULT c p) result).setTile c p fun x => { x with missRun := 0 }).settleSet c p gen (result == 1)).countGeneration c p gen
    (result == 0 || result == 2) (result == 0)

/-- A generation that has been settled at a Tile and counted leaves its RESULT (R163, R171, R174). -/
structure SettledAndCounted (c p gen : Nat) (miss : Bool) (s t : State) : Prop extends AtTile c p s t where
  result : t.rd (Reg.DMG_TILE_STAT_RESULT c p) = s.rd (Reg.DMG_TILE_STAT_RESULT c p)
  books : (t.tile c p).books = ⟨Tab.del (s.tile c p).sets gen, (gen :: (s.tile c p).settled).take 64, (s.tile c p).missRun, (s.tile c p).unreached⟩
  requeued : miss = true → ∀ l, Tab.find (s.tile c p).sets gen = some l → ∀ e ∈ l, t.queued c p e.block

theorem State.settleSet_counted (s : State) (c p gen : Nat) (miss shown complete : Bool) :
    SettledAndCounted c p gen miss s ((s.settleSet c p gen miss).countGeneration c p gen shown complete) := by
  have hsettle := s.settleSet_settles c p gen miss
  have hcount := (s.settleSet c p gen miss).countGeneration_judges c p gen shown complete
  have hresult : (s.settleSet c p gen miss).rd (Reg.DMG_TILE_STAT_RESULT c p) = s.rd (Reg.DMG_TILE_STAT_RESULT c p) :=
    State.rd_of_find (by rw [hsettle.regs])
  exact ⟨hsettle.toAtTile.trans hcount.toAtTile, hcount.result.trans hresult, hcount.books.trans hsettle.books,
    fun hmiss l hl e he => hcount.queued c p e.block (hsettle.requeued hmiss l hl e he)⟩

/-- What a result in time leaves (R163, R171). -/
structure ResultTaken (c p gen result : Nat) (s t : State) : Prop extends AtTile c p s t where
  shows : t.rd (Reg.DMG_TILE_STAT_RESULT c p) = result
  books : (t.tile c p).books = ⟨Tab.del (s.tile c p).sets gen, (gen :: (s.tile c p).settled).take 64, 0, (s.tile c p).unreached⟩
  ends : result = 0 ∨ result = 2 → t.skips c p = 0 ∧ t.catchingUp c p = false
  requeued : result = 1 → ∀ l, Tab.find (s.tile c p).sets gen = some l → ∀ e ∈ l, t.queued c p e.block

theorem State.judgeResult_taken (s : State) (c p gen : Nat) {result : Nat} (hresult : result < 16) :
    ResultTaken c p gen result s (s.judgeResult c p gen result) := by
  have hwritten := AtTile.wr (c := c) (p := p) s (Reg.DMG_TILE_STAT_RESULT c p) result rfl
  have hreset := AtTile.setTile (s.wr (Reg.DMG_TILE_STAT_RESULT c p) result) c p fun x => { x with missRun := 0 }
  have htile := (s.wr (Reg.DMG_TILE_STAT_RESULT c p) result).tile_setTile_self c p fun x => { x with missRun := 0 }
  have hrd : ((s.wr (Reg.DMG_TILE_STAT_RESULT c p) result).setTile c p fun x => { x with missRun := 0 }).rd (Reg.DMG_TILE_STAT_RESULT c p) = result :=
    (s.rd_wr_self (Reg.DMG_TILE_STAT_RESULT c p) result (show 0 + 4 ≤ 32 by decide)).trans (Nat.mod_eq_of_lt hresult)
  unfold State.judgeResult
  generalize (s.wr (Reg.DMG_TILE_STAT_RESULT c p) result).setTile c p (fun x => { x with missRun := 0 }) = v at *
  have hcounted := v.settleSet_counted c p gen (result == 1) (result == 0 || result == 2) (result == 0)
  refine ⟨(hwritten.trans hreset).trans hcounted.toAtTile, hcounted.result.trans hrd, ?_, fun hshown => ?_, fun hmiss l hl => ?_⟩
  · rw [hcounted.books, htile]
    rfl
  · have hone : (result == 0 || result == 2) = true := by rcases hshown with rfl | rfl <;> rfl
    rw [hone]
    exact State.countGeneration_shown _ c p gen _
  · refine hcounted.requeued (beq_iff_eq.mpr hmiss) l ?_
    rw [htile]
    exact hl

/-- A report of a Tile of the Sender's own is judged unless its generation is settled (R170, R171). -/
theorem State.takeCommitReport_eq {s : State} {body : Bytes} (hgroup : leAt body 2 2 % 4096 / 256 = s.rd Reg.SYS_ROLE_GROUP)
    (hpos : leAt body 2 2 % 4096 % 64 ≠ 63) : s.takeCommitReport body =
      let c := leAt body 2 2 % 4096 / 64 % 4
      let p := leAt body 2 2 % 4096 % 64
      let s1 := s.renewTile c p body
      if (s1.tile c p).settled.contains (leAt body 4 4) then s1 else s1.judgeResult c p (leAt body 4 4) (leAt body 1 1 % 16) := by
  unfold State.takeCommitReport
  exact if_neg (by rw [not_or]; exact ⟨not_not_intro hgroup, hpos⟩)

/-- What a report of a Tile of the Sender's own leaves (R163, R170, R171, R425). -/
theorem State.takeCommitReport_spec {u : State} {body : Bytes} (hgroup : leAt body 2 2 % 4096 / 256 = u.rd Reg.SYS_ROLE_GROUP)
    (hpos : leAt body 2 2 % 4096 % 64 ≠ 63) :
    let c := leAt body 2 2 % 4096 / 64 % 4
    let pos := leAt body 2 2 % 4096 % 64
    let gen := leAt body 4 4
    let result := leAt body 1 1 % 16
    let t := u.takeCommitReport body
    t.rd (Reg.DMG_TILE_SHOWN_GEN c pos) = leAt body 12 4 ∧ (t.tile c pos).unreached = false ∧
      (gen ∈ (u.tile c pos).settled → t.rd (Reg.DMG_TILE_STAT_RESULT c pos) = u.rd (Reg.DMG_TILE_STAT_RESULT c pos)) ∧
      (gen ∉ (u.tile c pos).settled → t.rd (Reg.DMG_TILE_STAT_RESULT c pos) = result ∧ gen ∈ (t.tile c pos).settled ∧
        Tab.find (t.tile c pos).sets gen = none ∧ (t.tile c pos).missRun = 0 ∧
        (result = 0 ∨ result = 2 → t.skips c pos = 0 ∧ t.catchingUp c pos = false) ∧
        (result = 1 → ∀ set, Tab.find (u.tile c pos).sets gen = some set → ∀ e ∈ set, t.queued c pos e.block)) := by
  intro c pos gen result t
  have hrenew := u.renewTile_renews c pos body
  have ht : t = if ((u.renewTile c pos body).tile c pos).settled.contains gen then u.renewTile c pos body else
      (u.renewTile c pos body).judgeResult c pos gen result := State.takeCommitReport_eq hgroup hpos
  generalize u.renewTile c pos body = v at *
  rw [hrenew.settled] at ht
  by_cases hsettled : gen ∈ (u.tile c pos).settled
  · rw [if_pos (List.contains_iff_mem.mpr hsettled)] at ht
    rw [ht]
    exact ⟨hrenew.shown, hrenew.unreached, fun _ => hrenew.result, fun hnot => absurd hsettled hnot⟩
  · rw [if_neg (fun h => hsettled (List.contains_iff_mem.mp h))] at ht
    have htaken := v.judgeResult_taken c pos gen (result := result) (Nat.mod_lt _ (by decide))
    rw [← ht] at htaken
    generalize t = w at *
    obtain ⟨hsets, hlist, hmiss, hreach⟩ : (w.tile c pos).sets = Tab.del (v.tile c pos).sets gen ∧
        (w.tile c pos).settled = (gen :: (v.tile c pos).settled).take 64 ∧ (w.tile c pos).missRun = 0 ∧
        (w.tile c pos).unreached = (v.tile c pos).unreached := ⟨congrArg TileBooks.sets htaken.books, congrArg TileBooks.settled htaken.books,
      congrArg TileBooks.missRun htaken.books, congrArg TileBooks.unreached htaken.books⟩
    have hshown : w.rd (Reg.DMG_TILE_SHOWN_GEN c pos) = v.rd (Reg.DMG_TILE_SHOWN_GEN c pos) := htaken.within.rd (by
      simp only [TileReg, Reg.DMG_TILE_SHOWN_GEN, RegAddr.DMG_TILE_SHOWN, RegAddr.DMG_TILE_STAT, RegAddr.SYS_ALERT]
      omega)
    refine ⟨hshown.trans hrenew.shown, hreach.trans hrenew.unreached, fun h => absurd h hsettled, fun _ => ⟨htaken.shows, ?_, ?_, hmiss, htaken.ends, ?_⟩⟩
    · rw [hlist]
      exact List.mem_cons_self
    · rw [hsets]
      exact Tab.find_del_self _ _
    · rw [← hrenew.sets]
      exact htaken.requeued

end Sys2Proof.Machine
end

section
/-! SUPPORT. Commit reports at their arrival and at their deadline (R170, R171, R425). -/

namespace Sys2Proof.Machine

theorem doCommitReportReceive_accepted {s u : State} {p : Port} {a : Arrival} (ha : Accepted s p .status a u) (hsender : u.isSender = true)
    (hform : leAt a.pkt.body 0 1 = 1) : doCommitReportReceive s p.val a = u.takeCommitReport a.pkt.body := by
  refine (ha.onPacket _).trans ?_
  rw [hsender, if_neg (by decide), State.onForm, if_pos hform]

theorem State.takeCommitReport_other {s : State} {body : Bytes}
    (h : leAt body 2 2 % 4096 / 256 ≠ s.rd Reg.SYS_ROLE_GROUP ∨ leAt body 2 2 % 4096 % 64 = 63) : s.takeCommitReport body = s := if_pos h

/-! ### Reports that are missing -/

/-- The state in which a missing report has been counted (R171). -/
def State.countMissing (s : State) (c p gen : Nat) : State :=
  (((s.wr (Reg.DMG_TILE_STAT_RESULT c p) 4).settleSet c p gen true).countGeneration c p gen false false).setTile c p fun x =>
    { x with missRun := x.missRun + 1 }

/-- What a missing report leaves at its Tile (R171, R425). -/
structure ReportMissed (c p gen : Nat) (s t : State) : Prop where
  result : t.rd (Reg.DMG_TILE_STAT_RESULT c p) = 4
  settled : gen ∈ (t.tile c p).settled
  missRun : (t.tile c p).missRun = (s.tile c p).missRun + 1
  unreached : s.holdsSpindle = true → s.flag Reg.SYS_ROLE_PROTECTED = true → 7 ≤ (s.tile c p).missRun → (t.tile c p).unreached = true
  requeued : ∀ l, Tab.find (s.tile c p).sets gen = some l → ∀ e ∈ l, t.queued c p e.block

theorem TileReg.not_rights {c p a : Nat} (h : RightsReg a) : ¬ TileReg c p a := by
  simp only [RightsReg, TileReg, RegAddr.SYS_ROLE, RegAddr.SPN_STAT, RegAddr.DMG_TILE_STAT, RegAddr.SYS_ALERT] at *
  omega

/-- A missing report that is counted: RESULT 4, its set queued again, one more in the run of those missing. -/
structure MissingCounted (c p gen : Nat) (s t : State) : Prop extends AtTile c p s t where
  result : t.rd (Reg.DMG_TILE_STAT_RESULT c p) = 4
  books : (t.tile c p).books = ⟨Tab.del (s.tile c p).sets gen, (gen :: (s.tile c p).settled).take 64, (s.tile c p).missRun + 1, (s.tile c p).unreached⟩
  requeued : ∀ l, Tab.find (s.tile c p).sets gen = some l → ∀ e ∈ l, t.queued c p e.block

theorem State.countMissing_counted (s : State) (c p gen : Nat) : MissingCounted c p gen s (s.countMissing c p gen) := by
  have hwritten := AtTile.wr (c := c) (p := p) s (Reg.DMG_TILE_STAT_RESULT c p) 4 rfl
  have hrd := s.rd_wr_self (Reg.DMG_TILE_STAT_RESULT c p) 4 (show 0 + 4 ≤ 32 by decide)
  have hcounted := (s.wr (Reg.DMG_TILE_STAT_RESULT c p) 4).settleSet_counted c p gen true false false
  unfold State.countMissing
  generalize ((s.wr (Reg.DMG_TILE_STAT_RESULT c p) 4).settleSet c p gen true).countGeneration c p gen false false = v at *
  have hset := AtTile.setTile v c p fun x => { x with missRun := x.missRun + 1 }
  refine ⟨(hwritten.trans hcounted.toAtTile).trans hset, hcounted.result.trans hrd, ?_, fun l hl e he => hset.queued c p _ (hcounted.requeued rfl l hl e he)⟩
  rw [State.tile_setTile_self]
  exact congrArg (fun x : TileBooks => { x with missRun := x.missRun + 1 }) hcounted.books

/-- A missing report of a generation that is not settled (R171). -/
theorem State.reportMissing_missed {s : State} {c p gen : Nat} (h : gen ∉ (s.tile c p).settled) :
    ReportMissed c p gen s (s.reportMissing c p gen) ∧ AtTile c p s (s.reportMissing c p gen) := by
  have hcounted := s.countMissing_counted c p gen
  have hrights := hcounted.within.holdsSpindle fun _ => TileReg.not_rights
  have hprotected : (s.countMissing c p gen).flag Reg.SYS_ROLE_PROTECTED = s.flag Reg.SYS_ROLE_PROTECTED :=
    hcounted.within.flag (TileReg.not_rights (.inl rfl))
  have heq : s.reportMissing c p gen = if (s.countMissing c p gen).holdsSpindle ∧ (s.countMissing c p gen).flag Reg.SYS_ROLE_PROTECTED ∧
      !((s.countMissing c p gen).tile c p).unreached ∧ 8 ≤ ((s.countMissing c p gen).tile c p).missRun then
        ((s.countMissing c p gen).setTile c p fun x => { x with unreached := true }).raise srcDispatch 0x8604 ((s.countMissing c p gen).tileAddr c p)
      else s.countMissing c p gen := by
    rw [State.reportMissing, if_neg (fun hin => h (List.contains_iff_mem.mp hin))]
    rfl
  generalize s.countMissing c p gen = v at *
  have hlist : (v.tile c p).settled = (gen :: (s.tile c p).settled).take 64 := congrArg TileBooks.settled hcounted.books
  have hrun : (v.tile c p).missRun = (s.tile c p).missRun + 1 := congrArg TileBooks.missRun hcounted.books
  have hmem : gen ∈ (v.tile c p).settled := by
    rw [hlist]
    exact List.mem_cons_self
  rw [heq]
  split
  · have hset := AtTile.setTile v c p fun x => { x with unreached := true }
    have htile := v.tile_setTile_self c p fun x => { x with unreached := true }
    have hraise := JudgesTile.raise (c := c) (p := p) (v.setTile c p fun x => { x with unreached := true }) srcDispatch 0x8604 (v.tileAddr c p)
    obtain ⟨-, hsettled, hmiss, hunreached⟩ := TileRec.books_eq hraise.books
    rw [htile] at hsettled hmiss hunreached
    refine ⟨⟨hraise.result.trans hcounted.result, hsettled ▸ hmem, hmiss.trans hrun, fun _ _ _ => hunreached, fun l hl e he => ?_⟩,
      (hcounted.toAtTile.trans hset).trans hraise.toAtTile⟩
    exact hraise.queued c p _ (hset.queued c p _ (hcounted.requeued l hl e he))
  · next hnot =>
    refine ⟨⟨hcounted.result, hmem, hrun, fun hholds hprot hseven => ?_, hcounted.requeued⟩, hcounted.toAtTile⟩
    by_contra hreached
    exact hnot ⟨hrights.trans hholds, hprotected.trans hprot, by simpa using hreached, by omega⟩

theorem State.reportMissing_atTile (s : State) (c p gen : Nat) : AtTile c p s (s.reportMissing c p gen) := by
  by_cases h : gen ∈ (s.tile c p).settled
  · rw [State.reportMissing, if_pos (List.contains_iff_mem.mpr h)]
    exact AtTile.refl c p s
  · exact (State.reportMissing_missed h).2

/-! ### The deadline -/

/-- The registers that the judgement of the Tiles of a Sender writes. -/
def TilesReg (a : Nat) : Prop := ∃ k, TileReg (k / 64) (k % 64) a

theorem tileKey_div_mod (k : Nat) : tileKey (k / 64) (k % 64) = k := by
  unfold tileKey
  omega

/-- A Tile that no step has judged yet. -/
structure Unjudged (k : Nat) (s t : State) : Prop where
  within : Within TilesReg s t
  tile : t.tile (k / 64) (k % 64) = s.tile (k / 64) (k % 64)

/-- The judgement of another Tile leaves the record of a Tile. -/
theorem AtTile.tile_ne {j k : Nat} {s t : State} (h : AtTile (j / 64) (j % 64) s t) (hne : j ≠ k) :
    t.tile (k / 64) (k % 64) = s.tile (k / 64) (k % 64) := by
  rw [State.tile, State.tile, tileKey_div_mod]
  exact h.others k (by rw [tileKey_div_mod]; exact Ne.symm hne)

theorem Unjudged.step {j k : Nat} {s t u : State} (h : Unjudged k s t) (hstep : AtTile (j / 64) (j % 64) t u) (hne : j ≠ k) : Unjudged k s u :=
  ⟨h.within.trans (hstep.within.mono fun _ ha => ⟨j, ha⟩), (hstep.tile_ne hne).trans h.tile⟩

/-- What is missed of a Tile that was not judged before. -/
theorem Unjudged.missed {k gen : Nat} {s t : State} (h : Unjudged k s t) (hnew : gen ∉ (s.tile (k / 64) (k % 64)).settled) :
    ReportMissed (k / 64) (k % 64) gen s (t.reportMissing (k / 64) (k % 64) gen) := by
  have hnot (a : Nat) (ha : RightsReg a) : ¬ TilesReg a := fun ⟨_, hk⟩ => TileReg.not_rights ha hk
  have hprotected : t.flag Reg.SYS_ROLE_PROTECTED = s.flag Reg.SYS_ROLE_PROTECTED := h.within.flag (hnot _ (.inl rfl))
  obtain ⟨hresult, hsettled, hrun, hunreached, hrequeued⟩ := (State.reportMissing_missed (h.tile ▸ hnew)).1
  rw [h.tile] at hrun hunreached hrequeued
  rw [h.within.holdsSpindle hnot, hprotected] at hunreached
  exact ⟨hresult, hsettled, hrun, hunreached, hrequeued⟩

/-- The judgement of another Tile leaves what is missed of a Tile. -/
theorem ReportMissed.step {j k gen : Nat} {s t u : State} (h : ReportMissed (k / 64) (k % 64) gen s t) (hstep : AtTile (j / 64) (j % 64) t u)
    (hne : j ≠ k) : ReportMissed (k / 64) (k % 64) gen s u := by
  have htile := hstep.tile_ne hne
  have hresult : u.rd (Reg.DMG_TILE_STAT_RESULT (k / 64) (k % 64)) = t.rd (Reg.DMG_TILE_STAT_RESULT (k / 64) (k % 64)) := hstep.within.rd (by
    simp only [TileReg, Reg.DMG_TILE_STAT_RESULT, RegAddr.DMG_TILE_STAT, RegAddr.SYS_ALERT]
    omega)
  obtain ⟨hfour, hsettled, hrun, hunreached, hrequeued⟩ := h
  rw [← htile] at hsettled hrun hunreached
  exact ⟨hresult.trans hfour, hsettled, hrun, hunreached, fun l hl e he => hstep.queued _ _ _ (hrequeued l hl e he)⟩

/-- Every Tile whose report is missing at the deadline is judged, and the generation is awaited no longer (R171). -/
theorem doReportDeadline_spec {s : State} {d : DueRec} {rest : List DueRec} (hdue : s.dmg.due = d :: rest)
    (hnodup : d.tiles.Nodup) : (doReportDeadline s).dmg.due = rest ∧
    ∀ k ∈ d.tiles, d.gen ∉ (s.tile (k / 64) (k % 64)).settled → ReportMissed (k / 64) (k % 64) d.gen s (doReportDeadline s) := by
  have hstart (k : Nat) : Unjudged k s { s with dmg := { s.dmg with due := rest } } := ⟨Within.of_same rfl rfl, rfl⟩
  have heq : doReportDeadline s = ({ s with dmg := { s.dmg with due := rest } } : State).forAll d.tiles fun u k => u.reportMissing (k / 64) (k % 64) d.gen := by
    rw [doReportDeadline, hdue]
  rw [heq]
  refine ⟨?_, fun k hk hnew => ?_⟩
  · exact State.forAll_keeps (fun t => t.dmg.due = rest) _ _ _ rfl fun t k _ ht => (t.reportMissing_atTile _ _ _).due.trans ht
  · exact State.forAll_at (R := Unjudged k s) hk hnodup (hstart k) (fun t j _ hne ht => ht.step (t.reportMissing_atTile _ _ _) hne)
      (fun t ht => ht.missed hnew) fun t j _ hne ht => ht.step (t.reportMissing_atTile _ _ _) hne

end Sys2Proof.Machine
end

section
/-! SUPPORT. Packets sent on every port, and those that follow them (R166, R186, R187, R226). -/

namespace Sys2Proof.Machine

/-! ### One packet on each port -/

theorem LinkReg.not_head (a : Nat) (h : HeadReg a) : ¬ LinkReg a := by
  rintro ⟨q, rfl⟩
  simp only [HeadReg, RegAddr.WFT_PORT_STAT, RegAddr.SYS_ROLE, RegAddr.SYS_WALL, RegAddr.SPN_EPOCH, RegAddr.SPN_TILE_EPOCH] at h
  omega

theorem LinkReg.not_rights (a : Nat) (h : RightsReg a) : ¬ LinkReg a := by
  rintro ⟨q, rfl⟩
  simp only [RightsReg, RegAddr.WFT_PORT_STAT, RegAddr.SYS_ROLE, RegAddr.SPN_STAT] at h
  omega

/-- Packets have left on some ports: the links are as before, and so is every port that the list `l` names. -/
structure Outgoing (l : List Nat) (s t : State) : Prop where
  within : Within LinkReg s t
  links : SameLinks s t
  dmg : t.dmg = s.dmg
  spn : t.spn = s.spn
  ports : ∀ q ∈ l, t.port q = s.port q

theorem Outgoing.refl (l : List Nat) (s : State) : Outgoing l s s := ⟨Within.refl _ s, SameLinks.refl s, rfl, rfl, fun _ _ => rfl⟩

theorem Outgoing.send {l : List Nat} {p : Nat} {s t : State} (h : Outgoing (p :: l) s t) (hp : p ∉ l) (k : PType) (dest : Nat) (body : Bytes) :
    Outgoing l s (t.send p k dest body) := by
  have hsent := t.send_departs p k dest body
  refine ⟨h.within.trans (hsent.within.mono fun _ ha => ⟨p, ha⟩), h.links.trans hsent.links, hsent.dmg.trans h.dmg, hsent.spn.trans h.spn, fun q hq => ?_⟩
  exact (hsent.ports q fun hqp => hp (hqp ▸ hq)).trans (h.ports q (List.mem_cons_of_mem p hq))

/-- What would leave on a port that two states share is the same in both. -/
theorem Outgoing.leaving_eq {l l' : List Nat} {p : Nat} {s t u : State} (h : Outgoing l s t) (k : Outgoing l' s u) (hport : u.port p = t.port p) :
    u.leaving p = t.leaving p := by
  rw [State.leaving, k.within.acrossMarker k.links, hport, State.leaving, h.within.acrossMarker h.links]

/-- A holder that no fatal error has stopped, with a wall key, sends an order of its own on each of several ports that can send: each leaves as it would
before the others, behind what waits on its port. -/
theorem State.forAll_sendOrder {s : State} (hholds : s.holdsSpindle = true) (hfatal : s.sys.fatal = none) (hkey : s.trs.wallKey ≠ none)
    {k : PType} (hk : k ≠ .time) (body : Nat → Bytes) (l : List Nat) (t : State) (ht : Outgoing l s t) (hl : l.Nodup) (hcan : ∀ q ∈ l, s.canSend q = true) :
    let v := t.forAll l fun u p => u.sendOrder p k (u.chainAll p) (body p)
    v.weft.sent = t.weft.sent ++ (l.flatMap fun p => s.leaving p ++ [⟨p, s.formPacket p k (s.chainAll p) (body p), true, none⟩]) ∧
    Outgoing [] s v ∧ (∀ q, q ∉ l → v.port q = t.port q) ∧ ∀ q ∈ l, v.leaving q = [] := by
  induction l generalizing t with
  | nil => exact ⟨(List.append_nil _).symm, ht, fun _ _ => rfl, fun _ hq => absurd hq (by simp)⟩
  | cons p l ih =>
    obtain ⟨hp, hl⟩ := List.nodup_cons.mp hl
    have hport := ht.ports p List.mem_cons_self
    have hsendable : t.canSend p = true := (ht.links.canSend p).trans (hcan p List.mem_cons_self)
    have htag : t.mayTag k = true := by
      rw [ht.within.mayTag, State.mayTag, Option.isSome_iff_ne_none.mpr hkey]
      rfl
    have hdest : t.chainAll p = s.chainAll p := by
      rw [State.chainAll, State.tileAddr, ht.within.rd (f := Reg.SYS_ROLE_GROUP) (LinkReg.not_head _ (.inl rfl)), State.chainAll, State.tileAddr]
    have horders : t.ordersPort p = true := by
      rw [ht.within.ordersPort LinkReg.not_rights, State.ordersPort, hholds]
      rfl
    have hstep : t.sendOrder p k (t.chainAll p) (body p) = t.send p k (s.chainAll p) (body p) := by
      rw [State.sendOrder_of_ordersPort horders (ht.within.fatal.trans hfatal), hdest]
    have hsent := t.send_sent p k (s.chainAll p) (body p) hsendable htag hk
    have hdrained := t.send_leaving_self p k (s.chainAll p) (body p) hsendable htag hk
    rw [ht.within.leaving ht.links hport, ht.within.formPacket LinkReg.not_head hport hkey] at hsent
    have hout := ht.send hp k (s.chainAll p) (body p)
    obtain ⟨hrest, hfinal, hothers, hempty⟩ := ih _ hout hl fun q hq => hcan q (List.mem_cons_of_mem p hq)
    have hports := (t.send_departs p k (s.chainAll p) (body p)).ports
    have hcons : t.forAll (p :: l) (fun u p => u.sendOrder p k (u.chainAll p) (body p)) =
        (t.send p k (s.chainAll p) (body p)).forAll l fun u p => u.sendOrder p k (u.chainAll p) (body p) := by
      rw [← hstep]
      rfl
    rw [hcons]
    refine ⟨?_, hfinal, fun q hq => ?_, fun q hq => ?_⟩
    · rw [hrest, hsent, List.flatMap_cons]
      simp only [List.append_assoc]
    · obtain ⟨hqp, hql⟩ := List.ne_and_not_mem_of_not_mem_cons hq
      exact (hothers q hql).trans (hports q hqp)
    · obtain rfl | hq := List.mem_cons.mp hq
      · exact (hout.leaving_eq hfinal (hothers q hp)).trans hdrained
      · exact hempty q hq

end Sys2Proof.Machine
end

section
/-! SUPPORT. What follows a COMMIT (R186, R187, R202): GUARDs and REAFFIRMs, and the verdicts that the registers show. -/

namespace Sys2Proof.Machine

/-! ### Steps behind a COMMIT -/

/-- The registers that the formation of REAFFIRMs writes. -/
def AffirmReg (a : Nat) : Prop :=
  a = RegAddr.SYS_ALERT ∨ a = RegAddr.HMK_COUNT ∨ (∃ i < 8, a = RegAddr.HMK_AFFIRM i) ∨ ∃ i j, a = RegAddr.HMK_REG_STAT i j

theorem AffirmReg.not_portStat (q : Nat) : ¬ AffirmReg (RegAddr.WFT_PORT_STAT q) := by
  simp only [AffirmReg, RegAddr.WFT_PORT_STAT, RegAddr.SYS_ALERT, RegAddr.HMK_COUNT, RegAddr.HMK_AFFIRM, RegAddr.HMK_REG_STAT, not_or, not_exists]
  exact ⟨by omega, by omega, fun i => by omega, fun i j => by omega⟩

theorem AffirmReg.not_gen : ¬ AffirmReg RegAddr.DMG_GEN := by
  simp only [AffirmReg, RegAddr.DMG_GEN, RegAddr.SYS_ALERT, RegAddr.HMK_COUNT, RegAddr.HMK_AFFIRM, RegAddr.HMK_REG_STAT, not_or, not_exists]
  exact ⟨by omega, by omega, fun i => by omega, fun i j => by omega⟩

/-- On no port that can send does a transit packet wait that could leave now. -/
def Drained (s : State) : Prop := ∀ p < 4, s.canSend p = true → s.leaving p = []

/-- Steps behind a COMMIT: only MGMT and REAFFIRM packets leave, where no transit packet could leave before them. -/
structure Follows (s t : State) : Prop where
  sent : Drained s → Drained t ∧ ∃ l, t.weft.sent = s.weft.sent ++ l ∧ ∀ x ∈ l, x.pkt.type = 3 ∨ x.pkt.type = 5
  dmg : t.dmg = s.dmg
  spn : t.spn = s.spn
  gen : t.rd Reg.DMG_GEN_GEN = s.rd Reg.DMG_GEN_GEN

theorem Follows.refl (s : State) : Follows s s := ⟨fun h => ⟨h, [], (List.append_nil _).symm, fun _ hx => absurd hx (by simp)⟩, rfl, rfl, rfl⟩

theorem Follows.trans {s t u : State} (h : Follows s t) (k : Follows t u) : Follows s u where
  sent hs := by
    obtain ⟨ht, l, hl, htypes⟩ := h.sent hs
    obtain ⟨hu, m, hm, mtypes⟩ := k.sent ht
    refine ⟨hu, l ++ m, by rw [hm, hl, List.append_assoc], fun x hx => ?_⟩
    rcases List.mem_append.mp hx with hx | hx
    · exact htypes x hx
    · exact mtypes x hx
  dmg := k.dmg.trans h.dmg
  spn := k.spn.trans h.spn
  gen := k.gen.trans h.gen

theorem Follows.forAll {α : Type} {s : State} {l : List α} {f : State → α → State} (h : ∀ t, ∀ x ∈ l, Follows t (f t x)) : Follows s (s.forAll l f) :=
  State.forAll_keeps (Follows s) f l s (Follows.refl s) fun t x hx ht => ht.trans (h t x hx)

/-- An update of other registers, in which no packet leaves. -/
theorem Follows.of_within {W : Nat → Prop} {s t : State} (h : Within W s t) (hW : ∀ q, ¬ W (RegAddr.WFT_PORT_STAT q)) (hgen : ¬ W RegAddr.DMG_GEN)
    (hweft : t.weft = s.weft) (hdmg : t.dmg = s.dmg) (hspn : t.spn = s.spn) : Follows s t where
  sent hs := by
    have hlinks := h.sameLinks hW
    refine ⟨fun p hp hcan => ?_, [], by rw [hweft, List.append_nil], fun _ hx => absurd hx (by simp)⟩
    rw [h.leaving hlinks (by rw [State.port, hweft, State.port])]
    exact hs p hp ((hlinks.canSend p).symm.trans hcan)
  dmg := hdmg
  spn := hspn
  gen := h.rd hgen

/-- A step that writes registers of the verdicts. -/
structure Affirms (s t : State) : Prop where
  within : Within AffirmReg s t
  weft : t.weft = s.weft
  dmg : t.dmg = s.dmg
  spn : t.spn = s.spn

theorem Affirms.refl (s : State) : Affirms s s := ⟨Within.refl _ s, rfl, rfl, rfl⟩

theorem Affirms.trans {s t u : State} (h : Affirms s t) (k : Affirms t u) : Affirms s u :=
  ⟨h.within.trans k.within, k.weft.trans h.weft, k.dmg.trans h.dmg, k.spn.trans h.spn⟩

theorem Affirms.wr {s t : State} (h : Affirms s t) (f : Fld) (v : Nat) (hf : AffirmReg f.addr) : Affirms s (t.wr f v) :=
  h.trans ⟨(Within.refl _ t).wr f v hf, rfl, rfl, rfl⟩

theorem Affirms.raise {s t : State} (h : Affirms s t) (src code arg : Nat) : Affirms s (t.raise src code arg) := by
  have hwithin := (Within.refl AffirmReg t).raise src code arg (.inl rfl)
  obtain ⟨l, r, b, heq, -⟩ := t.raise_only src code arg
  exact h.trans ⟨hwithin, by rw [heq], by rw [heq], by rw [heq]⟩

theorem Affirms.follows {s t : State} (h : Affirms s t) : Follows s t :=
  Follows.of_within h.within AffirmReg.not_portStat AffirmReg.not_gen h.weft h.dmg h.spn

theorem State.showAffirmed_affirms (s : State) {r : Nat} (hr : r < 256) (cls : Nat) (aff : Bool) : Affirms s (s.showAffirmed r cls aff) := by
  have hbit : AffirmReg (RegAddr.HMK_AFFIRM (r / 32)) := .inr (.inr (.inl ⟨r / 32, by omega, rfl⟩))
  have hstat : AffirmReg (RegAddr.HMK_REG_STAT (r / 64) (r % 64)) := .inr (.inr (.inr ⟨_, _, rfl⟩))
  have hshown : Affirms s ((s.wrBit (Reg.HMK_AFFIRM_AFF (r / 32)) (r % 32) aff).wr (Reg.HMK_REG_STAT_NOT_READY (r / 64) (r % 64)) 0) :=
    ((Affirms.refl s).wr (Reg.HMK_AFFIRM_AFF (r / 32)) _ hbit).wr (Reg.HMK_REG_STAT_NOT_READY (r / 64) (r % 64)) 0 hstat
  unfold State.showAffirmed
  dsimp only
  split
  · exact hshown
  · exact (hshown.wr (Reg.HMK_REG_STAT_AFFIRMED (r / 64) (r % 64)) _ hstat).raise _ _ _

theorem State.notReady_affirms (s : State) (r : Nat) : Affirms s (s.notReady r) := by
  have hstat : AffirmReg (RegAddr.HMK_REG_STAT (r / 64) (r % 64)) := .inr (.inr (.inr ⟨_, _, rfl⟩))
  exact (((Affirms.refl s).wr Reg.HMK_COUNT_NOT_READY _ (.inr (.inl rfl))).wr (Reg.HMK_REG_STAT_NOT_READY (r / 64) (r % 64)) 1 hstat).raise _ _ _

/-! ### Packets behind a COMMIT -/

theorem State.send_follows (s : State) {c : Nat} (hc : c < 4) {k : PType} (hk : k = .mgmt ∨ k = .reaffirm) (dest : Nat) (body : Bytes) :
    Follows s (s.send c k dest body) := by
  have hdeparts := s.send_departs c k dest body
  have htime : k ≠ .time := by rcases hk with rfl | rfl <;> decide
  by_cases hsends : s.canSend c = true ∧ s.mayTag k = true
  · obtain ⟨hcan, hmay⟩ := hsends
    have htype : (s.formPacket c k dest body).type = 3 ∨ (s.formPacket c k dest body).type = 5 := by
      rcases hk with rfl | rfl
      · exact .inr rfl
      · exact .inl rfl
    have hgen : (s.send c k dest body).rd Reg.DMG_GEN_GEN = s.rd Reg.DMG_GEN_GEN := hdeparts.within.rd (by
      simp only [Reg.DMG_GEN_GEN, RegAddr.DMG_GEN, RegAddr.WFT_PORT_STAT]
      omega)
    refine ⟨fun hs => ⟨fun p hp hcanp => ?_, [⟨c, s.formPacket c k dest body, true, none⟩], ?_, ?_⟩, hdeparts.dmg, hdeparts.spn, hgen⟩
    · by_cases hpc : p = c
      · rw [hpc, s.send_leaving_self c k dest body hcan hmay htime]
      · rw [hdeparts.within.leaving hdeparts.links (hdeparts.ports p hpc)]
        exact hs p hp ((hdeparts.links.canSend p).symm.trans hcanp)
    · rw [s.send_sent c k dest body hcan hmay htime, hs c hc hcan, List.append_nil]
    · intro x hx
      rw [List.mem_singleton.mp hx]
      exact htype
  · have hsame : s.send c k dest body = s := if_neg (by rwa [Bool.and_eq_true])
    rw [hsame]
    exact Follows.refl s

theorem State.sendOrder_follows (s : State) {c : Nat} (hc : c < 4) {k : PType} (hk : k = .mgmt ∨ k = .reaffirm) (dest : Nat) (body : Bytes) :
    Follows s (s.sendOrder c k dest body) := by
  unfold State.sendOrder
  cases s.ordersPort c && s.sys.fatal.isNone with
  | false => exact Follows.refl s
  | true => exact s.send_follows hc hk dest body

theorem State.sendGuard_follows (s : State) (t : PieceTable) {c : Nat} (hc : c < 4) (p : Nat) : Follows s (s.sendGuard t c p) := by
  unfold State.sendGuard
  split
  · exact s.sendOrder_follows hc (.inl rfl) _ _
  · exact Follows.refl s

theorem State.reaffirmTile_follows (s : State) (t : PieceTable) (g show_ : Nat) (aff : List Nat) {c : Nat} (hc : c < 4) (p : Nat) :
    Follows s (s.reaffirmTile t g show_ aff c p) := by
  unfold State.reaffirmTile
  dsimp only
  split
  · exact Follows.forAll fun u x _ => (u.notReady_affirms x.region).follows
  · exact Follows.trans (Follows.forAll fun u x _ => (u.notReady_affirms x.region).follows) (State.sendOrder_follows _ hc (.inr rfl) _ _)

theorem mem_regionsBy {rd : Fld → Nat} {r : RegionRec} (h : r ∈ regionsBy rd) : r.num < 256 := by
  obtain ⟨n, hn, rfl⟩ := List.mem_map.mp h
  exact List.mem_range.mp hn

/-- The hallmarks' own state is no part of what leaves. -/
theorem Follows.hmk (s : State) (x : HmkSt) : Follows s { s with hmk := x } :=
  Follows.of_within (W := AffirmReg) (Within.of_same rfl rfl) AffirmReg.not_portStat AffirmReg.not_gen rfl rfl rfl

/-- The GUARDs and REAFFIRMs of a generation follow its COMMIT (R186). -/
theorem State.affirmGeneration_follows (s : State) (g show_ : Nat) (guards : Bool) : Follows s (s.affirmGeneration g show_ guards) := by
  have hverdicts (aff : List Nat) :
      Follows s (s.forAll ((regionsBy s.ac).filter RegionRec.guarded) fun u r => u.showAffirmed r.num r.cls (aff.contains r.num)) :=
    Follows.forAll fun u r hr => (u.showAffirmed_affirms (mem_regionsBy (List.mem_of_mem_filter hr)) _ _).follows
  have hguards (u : State) (t : PieceTable) {c : Nat} (hc : c < 4) (tiles : List Nat) (all : Bool) :
      Follows u (if all then u.forAll tiles fun v p => v.sendGuard t c p else u) := by
    cases all with
    | false => exact Follows.refl u
    | true => exact Follows.forAll fun v p _ => v.sendGuard_follows t hc p
  have hreaffirms (u : State) (t : PieceTable) (aff : List Nat) {c : Nat} (hc : c < 4) (tiles : List Nat) :
      Follows u (u.forAll tiles fun v p => v.reaffirmTile t g show_ aff c p) := Follows.forAll fun v p _ => v.reaffirmTile_follows t g show_ aff hc p
  unfold State.affirmGeneration
  refine ((hverdicts _).trans (Follows.hmk _ _)).trans (Follows.forAll fun u c hc => ?_)
  have hc4 : c < 4 := by
    simp only [List.mem_cons, List.not_mem_nil, or_false] at hc
    omega
  exact (hguards u _ hc4 _ _).trans (hreaffirms _ _ _ hc4 _)

end Sys2Proof.Machine
end

section
/-! SUPPORT. COMMIT at a holder (R149 to R151, R166, R171, R177): the books of the chains, the window that opens, and the COMMIT of each port. -/

namespace Sys2Proof.Machine

/-! ### The books of a chain -/

/-- The registers that the books of the chains write. -/
def BooksReg (a : Nat) : Prop :=
  a = RegAddr.SYS_ALERT ∨ (∃ c < 4, a = RegAddr.DMG_CHAIN_LOAD c) ∨ (∃ c, a = RegAddr.DMG_CHAIN_ERR c) ∨ ∃ c p, a = RegAddr.DMG_TILE_STAT c p

theorem BooksReg.not_portStat (q : Nat) : ¬ BooksReg (RegAddr.WFT_PORT_STAT q) := by
  simp only [BooksReg, RegAddr.WFT_PORT_STAT, RegAddr.SYS_ALERT, RegAddr.DMG_CHAIN_LOAD, RegAddr.DMG_CHAIN_ERR, RegAddr.DMG_TILE_STAT, not_or, not_exists]
  exact ⟨by omega, fun c => by omega, fun c => by omega, fun c p => by omega⟩

/-- The books of the chains are closed: nothing leaves, and what is awaited stays. -/
structure Closes (s t : State) : Prop where
  within : Within BooksReg s t
  weft : t.weft = s.weft
  spn : t.spn = s.spn
  due : t.dmg.due = s.dmg.due

theorem Closes.refl (s : State) : Closes s s := ⟨Within.refl _ s, rfl, rfl, rfl⟩

theorem Closes.trans {s t u : State} (h : Closes s t) (k : Closes t u) : Closes s u :=
  ⟨h.within.trans k.within, k.weft.trans h.weft, k.spn.trans h.spn, k.due.trans h.due⟩

theorem Closes.wr {s t : State} (h : Closes s t) (f : Fld) (v : Nat) (hf : BooksReg f.addr) : Closes s (t.wr f v) :=
  h.trans ⟨(Within.refl _ t).wr f v hf, rfl, rfl, rfl⟩

theorem Closes.raise {s t : State} (h : Closes s t) (src code arg : Nat) : Closes s (t.raise src code arg) := by
  have hwithin := (Within.refl BooksReg t).raise src code arg (.inl rfl)
  obtain ⟨l, r, b, heq, -⟩ := t.raise_only src code arg
  exact h.trans ⟨hwithin, by rw [heq], by rw [heq], by rw [heq]⟩

theorem Closes.overRun {s t : State} (h : Closes s t) (l : List Nat) : Closes s { t with dmg := { t.dmg with overRun := l } } :=
  h.trans ⟨Within.of_same rfl rfl, rfl, rfl, rfl⟩

theorem AtTile.closes {c p : Nat} {s t : State} (h : AtTile c p s t) : Closes s t := by
  refine ⟨h.within.mono fun a ha => ?_, h.weft, h.spn, h.due⟩
  rcases ha with ha | ha
  · exact .inr (.inr (.inr ⟨c, p, ha⟩))
  · exact .inl ha

theorem State.closeChain_closes (s : State) {c : Nat} (hc : c < 4) (g : Nat) : Closes s (s.closeChain c g) := by
  have hload : BooksReg (RegAddr.DMG_CHAIN_LOAD c) := .inr (.inl ⟨c, hc, rfl⟩)
  have hloaded (x y : Nat) : Closes s ((s.wr (Reg.DMG_CHAIN_LOAD_QUEUED c) x).wr (Reg.DMG_CHAIN_LOAD_LOAD c) y) :=
    ((Closes.refl s).wr (Reg.DMG_CHAIN_LOAD_QUEUED c) x hload).wr (Reg.DMG_CHAIN_LOAD_LOAD c) y hload
  have hskips (u : State) (l : List Nat) (w : Nat) : Closes u ((u.bump (Reg.DMG_CHAIN_ERR_OVER c)).forAll l fun t p => t.countSkip c p w) :=
    ((Closes.refl u).wr (Reg.DMG_CHAIN_ERR_OVER c) _ (.inr (.inr (.inl ⟨c, rfl⟩)))).trans
      (State.forAll_keeps (Closes _) _ l _ (Closes.refl _) fun t p _ ht => ht.trans (t.countSkip_judges c p w).closes)
  unfold State.closeChain
  dsimp only
  split
  · exact (hloaded _ _).overRun _
  · split
    · exact (hloaded _ _).trans (hskips _ _ _)
    · exact (((hloaded _ _).trans (hskips _ _ _)).overRun _).raise _ _ _

theorem State.closeChains_closes (s : State) (g : Nat) : Closes s ([0, 1, 2, 3].foldl (fun t c => t.closeChain c g) s) :=
  State.forAll_keeps (Closes s) (fun t c => t.closeChain c g) _ s (Closes.refl s) fun t c hc ht => ht.trans (t.closeChain_closes (by
    simp only [List.mem_cons, List.not_mem_nil, or_false] at hc
    omega) g)

/-! ### The window that opens -/

theorem Tab.find_map {α : Type} (f : α → α) (x : Tab α) (k : Nat) : Tab.find (x.map fun y => (y.1, f y.2)) k = (Tab.find x k).map f := by
  induction x with
  | nil => rfl
  | cons y x ih =>
    obtain ⟨j, v⟩ := y
    rw [List.map_cons, Tab.find, Tab.find, ih]
    split <;> rfl

/-- In the window that opens nothing has been sent (R151). -/
theorem State.nextWindow_sent (s : State) (g c p : Nat) : ((s.nextWindow g).tile c p).sent = 0 := by
  have htiles : (s.nextWindow g).dmg.tiles = s.dmg.tiles.map fun y => (y.1, { y.2 with sent := 0 }) := rfl
  have hfind := Tab.find_map (fun x : TileRec => { x with sent := 0 }) s.dmg.tiles (tileKey c p)
  rw [← htiles] at hfind
  rw [State.tile, Tab.get, hfind]
  cases Tab.find s.dmg.tiles (tileKey c p) <;> rfl

/-! ### COMMIT -/

theorem State.sendPorts_of_sender {s : State} (h : s.isSender = true) : s.sendPorts = [0, 1, 2, 3].filter s.canSend := by
  have htile : s.isTile = false := by
    have hrole : s.role = 1 := beq_iff_eq.mp h
    rw [State.isTile, hrole]
    rfl
  rw [State.sendPorts, State.weftPorts, htile, h]
  rfl

theorem doCommitSend_idle {s : State} (h : s.isSender = false ∨ s.dmg.window = 0 ∨ Tab.find s.dmg.bounds s.dmg.window = none ∨
    s.frameNow < s.commitTime s.dmg.window) : doCommitSend s = s := by
  refine if_pos ?_
  rcases h with h | h | h | h <;> simp [h]

/-- The packets of a COMMIT or PREPARE (R166), one on each port that can send. -/
def State.commitOut (s : State) (w show_ phase : Nat) : State :=
  s.forAll s.sendPorts fun t p => t.sendOrder p .commit (t.chainAll p) (commitBody w show_ phase (s.commitEntries p))

/-- What the Sender notes of a COMMIT at a holder (R171, R172, R405). -/
def State.noteCommit (s : State) (w show_ bound : Nat) (prepare : Option PrepareRec) (tiles : List Nat) : State :=
  { s.wr Reg.DMG_GEN_GEN w with
    dmg := { s.dmg with prepare := prepare, due := if tiles.isEmpty then s.dmg.due else s.dmg.due ++ [DueRec.mk w show_ tiles] }
    spn := { s.spn with lastGen := w, lastBoundary := bound } }

theorem State.decidePrepare_none {s : State} (h : s.dmg.prepare = none) : s.decidePrepare = s := by
  rw [State.decidePrepare, h]

theorem State.isSender_of_holds {s : State} (h : s.holdsSpindle = true) : s.isSender = true := (Bool.and_eq_true_iff.mp h).1

/-- A holder orders every Tile (R401). -/
theorem State.orderedTiles_of_holds {s : State} (h : s.holdsSpindle = true) : (s.allTiles.filter fun cp => s.ordersTile cp.1 cp.2) = s.allTiles :=
  List.filter_eq_self.mpr fun cp _ => by rw [State.ordersTile, h, Bool.true_or]

theorem Withdraws.allTiles {s t : State} (h : Withdraws s t) : t.allTiles = s.allTiles := by
  obtain ⟨w, r, rfl⟩ := h.only
  rfl

/-- COMMIT at a holder that awaits no decision, once the count has reached T_c (R149 to R151). -/
theorem doCommitSend_holder {s : State} (hholds : s.holdsSpindle = true) (hwindow : s.dmg.window ≠ 0)
    (hbound : Tab.find s.dmg.bounds s.dmg.window ≠ none) (htime : s.commitTime s.dmg.window ≤ s.frameNow) (hprepare : s.dmg.prepare = none) :
    let g := s.dmg.window
    let atomic := s.acFlag Reg.DMG_CFG_WALL_ATOMIC
    let show_ := s.boundAfter g (if atomic then 3 else 2)
    let closed := [0, 1, 2, 3].foldl (fun t c => t.closeChain c g)
      (([0, 1, 2, 3].foldl State.sweep s).commitOut (s.wireGen g) show_ (if atomic then 1 else 0))
    ∃ bound prepare, prepare.isSome = atomic ∧ doCommitSend s =
      ((closed.noteCommit (s.wireGen g) show_ bound prepare (s.allTiles.map fun cp => tileKey cp.1 cp.2)).affirmGeneration g show_
        s.dmg.guardDue).nextWindow g := by
  have hgo : ¬ ((!s.isSender) = true ∨ s.dmg.window = 0 ∨ (Tab.find s.dmg.bounds s.dmg.window).isNone = true ∨
      s.frameNow < s.commitTime s.dmg.window) := by
    simp [State.isSender_of_holds hholds, hwindow, hbound, htime]
  have hswept := s.sweeps_withdraws [0, 1, 2, 3]
  have hordered := State.orderedTiles_of_holds ((hswept.within.holdsSpindle WithdrawnReg.not_rights).trans hholds)
  rw [hswept.allTiles] at hordered
  dsimp only
  rw [doCommitSend, if_neg hgo]
  dsimp only
  rw [State.decidePrepare_none hprepare, hswept.allTiles, hordered, hholds, Bool.true_or, Bool.and_true, if_pos rfl, if_pos rfl]
  rw [State.commitOut]
  generalize [0, 1, 2, 3].foldl (fun t c => State.closeChain t c s.dmg.window) _ = closed
  refine ⟨_, _, ?_, rfl⟩
  cases s.acFlag Reg.DMG_CFG_WALL_ATOMIC <;> rfl

end Sys2Proof.Machine
end

section
/-! PROOFS. Pushes, COMMIT, its reports and re-pushes at a Sender (R149 to R171). -/

namespace Sys2Proof.Machine

/-! ### The COMMIT of each port -/

/-- The COMMITs of a holder leave one on each port that can send, and leave nothing that could leave at once behind them (R166, R226). -/
theorem State.commitOut_sent {s t : State} (hswept : Withdraws s t) (hholds : s.holdsSpindle = true) (hfatal : s.sys.fatal = none)
    (hkey : s.trs.wallKey ≠ none) (w show_ phase : Nat) : Outgoing [] t (t.commitOut w show_ phase) ∧ Drained (t.commitOut w show_ phase) ∧
      (t.commitOut w show_ phase).weft.sent = s.weft.sent ++ s.sendPorts.flatMap fun p => s.leaving p ++
        [⟨p, s.formPacket p .commit (s.chainAll p) (commitBody w show_ phase (t.commitEntries p)), true, none⟩] := by
  have htholds := (hswept.within.holdsSpindle WithdrawnReg.not_rights).trans hholds
  have hports : t.sendPorts = s.sendPorts := by
    rw [State.sendPorts_of_sender (State.isSender_of_holds htholds), State.sendPorts_of_sender (State.isSender_of_holds hholds),
      funext hswept.links.canSend]
  have hnot (a : Nat) (ha : HeadReg a) : ¬ WithdrawnReg a := by
    rintro ⟨c, rfl⟩
    simp only [HeadReg, RegAddr.DMG_CHAIN_ERR, RegAddr.SYS_ROLE, RegAddr.SYS_WALL, RegAddr.SPN_EPOCH, RegAddr.SPN_TILE_EPOCH] at ha
    omega
  have hnodup : t.sendPorts.Nodup := by
    rw [State.sendPorts_of_sender (State.isSender_of_holds htholds)]
    exact List.Nodup.filter _ (by decide)
  obtain ⟨hsent, hout, -, hempty⟩ := State.forAll_sendOrder htholds (hswept.within.fatal.trans hfatal) (by rw [hswept.within.trs]; exact hkey)
    (k := .commit) (by decide) (fun p => commitBody w show_ phase (t.commitEntries p)) t.sendPorts t (Outgoing.refl _ t) hnodup
    fun q hq => (List.mem_filter.mp hq).2
  refine ⟨hout, fun p hp hcan => hempty p ?_, ?_⟩
  · rw [State.sendPorts_of_sender (State.isSender_of_holds htholds)]
    refine List.mem_filter.mpr ⟨?_, (hout.links.canSend p).symm.trans hcan⟩
    simp only [List.mem_cons, List.not_mem_nil, or_false]
    omega
  · have heach (p : Nat) : t.leaving p ++ [⟨p, t.formPacket p .commit (t.chainAll p) (commitBody w show_ phase (t.commitEntries p)), true, none⟩] =
        s.leaving p ++ [⟨p, s.formPacket p .commit (s.chainAll p) (commitBody w show_ phase (t.commitEntries p)), true, none⟩] := by
      have hport : t.port p = s.port p := by rw [State.port, hswept.weft, State.port]
      have hdest : t.chainAll p = s.chainAll p := by
        rw [State.chainAll, State.tileAddr, hswept.within.rd (f := Reg.SYS_ROLE_GROUP) (hnot _ (.inl rfl)), State.chainAll, State.tileAddr]
      rw [hswept.leaving, hdest, hswept.within.formPacket hnot hport hkey]
    rw [State.commitOut, hsent, hswept.weft, hports, funext heach]

/-- The books that are closed behind a COMMIT leave nothing on the ports. -/
theorem Closes.drained {s t : State} (h : Closes s t) (hs : Drained s) : Drained t := by
  have hlinks := h.within.sameLinks BooksReg.not_portStat
  intro p hp hcan
  rw [h.within.leaving hlinks (by rw [State.port, h.weft, State.port])]
  exact hs p hp ((hlinks.canSend p).symm.trans hcan)

/-- What a COMMIT notes leaves the ports, and shows its generation. -/
theorem State.noteCommit_spec (s : State) {w : Nat} (hw : w < 2 ^ 32) (show_ bound : Nat) (prepare : Option PrepareRec) (tiles : List Nat) :
    (s.noteCommit w show_ bound prepare tiles).rd Reg.DMG_GEN_GEN = w ∧ (Drained s → Drained (s.noteCommit w show_ bound prepare tiles)) := by
  refine ⟨(s.rd_wr_self Reg.DMG_GEN_GEN w (by decide)).trans (Nat.mod_eq_of_lt hw), fun hs p hp hcan => ?_⟩
  have hwithin : Within (· = RegAddr.DMG_GEN) s (s.wr Reg.DMG_GEN_GEN w) := (Within.refl _ s).wr Reg.DMG_GEN_GEN w rfl
  have hlinks := hwithin.sameLinks fun q => by
    simp only [RegAddr.DMG_GEN, RegAddr.WFT_PORT_STAT]
    omega
  have hleaving : (s.wr Reg.DMG_GEN_GEN w).leaving p = s.leaving p := hwithin.leaving hlinks rfl
  exact hleaving.trans (hs p hp ((hlinks.canSend p).symm.trans hcan))

/-- What comes behind the COMMITs: the generation shows, its reports are awaited, GUARDs and REAFFIRMs follow, and the next window opens (R151, R171, R186). -/
structure CommitEnds (g w show_ : Nat) (atomic : Bool) (tiles : List Nat) (s t : State) : Prop where
  window : t.dmg.window = (g + 1) % 2 ^ 32
  gen : t.rd Reg.DMG_GEN_GEN = w
  lastGen : t.spn.lastGen = w
  due : t.dmg.due = s.dmg.due ++ (if tiles = [] then [] else [⟨w, show_, tiles⟩])
  sent : ∀ c p, (t.tile c p).sent = 0
  prepare : t.dmg.prepare.isSome = atomic
  packets : ∃ l, t.weft.sent = s.weft.sent ++ l ∧ ∀ x ∈ l, x.pkt.type = 3 ∨ x.pkt.type = 5

theorem State.noteCommit_ends {s : State} (hdrained : Drained s) (g : Nat) {w : Nat} (hw : w < 2 ^ 32) (show_ bound : Nat) (prepare : Option PrepareRec)
    (tiles : List Nat) (guards : Bool) : CommitEnds g w show_ prepare.isSome tiles s
      (((s.noteCommit w show_ bound prepare tiles).affirmGeneration g show_ guards).nextWindow g) := by
  obtain ⟨hgen, hnoted⟩ := s.noteCommit_spec hw show_ bound prepare tiles
  have hdue : (s.noteCommit w show_ bound prepare tiles).dmg.due = s.dmg.due ++ (if tiles = [] then [] else [⟨w, show_, tiles⟩]) := by
    change (if tiles.isEmpty then s.dmg.due else s.dmg.due ++ [DueRec.mk w show_ tiles]) = _
    by_cases hnone : tiles = []
    · rw [if_pos hnone, if_pos (List.isEmpty_iff.mpr hnone), List.append_nil]
    · rw [if_neg hnone, if_neg (fun h => hnone (List.isEmpty_iff.mp h))]
  have hprepare : (s.noteCommit w show_ bound prepare tiles).dmg.prepare = prepare := rfl
  have hlast : (s.noteCommit w show_ bound prepare tiles).spn.lastGen = w := rfl
  have hweft : (s.noteCommit w show_ bound prepare tiles).weft = s.weft := rfl
  have hfollows := (s.noteCommit w show_ bound prepare tiles).affirmGeneration_follows g show_ guards
  obtain ⟨-, l, hl, htypes⟩ := hfollows.sent (hnoted hdrained)
  rw [hweft] at hl
  generalize (s.noteCommit w show_ bound prepare tiles).affirmGeneration g show_ guards = v at *
  generalize s.noteCommit w show_ bound prepare tiles = noted at *
  exact ⟨rfl, hfollows.gen.trans hgen, (congrArg SpnSt.lastGen hfollows.spn).trans hlast, (congrArg DmgSt.due hfollows.dmg).trans hdue,
    v.nextWindow_sent g, congrArg Option.isSome ((congrArg DmgSt.prepare hfollows.dmg).trans hprepare), l, hl, htypes⟩

/-- COMMIT of O52. -/
theorem dispatcherCommits {s : State} (hholds : s.holdsSpindle = true) (hwindow : s.dmg.window ≠ 0)
    (hbound : Tab.find s.dmg.bounds s.dmg.window ≠ none) (htime : s.commitTime s.dmg.window ≤ s.frameNow) (hprepare : s.dmg.prepare = none)
    (hfatal : s.sys.fatal = none) (hkey : s.trs.wallKey ≠ none) :
    let g := s.dmg.window
    let w := s.wireGen g
    let atomic := s.acFlag Reg.DMG_CFG_WALL_ATOMIC
    let show_ := s.boundAfter g (if atomic then 3 else 2)
    let s1 := [0, 1, 2, 3].foldl State.sweep s
    let tiles := s.allTiles.map fun cp => tileKey cp.1 cp.2
    let t := doCommitSend s
    t.dmg.window = (g + 1) % 2 ^ 32 ∧ t.rd Reg.DMG_GEN_GEN = w ∧ t.spn.lastGen = w ∧
      t.dmg.due = s.dmg.due ++ (if tiles = [] then [] else [⟨w, show_, tiles⟩]) ∧ (∀ c p, (t.tile c p).sent = 0) ∧ (t.dmg.prepare.isSome = atomic) ∧
      ∃ l, t.weft.sent = s.weft.sent ++ (s.sendPorts.flatMap fun p => s.leaving p ++ [⟨p, s.formPacket p .commit (s.chainAll p)
          (commitBody w show_ (if atomic then 1 else 0) (s1.commitEntries p)), true, none⟩]) ++ l ∧ ∀ x ∈ l, x.pkt.type = 3 ∨ x.pkt.type = 5 := by
  have hswept := s.sweeps_withdraws [0, 1, 2, 3]
  obtain ⟨bound, prepare, hsome, heq⟩ := doCommitSend_holder hholds hwindow hbound htime hprepare
  have hw : s.wireGen s.dmg.window < 2 ^ 32 := Nat.mod_lt _ (by decide)
  dsimp only at heq ⊢
  rw [heq]
  generalize s.acFlag Reg.DMG_CFG_WALL_ATOMIC = atomic at *
  generalize s.boundAfter s.dmg.window (if atomic then 3 else 2) = show_
  generalize (if atomic then 1 else 0) = phase
  generalize s.allTiles.map (fun cp => tileKey cp.1 cp.2) = tiles
  obtain ⟨hout, hdrained, hsent⟩ := State.commitOut_sent hswept hholds hfatal hkey (s.wireGen s.dmg.window) show_ phase
  have hclosed := State.closeChains_closes (([0, 1, 2, 3].foldl State.sweep s).commitOut (s.wireGen s.dmg.window) show_ phase) s.dmg.window
  have hends := State.noteCommit_ends (hclosed.drained hdrained) s.dmg.window hw show_ bound prepare tiles s.dmg.guardDue
  obtain ⟨l, hl, htypes⟩ := hends.packets
  have hdue := hclosed.due.trans ((congrArg DmgSt.due hout.dmg).trans hswept.due)
  exact ⟨hends.window, hends.gen, hends.lastGen, by rw [hends.due, hdue], hends.sent, hends.prepare.trans hsome, l, by rw [hl, hclosed.weft, hsent], htypes⟩

/-- Settles O52, from the books of a push, what is queued again, the record of a Tile, and what leaves behind a COMMIT. -/
theorem dispatcherPushesAndCommits : Obligations.DispatcherPushesAndCommits := by
  unfold Obligations.DispatcherPushesAndCommits
  refine ⟨fun s => ⟨fun hidle => exec_unchanged (f := doCommitSend) rfl (doCommitSend_idle hidle), fun hholds hwindow hbound htime hprepare hfatal hkey =>
      works_of_exec (f := doCommitSend) rfl (dispatcherCommits hholds hwindow hbound htime hprepare hfatal hkey)⟩,
    dispatcherPushes, dispatcherRepushes, fun s u p a ha hsender hform => ⟨fun hother => ?_, fun hgroup hpos => ?_⟩,
    fun s => ⟨fun hnone => ?_, fun d rest hdue _ hnodup => works_of_exec (f := doReportDeadline) rfl ?_⟩⟩
  · refine leads_of_exec (f := fun v => doCommitReportReceive v p.val a) rfl ?_
    rw [doCommitReportReceive_accepted ha hsender hform, State.takeCommitReport_other hother]
  · refine works_of_exec (f := fun v => doCommitReportReceive v p.val a) rfl ?_
    rw [doCommitReportReceive_accepted ha hsender hform]
    exact State.takeCommitReport_spec hgroup hpos
  · refine exec_unchanged (f := doReportDeadline) rfl ?_
    rw [doReportDeadline, hnone]
  · obtain ⟨hrest, hmissed⟩ := doReportDeadline_spec hdue hnodup
    refine ⟨hrest, fun k hk hnew => ?_⟩
    obtain ⟨hresult, hsettled, hrun, hunreached, hrequeued⟩ := hmissed k hk hnew
    exact ⟨hresult, hsettled, hrun, hunreached, hrequeued⟩

end Sys2Proof.Machine
end

section
/-! SUPPORT. STALE orders (R196 to R198): the floors that one raises, where it waits, and what HMK_STALE shows of it. -/

namespace Sys2Proof.Machine

/-! ### What raising an order leaves -/

/-- Several keys that take one value. -/
theorem Tab.find_puts {α : Type} (l : List Nat) (t : Tab α) (v : α) (r : Nat) :
    Tab.find (l.foldl (fun t k => Tab.put t k v) t) r = if r ∈ l then some v else Tab.find t r := by
  induction l generalizing t with
  | nil => rfl
  | cons k l ih =>
    rw [List.foldl_cons, ih]
    by_cases hl : r ∈ l
    · rw [if_pos hl, if_pos (List.mem_cons_of_mem k hl)]
    · by_cases hk : r = k
      · subst hk
        rw [if_neg hl, if_pos List.mem_cons_self, Tab.find_put_self]
      · rw [if_neg hl, if_neg (List.not_mem_cons_of_ne_of_not_mem hk hl), Tab.find_put_ne _ _ (Ne.symm hk)]

/-- The floor of each region that an order names is the pass's generation (R198). -/
theorem State.raiseStale_floor (s : State) {all : Bool} {regions : List Nat} {r : Nat} (h : r ∈ if all then List.range 256 else regions) :
    Tab.find (s.raiseStale all regions).hmk.floors r = some (s.rd Reg.LOOM_PASS_GEN) :=
  (Tab.find_puts _ _ _ _).trans (if_pos h)

/-- An order waits where some port is concerned (R196). -/
theorem State.raiseStale_orders (s : State) (all : Bool) (regions : List Nat) : (s.raiseStale all regions).hmk.orders =
    if s.stalePorts (if all then List.range 256 else regions) = [] then s.hmk.orders else s.hmk.orders ++
      [⟨s.rd Reg.LOOM_PASS_GEN, s.rd Reg.HMK_TABLE_VERSION, all, regions, s.stalePorts (if all then List.range 256 else regions)⟩] := by
  simp only [State.raiseStale, List.isEmpty_iff]

/-! ### Orders that every port has sent -/

theorem State.settleOrders_hmk (s : State) : s.settleOrders.hmk = { s.hmk with orders := s.hmk.orders.filter fun o => !o.ports.isEmpty } := by
  unfold State.settleOrders
  dsimp only
  split <;> rfl

theorem State.settleOrders_weft (s : State) : s.settleOrders.weft = s.weft := by
  unfold State.settleOrders
  dsimp only
  split <;> rfl

/-- ORDER reads 0 once no order waits, and as before while one does. -/
theorem State.settleOrders_order (s : State) :
    s.settleOrders.rd Reg.HMK_STALE_ORDER = if s.settleOrders.hmk.orders = [] then 0 else s.rd Reg.HMK_STALE_ORDER := by
  rw [State.settleOrders_hmk]
  unfold State.settleOrders
  dsimp only
  generalize (s.hmk.orders.filter fun o => !o.ports.isEmpty) = l
  cases l with
  | nil => exact (State.rd_wr_self _ Reg.HMK_STALE_ORDER 0 (by decide)).trans (if_pos rfl).symm
  | cons o l => exact (if_neg (List.cons_ne_nil o l)).symm

/-- The other fields of HMK_STALE, and the other registers, stay. -/
theorem State.settleOrders_rd (s : State) {f : Fld} (h : f.addr ≠ RegAddr.HMK_STALE ∨ f.rst = 0 ∧ (17 ≤ f.lo ∨ f.lo + f.width ≤ 16)) :
    s.settleOrders.rd f = s.rd f := by
  unfold State.settleOrders
  dsimp only
  split
  · by_cases ha : Reg.HMK_STALE_ORDER.addr = f.addr
    · obtain hne | ⟨hrst, hapart⟩ := h
      · exact absurd ha.symm hne
      · exact State.rd_wr_other _ Reg.HMK_STALE_ORDER f 0 ha hrst.symm hapart
    · exact State.rd_wr_ne _ Reg.HMK_STALE_ORDER f 0 ha
  · rfl

/-! ### The ports concerned -/

theorem Within.stalePorts {W : Nat → Prop} {s t : State} (h : Within W s t) (hrights : ∀ a, RightsReg a → ¬ W a)
    (hlinks : ∀ q, ¬ W (RegAddr.WFT_PORT_STAT q)) (hhmk : t.hmk = s.hmk) (l : List Nat) : t.stalePorts l = s.stalePorts l := by
  have hrole := hrights _ (.inl rfl)
  rw [State.stalePorts, State.sendPorts, State.weftPorts, h.isTile hrole, h.isSender hrole, funext (h.sameLinks hlinks).canSend,
    funext (h.ordersPort hrights), State.tableNow, hhmk, State.stalePorts, State.sendPorts, State.weftPorts, State.tableNow]

/-- The registers by which firmware orders (R196). -/
def StaleReg (a : Nat) : Prop := a = RegAddr.HMK_STALE ∨ ∃ i < 8, a = RegAddr.HMK_HOLD i

theorem StaleReg.not_rights (a : Nat) (h : RightsReg a) : ¬ StaleReg a := by
  simp only [RightsReg, StaleReg, RegAddr.SYS_ROLE, RegAddr.SPN_STAT, RegAddr.HMK_STALE, RegAddr.HMK_HOLD] at *
  rintro (ha | ⟨i, hi, ha⟩) <;> omega

theorem StaleReg.not_portStat (q : Nat) : ¬ StaleReg (RegAddr.WFT_PORT_STAT q) := by
  simp only [StaleReg, RegAddr.WFT_PORT_STAT, RegAddr.HMK_STALE, RegAddr.HMK_HOLD]
  rintro (ha | ⟨i, hi, ha⟩) <;> omega

/-! ### STALE_ORDER -/

/-- What a write of HMK_STALE shows. -/
def State.writeStale (s : State) (all : Bool) (region : Nat) : State :=
  ((s.wrFlag Reg.HMK_STALE_ALL all).wr Reg.HMK_STALE_REGION region).wr Reg.HMK_STALE_ORDER 1

theorem State.writeStale_within (s : State) (all : Bool) (region : Nat) : Within StaleReg s (s.writeStale all region) :=
  (((Within.refl _ s).wr Reg.HMK_STALE_ALL _ (.inl rfl)).wr Reg.HMK_STALE_REGION _ (.inl rfl)).wr Reg.HMK_STALE_ORDER _ (.inl rfl)

theorem State.writeStale_shows (s : State) (all : Bool) {region : Nat} (h : region < 256) : (s.writeStale all region).flag Reg.HMK_STALE_ALL = all ∧
    (s.writeStale all region).rd Reg.HMK_STALE_REGION = region ∧ (s.writeStale all region).rd Reg.HMK_STALE_ORDER = 1 := by
  refine ⟨State.flag_of_rd ?_, ?_, State.rd_wr_self _ Reg.HMK_STALE_ORDER 1 (by decide)⟩
  · refine (State.rd_wr_other _ Reg.HMK_STALE_ORDER Reg.HMK_STALE_ALL 1 rfl rfl (by decide)).trans ?_
    refine (State.rd_wr_other _ Reg.HMK_STALE_REGION Reg.HMK_STALE_ALL region rfl rfl (by decide)).trans ?_
    refine (State.rd_wr_self s Reg.HMK_STALE_ALL all.toNat (by decide)).trans (Nat.mod_eq_of_lt ?_)
    exact Bool.toNat_lt all
  · refine (State.rd_wr_other _ Reg.HMK_STALE_ORDER Reg.HMK_STALE_REGION 1 rfl rfl (by decide)).trans ?_
    exact (State.rd_wr_self _ Reg.HMK_STALE_REGION region (by decide)).trans (Nat.mod_eq_of_lt h)

theorem doStaleOrder_sender {s : State} (h : s.isSender = true) (all : Bool) (region : Nat) :
    doStaleOrder s all region = ((s.writeStale all region).raiseStale all [region]).settleOrders := if_pos h

theorem doStaleOrder_other {s : State} (h : s.isSender = false) (all : Bool) (region : Nat) : doStaleOrder s all region = s.writeStale all region := by
  rw [doStaleOrder, h]
  rfl

/-- An order of firmware at a Sender (R196, R198). -/
theorem staleOrderAtSender {s : State} (hsender : s.isSender = true) (all : Bool) {region : Nat} (hregion : region < 256) :
    let ports := s.stalePorts (if all then List.range 256 else [region])
    let t := doStaleOrder s all region
    t.flag Reg.HMK_STALE_ALL = all ∧ t.rd Reg.HMK_STALE_REGION = region ∧
      (∀ r < 256, all = true ∨ r = region → Tab.find t.hmk.floors r = some (s.rd Reg.LOOM_PASS_GEN)) ∧
      (ports ≠ [] → t.rd Reg.HMK_STALE_ORDER = 1 ∧ t.hmk.orders = s.hmk.orders.filter (fun o => !o.ports.isEmpty) ++
        [⟨s.rd Reg.LOOM_PASS_GEN, s.rd Reg.HMK_TABLE_VERSION, all, [region], ports⟩]) ∧
      (ports = [] → s.hmk.orders = [] → t.rd Reg.HMK_STALE_ORDER = 0 ∧ t.hmk.orders = []) := by
  intro ports t
  have hwithin := s.writeStale_within all region
  obtain ⟨hall, hshown, horder⟩ := s.writeStale_shows all hregion
  have hgen : (s.writeStale all region).rd Reg.LOOM_PASS_GEN = s.rd Reg.LOOM_PASS_GEN := hwithin.rd (by
    simp only [StaleReg, Reg.LOOM_PASS_GEN, RegAddr.LOOM_PASS, RegAddr.HMK_STALE, RegAddr.HMK_HOLD]
    rintro (ha | ⟨i, hi, ha⟩) <;> omega)
  have hversion : (s.writeStale all region).rd Reg.HMK_TABLE_VERSION = s.rd Reg.HMK_TABLE_VERSION := hwithin.rd (by
    simp only [StaleReg, Reg.HMK_TABLE_VERSION, RegAddr.HMK_TABLE, RegAddr.HMK_STALE, RegAddr.HMK_HOLD]
    rintro (ha | ⟨i, hi, ha⟩) <;> omega)
  have hports := hwithin.stalePorts StaleReg.not_rights StaleReg.not_portStat rfl (if all then List.range 256 else [region])
  have hkept : (s.writeStale all region).hmk = s.hmk := rfl
  have ht : t = ((s.writeStale all region).raiseStale all [region]).settleOrders := doStaleOrder_sender hsender all region
  have hregs (f : Fld) : ((s.writeStale all region).raiseStale all [region]).rd f = (s.writeStale all region).rd f := rfl
  have horders := (s.writeStale all region).raiseStale_orders all [region]
  rw [hports, hgen, hversion, hkept] at horders
  have hwaiting : t.hmk.orders = (((s.writeStale all region).raiseStale all [region]).hmk.orders).filter fun o => !o.ports.isEmpty := by
    rw [ht, State.settleOrders_hmk]
  have hreads := ((s.writeStale all region).raiseStale all [region]).settleOrders_order
  rw [← ht, hregs, horder] at hreads
  rw [horders] at hwaiting
  refine ⟨?_, ?_, fun r hr hnamed => ?_, fun hsome => ?_, fun hnone hempty => ?_⟩
  · rw [ht, State.flag, State.settleOrders_rd _ (.inr (by decide)), hregs, ← State.flag, hall]
  · rw [ht, State.settleOrders_rd _ (.inr (by decide)), hregs, hshown]
  · have hmem : r ∈ if all then List.range 256 else [region] := by
      obtain rfl | rfl := hnamed
      · exact List.mem_range.mpr hr
      · cases all <;> simp [hr]
    rw [ht, State.settleOrders_hmk]
    exact ((s.writeStale all region).raiseStale_floor hmem).trans (congrArg some hgen)
  · have hnew : t.hmk.orders = s.hmk.orders.filter (fun o => !o.ports.isEmpty) ++
        [⟨s.rd Reg.LOOM_PASS_GEN, s.rd Reg.HMK_TABLE_VERSION, all, [region], ports⟩] := by
      rw [hwaiting, if_neg hsome, List.filter_append]
      simp [ports, hsome]
    exact ⟨hreads.trans (if_neg (by rw [hnew]; simp)), hnew⟩
  · have hgone : t.hmk.orders = [] := by rw [hwaiting, if_pos hnone, hempty, List.filter_nil]
    exact ⟨hreads.trans (if_pos hgone), hgone⟩

/-! ### HMK_HOLD -/

/-- The regions whose hold bit rises (R196). -/
def heldAnew (i old v : Nat) : List Nat := ((List.range 32).filter fun b => v.testBit b && !old.testBit b).map (32 * i + ·)

theorem mem_heldAnew {i old v b : Nat} (hb : b < 32) (hv : v.testBit b = true) (hold : old.testBit b = false) : 32 * i + b ∈ heldAnew i old v :=
  List.mem_map.mpr ⟨b, List.mem_filter.mpr ⟨List.mem_range.mpr hb, by rw [hv, hold]; rfl⟩, rfl⟩

theorem heldAnew_nil {i old v : Nat} (h : ∀ b < 32, v.testBit b = true → old.testBit b = true) : heldAnew i old v = [] := by
  rw [heldAnew, List.map_eq_nil_iff, List.filter_eq_nil_iff]
  intro b hb
  cases hv : v.testBit b with
  | false => simp
  | true => simp [h b (List.mem_range.mp hb) hv]

theorem doHmkHold_eq (s : State) (i v : Nat) : doHmkHold s i v =
    if s.isSender && !(heldAnew i (s.rd (Reg.HMK_HOLD_HOLD i)) v).isEmpty then
      (s.wr (Reg.HMK_HOLD_HOLD i) v).raiseStale false (heldAnew i (s.rd (Reg.HMK_HOLD_HOLD i)) v)
    else s.wr (Reg.HMK_HOLD_HOLD i) v := rfl

/-- A word of hold bits is written, and each bit that rises is an order (R196, R198). -/
theorem holdBitsAreWritten (s : State) {i v : Nat} (hi : i < 8) (hv : v < 2 ^ 32) :
    let t := doHmkHold s i v
    t.rd (Reg.HMK_HOLD_HOLD i) = v ∧
      (s.isSender = true → ∀ b < 32, v.testBit b = true → (s.rd (Reg.HMK_HOLD_HOLD i)).testBit b = false →
        Tab.find t.hmk.floors (32 * i + b) = some (s.rd Reg.LOOM_PASS_GEN)) ∧
      ((s.isSender = false ∨ ∀ b < 32, v.testBit b = true → (s.rd (Reg.HMK_HOLD_HOLD i)).testBit b = true) → t.hmk = s.hmk) := by
  have hwritten : (s.wr (Reg.HMK_HOLD_HOLD i) v).rd (Reg.HMK_HOLD_HOLD i) = v :=
    (s.rd_wr_self (Reg.HMK_HOLD_HOLD i) v (show 0 + 32 ≤ 32 by decide)).trans (Nat.mod_eq_of_lt hv)
  have hgen : (s.wr (Reg.HMK_HOLD_HOLD i) v).rd Reg.LOOM_PASS_GEN = s.rd Reg.LOOM_PASS_GEN := s.rd_wr_ne _ _ _ (by
    simp only [Reg.HMK_HOLD_HOLD, Reg.LOOM_PASS_GEN, RegAddr.HMK_HOLD, RegAddr.LOOM_PASS]
    omega)
  dsimp only
  rw [doHmkHold_eq]
  refine ⟨?_, fun hsender b hb hset hclear => ?_, fun hidle => ?_⟩
  · split <;> exact hwritten
  · have hmem := mem_heldAnew (i := i) hb hset hclear
    rw [if_pos (by simp [hsender, List.ne_nil_of_mem hmem])]
    exact (State.raiseStale_floor _ hmem).trans (congrArg some hgen)
  · have hnone : ¬ (s.isSender && !(heldAnew i (s.rd (Reg.HMK_HOLD_HOLD i)) v).isEmpty) = true := by
      obtain hnot | hnot := hidle
      · simp [hnot]
      · simp [heldAnew_nil hnot]
    rw [if_neg hnone]
    rfl

/-! ### STALE_SEND -/

/-- An order that has entered a port no longer waits there. -/
def StaleRec.sentOn (o : StaleRec) (p : Nat) (x : StaleRec) : StaleRec := if x = o then { x with ports := x.ports.filter (· != p) } else x

theorem Departs.hmk {p : Nat} {s t : State} (h : Departs p s t) : t.hmk = s.hmk := by
  obtain ⟨w, r, n, rfl⟩ := h.only
  rfl

theorem State.sendOrder_departs (s : State) (p : Nat) (t : PType) (dest : Nat) (body : Bytes) : Departs p s (s.sendOrder p t dest body) :=
  Departs.onlyIf _ (s.send_departs p t dest body)

/-- The oldest order that waits for a port enters it. -/
theorem doStaleSend_eq {s : State} {p : Nat} {o : StaleRec} (h : (s.hmk.orders.find? fun o => o.ports.contains p) = some o) : doStaleSend s p =
    State.settleOrders { s.sendOrder p .stale (s.chainAll p) (s.staleBody o) with
      hmk := { s.hmk with orders := s.hmk.orders.map (o.sentOn p) } } := by
  have hkept := (s.sendOrder_departs p .stale (s.chainAll p) (s.staleBody o)).hmk
  have hupdate : (fun x => if x == o then { x with ports := x.ports.filter (· != p) } else x) = o.sentOn p := by
    funext x
    simp only [StaleRec.sentOn, beq_iff_eq]
  rw [doStaleSend, h]
  dsimp only
  rw [hkept, hupdate]

theorem doStaleSend_none {s : State} {p : Nat} (h : ∀ o ∈ s.hmk.orders, o.ports.contains p = false) : doStaleSend s p = s := by
  have hnone : (s.hmk.orders.find? fun o => o.ports.contains p) = none := List.find?_eq_none.mpr fun o ho => by rw [h o ho]; exact Bool.false_ne_true
  rw [doStaleSend, hnone]

/-- The order leaves as one STALE packet, behind what waits on the port (R196, R226). -/
theorem staleOrderEntersPort {s : State} {p : Nat} {o : StaleRec} (h : (s.hmk.orders.find? fun o => o.ports.contains p) = some o)
    (horders : s.ordersPort p = true) (hfatal : s.sys.fatal = none) (hcan : s.canSend p = true) (hkey : s.trs.wallKey ≠ none) :
    let t := doStaleSend s p
    t.weft.sent = s.weft.sent ++ s.leaving p ++ [⟨p, s.formPacket p .stale (s.chainAll p) (s.staleBody o), true, none⟩] ∧
      t.hmk.orders = (s.hmk.orders.map fun x => if x = o then { x with ports := x.ports.filter (· != p) } else x).filter (fun x => !x.ports.isEmpty) ∧
      (t.hmk.orders = [] → t.rd Reg.HMK_STALE_ORDER = 0) := by
  have hmay : s.mayTag .stale = true := by
    rw [State.mayTag, Option.isSome_iff_ne_none.mpr hkey]
    rfl
  have hsent := s.send_sent p .stale (s.chainAll p) (s.staleBody o) hcan hmay (by decide)
  dsimp only
  rw [doStaleSend_eq h]
  refine ⟨?_, by rw [State.settleOrders_hmk]; rfl, fun hgone => (State.settleOrders_order _).trans (if_pos hgone)⟩
  rw [State.settleOrders_weft, State.sendOrder_of_ordersPort horders hfatal]
  exact hsent

end Sys2Proof.Machine
end

section
/-! SUPPORT. What the orders and the verdict of the self-check leave of the hallmarks' own state (R183, R196, R417). -/

namespace Sys2Proof.Machine

/-! ### A verdict leaves the hallmarks -/

/-- An update that leaves the hallmarks' own state and the verdicts. -/
structure KeepsVerdicts (s t : State) : Prop where
  hmk : t.hmk = s.hmk
  verdicts : t.spn.verdicts = s.spn.verdicts

theorem KeepsVerdicts.refl (s : State) : KeepsVerdicts s s := ⟨rfl, rfl⟩

section
variable {s t u : State}

theorem KeepsVerdicts.trans (h : KeepsVerdicts s t) (k : KeepsVerdicts t u) : KeepsVerdicts s u := ⟨k.hmk.trans h.hmk, k.verdicts.trans h.verdicts⟩

theorem KeepsVerdicts.wr (h : KeepsVerdicts s t) (f : Fld) (v : Nat) : KeepsVerdicts s (t.wr f v) := h.trans ⟨rfl, rfl⟩

theorem KeepsVerdicts.whl (h : KeepsVerdicts s t) (x : WhlSt) : KeepsVerdicts s { t with whl := x } := h.trans ⟨rfl, rfl⟩

theorem KeepsVerdicts.yielded (h : KeepsVerdicts s t) (x : Option (Nat × Nat)) : KeepsVerdicts s { t with spn := { t.spn with yielded := x } } :=
  h.trans ⟨rfl, rfl⟩

theorem KeepsVerdicts.raise (h : KeepsVerdicts s t) (src code arg : Nat) : KeepsVerdicts s (t.raise src code arg) := by
  obtain ⟨l, r, b, heq, -⟩ := t.raise_only src code arg
  exact h.trans (heq ▸ ⟨rfl, rfl⟩)

theorem KeepsVerdicts.onlyIf (h : KeepsVerdicts s t) (c : Bool) {f : State → State} (hf : KeepsVerdicts t (f t)) : KeepsVerdicts s (t.onlyIf c f) := by
  cases c with
  | false => exact h
  | true => exact h.trans hf

theorem KeepsVerdicts.forAll {α : Type} (h : KeepsVerdicts s t) (l : List α) {f : State → α → State} (hf : ∀ u x, KeepsVerdicts u (f u x)) :
    KeepsVerdicts s (t.forAll l f) :=
  State.forAll_keeps (KeepsVerdicts s) f l t h fun u x _ hu => hu.trans (hf u x)

theorem Departs.keepsVerdicts {p : Nat} (h : Departs p s t) : KeepsVerdicts s t := ⟨h.hmk, congrArg SpnSt.verdicts h.spn⟩

end

theorem State.endSlew_keepsVerdicts (s : State) : KeepsVerdicts s s.endSlew := ⟨rfl, rfl⟩

theorem State.setLock_keepsVerdicts (s : State) (st : Nat) : KeepsVerdicts s (s.setLock st) := by
  unfold State.setLock
  dsimp only
  split
  · exact KeepsVerdicts.refl s
  · exact ((((KeepsVerdicts.refl s).wr _ _).raise _ _ _).onlyIf _ (State.endSlew_keepsVerdicts _)).whl _

theorem State.slewOnChange_keepsVerdicts (s : State) (changed : Bool) : KeepsVerdicts s (s.slewOnChange changed) :=
  (KeepsVerdicts.refl s).onlyIf _ ((KeepsVerdicts.refl s).wr _ _)

theorem State.showSource_keepsVerdicts (s : State) : KeepsVerdicts s s.showSource := by
  have hshown : KeepsVerdicts s (((s.wr Reg.WHL_STAT_SOURCE s.source).wr Reg.WHL_STAT_TPORT s.timePort).forAll [0, 1, 2, 3]
      fun t p => t.wrFlag (Reg.WHL_HOP_TIME_PORT p) (p == s.timePort && s.source == 2)) :=
    (((KeepsVerdicts.refl s).wr _ _).wr _ _).forAll _ fun u _ => (KeepsVerdicts.refl u).wr _ _
  exact (hshown.onlyIf _ (State.setLock_keepsVerdicts _ 0)).trans (State.slewOnChange_keepsVerdicts _ _)

theorem State.sendYield_keepsVerdicts (s : State) (reason gen at_ : Nat) : KeepsVerdicts s (s.sendYield reason gen at_) :=
  (((KeepsVerdicts.refl s).forAll _ fun u p => (u.send_departs p _ _ _).keepsVerdicts).wr _ _).raise _ _ _

theorem State.yieldFor_keepsVerdicts (s : State) (code : Nat) : KeepsVerdicts s (s.yieldFor code) := by
  have hsent := ((s.sendYield_keepsVerdicts code (s.rd Reg.DMG_GEN_GEN) s.now).wr Reg.SPN_STAT_STATE 0).wr Reg.SPN_STAT_YIELDED 1
  unfold State.yieldFor
  dsimp only
  exact (hsent.yielded _).trans (State.showSource_keepsVerdicts _)

/-- A verdict that is raised stands, and leaves the hallmarks' own state (R414). -/
theorem State.raiseVerdict_stands {s : State} (hsender : s.isSender = true) (code : Nat) :
    (s.raiseVerdict code).hmk = s.hmk ∧ code ∈ (s.raiseVerdict code).spn.verdicts := by
  have hyield {u : State} (h : u.hmk = s.hmk ∧ code ∈ u.spn.verdicts) (c : Bool) :
      (if c then u.yieldFor code else u).hmk = s.hmk ∧ code ∈ (if c then u.yieldFor code else u).spn.verdicts := by
    cases c with
    | false => exact h
    | true =>
      have hkeep := u.yieldFor_keepsVerdicts code
      exact ⟨hkeep.hmk.trans h.1, hkeep.verdicts ▸ h.2⟩
  unfold State.raiseVerdict
  rw [hsender, if_neg (by decide)]
  refine hyield ?_ _
  by_cases hstands : code ∈ s.spn.verdicts
  · rw [if_neg (by simpa using hstands)]
    exact ⟨rfl, hstands⟩
  · rw [if_pos (by simpa using hstands)]
    have hadded (f : State → State) (hf : ∀ u, KeepsVerdicts u (f u)) (arg : Nat) :
        ((f { s with spn := { s.spn with verdicts := s.spn.verdicts ++ [code] } }).raise srcDispatch 0x9102 arg).hmk = s.hmk ∧
        code ∈ ((f { s with spn := { s.spn with verdicts := s.spn.verdicts ++ [code] } }).raise srcDispatch 0x9102 arg).spn.verdicts := by
      have hkeep := (hf { s with spn := { s.spn with verdicts := s.spn.verdicts ++ [code] } }).raise srcDispatch 0x9102 arg
      refine ⟨hkeep.hmk, ?_⟩
      rw [hkeep.verdicts]
      exact List.mem_append_right _ (List.mem_singleton_self code)
    refine hadded (fun u => if u.rd Reg.SPN_STAT_VERDICT = 0 then u.wr Reg.SPN_STAT_VERDICT code else u) (fun u => ?_) code
    split
    · exact (KeepsVerdicts.refl u).wr _ _
    · exact KeepsVerdicts.refl u

/-! ### Orders that enter their ports -/

/-- STALE orders enter ports: the tables of the hallmarks, their floors, the record of the check and the role stay. -/
structure OrdersEnter (s t : State) : Prop where
  tables : t.hmk.tables = s.hmk.tables
  floors : t.hmk.floors = s.hmk.floors
  gen : t.hmk.checkedGen = s.hmk.checkedGen
  run : t.hmk.checkRun = s.hmk.checkRun
  role : t.role = s.role

theorem OrdersEnter.refl (s : State) : OrdersEnter s s := ⟨rfl, rfl, rfl, rfl, rfl⟩

theorem OrdersEnter.trans {s t u : State} (h : OrdersEnter s t) (k : OrdersEnter t u) : OrdersEnter s u :=
  ⟨k.tables.trans h.tables, k.floors.trans h.floors, k.gen.trans h.gen, k.run.trans h.run, k.role.trans h.role⟩

theorem doStaleSend_orders (s : State) (p : Nat) : OrdersEnter s (doStaleSend s p) := by
  cases h : s.hmk.orders.find? fun o => o.ports.contains p with
  | none =>
    have hnone : doStaleSend s p = s := by rw [doStaleSend, h]
    rw [hnone]
    exact OrdersEnter.refl s
  | some o =>
    have hdeparts := s.sendOrder_departs p .stale (s.chainAll p) (s.staleBody o)
    have hrole : (s.sendOrder p .stale (s.chainAll p) (s.staleBody o)).role = s.role :=
      hdeparts.within.role (by simp only [RegAddr.SYS_ROLE, RegAddr.WFT_PORT_STAT]; omega)
    rw [doStaleSend_eq h]
    refine ⟨?_, ?_, ?_, ?_, (State.settleOrders_rd _ (.inl (by decide))).trans hrole⟩ <;> rw [State.settleOrders_hmk]

theorem State.flushStale_orders (s : State) : OrdersEnter s s.flushStale :=
  State.forAll_keeps (OrdersEnter s) _ _ s (OrdersEnter.refl s) fun t _ _ ht =>
    State.forAll_keeps (OrdersEnter s) doStaleSend _ t ht fun u p _ hu => hu.trans (doStaleSend_orders u p)

/-! ### The second engine -/

/-- A disagreement is noted with its piece (R183). -/
def State.noteDisagreement (s : State) (g : Nat) (x : PieceRec) : State :=
  State.raise { s with hmk := { s.hmk with checkedGen := some g, checkRun := s.hmk.checkRun + 1, omitted := some (g, x.key) } } srcDispatch 0x4706 x.region

/-- The second disagreement in a row: a STALE order for every region, ahead of the verdict (R183, R196). -/
def State.failSelfCheck (s : State) : State := ((s.raiseStale true []).flushStale).raiseVerdict 3

section
variable {s : State} {t : PieceTable}

theorem State.selfCheck_idle (bad : Bool)
    (h : s.acFlag Reg.HMK_CFG_SELFCHECK = false ∨ t.pieces = [] ∨ s.hmk.checkedGen = some (s.rd Reg.LOOM_PASS_GEN)) : s.selfCheck t bad = s := by
  refine if_pos ?_
  obtain h | h | h := h <;> simp [h]

theorem State.selfCheck_runs (hon : s.acFlag Reg.HMK_CFG_SELFCHECK = true) (hpieces : t.pieces ≠ [])
    (hnew : s.hmk.checkedGen ≠ some (s.rd Reg.LOOM_PASS_GEN)) (bad : Bool) : ∃ x, s.selfCheck t bad =
      if bad then
        let u := s.noteDisagreement (s.rd Reg.LOOM_PASS_GEN) x
        if u.hmk.checkRun = 2 then u.failSelfCheck else u
      else { s with hmk := { s.hmk with checkedGen := some (s.rd Reg.LOOM_PASS_GEN), checkRun := 0, rotation := s.hmk.rotation + 1 } } :=
  ⟨_, if_neg (by simp [hon, hpieces, hnew])⟩

end

theorem State.noteDisagreement_hmk (s : State) (g : Nat) (x : PieceRec) : (s.noteDisagreement g x).hmk =
    { s.hmk with checkedGen := some g, checkRun := s.hmk.checkRun + 1, omitted := some (g, x.key) } :=
  ((KeepsVerdicts.refl _).raise srcDispatch 0x4706 x.region).hmk

theorem State.noteDisagreement_rd (s : State) (g : Nat) (x : PieceRec) {f : Fld} (h : f.addr ≠ RegAddr.SYS_ALERT) :
    (s.noteDisagreement g x).rd f = s.rd f := State.raise_rd _ _ _ _ _ h

/-- Verdict 3 with a STALE order for every region leaves the tables of the hallmarks and the record of the check (R183). -/
structure FailsCheck (s t : State) : Prop where
  verdict : 3 ∈ t.spn.verdicts
  floors : ∀ r < 256, Tab.find t.hmk.floors r = some (s.rd Reg.LOOM_PASS_GEN)
  tables : t.hmk.tables = s.hmk.tables
  gen : t.hmk.checkedGen = s.hmk.checkedGen
  run : t.hmk.checkRun = s.hmk.checkRun

theorem State.raiseStale_same (s : State) (all : Bool) (regions : List Nat) : (s.raiseStale all regions).hmk.tables = s.hmk.tables ∧
    (s.raiseStale all regions).hmk.checkedGen = s.hmk.checkedGen ∧ (s.raiseStale all regions).hmk.checkRun = s.hmk.checkRun ∧
    (s.raiseStale all regions).role = s.role := ⟨rfl, rfl, rfl, rfl⟩

theorem State.failSelfCheck_fails {s : State} (hsender : s.isSender = true) : FailsCheck s s.failSelfCheck := by
  have hfloor {r : Nat} (hr : r < 256) := s.raiseStale_floor (all := true) (regions := []) (List.mem_range.mpr hr)
  obtain ⟨htables, hgen, hrun, hrole⟩ := s.raiseStale_same true []
  unfold State.failSelfCheck
  generalize s.raiseStale true [] = t at *
  have horders := t.flushStale_orders
  have hstill : t.flushStale.isSender = true := by
    rw [State.isSender, horders.role, hrole]
    exact hsender
  obtain ⟨hhmk, hverdict⟩ := State.raiseVerdict_stands hstill 3
  refine ⟨hverdict, fun r hr => ?_, ?_, ?_, ?_⟩ <;> rw [hhmk]
  · rw [horders.floors, hfloor hr]
  · rw [horders.tables, htables]
  · rw [horders.gen, hgen]
  · rw [horders.run, hrun]

/-- The check leaves the tables (R183). -/
theorem State.selfCheck_tables {s : State} (hsender : s.isSender = true) (t : PieceTable) (bad : Bool) :
    (s.selfCheck t bad).hmk.tables = s.hmk.tables := by
  by_cases hidle : s.acFlag Reg.HMK_CFG_SELFCHECK = false ∨ t.pieces = [] ∨ s.hmk.checkedGen = some (s.rd Reg.LOOM_PASS_GEN)
  · rw [State.selfCheck_idle bad hidle]
  · simp only [not_or, Bool.not_eq_false] at hidle
    obtain ⟨hon, hpieces, hnew⟩ := hidle
    obtain ⟨x, hx⟩ := State.selfCheck_runs hon hpieces hnew bad
    rw [hx]
    cases bad with
    | false => rfl
    | true =>
      have hnoted := s.noteDisagreement_hmk (s.rd Reg.LOOM_PASS_GEN) x
      have hstill : (s.noteDisagreement (s.rd Reg.LOOM_PASS_GEN) x).isSender = true :=
        (congrArg (· == 1) (s.noteDisagreement_rd _ x (by decide))).trans hsender
      dsimp only
      rw [if_pos rfl]
      split
      · rw [(State.failSelfCheck_fails hstill).tables, hnoted]
      · rw [hnoted]

/-- A check of this generation, and its second disagreement in a row (R183). -/
theorem State.selfCheck_checks {s : State} {t : PieceTable} (hsender : s.isSender = true) (hon : s.acFlag Reg.HMK_CFG_SELFCHECK = true)
    (hpieces : t.pieces ≠ []) (hnew : s.hmk.checkedGen ≠ some (s.rd Reg.LOOM_PASS_GEN)) (bad : Bool) :
    (s.selfCheck t bad).hmk.checkedGen = some (s.rd Reg.LOOM_PASS_GEN) ∧
    (s.selfCheck t bad).hmk.checkRun = (if bad then s.hmk.checkRun + 1 else 0) ∧
    (bad = true → s.hmk.checkRun = 1 → 3 ∈ (s.selfCheck t bad).spn.verdicts ∧
      ∀ r < 256, Tab.find (s.selfCheck t bad).hmk.floors r = some (s.rd Reg.LOOM_PASS_GEN)) := by
  obtain ⟨x, hx⟩ := State.selfCheck_runs hon hpieces hnew bad
  rw [hx]
  cases bad with
  | false => exact ⟨rfl, rfl, fun h => absurd h Bool.false_ne_true⟩
  | true =>
    have hnoted := s.noteDisagreement_hmk (s.rd Reg.LOOM_PASS_GEN) x
    have hgen : (s.noteDisagreement (s.rd Reg.LOOM_PASS_GEN) x).rd Reg.LOOM_PASS_GEN = s.rd Reg.LOOM_PASS_GEN :=
      s.noteDisagreement_rd _ x (by decide)
    have hstill : (s.noteDisagreement (s.rd Reg.LOOM_PASS_GEN) x).isSender = true :=
      (congrArg (· == 1) (s.noteDisagreement_rd _ x (by decide))).trans hsender
    have hfails := State.failSelfCheck_fails hstill
    have hrun : (s.noteDisagreement (s.rd Reg.LOOM_PASS_GEN) x).hmk.checkRun = s.hmk.checkRun + 1 := by rw [hnoted]
    dsimp only
    rw [if_pos rfl, if_pos rfl]
    split
    · exact ⟨by rw [hfails.gen, hnoted], hfails.run.trans hrun, fun _ _ => ⟨hfails.verdict, fun r hr => (hfails.floors r hr).trans (congrArg some hgen)⟩⟩
    · next hnot => exact ⟨by rw [hnoted], hrun, fun _ hone => absurd (by rw [hrun, hone]) hnot⟩

end Sys2Proof.Machine
end

section
/-! SUPPORT. Hallmarks that are entered into a piece table, and the table in force for a generation (R180 to R182). -/

namespace Sys2Proof.Machine

/-! ### Marks -/

/-- The latest of several generations is one of them. -/
theorem latest_mem (l : List Nat) (a : Nat) : l.foldl (fun a b => if later32 b a then b else a) a ∈ a :: l := by
  induction l generalizing a with
  | nil => exact List.mem_singleton_self a
  | cons b l ih =>
    rw [List.foldl_cons]
    split
    · exact List.mem_cons_of_mem a (ih b)
    · exact List.mem_cons.mpr ((List.mem_cons.mp (ih a)).imp_right (List.mem_cons_of_mem b))

/-- The hallmark that is entered for generations that have begun is that of the piece (R182). -/
theorem mark_enterMark (t : PieceTable) (x : PieceRec) {gens : List Nat} (v : Nat) {g : Nat} (hsome : gens ≠ [])
    (hbegun : ∀ y ∈ gens, later32 y g = false) : (enterMark t x gens v).mark x g = some v := by
  obtain ⟨a, l, rfl⟩ := List.exists_cons_of_ne_nil hsome
  have hlast := hbegun _ (show (a :: l).foldl (fun a b => if later32 b a then b else a) a ∈ a :: l by
    simpa [List.foldl_cons] using latest_mem l a)
  rw [PieceTable.mark, enterMark, Tab.find_put_self, Option.getD_some, List.cons_append, List.take_succ_cons, List.headD_cons,
    List.find?_cons_of_pos (by rw [hlast]; rfl)]
  rfl

/-- Another piece's hallmark leaves those of a piece. -/
theorem mark_enterMark_ne (t : PieceTable) {x y : PieceRec} (gens : List Nat) (v g : Nat) (h : y.key ≠ x.key) :
    (enterMark t y gens v).mark x g = t.mark x g := by
  rw [PieceTable.mark, enterMark, Tab.find_put_ne _ _ h, PieceTable.mark]

/-- The hallmarks of several pieces are entered, each with its generations. -/
def PieceTable.enterAll (t : PieceTable) (l : List PieceRec) (gens : PieceRec → List Nat) (v : PieceRec → Nat) : PieceTable :=
  l.foldl (fun u x => enterMark u x (gens x) (v x)) t

section
variable (gens : PieceRec → List Nat) (v : PieceRec → Nat)

theorem PieceTable.enterAll_same (t : PieceTable) (l : List PieceRec) :
    (t.enterAll l gens v).from_ = t.from_ ∧ (t.enterAll l gens v).version = t.version ∧ (t.enterAll l gens v).pieces = t.pieces := by
  induction l generalizing t with
  | nil => exact ⟨rfl, rfl, rfl⟩
  | cons x l ih => exact ih (enterMark t x (gens x) (v x))

theorem PieceTable.mark_enterAll_ne (t : PieceTable) {l : List PieceRec} {x : PieceRec} (g : Nat) (h : x.key ∉ l.map PieceRec.key) :
    (t.enterAll l gens v).mark x g = t.mark x g := by
  induction l generalizing t with
  | nil => rfl
  | cons y l ih =>
    obtain ⟨hne, hrest⟩ := List.ne_and_not_mem_of_not_mem_cons h
    exact (ih (enterMark t y (gens y) (v y)) hrest).trans (mark_enterMark_ne t _ _ g (Ne.symm hne))

/-- Each of several pieces has its hallmark (R182). -/
theorem PieceTable.mark_enterAll (t : PieceTable) {l : List PieceRec} {x : PieceRec} {g : Nat} (hx : x ∈ l) (hnodup : (l.map PieceRec.key).Nodup)
    (hsome : gens x ≠ []) (hbegun : ∀ y ∈ gens x, later32 y g = false) : (t.enterAll l gens v).mark x g = some (v x) := by
  induction l generalizing t with
  | nil => cases hx
  | cons y l ih =>
    obtain ⟨hnot, hnodup⟩ := List.nodup_cons.mp hnodup
    obtain rfl | hx := List.mem_cons.mp hx
    · exact (PieceTable.mark_enterAll_ne gens v _ g hnot).trans (mark_enterMark t x (v x) hsome hbegun)
    · exact ih (enterMark t y (gens y) (v y)) hx hnodup

end

/-! ### The table in force -/

theorem State.tableFor_of_tables {s t : State} (h : t.hmk.tables = s.hmk.tables) (g : Nat) : t.tableFor g = s.tableFor g := by
  rw [State.tableFor, h, State.tableFor]

/-- The choice of the first element of some kind, or else the last, is made alike where each is replaced by another of its kind. -/
theorem chosen_map {α : Type} (l : List α) (p : α → Bool) (f : α → α) (hp : ∀ x, p (f x) = p x) (hl : l ≠ []) (d : α) :
    (((l.map f).find? p).orElse fun _ => (l.map f).getLast?).getD d = f (((l.find? p).orElse fun _ => l.getLast?).getD d) := by
  rw [List.find?_map, show p ∘ f = p from funext hp, List.getLast?_map, List.getLast?_eq_some_getLast hl]
  cases l.find? p <;> rfl

/-- The table that stands where another may have replaced it. -/
def PieceTable.replacedBy (t x : PieceTable) : PieceTable := if x.from_ == t.from_ && x.version == t.version then t else x

theorem PieceTable.replacedBy_from (t x : PieceTable) : (t.replacedBy x).from_ = x.from_ := by
  unfold PieceTable.replacedBy
  split
  · next h =>
    simp only [Bool.and_eq_true, beq_iff_eq] at h
    exact h.1.symm
  · rfl

/-- A table that replaces the one in force is in force. -/
theorem State.putTable_tableFor (s : State) {t : PieceTable} {g : Nat} (hfrom : t.from_ = (s.tableFor g).from_) (hversion : t.version = (s.tableFor g).version)
    (htables : s.hmk.tables ≠ []) : (s.putTable t).tableFor g = t := by
  have hchosen := chosen_map s.hmk.tables (fun x => !later32 x.from_ g) t.replacedBy (fun x => by rw [t.replacedBy_from]) htables default
  have hreplaced : t.replacedBy (s.tableFor g) = t := if_pos (by rw [hfrom, hversion, beq_self_eq_true, beq_self_eq_true]; rfl)
  exact hchosen.trans hreplaced

theorem State.tables_of_piece {s : State} {g : Nat} {x : PieceRec} (h : x ∈ (s.tableFor g).pieces) : s.hmk.tables ≠ [] := by
  intro hnone
  rw [State.tableFor, hnone] at h
  cases h

/-! ### HALLMARK_COMPUTE -/

/-- The pieces that have changed and are written (R182). -/
def State.readyPieces (s : State) (t : PieceTable) : List PieceRec := (t.pieces.filter fun x => !(s.pieceTodo t x).isEmpty).filter s.pieceWritten

/-- The table in force, with the hallmarks of the pieces that are ready (R181, R182). -/
def State.hashedTable (s : State) (t : PieceTable) : PieceTable := t.enterAll (s.readyPieces t) (s.pieceTodo t) s.pieceHallmark

/-- The state in which a table has replaced its forerunner, and some blocks still await their pieces. -/
def State.keepTable (s : State) (t : PieceTable) (waits : Nat × Nat → Bool) : State :=
  { s.putTable t with hmk := { (s.putTable t).hmk with changed := (s.putTable t).hmk.changed.filter waits } }

theorem doHallmarkCompute_other {s : State} (h : s.isSender = false) (bad : Bool) : doHallmarkCompute s bad = s := if_pos (by rw [h]; rfl)

theorem doHallmarkCompute_sender {s : State} (h : s.isSender = true) (bad : Bool) : ∃ waits, doHallmarkCompute s bad =
    (s.keepTable (s.hashedTable (s.tableFor (s.rd Reg.LOOM_PASS_GEN))) waits).selfCheck (s.hashedTable (s.tableFor (s.rd Reg.LOOM_PASS_GEN))) bad :=
  ⟨_, if_neg (by rw [h]; decide)⟩

/-- Every piece that is ready has its hallmark (R181, R182). -/
theorem piecesGetHallmarks {s : State} (hsender : s.isSender = true) (bad : Bool)
    (hnodup : ((s.tableFor (s.rd Reg.LOOM_PASS_GEN)).pieces.map PieceRec.key).Nodup) :
    let g := s.rd Reg.LOOM_PASS_GEN
    let tbl := s.tableFor g
    ∀ x ∈ tbl.pieces, s.pieceTodo tbl x ≠ [] → s.pieceWritten x = true → (∀ y ∈ s.pieceTodo tbl x, later32 y g = false) →
      ((doHallmarkCompute s bad).tableFor g).mark x g = some (s.pieceHallmark x) := by
  intro g tbl x hx htodo hwritten hbegun
  obtain ⟨waits, heq⟩ := doHallmarkCompute_sender hsender bad
  obtain ⟨hfrom, hversion, -⟩ := tbl.enterAll_same (s.pieceTodo tbl) s.pieceHallmark (s.readyPieces tbl)
  have hkept : (s.keepTable (s.hashedTable tbl) waits).isSender = true := hsender
  have htable : (doHallmarkCompute s bad).tableFor g = s.hashedTable tbl := by
    rw [heq]
    refine (State.tableFor_of_tables (State.selfCheck_tables hkept _ bad) g).trans ?_
    exact s.putTable_tableFor hfrom hversion (State.tables_of_piece hx)
  have hready : x ∈ s.readyPieces tbl := List.mem_filter.mpr ⟨List.mem_filter.mpr ⟨hx, by simpa using htodo⟩, hwritten⟩
  have hsub : (s.readyPieces tbl).Sublist tbl.pieces := List.filter_sublist.trans List.filter_sublist
  rw [htable]
  exact tbl.mark_enterAll _ _ hready (hnodup.sublist (hsub.map _)) htodo hbegun

/-- The second engine checks one piece of each generation (R183). -/
theorem secondEngineChecks {s : State} (hsender : s.isSender = true) (bad : Bool) :
    let g := s.rd Reg.LOOM_PASS_GEN
    let t := doHallmarkCompute s bad
    s.acFlag Reg.HMK_CFG_SELFCHECK = true → (s.tableFor g).pieces ≠ [] → s.hmk.checkedGen ≠ some g →
      t.hmk.checkedGen = some g ∧ t.hmk.checkRun = (if bad then s.hmk.checkRun + 1 else 0) ∧
      (bad = true → s.hmk.checkRun = 1 → 3 ∈ t.spn.verdicts ∧ ∀ r < 256, Tab.find t.hmk.floors r = some g) := by
  intro g t hon hpieces hnew
  obtain ⟨waits, heq⟩ := doHallmarkCompute_sender hsender bad
  obtain ⟨-, -, hsame⟩ := (s.tableFor g).enterAll_same (s.pieceTodo (s.tableFor g)) s.pieceHallmark (s.readyPieces (s.tableFor g))
  have hkept : (s.keepTable (s.hashedTable (s.tableFor g)) waits).isSender = true := hsender
  have hchecks := State.selfCheck_checks (t := s.hashedTable (s.tableFor g)) hkept hon (by rw [State.hashedTable, hsame]; exact hpieces) hnew bad
  rw [← heq] at hchecks
  exact hchecks

end Sys2Proof.Machine
end

section
/-! SUPPORT. Guard reports at a Sender (R195, R201, R202). -/

namespace Sys2Proof.Machine

/-! ### The pieces of a report -/

theorem State.enterPush_hmk (s : State) (c p b time : Nat) : (s.enterPush c p b time).hmk = s.hmk ∧ (s.enterPush c p b time).regs = s.regs := by
  obtain ⟨q, hq⟩ := s.enterEntry_only c p b time (if later16 (s.canvasFrame b) s.dmg.window then s.dmg.window % 65536 else s.canvasFrame b)
  have heq : s.enterPush c p b time = s.setQueue c q := hq
  rw [heq]
  exact ⟨rfl, rfl⟩

theorem State.raise_hmk (s : State) (src code arg : Nat) : (s.raise src code arg).hmk = s.hmk := ((KeepsVerdicts.refl s).raise src code arg).hmk

/-- A step that leaves the hallmarks' own state and the count of mismatches. -/
structure SameCount (s t : State) : Prop where
  hmk : t.hmk = s.hmk
  count : t.rd Reg.HMK_COUNT_MISMATCH = s.rd Reg.HMK_COUNT_MISMATCH

theorem SameCount.refl (s : State) : SameCount s s := ⟨rfl, rfl⟩

theorem SameCount.trans {s t u : State} (h : SameCount s t) (k : SameCount t u) : SameCount s u := ⟨k.hmk.trans h.hmk, k.count.trans h.count⟩

theorem SameCount.raise (s : State) (src code arg : Nat) : SameCount s (s.raise src code arg) :=
  ⟨s.raise_hmk src code arg, s.raise_rd src code arg _ (by decide)⟩

theorem SameCount.enterPush (s : State) (c p b time : Nat) : SameCount s (s.enterPush c p b time) := by
  obtain ⟨hhmk, hregs⟩ := s.enterPush_hmk c p b time
  exact ⟨hhmk, State.rd_of_find (by rw [hregs])⟩

theorem SameCount.forAll {α : Type} {s t : State} (h : SameCount s t) (l : List α) {f : State → α → State} (hf : ∀ u x, SameCount u (f u x)) :
    SameCount s (t.forAll l f) :=
  State.forAll_keeps (SameCount s) f l t h fun u x _ hu => hu.trans (hf u x)

/-- An entry of a report counts where it says that the piece mismatched (R195). -/
theorem State.takePieceState_counts (s : State) (c p : Nat) (old : List (Nat × Nat)) (e : Nat × Nat) : (s.takePieceState c p old e).hmk = s.hmk ∧
    (s.takePieceState c p old e).rd Reg.HMK_COUNT_MISMATCH = min (s.rd Reg.HMK_COUNT_MISMATCH + (e.2.testBit 4).toNat) 65535 := by
  unfold State.takePieceState
  dsimp only
  generalize hnoted : (if ((old.find? fun x => x.1 == e.1).map (·.2)).getD 0 = e.2 then s else _) = u
  have hsame : SameCount s u := by
    rw [← hnoted]
    split
    · exact SameCount.refl s
    · exact SameCount.raise s _ _ _
  cases e.2.testBit 4 with
  | false =>
    have hfits := s.rd_lt Reg.HMK_COUNT_MISMATCH
    exact ⟨hsame.hmk, hsame.count.trans (Nat.min_eq_left (Nat.le_of_lt_succ hfits)).symm⟩
  | true =>
    have hentered (arg : Nat) (l : List Nat) : SameCount (u.bump Reg.HMK_COUNT_MISMATCH)
        (((u.bump Reg.HMK_COUNT_MISMATCH).raise srcDispatch 0x8703 arg).forAll l fun t b => t.enterPush c p b s.now) :=
      (SameCount.raise _ _ _ _).forAll l fun v b => SameCount.enterPush v c p b s.now
    have hcount := u.rd_bump_self Reg.HMK_COUNT_MISMATCH (by decide)
    rw [hsame.count] at hcount
    rw [if_pos rfl]
    exact ⟨(hentered _ _).hmk.trans hsame.hmk, (hentered _ _).count.trans hcount⟩

/-- The mismatches of a report are counted (R195). -/
theorem State.takePieces_counts (s : State) (c p : Nat) (old es : List (Nat × Nat)) :
    (s.forAll es fun t e => t.takePieceState c p old e).hmk = s.hmk ∧
    (s.forAll es fun t e => t.takePieceState c p old e).rd Reg.HMK_COUNT_MISMATCH =
      min (s.rd Reg.HMK_COUNT_MISMATCH + (es.filter fun e => e.2.testBit 4).length) 65535 := by
  induction es generalizing s with
  | nil =>
    have hfits := s.rd_lt Reg.HMK_COUNT_MISMATCH
    exact ⟨rfl, (Nat.min_eq_left (Nat.le_of_lt_succ hfits)).symm⟩
  | cons e es ih =>
    obtain ⟨hhmk, hcount⟩ := s.takePieceState_counts c p old e
    obtain ⟨hrest, hcounts⟩ := ih (s.takePieceState c p old e)
    refine ⟨hrest.trans hhmk, hcounts.trans ?_⟩
    rw [hcount, List.filter_cons]
    cases e.2.testBit 4 <;> simp <;> omega

/-! ### The regions that show hatched -/

theorem regStat_inj {r q : Nat} (h : RegAddr.HMK_REG_STAT (r / 64) (r % 64) = RegAddr.HMK_REG_STAT (q / 64) (q % 64)) : r = q := by
  unfold RegAddr.HMK_REG_STAT at h
  omega

theorem State.tileHatch_of_hmk {s t : State} (h : t.hmk = s.hmk) (r : Nat) : t.tileHatch r = s.tileHatch r := by
  rw [State.tileHatch, h, State.tileHatch]

/-- TILE_HATCH shows for some regions whether a Tile reports them hatched (R202). -/
def State.showHatched (s : State) (l : List Nat) : State := s.forAll l fun t r => t.wrFlag (Reg.HMK_REG_STAT_TILE_HATCH (r / 64) (r % 64)) (t.tileHatch r)

theorem State.showHatched_same (s : State) (l : List Nat) : SameCount s (s.showHatched l) :=
  (SameCount.refl s).forAll l fun u r => ⟨rfl, u.rd_wr_ne _ _ _ (by
    simp only [Reg.HMK_REG_STAT_TILE_HATCH, Reg.HMK_COUNT_MISMATCH, RegAddr.HMK_REG_STAT, RegAddr.HMK_COUNT]
    omega)⟩

theorem State.showHatched_shows (s : State) {l : List Nat} (hl : l.Nodup) {r : Nat} (hr : r ∈ l) :
    (s.showHatched l).flag (Reg.HMK_REG_STAT_TILE_HATCH (r / 64) (r % 64)) = s.tileHatch r := by
  refine State.forAll_at (R := fun t => t.hmk = s.hmk) (P := fun t => t.flag (Reg.HMK_REG_STAT_TILE_HATCH (r / 64) (r % 64)) = s.tileHatch r) hr hl rfl
    (fun t q _ _ ht => ht) (fun t ht => ?_) fun t q _ hne ht => ?_
  · rw [← State.tileHatch_of_hmk ht r]
    refine State.flag_of_rd ((t.rd_wr_self (Reg.HMK_REG_STAT_TILE_HATCH (r / 64) (r % 64)) _ (show 1 + 1 ≤ 32 by decide)).trans (Nat.mod_eq_of_lt ?_))
    exact Bool.toNat_lt _
  · exact (congrArg (· == 1) (t.rd_wr_ne _ (Reg.HMK_REG_STAT_TILE_HATCH (r / 64) (r % 64)) _ fun h => hne (regStat_inj h))).trans ht

/-! ### A report -/

theorem State.takeGuardReport_other {s : State} {body : Bytes}
    (h : leAt body 2 2 % 4096 / 256 ≠ s.rd Reg.SYS_ROLE_GROUP ∨ leAt body 2 2 % 4096 % 64 = 63) : s.takeGuardReport body = s := if_pos h

/-- The latest report of a Tile is kept (R202). -/
def State.keepReport (s : State) (k : Nat) (body : Bytes) : State :=
  { s with hmk := { s.hmk with
    tileStates := Tab.put s.hmk.tileStates k (reportEntries body)
    tileGlass := Tab.put s.hmk.tileGlass k ((List.range 8).map fun n => leAt body (16 + 2 * n) 2)
    tileDark := Tab.put s.hmk.tileDark k (leAt body 10 1) } }

/-- The Tile that a report names. -/
def reportTile (body : Bytes) : Nat := tileKey (leAt body 2 2 % 4096 / 64 % 4) (leAt body 2 2 % 4096 % 64)

/-- The states of the pieces of a Tile by its report before. -/
def State.oldEntries (s : State) (body : Bytes) : List (Nat × Nat) := (Tab.find s.hmk.tileStates (reportTile body)).getD []

/-- The changes of the pieces and the glass of a report are counted and recorded (R195, R202). -/
def State.recordReport (s : State) (body : Bytes) : State :=
  (s.forAll (reportEntries body) fun t e =>
    t.takePieceState (leAt body 2 2 % 4096 / 64 % 4) (leAt body 2 2 % 4096 % 64) (s.oldEntries body) e).forAll
      (glassChanges ((Tab.find s.hmk.tileGlass (reportTile body)).getD []) ((List.range 8).map fun n => leAt body (16 + 2 * n) 2)
        ((Tab.find s.hmk.tileDark (reportTile body)).getD 0) (leAt body 10 1)) fun t a => t.raise srcDispatch 0x8704 a

theorem State.recordReport_counts (s : State) (body : Bytes) : (s.recordReport body).rd Reg.HMK_COUNT_MISMATCH =
    min (s.rd Reg.HMK_COUNT_MISMATCH + ((reportEntries body).filter fun e => e.2.testBit 4).length) 65535 := by
  obtain ⟨-, hcount⟩ := s.takePieces_counts (leAt body 2 2 % 4096 / 64 % 4) (leAt body 2 2 % 4096 % 64) (s.oldEntries body) (reportEntries body)
  have hglass : SameCount _ (s.recordReport body) := (SameCount.refl _).forAll _ fun u a => SameCount.raise u srcDispatch 0x8704 a
  exact hglass.count.trans hcount

/-- The regions that a report may change. -/
def State.reportedRegions (s : State) (body : Bytes) : List Nat := ((reportEntries body ++ s.oldEntries body).map (·.1)).dedup

theorem State.takeGuardReport_eq {s : State} {body : Bytes} (hgroup : leAt body 2 2 % 4096 / 256 = s.rd Reg.SYS_ROLE_GROUP)
    (hpos : leAt body 2 2 % 4096 % 64 ≠ 63) :
    s.takeGuardReport body = ((s.recordReport body).keepReport (reportTile body) body).showHatched (s.reportedRegions body) :=
  if_neg (not_or.mpr ⟨not_not_intro hgroup, hpos⟩)

/-- What a report of a Tile of the Sender's group leaves (R195, R201, R202). -/
theorem State.takeGuardReport_kept {s : State} {body : Bytes} (hgroup : leAt body 2 2 % 4096 / 256 = s.rd Reg.SYS_ROLE_GROUP)
    (hpos : leAt body 2 2 % 4096 % 64 ≠ 63) :
    let addr := leAt body 2 2 % 4096
    let k := tileKey (addr / 64 % 4) (addr % 64)
    let es := reportEntries body
    let t := s.takeGuardReport body
    Tab.find t.hmk.tileStates k = some es ∧ Tab.find t.hmk.tileGlass k = some ((List.range 8).map fun n => leAt body (16 + 2 * n) 2) ∧
      Tab.find t.hmk.tileDark k = some (leAt body 10 1) ∧
      t.rd Reg.HMK_COUNT_MISMATCH = min (s.rd Reg.HMK_COUNT_MISMATCH + (es.filter fun e => e.2.testBit 4).length) 65535 ∧
      ∀ e ∈ es, t.flag (Reg.HMK_REG_STAT_TILE_HATCH (e.1 / 64) (e.1 % 64)) = t.tileHatch e.1 := by
  intro addr k es t
  have ht : t = ((s.recordReport body).keepReport k body).showHatched (s.reportedRegions body) := State.takeGuardReport_eq hgroup hpos
  have hcount := s.recordReport_counts body
  generalize s.recordReport body = v at *
  have hshown := (v.keepReport k body).showHatched_same (s.reportedRegions body)
  rw [← ht] at hshown
  have hkept : t.hmk = (v.keepReport k body).hmk := hshown.hmk
  refine ⟨by rw [hkept]; exact Tab.find_put_self _ _ _, by rw [hkept]; exact Tab.find_put_self _ _ _, by rw [hkept]; exact Tab.find_put_self _ _ _,
    hshown.count.trans hcount, fun e he => ?_⟩
  have hmem : e.1 ∈ s.reportedRegions body := List.mem_dedup.mpr (List.mem_map.mpr ⟨e, List.mem_append_left _ he, rfl⟩)
  rw [State.tileHatch_of_hmk hkept, ht]
  exact (v.keepReport k body).showHatched_shows (List.nodup_dedup _) hmem

end Sys2Proof.Machine
end

section
/-! PROOFS. Hallmarks, STALE orders, holds and guard reports (R180 to R202). -/

namespace Sys2Proof.Machine

/-- A guard report that is accepted is taken. -/
theorem Accepted.doGuardReportReceive {s u : State} {p : Port} {a : Arrival} (h : Accepted s p .status a u) (hform : leAt a.pkt.body 0 1 = 2) :
    doGuardReportReceive s p.val a = u.takeGuardReport a.pkt.body :=
  (h.onPacket _).trans (if_pos hform)

/-- Settles O49, from the marks of a table in force, the floors and ports of an order, and what a guard report leaves. -/
theorem hallmarksAndStaleOrders : Obligations.HallmarksAndStaleOrders := by
  unfold Obligations.HallmarksAndStaleOrders
  refine ⟨fun s bad => ⟨fun hother => ?_, fun hsender => ⟨fun hnodup => ?_, fun hon hpieces hnew => ?_⟩⟩,
    fun s all region => ⟨fun hsender => ?_, fun hother => ?_⟩, fun s i v => ?_, fun s p => ⟨fun hnone => ?_, fun o ho horders hfatal hcan hkey => ?_⟩,
    fun s u p a ha hform => ⟨fun hother => ?_, fun hgroup hpos => ?_⟩⟩
  · exact exec_unchanged (f := fun v => doHallmarkCompute v bad) rfl (doHallmarkCompute_other hother bad)
  · exact works_of_exec (f := fun v => doHallmarkCompute v bad) rfl (piecesGetHallmarks hsender bad hnodup)
  · exact works_of_exec (f := fun v => doHallmarkCompute v bad) rfl (secondEngineChecks hsender bad hon hpieces hnew)
  · exact works_of_exec (f := fun v => doStaleOrder v all region.toNat) rfl (staleOrderAtSender hsender all region.isLt)
  · refine works_of_exec (f := fun v => doStaleOrder v all region.toNat) rfl ?_
    rw [doStaleOrder_other hother]
    exact ⟨rfl, rfl⟩
  · exact works_of_exec (f := fun u => doHmkHold u i.val v.toNat) rfl (holdBitsAreWritten s i.isLt v.isLt)
  · exact exec_unchanged (f := fun v => doStaleSend v p.val) rfl (doStaleSend_none hnone)
  · exact works_of_exec (f := fun v => doStaleSend v p.val) rfl (staleOrderEntersPort ho horders hfatal hcan hkey)
  · refine leads_of_exec (f := fun v => doGuardReportReceive v p.val a) rfl ?_
    rw [ha.doGuardReportReceive hform, State.takeGuardReport_other hother]
  · refine works_of_exec (f := fun v => doGuardReportReceive v p.val a) rfl ?_
    rw [ha.doGuardReportReceive hform]
    exact State.takeGuardReport_kept hgroup hpos

end Sys2Proof.Machine
end
